-- ==== Sys2Proof/Word.lean ====
section
/-! DEFINITION. The words of the model: bytes on a wire, level units, the numbered things of Table 0-4. -/

namespace Sys2Proof

/-- A byte of a frame or of the settings memory (R153). -/
abbrev Byte := BitVec 8

/-- A level in level units of 0.1 dB, a whole number (R1). -/
abbrev Level := Nat

/-- The 48-bit identity of a stage processor (R72). -/
abbrev Identity := BitVec 48

/-- A stage slot; slot number n is `n - 1` here (Table 0-4: 1 to 8). -/
abbrev SlotId := Fin 8

/-- A receptor point; receptor number n is `n - 1` here (Table 0-4: 1 to 16). -/
abbrev ReceptorId := Fin 16

/-- A zone; zone number n is `n - 1` here (Table 0-4: 1 to 4). -/
abbrev ZoneId := Fin 4

/-- A link port, 0 the console, 1 to 8 the stage links (Table 0-4). -/
abbrev Port := Fin 9

/-- A path table position (Table 0-4: 0 to 63). -/
abbrev PathPos := Fin 64

/-- An exceedance record position (Table 0-4: 0 to 31). -/
abbrev ExcPos := Fin 32

/-- Every slot, in ascending slot number. -/
abbrev allSlots : List SlotId := List.finRange 8

/-- Every receptor, in ascending receptor number. -/
abbrev allReceptors : List ReceptorId := List.finRange 16

/-- Every zone, in ascending zone number. -/
abbrev allZones : List ZoneId := List.finRange 4

/-- Every path table position, ascending. -/
abbrev allPathPos : List PathPos := List.finRange 64

/-- Every exceedance record position, ascending. -/
abbrev allExcPos : List ExcPos := List.finRange 32

end Sys2Proof
end

