-- ==== Sys2Proof/Syntax.lean ====
section
/-! DEFINITION. The commands of the block, one constructor of `Instr` for each row of spec/opcode_table.json. -/

namespace Sys2Proof

/-- The parameters of a request as its body spells them (R158 step 4, R160). -/
inductive Params (α : Type) where
  /-- The body holds every parameter the kind carries. -/
  | whole (a : α)
  /-- The body is too short to hold every parameter (R158 step 4). -/
  | short
  /-- A table request whose selector names no table (R160); the SITE row of its kind carries it (log 7). -/
  | noTable
deriving DecidableEq, Repr

/-- An optional value as a body carries it: a presence byte of 0 or 1, or one that is neither (R153, R160). -/
inductive WireOption (α : Type) where
  | absent
  | present (a : α)
  | invalid
deriving DecidableEq, Repr

/-- A line on which frames arrive: a request link or the monitor bus (R155). -/
inductive Line where
  | link (port : Port)
  | bus
deriving DecidableEq, Repr

/-- Why a receiver discards a frame (R155). -/
inductive DiscardCause where
  | length
  | address
  | crc
deriving DecidableEq, Repr

/-- The six sections of the settings image, in the order of Table 12-1. -/
inductive Section where
  | site
  | zones
  | receptors
  | stages
  | paths
  | witness
deriving DecidableEq, Repr

/-- ENROL identity, check (R79). -/
structure EnrolArgs where
  identity : Identity
  check : Nat
deriving DecidableEq, Repr

/-- REPORT level, applied serial (R87). -/
structure ReportArgs where
  level : Nat
  serial : Nat
deriving DecidableEq, Repr

/-- SET CLOCK minute, second (R17). -/
structure ClockArgs where
  minute : Nat
  second : Nat
deriving DecidableEq, Repr

/-- The fields a TABLE WRITE of SITE carries, in the order of R168; each enable is the byte as sent. -/
structure SiteArgs where
  blindMargin : Nat
  correctionRise : Nat
  correctionFall : Nat
  tolerance : Nat
  overLimit : Nat
  releaseCount : Nat
  staleTime : Nat
  ageTime : Nat
  handoverTime : Nat
  discardTime : Nat
  stationReply : Nat
  minute : Nat
  exceedance : Nat
  ceiling : Nat
  clamp : Nat
deriving DecidableEq, Repr

/-- A breakpoint as a TABLE WRITE of ZONE carries it (R30); the curfew flag is the byte as sent. -/
structure BreakpointArgs where
  minute : Nat
  limit : Nat
  curfew : Nat
deriving DecidableEq, Repr

/-- TABLE WRITE ZONE: the zone number, then the values of R30. -/
structure ZoneArgs where
  zone : Nat
  rampRate : Nat
  recoveryMargin : Nat
  breakpoints : List BreakpointArgs
deriving DecidableEq, Repr

/-- TABLE WRITE RECEPTOR: the receptor number, then the values of R50. -/
structure ReceptorArgs where
  receptor : Nat
  address : Nat
  zone : Nat
  floor : Nat
deriving DecidableEq, Repr

/-- TABLE WRITE STAGE: the slot number, then the values of R83; the kind is the byte as sent. -/
structure StageArgs where
  slot : Nat
  kind : Nat
  identity : WireOption Identity
  weight : Nat
  stageMax : Nat
deriving DecidableEq, Repr

/-- The key of a PATH entry (R103, R165). -/
structure PathKey where
  slot : Nat
  receptor : Nat
deriving DecidableEq, Repr

/-- TABLE WRITE PATH slot, receptor, loss (R104). -/
structure PathArgs where
  slot : Nat
  receptor : Nat
  loss : Nat
deriving DecidableEq, Repr

/-- TABLE READ RING: the receptor number and the part number (R54, R161). -/
structure RingArgs where
  receptor : Nat
  part : Nat
deriving DecidableEq, Repr

/-- PUSH CAP slot, cap (R101). -/
structure CapArgs where
  slot : Nat
  cap : Nat
deriving DecidableEq, Repr

/-- One constructor per row of the table. A request row carries the port its frame arrived on and its request tag (R153). -/
inductive Instr where
  | powerOnReset
  | pinReset
  | resetRelease
  | memoryNotAnswering
  | settingsLoadEnd
  | secondBoundary
  | minuteBoundary
  | pollSent
  | stationReply (address level flags : Nat)
  | badFrame
  | stationReplyTimeout
  | recalculationPassEnd
  | forecastPassEnd
  | staleTimeExpiry (slot : SlotId)
  | ageOut (slot : SlotId)
  | handoverTimerExpiry
  | discardTimerExpiry
  | tableClearCompletion
  | saveEnd
  | saveWriteTimeout (sec : Section) (write : Nat) (landed : Bool)
  | warmRestartTaken
  | frameDiscarded (line : Line) (cause : DiscardCause)
  | interByteGap (line : Line)
  | frameWhileHeld (port : Port)
  | replySent (port : Port)
  | unknownKind (port : Port) (tag kind : Nat)
  | witnessEntrySent
  | enrol (port : Port) (tag : Nat) (args : Params EnrolArgs)
  | report (port : Port) (tag : Nat) (args : Params ReportArgs)
  | goLive (port : Port) (tag : Nat)
  | goQuiet (port : Port) (tag : Nat)
  | forceQuiet (port : Port) (tag : Nat) (slot : Params Nat)
  | forecast (port : Port) (tag : Nat) (slots : Params (List Nat))
  | identify (port : Port) (tag : Nat)
  | siteStatus (port : Port) (tag : Nat) (part : Params Nat)
  | setClock (port : Port) (tag : Nat) (args : Params ClockArgs)
  | enterEnforce (port : Port) (tag : Nat)
  | returnToSetup (port : Port) (tag : Nat)
  | warmRestart (port : Port) (tag : Nat)
  | tableWriteSite (port : Port) (tag : Nat) (args : Params SiteArgs)
  | tableDeleteSite (port : Port) (tag : Nat) (args : Params Unit)
  | tableFindSite (port : Port) (tag : Nat) (args : Params Unit)
  | tableReadSite (port : Port) (tag : Nat) (args : Params Unit)
  | tableWriteZone (port : Port) (tag : Nat) (args : Params ZoneArgs)
  | tableDeleteZone (port : Port) (tag : Nat) (zone : Params Nat)
  | tableFindZone (port : Port) (tag : Nat) (zone : Params Nat)
  | tableReadZone (port : Port) (tag : Nat) (zone : Params Nat)
  | tableWriteReceptor (port : Port) (tag : Nat) (args : Params ReceptorArgs)
  | tableDeleteReceptor (port : Port) (tag : Nat) (receptor : Params Nat)
  | tableFindReceptor (port : Port) (tag : Nat) (receptor : Params Nat)
  | tableReadReceptor (port : Port) (tag : Nat) (receptor : Params Nat)
  | tableWriteStage (port : Port) (tag : Nat) (args : Params StageArgs)
  | tableDeleteStage (port : Port) (tag : Nat) (slot : Params Nat)
  | tableFindStage (port : Port) (tag : Nat) (identity : Params Identity)
  | tableReadStage (port : Port) (tag : Nat) (slot : Params Nat)
  | tableWritePath (port : Port) (tag : Nat) (args : Params PathArgs)
  | tableDeletePath (port : Port) (tag : Nat) (key : Params PathKey)
  | tableFindPath (port : Port) (tag : Nat) (key : Params PathKey)
  | tableReadPath (port : Port) (tag : Nat) (position : Params Nat)
  | tableWriteExceedance (port : Port) (tag : Nat) (position : Params Nat)
  | tableDeleteExceedance (port : Port) (tag : Nat) (position : Params Nat)
  | tableFindExceedance (port : Port) (tag : Nat) (receptor : Params Nat)
  | tableReadExceedance (port : Port) (tag : Nat) (position : Params Nat)
  | tableWriteRing (port : Port) (tag : Nat) (receptor : Params Nat)
  | tableDeleteRing (port : Port) (tag : Nat) (receptor : Params Nat)
  | tableFindRing (port : Port) (tag : Nat) (receptor : Params Nat)
  | tableReadRing (port : Port) (tag : Nat) (args : Params RingArgs)
  | tableClear (port : Port) (tag : Nat) (table : Params Nat)
  | pushCap (port : Port) (tag : Nat) (args : Params CapArgs)
  | popCap (port : Port) (tag : Nat) (slot : Params Nat)
  | forceClamp (port : Port) (tag : Nat) (slot : Params Nat)
  | releaseClamp (port : Port) (tag : Nat) (slot : Params Nat)
  | evict (port : Port) (tag : Nat) (slot : Params Nat)
  | readNotices (port : Port) (tag : Nat) (count : Params Nat)
  | setAttentionMask (port : Port) (tag : Nat) (enables : Params (Vector Nat 10))
  | saveSettings (port : Port) (tag : Nat)
  | frameBegun (line : Line)
deriving DecidableEq, Repr

end Sys2Proof
end

