-- ==== Sys2Proof/Config.lean ====
section
/-! DEFINITION. The free values: what the manual leaves open and the machine goes on after. No body is given, so nothing can be proved of a value. -/

namespace Sys2Proof

/-- DESIGN CHOICE (log 9): how many byte writes of a save had been made when the n-th reset that cut a save came.
R177 says such a save is abandoned "in the same way" as one whose write is not confirmed and fixes no moment. -/
opaque Config.saveProgress : Nat → Nat

/-- DESIGN CHOICE (log 12): the item "the least of R115 before the floor at 0" (R122) of the n-th CEILING copy sent for a slot that
the pass did not count. R115 forms a least for members of the counted set alone. -/
opaque Config.uncountedLeast : Nat → Int

/-- DESIGN CHOICE (log 13): the reply kind byte of a NOT_READY reply to the kind value k, k 128 or more. R157 makes the reply kind
"the kind value of the request plus 128", which then fits no byte. -/
opaque Config.wideReplyKind : Nat → Nat

end Sys2Proof
end

