-- ==== Sys2Proof/Machine/Types.lean ====
section
/-! DEFINITION. The records the blocks hold (Figure 0-1), their enumerations, the notices, the witness copies and the replies. -/

namespace Sys2Proof.Machine

/-! ### Enumerations -/

/-- The site mode (R18). -/
inductive Mode where
  | boot
  | setup
  | enforce
deriving DecidableEq, Repr

/-- The start kind of R162. -/
inductive StartKind where
  | powerOn
  | pin
  | warmRestart
deriving DecidableEq, Repr

/-- Progress of the settings loader (Figure 0-1; R174, R175). -/
inductive Loader where
  /-- Reset is asserted: the timebase and the receivers do not run yet (R14, R155, R174). -/
  | held
  /-- The load of R175 runs. -/
  | loading
  /-- The load has ended. -/
  | ended
deriving DecidableEq, Repr

/-- The curfew state of a zone (R23). -/
inductive ZoneState where
  | opened
  | fading
  | silenced
deriving DecidableEq, Repr

/-- The station state of a receptor (R41). -/
inductive StationState where
  | new
  | active
  | lost
  | calibrating
deriving DecidableEq, Repr

/-- The outcome class of a poll (R38, R39). -/
inductive PollClass where
  | reply
  | replyWind
  | replyCalibrating
  | fault
  | badFrame
  | timeout
deriving DecidableEq, Repr

/-- Why an exceedance record was closed (R61). -/
inductive ClosingCause where
  | returned
  | receptorEdited
  | restart
deriving DecidableEq, Repr

/-- The state of an exceedance record (R61). -/
inductive RecordState where
  | opened
  | closed
deriving DecidableEq, Repr

/-- The kind of a slot (R72). -/
inductive SlotKind where
  | openKind
  | fixed
deriving DecidableEq, Repr

/-- The state of a slot (R72). -/
inductive SlotState where
  | empty
  | quiet
  | waiting
  | entering
  | live
deriving DecidableEq, Repr

/-- The last admission outcome of a slot (R141). -/
inductive Admission where
  | none
  | granted
  | refusedCurfew
  | withdrawn
  | forcedQuiet
deriving DecidableEq, Repr

/-- The event named by a CLAMP witness copy (R96, R97). -/
inductive ClampEvent where
  | report
  | staleTime
  | grant
  | leaveLive
  | forceClamp
  | releaseClamp
  | bind
  | unbind
  | empty
deriving DecidableEq, Repr

/-- The limit source of a ceiling (R115, R116). -/
inductive LimitSource where
  | notCounted
  | receptor (r : ReceptorId)
  | cap
  | maximum
deriving DecidableEq, Repr

/-- The head phase of the admission arbiter (R125). -/
inductive Phase where
  | counting
  | confirming
deriving DecidableEq, Repr

/-- How the head was granted (R142). -/
inductive Manner where
  | atOnce
  | byConfirmation
  | byTimeout
deriving DecidableEq, Repr

/-- A frame receiver (R155). -/
inductive Receiver where
  | hunting
  | receiving
deriving DecidableEq, Repr

/-- The tables a selector names (R165, Table 11-1). -/
inductive Table where
  | site
  | zone
  | receptor
  | stage
  | path
  | exceedance
  | ring
deriving DecidableEq, Repr

/-- What the load made of a section (R175). -/
inductive SectionOutcome where
  | loaded
  | skipped
  | bad
deriving DecidableEq, Repr

/-- The status of a reply (Table 10-1). -/
inductive Status where
  | done
  | pending
  | granted
  | defer
  | notReady
  | busy
  | refused
  | unknownKind
deriving DecidableEq, Repr

/-- The reason of a refused reply (Table 10-2). -/
inductive Reason where
  | noSuch
  | full
  | duplicate
  | notEnrolled
  | portBusy
  | curfew
  | unmapped
  | isProtected
  | wrongMode
  | notEmpty
  | notQuiet
  | stackFull
  | stackEmpty
  | clockUnset
deriving DecidableEq, Repr

/-! ### Records -/

/-- The timebase and clock (R14, R16). -/
structure Clock where
  ms : Nat
  minute : Nat
  second : Nat
  isSet : Bool
deriving DecidableEq, Repr

/-- The enables of the five witness categories (R173). -/
structure WitnessEnables where
  stationReply : Bool
  minute : Bool
  exceedance : Bool
  ceiling : Bool
  clamp : Bool
deriving DecidableEq, Repr

/-- The site parameters (R168); times in seconds. -/
structure Site where
  blindMargin : Nat
  correctionRise : Nat
  correctionFall : Nat
  tolerance : Nat
  overLimit : Nat
  releaseCount : Nat
  staleTime : Nat
  ageTime : Nat
  handoverTime : Nat
  discardTime : Nat
  enables : WitnessEnables
deriving DecidableEq, Repr

/-- A breakpoint of a zone's schedule (R23). -/
structure Breakpoint where
  minute : Nat
  limit : Level
  curfew : Bool
deriving DecidableEq, Repr

/-- A zone record (Table 2-2). -/
structure Zone where
  breakpoints : List Breakpoint
  rampRate : Nat
  recoveryMargin : Nat
  state : ZoneState
  licence : Level
  effective : Level
  fade : Nat
  grace : Nat
  /-- The number, 1 to 8, of the breakpoint last found in force. -/
  inForce : Option Nat
deriving DecidableEq, Repr

/-- A minute record of a ring (Table 3-1). -/
structure MinuteRecord where
  minute : Nat
  level : Option Level
  count : Nat
deriving DecidableEq, Repr

/-- The minute accumulator of a receptor (R44). -/
structure Accumulator where
  level : Level
  count : Nat
deriving DecidableEq, Repr

/-- The residual accumulator of a receptor (R57). -/
structure Residual where
  sum : Int
  count : Nat
deriving DecidableEq, Repr

/-- A receptor record (Table 3-1); its number is its place in the store. -/
structure Receptor where
  address : Nat
  zone : ZoneId
  floor : Level
  station : StationState
  misses : Nat
  accumulator : Option Accumulator
  /-- Oldest first. -/
  ring : List MinuteRecord
  level15 : Option Level
  lastLevel : Option Level
  residual : Residual
  correction : Nat
  exceedance : Option ExcPos
deriving DecidableEq, Repr

/-- A poll outstanding on the monitor bus (R37, R38, R163). -/
structure Poll where
  receptor : ReceptorId
  /-- The station address the record held when the poll was sent. -/
  address : Nat
  /-- The second of the poll cycle, carried by the POLL frame. -/
  second : Nat
  /-- Absent while the POLL is being sent; then the milliseconds left of the 40 ms wait. -/
  wait : Option Nat
deriving DecidableEq, Repr

/-- The monitor bus poller: the cycle in progress, if any, and the bus receiver. -/
structure Poller where
  poll : Option Poll
  receiver : Receiver
deriving DecidableEq, Repr

/-- An exceedance record (Table 4-2); a set of slots is held in ascending slot number. -/
structure ExcRecord where
  state : RecordState
  receptor : ReceptorId
  zone : ZoneId
  openedAt : Nat
  closedAt : Option Nat
  cause : Option ClosingCause
  limit : Level
  peak : Level
  minutesAbove : Nat
  liveAtOpening : List SlotId
  stagesOver : List SlotId
deriving DecidableEq, Repr

/-- The exceedance table and its creation list, oldest first (R61). -/
structure ExcTable where
  records : Vector (Option ExcRecord) 32
  created : List ExcPos
deriving DecidableEq, Repr

/-- The clamp-cause set of a slot (Table 6-2). -/
structure Causes where
  hasOver : Bool
  hasStale : Bool
  hasHandover : Bool
  hasConsole : Bool
deriving DecidableEq, Repr

/-- A slot record (Table 5-1); its number is its place in the stage table. -/
structure Slot where
  kind : SlotKind
  identity : Option Identity
  port : Option Port
  state : SlotState
  weight : Nat
  stageMax : Level
  lastLevel : Option Level
  /-- Milliseconds since binding or the last REPORT. -/
  reportAge : Option Nat
  stale : Bool
  overCount : Nat
  goodCount : Nat
  causes : Causes
  /-- The override stack, newest (top) first. -/
  caps : List Level
  published : Level
  previous : Level
  serial : Nat
  prospective : Option Level
  debt : Bool
  outcome : Admission
deriving DecidableEq, Repr

/-- A path entry (R103). -/
structure PathEntry where
  slot : SlotId
  receptor : ReceptorId
  loss : Nat
deriving DecidableEq, Repr

/-- What a pass captures of a zone (R110). -/
structure ZoneCapture where
  state : ZoneState
  effective : Level
  fade : Nat
  recoveryMargin : Nat
deriving DecidableEq, Repr

/-- What a pass captures of a receptor that has a record (R110). -/
structure ReceptorCapture where
  receptor : ReceptorId
  zone : ZoneId
  correction : Nat
  exceeded : Bool
  blind : Bool
deriving DecidableEq, Repr

/-- What a pass captures of a slot (R110). -/
structure SlotCapture where
  state : SlotState
  weight : Nat
  stageMax : Level
  topCap : Option Level
deriving DecidableEq, Repr

/-- The inputs of a pass (R110). -/
structure Capture where
  zones : Vector ZoneCapture 4
  /-- Ascending receptor number. -/
  receptors : List ReceptorCapture
  blindMargin : Nat
  slots : Vector SlotCapture 8
  paths : List PathEntry
deriving DecidableEq, Repr

/-- The engine state (R107), with what a pass in flight captured. -/
inductive Activity where
  | idle
  | recalculating (capture : Capture)
  /-- A forecast pass: its inputs, its query, and the minute and second at which it began (R148). -/
  | forecasting (capture : Capture) (query : List SlotId) (minute second : Nat)
deriving DecidableEq, Repr

/-- The allowance engine (R107). -/
structure Engine where
  activity : Activity
  pending : Bool
deriving DecidableEq, Repr

/-- The admission arbiter (R125); the debt flags stand in the slot records. -/
structure Arbiter where
  /-- Head first. -/
  queue : List SlotId
  phase : Option Phase
  /-- The handover timer: stopped, or the milliseconds left. -/
  timer : Option Nat
  /-- MODEL's own (log 33): a recalculation pass has begun since the head last became ENTERING (R131). -/
  passSinceHead : Bool
deriving DecidableEq, Repr

/-- The forecast latch (R144); a query is held in ascending slot number. -/
inductive Latch where
  | empty
  | queued (owner : Port) (query : List SlotId)
  | computing (owner : Port) (query : List SlotId)
  | ready (owner : Port) (query : List SlotId) (result : List (SlotId × Level)) (minute second left : Nat)
deriving DecidableEq, Repr

/-- One section of a settings image: its offset and its bytes between marker and CRC (Table 12-1). -/
structure SectionImage where
  sec : Section
  contents : List Byte
deriving DecidableEq, Repr

/-- The table engine (R166). -/
inductive TableEngine where
  | idle
  | clearing (table : Table)
  /-- A save, with the settings captured when it was taken (R177). -/
  | saving (image : List SectionImage)
deriving DecidableEq, Repr

/-! ### Notices -/

/-- What an ENGINE notice says (R167, R177). -/
inductive EngineResult where
  | cleared (table : Table) (count : Nat)
  | saved
  | saveFailed (sec : Section)
deriving DecidableEq, Repr

/-- What a SITE notice says (R165, R168, R175). -/
inductive SiteNews where
  | load (adjusted : Bool) (outcomes : List SectionOutcome) (clamped skipped : Nat)
  | fields (site : Site)
  | memoryAbsent
deriving DecidableEq, Repr

/-- A notice: its kind, its subject and its payload (11 section 11.2). -/
inductive Notice where
  | stageState (slot : SlotId) (state : SlotState) (kind : SlotKind) (identity : Option Identity) (port : Option Port)
      (weight : Nat) (stageMax : Level) (outcome : Admission)
  | ceiling (slot : SlotId) (published previous : Level) (serial : Nat) (state : SlotState) (source : LimitSource)
  | clamp (slot : SlotId) (causes : Causes) (line : Bool) (port : Option Port) (overCount goodCount : Nat) (stale : Bool)
      (lastLevel : Option Level)
  /-- `head` holds, for the head of the queue alone, its phase, the number of debts and the timer (R142). -/
  | admission (slot : SlotId) (state : SlotState) (outcome : Admission) (position : Option Nat) (queued : Nat)
      (head : Option (Phase × Nat × Option Nat)) (manner : Option Manner)
  | station (receptor : ReceptorId) (state : StationState) (misses : Nat) (lastLevel : Option Level) (address : Nat)
  | exceedance (receptor : ReceptorId) (position : ExcPos) (state : RecordState) (openedAt : Nat) (closedAt : Option Nat)
      (limit peak minutesAbove : Nat) (cause : Option ClosingCause)
  | zone (zone : ZoneId) (state : ZoneState) (licence effective : Level) (fade grace : Nat) (inForce : Option Nat)
  | forecastDiscarded (port : Port) (query : List SlotId) (captureMinute captureSecond minute second : Nat)
  | engine (result : EngineResult)
  | site (news : SiteNews)
deriving DecidableEq, Repr

/-- The notice queue, its lost flag and the attention mask (R169, R171). -/
structure NoticeQueue where
  /-- Oldest first. -/
  notices : List Notice
  lost : Bool
  /-- One enable per notice kind, in the order of the kind values 1 to 10 (R165). -/
  mask : Vector Bool 10
deriving DecidableEq, Repr

/-! ### Witness copies -/

/-- The items of a witness copy (R49, R71, R96, R122). -/
inductive Copy where
  | stationReply (receptor : ReceptorId) (address : Nat) (cls : PollClass) (level : Option Level) (state : StationState)
      (misses minute second : Nat)
  | minute (receptor : ReceptorId) (zone : ZoneId) (rec : MinuteRecord) (level15 : Option Level) (present : Nat)
  /-- `removed` names the receptor, opened-at and closed-at minutes of a record removed by an opening (R62). -/
  | exceedance (opened : Bool) (minute second : Nat) (position : ExcPos) (rec : ExcRecord)
      (removed : Option (ReceptorId × Nat × Option Nat))
  /-- `detail` holds, for a limit source RECEPTOR r, the budget, the counted weight and the loss (R122). -/
  | ceiling (slot : SlotId) (port : Option Port) (before after : Level) (serial : Nat) (state : SlotState) (source : LimitSource)
      (least : Int) (minute second : Nat) (detail : Option (ReceptorId × Int × Nat × Nat))
  /-- `report` holds, for a change made by a REPORT, the level, the applied serial and the limit for judgement (R96). -/
  | clamp (slot : SlotId) (port : Option Port) (before after : Causes) (line : Bool) (event : ClampEvent)
      (lastLevel : Option Level) (minute second : Nat) (report : Option (Level × Nat × Level))
deriving DecidableEq, Repr

/-- An entry of the witness FIFO (R172). -/
inductive WitnessEntry where
  | copy (c : Copy)
  | gap (drops minute second : Nat)
deriving DecidableEq, Repr

/-- The witness transmitter (R172). -/
structure WitnessTx where
  /-- Oldest first. -/
  fifo : List WitnessEntry
  gapPending : Bool
  drops : Nat
  /-- Minute and second of the first drop since the last GAP. -/
  firstDrop : Option (Nat × Nat)
deriving DecidableEq, Repr

/-! ### Replies -/

/-- The items a reply carries after the ADJUSTED flag (R157 item 6). -/
inductive Items where
  | none
  /-- ENROL taken (R79). -/
  | enrolled (slot : SlotId) (weight : Nat) (stageMax : Level) (check : Nat)
  /-- ENROL refused by the stage table (R79). -/
  | enrolCheck (check : Nat)
  /-- REPORT (R93). -/
  | report (slot : SlotId) (ceiling : Level) (serial : Nat) (state : SlotState) (causes : Causes) (debt : Bool) (outcome : Admission)
  /-- GO LIVE answered PENDING (R128). -/
  | position (n : Nat)
  /-- GO LIVE answered GRANTED (R129). -/
  | granted (ceiling : Level) (serial : Nat)
  /-- GO QUIET and FORCE QUIET (R135, R138). -/
  | slotState (state : SlotState)
  /-- FORECAST answered DEFER: the latch state as R165 numbers it and the match indication (R146). -/
  | defer (latch : Nat) (matched : Bool)
  /-- FORECAST answered DONE (R147). -/
  | forecast (result : List (SlotId × Level)) (minute second : Nat)
  /-- IDENTIFY (R162). -/
  | identify (part format : Nat) (mode : Mode) (isSet : Bool) (start : StartKind)
  /-- SITE STATUS part 1 (R22). -/
  | siteClock (mode : Mode) (isSet : Bool) (minute second : Nat) (zones : Vector Zone 4)
  /-- SITE STATUS part 2 (R143). -/
  | siteAdmission (queue : List SlotId) (phase : Option Phase) (debts : List SlotId) (timer : Option Nat)
  /-- SITE STATUS part 3 (R152). -/
  | siteLatch (latch : Latch)
  /-- PUSH CAP and POP CAP (R101, R102). -/
  | capStack (count : Nat) (top : Option Level)
  /-- The top cap of a PUSH CAP reply is always present. -/
  | capPushed (count : Nat) (top : Level)
  /-- FORCE CLAMP and RELEASE CLAMP (R98, R99). -/
  | causes (c : Causes)
  /-- TABLE READ SITE (R168). -/
  | site (site : Site)
  /-- TABLE FIND and TABLE READ of ZONE (R31). -/
  | zone (z : Zone)
  /-- TABLE READ RECEPTOR (R54). -/
  | receptor (r : Receptor)
  /-- TABLE READ STAGE (R85). -/
  | stage (slot : SlotId) (rec : Slot)
  /-- TABLE FIND STAGE (R85). -/
  | slotNumber (slot : SlotId)
  /-- TABLE WRITE PATH (R104). -/
  | pathPosition (p : PathPos)
  /-- TABLE FIND PATH (R106). -/
  | pathFound (p : PathPos) (loss : Nat)
  /-- TABLE READ PATH (R106). -/
  | pathEntry (e : PathEntry)
  /-- TABLE FIND EXCEEDANCE (R68). -/
  | excPosition (p : ExcPos)
  /-- TABLE READ EXCEEDANCE, with the rank on the creation list (R68). -/
  | excRecord (p : ExcPos) (rec : ExcRecord) (rank : Nat)
  /-- TABLE READ RING: the part, the number of records in the ring, the records of the part (R54, R161). -/
  | ring (part total : Nat) (records : List MinuteRecord)
  /-- READ NOTICES (R170). -/
  | notices (returned : List Notice) (remaining : Nat) (lost : Bool)
  /-- SET ATTENTION MASK (R171). -/
  | mask (m : Vector Bool 10)
  /-- UNKNOWN_KIND: the kind value received (R158). -/
  | kindReceived (kind : Nat)
deriving DecidableEq, Repr

/-- How an owner answers a request: the status, the reason of a refusal, the ADJUSTED flag and the items (R157, R159). -/
structure Answer where
  status : Status
  reason : Option Reason
  adjusted : Bool
  items : Items
deriving DecidableEq, Repr

/-- A reply (R157): the kind of the reply, the request tag, and the answer. -/
structure Reply where
  kind : Nat
  tag : Nat
  answer : Answer
deriving DecidableEq, Repr

/-- A request link (R155, R156): its receiver, and its receive buffer, FREE (`none`) or HELD with the reply to the request held. -/
structure Link where
  receiver : Receiver
  buffer : Option Reply
deriving DecidableEq, Repr

end Sys2Proof.Machine
end

