-- ==== Sys2Proof/Machine/Defaults.lean ====
section
/-! DEFINITION. The values each record has after a power-on reset, or where its settings section is not loaded. -/

namespace Sys2Proof.Machine

/-- The clock after a power-on or pin reset (R16). -/
def clockAtReset : Clock := { ms := 0, minute := 0, second := 0, isSet := false }

/-- Every witness category enabled (R173). -/
def enablesDefault : WitnessEnables :=
  { stationReply := true, minute := true, exceedance := true, ceiling := true, clamp := true }

/-- The site parameters when not loaded (R59, R60, R81, R95, R133, R150, R173). -/
def siteDefault : Site :=
  { blindMargin := 30, correctionRise := 10, correctionFall := 5, tolerance := 10, overLimit := 8, releaseCount := 20,
    staleTime := 3, ageTime := 60, handoverTime := 8, discardTime := 8, enables := enablesDefault }

/-- A zone record in its unloaded form (R31, R34). -/
def zoneDefault : Zone :=
  { breakpoints := [], rampRate := 10, recoveryMargin := 30, state := .opened, licence := 0, effective := 0, fade := 0,
    grace := 0, inForce := none }

/-- A receptor record as created, from the three values the console or the image gives (R36, R51). -/
def receptorCreated (address : Nat) (zone : ZoneId) (floor : Level) : Receptor :=
  { address := address, zone := zone, floor := floor, station := .new, misses := 0, accumulator := none, ring := [],
    level15 := none, lastLevel := none, residual := { sum := 0, count := 0 }, correction := 0, exceedance := none }

/-- The empty clamp-cause set. -/
def causesNone : Causes := { hasOver := false, hasStale := false, hasHandover := false, hasConsole := false }

/-- A slot record after reset (R86). -/
def slotDefault : Slot :=
  { kind := .openKind, identity := none, port := none, state := .empty, weight := 1, stageMax := 1050, lastLevel := none,
    reportAge := none, stale := false, overCount := 0, goodCount := 0, causes := causesNone, caps := [], published := 0,
    previous := 0, serial := 0, prospective := none, debt := false, outcome := .none }

/-- The poller after reset (R18, R155). -/
def pollerAtReset : Poller := { poll := none, receiver := .hunting }

/-- The exceedance table after a power-on or pin reset (R69). -/
def excTableAtReset : ExcTable := { records := Vector.replicate 32 none, created := [] }

/-- The allowance engine after reset (R107). -/
def engineAtReset : Engine := { activity := .idle, pending := false }

/-- The admission arbiter after reset (R125); `passSinceHead` is the model's own, DESIGN CHOICE (log 33). -/
def arbiterAtReset : Arbiter := { queue := [], phase := none, timer := none, passSinceHead := false }

/-- The notice queue after reset (R169, R171). -/
def noticesAtReset : NoticeQueue := { notices := [], lost := false, mask := Vector.replicate 10 false }

/-- The witness transmitter after reset (R172); the time of the first drop is absent, DESIGN CHOICE (log 36). -/
def witnessAtReset : WitnessTx := { fifo := [], gapPending := false, drops := 0, firstDrop := none }

/-- A request link after reset (R155, R156). -/
def linkAtReset : Link := { receiver := .hunting, buffer := none }

end Sys2Proof.Machine
end

