-- ==== Sys2Proof/Machine/State.lean ====
section
/-! DEFINITION. The state of the controller, its fault and refusal reasons, and the state after a power-on reset. -/

namespace Sys2Proof.Machine

/-- Why a step faults. No command does: the manual answers every request, drops every damaged frame and gives an effect to every event,
so the type has no constructor. Safe: nothing the hardware does is cut off by a fault. -/
inductive Fault : Type
deriving DecidableEq, Repr

/-- Why a step is refused. -/
inductive Refusal where
  /-- Raised by `exec` alone, for a command whose meaning is not written. Safe: the model stops where the hardware goes on. -/
  | notModelled (mnemonic : String)
deriving DecidableEq, Repr

/-- The settings memory (12 section 12.2): (address, byte) pairs, addresses strictly rising, no entry equal to what an unlisted address
reads as. -/
abbrev Memory := List Host.Cell

/-- Everything the manual gives the controller (INVENTORY.md, State), the settings memory, the index of the next free value, and the
queue of waiting commands. -/
structure State where
  clock : Clock
  mode : Mode
  startKind : StartKind
  loader : Loader
  site : Site
  zones : Vector Zone 4
  receptors : Vector (Option Receptor) 16
  poller : Poller
  exceedances : ExcTable
  slots : Vector Slot 8
  paths : Vector (Option PathEntry) 64
  engine : Engine
  arbiter : Arbiter
  latch : Latch
  links : Vector Link 9
  table : TableEngine
  notices : NoticeQueue
  witness : WitnessTx
  settings : Memory
  /-- The index of the next free value (log 11): the MODEL's own. -/
  freeIndex : Nat
  /-- The commands that wait, first in first out. -/
  pending : List Instr
deriving DecidableEq, Repr

/-- The controller right after a power-on reset, reset still asserted (R174 and the reset rule of each block); the settings memory lists
nothing (log 8) and no command waits. -/
def State.reset : State :=
  { clock := clockAtReset
    mode := .boot
    startKind := .powerOn
    loader := .held
    site := siteDefault
    zones := Vector.replicate 4 zoneDefault
    receptors := Vector.replicate 16 none
    poller := pollerAtReset
    exceedances := excTableAtReset
    slots := Vector.replicate 8 slotDefault
    paths := Vector.replicate 64 none
    engine := engineAtReset
    arbiter := arbiterAtReset
    latch := .empty
    links := Vector.replicate 9 linkAtReset
    table := .idle
    notices := noticesAtReset
    witness := witnessAtReset
    settings := []
    freeIndex := 0
    pending := [] }

end Sys2Proof.Machine
end

