-- ==== Sys2Proof/Machine/Flags.lean ====
section
/-! DEFINITION. The conditions the blocks read off the records: occupied, settled QUIET, blind, audible, the clamp lines, the attention line. -/

namespace Sys2Proof.Machine

/-- A set of clamp causes is not empty (R97). -/
def Causes.any (c : Causes) : Bool := c.hasOver || c.hasStale || c.hasHandover || c.hasConsole

/-- A slot is occupied when it is anything but EMPTY (R72). -/
def SlotState.occupied : SlotState → Bool
  | .empty => false
  | _ => true

/-- A counted stage is LIVE or ENTERING (07, R116). -/
def SlotState.counted : SlotState → Bool
  | .live => true
  | .entering => true
  | _ => false

/-- A WAITING or ENTERING slot is in the admission queue (R126). -/
def SlotState.queued : SlotState → Bool
  | .waiting => true
  | .entering => true
  | _ => false

/-- Settled QUIET: QUIET with a published ceiling of 0 (R73). -/
def Slot.settledQuiet (x : Slot) : Bool := x.state == .quiet && x.published == 0

/-- The slot's clamp line is asserted: it has a bound port and a cause (R97). -/
def Slot.lineAsserted (x : Slot) : Bool := x.port.isSome && x.causes.any

/-- A station whose receptor is blind (R42). -/
def StationState.blind : StationState → Bool
  | .active => false
  | _ => true

/-- The slot record of a slot. -/
def State.slot (s : State) (i : SlotId) : Slot := s.slots.get i

/-- The zone record of a zone. -/
def State.zone (s : State) (z : ZoneId) : Zone := s.zones.get z

/-- The receptor record of a receptor, if it has one. -/
def State.receptor (s : State) (r : ReceptorId) : Option Receptor := s.receptors.get r

/-- The path entry at a position, if one is held there. -/
def State.path (s : State) (p : PathPos) : Option PathEntry := s.paths.get p

/-- The exceedance record at a position, if one is held there. -/
def State.excRecord (s : State) (p : ExcPos) : Option ExcRecord := s.exceedances.records.get p

/-- The request link of a port. -/
def State.link (s : State) (p : Port) : Link := s.links.get p

/-- The loss of the path entry of a slot and receptor, if there is one (R103). -/
def State.pathLoss (s : State) (i : SlotId) (r : ReceptorId) : Option Nat :=
  (allPathPos.findSome? fun p => (s.path p).bind fun e => if e.slot = i ∧ e.receptor = r then some e.loss else none)

/-- A stage is audible at a receptor while an entry with that key is present (R103). -/
def State.audible (s : State) (i : SlotId) (r : ReceptorId) : Bool := (s.pathLoss i r).isSome

/-- The path table names the slot. -/
def State.mapped (s : State) (i : SlotId) : Bool :=
  allPathPos.any fun p => match s.path p with
    | some e => e.slot == i
    | none => false

/-- The path table names the receptor. -/
def State.receptorNamed (s : State) (r : ReceptorId) : Bool :=
  allPathPos.any fun p => match s.path p with
    | some e => e.receptor == r
    | none => false

/-- The slot is audible at a receptor of the zone. -/
def State.audibleInZone (s : State) (i : SlotId) (z : ZoneId) : Bool :=
  allReceptors.any fun r => match s.receptor r with
    | some x => x.zone == z && s.audible i r
    | none => false

/-- Any receptor record belongs to the zone (R30, R31). -/
def State.zoneUsed (s : State) (z : ZoneId) : Bool :=
  allReceptors.any fun r => match s.receptor r with
    | some x => x.zone == z
    | none => false

/-- The position of the path entry with a key, if there is one (R103). -/
def State.pathPosition (s : State) (i : SlotId) (r : ReceptorId) : Option PathPos :=
  allPathPos.find? fun p => match s.path p with
    | some e => e.slot == i && e.receptor == r
    | none => false

/-- The lowest free position of the path table (R103). -/
def State.freePathPosition (s : State) : Option PathPos := allPathPos.find? fun p => (s.path p).isNone

/-- The slot bound to a port (R73); port 0 has none. -/
def State.boundSlot (s : State) (p : Port) : Option SlotId :=
  if p = 0 then none else allSlots.find? fun i => (s.slot i).port == some p

/-- The slots whose debt flag is SET, ascending (R125). -/
def State.debtSet (s : State) : List SlotId := allSlots.filter fun i => (s.slot i).debt

/-- The position of a slot in the admission queue, counted from 1 at the head (R128). -/
def State.queuePosition (s : State) (i : SlotId) : Option Nat := (s.arbiter.queue.idxOf? i).map (· + 1)

/-- Clamp line n: asserted exactly when its port has a bound slot with a cause (R97). -/
def State.clampLineOfPort (s : State) (p : Port) : Bool :=
  match s.boundSlot p with
  | some i => (s.slot i).causes.any
  | none => false

/-- The transmit enable of a request link: driven exactly while the link's reply is leaving (R157). DESIGN CHOICE (log 41): the reply leaves from
the moment its request is taken until REPLY_SENT, which is as long as the buffer holds it. -/
def State.transmitEnable (s : State) (p : Port) : Bool := (s.link p).buffer.isSome

/-- The controller drives the monitor bus exactly while it sends a poll (R163). -/
def State.busDriven (s : State) : Bool :=
  match s.poller.poll with
  | some p => p.wait.isNone
  | none => false

/-- The kind value of a notice (R165), counted from 0 as the place of its enable in the attention mask. -/
def Notice.kindIndex : Notice → Fin 10
  | .stageState .. => 0
  | .ceiling .. => 1
  | .clamp .. => 2
  | .admission .. => 3
  | .station .. => 4
  | .exceedance .. => 5
  | .zone .. => 6
  | .forecastDiscarded .. => 7
  | .engine .. => 8
  | .site .. => 9

/-- The subject of a notice as a body carries it (R165): a slot, receptor or zone number, a port, or 0 for none. -/
def Notice.subject : Notice → Nat
  | .stageState i .. => i.val + 1
  | .ceiling i .. => i.val + 1
  | .clamp i .. => i.val + 1
  | .admission i .. => i.val + 1
  | .station r .. => r.val + 1
  | .exceedance r .. => r.val + 1
  | .zone z .. => z.val + 1
  | .forecastDiscarded p .. => p.val
  | .engine .. => 0
  | .site .. => 0

/-- Two notices share kind and subject (R169). -/
def Notice.sameSubject (a b : Notice) : Bool := a.kindIndex == b.kindIndex && a.subject == b.subject

/-- The attention line: asserted exactly while the queue holds a notice whose kind is enabled (R171). -/
def State.attentionLine (s : State) : Bool := s.notices.notices.any fun n => s.notices.mask.get n.kindIndex

/-- The number, 1 to 8, of the breakpoint in force at a minute in a list of ascending minutes (R24). -/
def inForceAt (bps : List Breakpoint) (minute : Nat) : Option Nat :=
  let reached := (bps.filter fun b => b.minute ≤ minute).length
  if bps.isEmpty then none else if reached = 0 then some bps.length else some reached

end Sys2Proof.Machine
end

