-- ==== Sys2Proof/Machine/Levels.lean ====
section
/-! DEFINITION. Level arithmetic: the two tables, the power sum, folds, averages, shares, bounds and limited steps (chapter 1). -/

namespace Sys2Proof.Machine

/-- Table 0-2: the power-sum increment for a step k, 0 for k of 20 or more. -/
def powerSumIncrement (k : Nat) : Nat :=
  [30, 25, 21, 18, 15, 12, 10, 8, 6, 5, 4, 3, 3, 2, 2, 1, 1, 1, 1, 1].getD k 0

/-- Table 0-3: the share offset of n, for n from 1 to 32 (R7); no computation forms another. -/
def shareOffset (n : Nat) : Nat :=
  [0, 0, 30, 48, 60, 70, 78, 85, 90, 95, 100, 104, 108, 111, 115, 118, 120,
   123, 126, 128, 130, 132, 134, 136, 138, 140, 141, 143, 145, 146, 148, 149, 151].getD n 0

/-- Saturation at 1400 (R11), for a power sum and for a level from outside (R1). -/
def saturate (v : Nat) : Level := min v 1400

/-- The power sum of two levels (R3). -/
def powerSum (a b : Level) : Level :=
  let higher := max a b
  let d := higher - min a b
  saturate (higher + powerSumIncrement (d / 10))

/-- The fold of an ordered list of levels; absent for an empty list (R4). -/
def foldLevels : List Level → Option Level
  | [] => none
  | x :: xs => some (xs.foldl powerSum x)

/-- A fold less the share offset of its count, floored at 0: the energy average of R8. -/
def averageOfFold (folded : Level) (n : Nat) : Level := folded - shareOffset n

/-- The share term of a part of weight w in a whole of weight W (R9). -/
def shareTerm (w whole : Nat) : Int := (shareOffset w : Int) - (shareOffset whole : Int)

/-- The share of a part of weight w in a whole of weight W, from a signed level L (R9). -/
def share (level : Int) (w whole : Nat) : Int := level + shareTerm w whole

/-- The arithmetic mean of R10, rounded toward zero. -/
def meanTowardZero (sum : Int) (count : Nat) : Int := sum.tdiv count

/-- A clamp to a stated range (R11). -/
def clampNat (low high v : Nat) : Nat := max low (min high v)

/-- A floor at 0 (R11). -/
def floorAtZero (v : Int) : Level := v.toNat

/-- The clamp of a residual mean to 0 to 120: the target of a correction (R58). -/
def correctionTarget (mean : Int) : Nat := min 120 mean.toNat

/-- A limited step toward a target (R12): up by the rise step at most, down by the fall step at most. -/
def limitedStep (value target rise fall : Nat) : Nat :=
  if value < target then (if target - value ≤ rise then target else value + rise)
  else if target < value then (if value - target ≤ fall then target else value - fall)
  else value

end Sys2Proof.Machine
end

