-- ==== Sys2Proof/Machine/Ops.lean ====
section
/-! DEFINITION. The operations every family shares: writing records, posting notices, sending witness copies, letting time pass, triggers, and
the settings memory. -/

namespace Sys2Proof.Machine

/-! ### Writing records -/

/-- Writes a slot record. -/
def State.setSlot (s : State) (i : SlotId) (x : Slot) : State := { s with slots := s.slots.set i.val x i.isLt }

/-- Changes a slot record. -/
def State.updSlot (s : State) (i : SlotId) (f : Slot → Slot) : State := s.setSlot i (f (s.slot i))

/-- Changes every slot record. -/
def State.updSlots (s : State) (f : Slot → Slot) : State := { s with slots := Vector.ofFn fun i => f (s.slot i) }

/-- Writes a zone record. -/
def State.setZone (s : State) (z : ZoneId) (x : Zone) : State := { s with zones := s.zones.set z.val x z.isLt }

/-- Changes a zone record. -/
def State.updZone (s : State) (z : ZoneId) (f : Zone → Zone) : State := s.setZone z (f (s.zone z))

/-- Writes or removes a receptor record. -/
def State.setReceptor (s : State) (r : ReceptorId) (x : Option Receptor) : State :=
  { s with receptors := s.receptors.set r.val x r.isLt }

/-- Changes a receptor record, if there is one. -/
def State.updReceptor (s : State) (r : ReceptorId) (f : Receptor → Receptor) : State := s.setReceptor r ((s.receptor r).map f)

/-- Writes or frees a path table position. -/
def State.setPath (s : State) (p : PathPos) (e : Option PathEntry) : State := { s with paths := s.paths.set p.val e p.isLt }

/-- Writes or frees an exceedance position. -/
def State.setExcRecord (s : State) (p : ExcPos) (x : Option ExcRecord) : State :=
  { s with exceedances := { s.exceedances with records := s.exceedances.records.set p.val x p.isLt } }

/-- Changes the exceedance record at a position, if there is one. -/
def State.updExcRecord (s : State) (p : ExcPos) (f : ExcRecord → ExcRecord) : State := s.setExcRecord p ((s.excRecord p).map f)

/-- Writes a request link. -/
def State.setLink (s : State) (p : Port) (x : Link) : State := { s with links := s.links.set p.val x p.isLt }

/-! ### Notices (R169) -/

/-- Posts a notice: it coalesces, joins, or is dropped with the lost flag SET (R169). -/
def NoticeQueue.post (q : NoticeQueue) (n : Notice) : NoticeQueue :=
  if q.notices.any (·.sameSubject n) then { q with notices := q.notices.map fun m => if m.sameSubject n then n else m }
  else if q.notices.length < 32 then { q with notices := q.notices ++ [n] }
  else { q with lost := true }

/-- Posts a notice to the console. -/
def State.post (s : State) (n : Notice) : State := { s with notices := s.notices.post n }

/-- The STAGE_STATE notice of a slot as it stands (R78). -/
def State.stageStateNotice (s : State) (i : SlotId) : Notice :=
  let x := s.slot i
  .stageState i x.state x.kind x.identity x.port x.weight x.stageMax x.outcome

/-- The CLAMP notice of a slot as it stands (R96). -/
def State.clampNotice (s : State) (i : SlotId) : Notice :=
  let x := s.slot i
  .clamp i x.causes x.lineAsserted x.port x.overCount x.goodCount x.stale x.lastLevel

/-- The ADMISSION notice of a slot as it stands, with the manner of a grant (R142). -/
def State.admissionNotice (s : State) (i : SlotId) (manner : Option Manner) : Notice :=
  let x := s.slot i
  let head := if s.arbiter.queue.head? = some i then s.arbiter.phase.map fun ph => (ph, s.debtSet.length, s.arbiter.timer) else none
  .admission i x.state x.outcome (s.queuePosition i) s.arbiter.queue.length head manner

/-- The STATION notice of a receptor record (R48). -/
def stationNotice (r : ReceptorId) (x : Receptor) : Notice := .station r x.station x.misses x.lastLevel x.address

/-- The EXCEEDANCE notice of a record (R70). -/
def exceedanceNotice (p : ExcPos) (x : ExcRecord) : Notice :=
  .exceedance x.receptor p x.state x.openedAt x.closedAt x.limit x.peak x.minutesAbove x.cause

/-- The ZONE notice of a zone as it stands (R29). -/
def State.zoneNotice (s : State) (z : ZoneId) : Notice :=
  let x := s.zone z
  .zone z x.state x.licence x.effective x.fade x.grace x.inForce

/-! ### Witness copies (R172, R173) -/

/-- The enable of a copy's category (R173). -/
def Copy.enabled (e : WitnessEnables) : Copy → Bool
  | .stationReply .. => e.stationReply
  | .minute .. => e.minute
  | .exceedance .. => e.exceedance
  | .ceiling .. => e.ceiling
  | .clamp .. => e.clamp

/-- The transmitter takes a copy: it joins the FIFO, or is dropped and counted (R172). -/
def WitnessTx.take (w : WitnessTx) (c : Copy) (minute second : Nat) : WitnessTx :=
  if w.fifo.length < 16 then { w with fifo := w.fifo ++ [.copy c] }
  else
    { w with
      drops := min 65535 (w.drops + 1)
      gapPending := true
      firstDrop := if w.gapPending then w.firstDrop else some (minute, second) }

/-- Sends a witness copy, if its category is enabled when its event is taken (R172, R173). -/
def State.send (s : State) (c : Copy) : State :=
  if c.enabled s.site.enables then { s with witness := s.witness.take c s.clock.minute s.clock.second } else s

/-- The head entry leaves the FIFO, and a GAP frame takes the place freed if one is due (R172). -/
def WitnessTx.entrySent (w : WitnessTx) : WitnessTx :=
  match w.fifo with
  | [] => w
  | _ :: rest =>
    if w.gapPending then
      let t := w.firstDrop.getD (0, 0)
      { fifo := rest ++ [.gap w.drops t.1 t.2], gapPending := false, drops := 0, firstDrop := none }
    else { w with fifo := rest }

/-! ### Time (R14, R15) -/

/-- A report age counts milliseconds and stops at 600000 (R74). -/
def Slot.grow (n : Nat) (x : Slot) : Slot := { x with reportAge := x.reportAge.map fun a => min 600000 (a + n) }

/-- The discard timer counts down (R149). -/
def Latch.elapse (n : Nat) : Latch → Latch
  | .ready o q res m sec left => .ready o q res m sec (left - n)
  | l => l

/-- The poll wait counts down (R38). -/
def Poller.elapse (n : Nat) (p : Poller) : Poller :=
  { p with poll := p.poll.map fun x => { x with wait := x.wait.map fun w => w - n } }

/-- n milliseconds of the timebase pass for every timer of R15; the time of day is not touched here. -/
def State.elapse (n : Nat) (s : State) : State :=
  { s.updSlots (Slot.grow n) with
    arbiter := { s.arbiter with timer := s.arbiter.timer.map fun t => t - n }
    latch := s.latch.elapse n
    poller := s.poller.elapse n }

/-! ### Triggers and passes (R107 to R110) -/

/-- The inputs a pass captures when it begins (R110). -/
def State.capture (s : State) : Capture :=
  { zones := Vector.ofFn fun z =>
      let x := s.zone z
      { state := x.state, effective := x.effective, fade := x.fade, recoveryMargin := x.recoveryMargin }
    receptors := allReceptors.filterMap fun r => (s.receptor r).map fun x =>
      { receptor := r, zone := x.zone, correction := x.correction, exceeded := x.exceedance.isSome, blind := x.station.blind }
    blindMargin := s.site.blindMargin
    slots := Vector.ofFn fun i =>
      let x := s.slot i
      { state := x.state, weight := x.weight, stageMax := x.stageMax, topCap := x.caps.head? }
    paths := allPathPos.filterMap s.path }

/-- A recalculation pass begins: the engine captures its inputs (R108, R109, R110). -/
def State.beginRecalculation (s : State) : State :=
  { s with
    engine := { s.engine with activity := .recalculating s.capture }
    arbiter := { s.arbiter with passSinceHead := true } }

/-- A forecast pass begins for the query the latch holds, if it is QUEUED (R109, R148). -/
def State.beginForecast (s : State) : State :=
  match s.latch with
  | .queued o q =>
    { s with
      engine := { s.engine with activity := .forecasting s.capture q s.clock.minute s.clock.second }
      latch := .computing o q }
  | _ => s

/-- A trigger: it starts a pass when the engine is IDLE and sets the pending flag otherwise; in BOOT it is not taken (R108). -/
def State.trigger (s : State) : State :=
  if s.mode = .boot then s
  else
    match s.engine.activity with
    | .idle => s.beginRecalculation
    | _ => { s with engine := { s.engine with pending := true } }

/-- A trigger raised if a change was made. -/
def State.triggerIf (s : State) (changed : Bool) : State := if changed then s.trigger else s

/-- The engine's choice of its next work after a result is delivered (R109). -/
def State.chooseNext (s : State) : State :=
  if s.engine.pending then { s with engine := { s.engine with pending := false } }.beginRecalculation
  else
    match s.latch with
    | .queued .. => s.beginForecast
    | _ => { s with engine := { s.engine with activity := .idle } }

/-! ### The settings memory (12 section 12.2) -/

/-- What an address that is not listed reads as: DESIGN CHOICE (log 8), the manual does not give the contents of a memory never written. -/
def unlistedByte : Byte := 0

/-- Reads one byte. -/
def Memory.read (m : Memory) (a : Nat) : Byte :=
  match m with
  | [] => unlistedByte
  | c :: rest => if c.1 = a then c.2 else Memory.read rest a

/-- Writes one byte, keeping the canonical form. -/
def Memory.write (m : Memory) (a : Nat) (b : Byte) : Memory :=
  match m with
  | [] => if b = unlistedByte then [] else [(a, b)]
  | c :: rest =>
    if a < c.1 then (if b = unlistedByte then c :: rest else (a, b) :: c :: rest)
    else if a = c.1 then (if b = unlistedByte then rest else (a, b) :: rest)
    else c :: Memory.write rest a b

/-- Writes a run of bytes one after another. -/
def Memory.writeAll (m : Memory) (ws : List Host.Cell) : Memory := ws.foldl (fun m w => m.write w.1 w.2) m

/-- The canonical form: every address at least `low`, strictly rising, no byte equal to what an unlisted address reads as. -/
def Memory.wfFrom (low : Nat) (m : Memory) : Bool :=
  match m with
  | [] => true
  | c :: rest => decide (low ≤ c.1) && decide (c.2 ≠ unlistedByte) && Memory.wfFrom (c.1 + 1) rest

/-- The canonical form of the settings memory. -/
def Memory.wf (m : Memory) : Bool := Memory.wfFrom 0 m

end Sys2Proof.Machine
end

