-- ==== Sys2Proof/Machine/StageTable.lean ====
section
/-! DEFINITION. The stage table's shared operations: reports of clamp changes, binding, unbinding, emptying, stale and aged slots (chapters 5, 6). -/

namespace Sys2Proof.Machine

/-- Reports a change of a slot's clamp-cause set, or of its clamp line, against the record as it stood before: the CLAMP notice and the CLAMP
witness copy (R96, R97). Nothing is posted where neither changed. DEDUCED (log 31): the port and the last reported level of the copy are those of
the record after the change, so a BIND, UNBIND or EMPTY copies the level absent. -/
def State.reportClamp (s : State) (i : SlotId) (before : Slot) (event : ClampEvent) (report : Option (Level × Nat × Level)) : State :=
  let x := s.slot i
  if x.causes = before.causes ∧ x.lineAsserted = before.lineAsserted then s
  else
    (s.post (s.clampNotice i)).send
      (.clamp i x.port before.causes x.causes x.lineAsserted event x.lastLevel s.clock.minute s.clock.second report)

/-- Changes a slot record and reports the change of its clamp causes, if any. -/
def State.updClamped (s : State) (i : SlotId) (f : Slot → Slot) (event : ClampEvent) (report : Option (Level × Nat × Level)) : State :=
  (s.updSlot i f).reportClamp i (s.slot i) event report

/-- The record of a slot bound to a port (R75). -/
def Slot.bound (x : Slot) (p : Port) (id : Identity) : Slot :=
  { x with
    port := some p
    identity := match x.kind with
      | .openKind => some id
      | .fixed => x.identity
    state := .quiet
    reportAge := some 0
    stale := false
    lastLevel := none
    overCount := 0
    goodCount := 0
    outcome := .none }

/-- The record of an unbound settled QUIET FIXED slot (R76). -/
def Slot.unbound (x : Slot) : Slot :=
  { x with
    port := none
    reportAge := none
    stale := false
    lastLevel := none
    overCount := 0
    goodCount := 0
    causes := { x.causes with hasOver := false, hasStale := false } }

/-- The record of an emptied slot (R77). -/
def Slot.emptied (x : Slot) : Slot :=
  { x with
    kind := .openKind
    state := .empty
    identity := none
    port := none
    reportAge := none
    stale := false
    lastLevel := none
    overCount := 0
    goodCount := 0
    causes := causesNone
    caps := []
    debt := false
    outcome := .none }

/-- Frees every path entry that names the slot (R77). -/
def State.deletePathsOf (s : State) (i : SlotId) : State :=
  { s with paths := Vector.ofFn fun p => match s.path p with
      | some e => if e.slot = i then none else some e
      | none => none }

/-- Binds a slot to a port with an identity (R75), with its STAGE_STATE notice (R78) and the report of the line's change (R97). -/
def State.bindSlot (s : State) (i : SlotId) (p : Port) (id : Identity) : State :=
  let t := s.updSlot i fun x => x.bound p id
  (t.post (t.stageStateNotice i)).reportClamp i (s.slot i) .bind none

/-- Unbinds a settled QUIET FIXED slot (R76). -/
def State.unbindSlot (s : State) (i : SlotId) : State :=
  let t := s.updSlot i Slot.unbound
  (t.post (t.stageStateNotice i)).reportClamp i (s.slot i) .unbind none

/-- Empties a slot: its record, its path entries, one trigger, its notices (R77). -/
def State.emptySlot (s : State) (i : SlotId) : State :=
  let t := ((s.updSlot i Slot.emptied).deletePathsOf i).trigger
  (t.post (t.stageStateNotice i)).reportClamp i (s.slot i) .empty none

/-- The stale time in milliseconds (R15, R95). -/
def State.staleMs (s : State) : Nat := 1000 * s.site.staleTime

/-- The age time in milliseconds (R15, R81). -/
def State.ageMs (s : State) : Nat := 1000 * s.site.ageTime

/-- A slot becomes stale: the flag is SET and the STALE cause added (R94). -/
def State.becomeStale (s : State) (i : SlotId) : State :=
  s.updClamped i (fun x => { x with stale := true, causes := { x.causes with hasStale := true } }) .staleTime none

/-- A bound slot that is not stale and whose report age has reached the stale time (R94). -/
def State.staleDue (s : State) (i : SlotId) : Bool :=
  let x := s.slot i
  x.port.isSome && !x.stale && match x.reportAge with
    | some a => decide (s.staleMs ≤ a)
    | none => false

/-- The conditions of R81 but for the report age: an OPEN slot, settled QUIET, bound. -/
def State.mayAgeOut (s : State) (i : SlotId) : Bool :=
  let x := s.slot i
  x.kind == .openKind && x.settledQuiet && x.port.isSome

/-- An OPEN slot that ages out now (R81). -/
def State.ageDue (s : State) (i : SlotId) : Bool :=
  s.mayAgeOut i && match (s.slot i).reportAge with
    | some a => decide (s.ageMs ≤ a)
    | none => false

/-- A slot becomes stale if the conditions of R94 hold of it now, and is left alone otherwise. -/
def State.staleSlot (s : State) (i : SlotId) : State := if s.staleDue i then s.becomeStale i else s

/-- Every slot that is due becomes stale (R94: a lowered stale time applies at once). DESIGN CHOICE (log 52): in ascending slot number. -/
def State.staleAll (s : State) : State := allSlots.foldl State.staleSlot s

/-- A slot is emptied if the three conditions of R81 hold of it now, and left alone otherwise. -/
def State.ageSlot (s : State) (i : SlotId) : State := if s.ageDue i then s.emptySlot i else s

/-- Every slot that is due ages out (R81). DESIGN CHOICE (log 52): in ascending slot number, which orders their triggers and notices. -/
def State.ageAll (s : State) : State := allSlots.foldl State.ageSlot s

end Sys2Proof.Machine
end

