-- ==== Sys2Proof/Machine/Arbiter.lean ====
section
/-! DEFINITION. The admission arbiter: the head, grants, withdrawals, curfew removals, debts and the report of a pass (chapter 8). -/

namespace Sys2Proof.Machine

/-- Writes the arbiter's queue. -/
def State.setQueue (s : State) (q : List SlotId) : State := { s with arbiter := { s.arbiter with queue := q } }

/-- Writes the head phase. -/
def State.setPhase (s : State) (p : Option Phase) : State := { s with arbiter := { s.arbiter with phase := p } }

/-- Stops the handover timer. -/
def State.stopTimer (s : State) : State := { s with arbiter := { s.arbiter with timer := none } }

/-- Clears every debt flag (R137, R139). -/
def State.clearDebts (s : State) : State := s.updSlots fun x => { x with debt := false }

/-- Posts the ADMISSION notice of a slot as it stands (R142). -/
def State.postAdmission (s : State) (i : SlotId) (manner : Option Manner) : State := s.post (s.admissionNotice i manner)

/-- Posts the STAGE_STATE notice of a slot as it stands (R142). -/
def State.postStageState (s : State) (i : SlotId) : State := s.post (s.stageStateNotice i)

/-- A slot becomes the head of the queue (R130). -/
def State.becomeHead (s : State) (i : SlotId) : State :=
  let a := s.updSlot i fun x => { x with state := .entering }
  let b := { a with arbiter := { a.arbiter with phase := some .counting, passSinceHead := false } }
  (b.trigger.postStageState i).postAdmission i none

/-- After the head has left: the first member becomes the head, or the head phase becomes absent (R134 step 5, R137 step 5, R139). -/
def State.promote (s : State) : State :=
  match s.arbiter.queue with
  | [] => s.setPhase none
  | h :: _ => s.becomeHead h

/-- Step 1 of a grant for one slot: a debt still SET is cleared and becomes the HANDOVER cause (R134). -/
def State.settleDebtor (s : State) (i : SlotId) : State :=
  if (s.slot i).debt then
    s.updClamped i (fun x => { x with debt := false, causes := { x.causes with hasHandover := true } }) .grant none
  else s

/-- The head is granted (R134). DESIGN CHOICE (log 47): the slots still in debt take the HANDOVER cause, and post, in ascending slot number. -/
def State.grant (s : State) (manner : Manner) : State :=
  match s.arbiter.queue with
  | [] => s
  | h :: rest =>
    let a := allSlots.foldl State.settleDebtor s
    let b := (a.stopTimer.setQueue rest).updSlot h fun x => { x with state := .live, outcome := .granted, prospective := none }
    (((b.postAdmission h (some manner)).postStageState h).trigger).promote

/-- What follows when a debt flag has been cleared by a confirming report or by the debtor leaving LIVE (R132): in CONFIRMING the head is
granted once no debt is left, and otherwise its ADMISSION notice shows the debts remaining. -/
def State.debtCleared (s : State) : State :=
  if s.arbiter.phase = some .confirming then
    if s.debtSet.isEmpty then s.grant .byConfirmation
    else
      match s.arbiter.queue with
      | h :: _ => s.postAdmission h none
      | [] => s
  else s

/-- A WAITING slot is withdrawn (R136). -/
def State.withdrawWaiting (s : State) (i : SlotId) (outcome : Admission) : State :=
  let a := (s.setQueue (s.arbiter.queue.erase i)).updSlot i fun x => { x with state := .quiet, outcome := outcome }
  (a.postStageState i).postAdmission i none

/-- The ENTERING head is withdrawn (R137). -/
def State.withdrawHead (s : State) (i : SlotId) (outcome : Admission) : State :=
  let a := (s.stopTimer.clearDebts.setQueue (s.arbiter.queue.erase i)).updSlot i fun x =>
    { x with state := .quiet, prospective := none, outcome := outcome }
  (((a.postStageState i).postAdmission i none).trigger).promote

/-- A LIVE slot leaves LIVE (R135); `forced` is FORCE QUIET, which also writes the outcome and posts an ADMISSION notice (R138).
DESIGN CHOICE (log 48): the leaver's own trigger and notices come before the grant or the ADMISSION notice that R132 brings. -/
def State.leaveLive (s : State) (i : SlotId) (forced : Bool) : State :=
  let hadDebt := (s.slot i).debt
  let a := s.updClamped i
    (fun x =>
      { x with
        state := .quiet
        debt := false
        causes := { x.causes with hasHandover := false }
        outcome := if forced then .forcedQuiet else x.outcome })
    .leaveLive none
  let b := a.trigger.postStageState i
  let c := if forced then b.postAdmission i none else b
  if hadDebt then c.debtCleared else c

/-- GO QUIET, or FORCE QUIET, for a slot (R135 to R138). -/
def State.quietSlot (s : State) (i : SlotId) (forced : Bool) : State :=
  let outcome := if forced then Admission.forcedQuiet else Admission.withdrawn
  match (s.slot i).state with
  | .live => s.leaveLive i forced
  | .waiting => s.withdrawWaiting i outcome
  | .entering => s.withdrawHead i outcome
  | _ => s

/-- One member removed from the queue at curfew: its record and its notices (R139). -/
def State.refuseCurfew (s : State) (i : SlotId) : State :=
  let a := s.updSlot i fun x => { x with state := .quiet, prospective := none, outcome := .refusedCurfew }
  (a.postStageState i).postAdmission i none

/-- Members of the queue are removed at curfew, with the head rules of R139. DESIGN CHOICE (log 49): all leave the queue before the first notice,
so each notice counts the members that stay, and the notices follow the order of the queue. -/
def State.removeAtCurfew (s : State) (removed : SlotId → Bool) : State :=
  let gone := s.arbiter.queue.filter removed
  let headGone := match s.arbiter.queue with
    | h :: _ => removed h
    | [] => false
  let a := s.setQueue (s.arbiter.queue.filter fun i => !removed i)
  let b := if headGone then a.stopTimer.clearDebts else a
  let c := gone.foldl State.refuseCurfew b
  if headGone then c.trigger.promote else c

/-- A removal at curfew, after which each slot removed ages out if it is settled QUIET and its report age is past the age time (R81, R139;
log 50). DESIGN CHOICE (log 52): several age out in the order in which they stood in the queue, after all the removals. -/
def State.curfewRemoval (s : State) (removed : SlotId → Bool) : State :=
  (s.arbiter.queue.filter removed).foldl State.ageSlot (s.removeAtCurfew removed)

/-- A zone that became FADING is handed to the arbiter (R139). -/
def State.curfewZone (s : State) (z : ZoneId) : State := s.curfewRemoval fun i => s.audibleInZone i z

/-- The path table tells the arbiter of an entry it created (R140). -/
def State.pathCreated (s : State) (i : SlotId) (r : ReceptorId) : State :=
  match s.receptor r with
  | some x => if s.arbiter.queue.contains i && (s.zone x.zone).state != .opened then s.curfewRemoval fun j => j == i else s
  | none => s

/-- A slot of the fallen set that is LIVE takes a debt (R131). -/
def State.setDebt (s : State) (i : SlotId) : State :=
  if (s.slot i).state = .live then s.updSlot i fun x => { x with debt := true } else s

/-- The arbiter takes the report of a recalculation pass: the entering slot counted and the fallen set (R131). -/
def State.takePassReport (s : State) (entering : Option SlotId) (fallen : List SlotId) : State :=
  match s.arbiter.queue with
  | [] => s
  | h :: _ =>
    if s.arbiter.phase = some .counting ∧ entering = some h ∧ s.arbiter.passSinceHead then
      let a := fallen.foldl State.setDebt s
      if a.debtSet.isEmpty then a.grant .atOnce
      else
        let b := { a with arbiter := { a.arbiter with phase := some .confirming, timer := some (1000 * a.site.handoverTime) } }
        b.postAdmission h none
    else s

end Sys2Proof.Machine
end

