-- ==== Sys2Proof/Machine/Schedule.lean ====
section
/-! DEFINITION. The schedule unit: evaluation of a zone, boundary work, and what it hands to its neighbours (chapter 2). -/

namespace Sys2Proof.Machine

/-- Writes the effective limit; a change is a trigger (R29). -/
def State.setEffective (s : State) (z : ZoneId) (v : Level) : State :=
  if (s.zone z).effective = v then s else (s.updZone z fun x => { x with effective := v }).trigger

/-- Writes the zone state and the fade offset; each change is a trigger, and a zone that becomes FADING is handed to the arbiter (R29).
DESIGN CHOICE (log 43): the triggers come before the hand-off. DESIGN CHOICE (log 51): where both change, as when a fade reaches 600 (R28), both are
written before either trigger, so the pass that an IDLE engine begins captures both. -/
def State.setCurfew (s : State) (z : ZoneId) (st : ZoneState) (fade : Nat) : State :=
  let old := s.zone z
  let a := s.updZone z fun x => { x with state := st, fade := fade }
  let b := (a.triggerIf (old.state != st)).triggerIf (old.fade != fade)
  if old.state ≠ .fading ∧ st = .fading then b.curfewZone z else b

/-- Posts the ZONE notice of a zone as it stands. -/
def State.postZone (s : State) (z : ZoneId) : State := s.post (s.zoneNotice z)

/-- The grace count after a new breakpoint: 15 when, in ENFORCE, the licence limit fell (R25). -/
def graceAfter (mode : Mode) (old new : Level) (grace : Nat) : Nat := if mode = .enforce ∧ new < old then 15 else grace

/-- Part one of R25 and R26: the breakpoint in force, the licence limit, the effective limit and the grace count. R26 puts these before the zone state and
the fade offset; that R25 does so too is a DESIGN CHOICE (log 51), so the pass that an IDLE engine begins captures the new effective limit with the old
state and offset. -/
def State.enterBreakpoint (s : State) (z : ZoneId) (number : Nat) (limit : Level) : State :=
  let old := s.zone z
  let a := s.updZone z fun x =>
    { x with inForce := some number, licence := limit, grace := graceAfter s.mode old.licence limit x.grace }
  if old.effective ≤ limit then a.setEffective z limit else a

/-- Part two of R25: a breakpoint without the curfew flag opens the zone. -/
def State.openZone (s : State) (z : ZoneId) : State := s.setCurfew z .opened 0

/-- Part two of R26: Table 2-3. -/
def State.curfewBreakpoint (s : State) (z : ZoneId) : State :=
  if s.mode = .enforce then
    match (s.zone z).state with
    | .opened => (s.updZone z fun x => { x with grace := 15 }).setCurfew z .fading 0
    | .fading => s
    | .silenced => s.setCurfew z .silenced 600
  else s.setCurfew z .silenced 600

/-- A ZONE notice is due when the zone state or the licence limit changed (R29). -/
def State.postZoneIfChanged (s : State) (z : ZoneId) (before : Zone) : State :=
  if (s.zone z).state ≠ before.state ∨ (s.zone z).licence ≠ before.licence then s.postZone z else s

/-- Outcome 2 of R24: the limit of the breakpoint in force has been lowered. -/
def State.lowerLicence (s : State) (z : ZoneId) (limit : Level) : State :=
  s.updZone z fun x => { x with licence := limit, grace := if s.mode = .enforce then 15 else x.grace }

/-- An empty list has no breakpoint in force (R24). DESIGN CHOICE (log 51): the effective limit, with its trigger, comes before the zone state and the fade
offset. -/
def State.noBreakpoint (s : State) (z : ZoneId) : State :=
  ((s.updZone z fun x => { x with inForce := none, licence := 0 }).setEffective z 0).setCurfew z .opened 0

/-- The evaluation of a zone at the current minute-of-day (R24 to R26), with the ZONE notice of R29. -/
def State.evaluateZone (s : State) (z : ZoneId) : State :=
  let before := s.zone z
  let evaluated :=
    match inForceAt before.breakpoints s.clock.minute with
    | none => s.noBreakpoint z
    | some k =>
      match before.breakpoints[k - 1]? with
      | none => s
      | some bp =>
        if before.inForce = some k then (if bp.limit < before.licence then s.lowerLicence z bp.limit else s)
        else
          let a := s.enterBreakpoint z k bp.limit
          if bp.curfew then a.curfewBreakpoint z else a.openZone z
  evaluated.postZoneIfChanged z before

/-- Every zone is evaluated, in ascending zone number: as R175 gives at the end of a load, and by DESIGN CHOICE (log 42) at SET CLOCK and
ENTER ENFORCE, for which R17 and R19 give no order. -/
def State.evaluateZones (s : State) : State := allZones.foldl State.evaluateZone s

/-- The second-boundary work of a zone: the ramp of the effective limit and the fade (R28), with the ZONE notice of R29. -/
def State.zoneSecond (s : State) (z : ZoneId) : State :=
  let x := s.zone z
  let ramped := x.licence < x.effective
  let a := if ramped then s.setEffective z (limitedStep x.effective x.licence 0 x.rampRate) else s
  let fade := limitedStep x.fade 600 x.rampRate 0
  let b := if x.state = .fading then a.setCurfew z (if fade = 600 then .silenced else .fading) fade else a
  if (ramped ∧ (b.zone z).effective = x.licence) ∨ (b.zone z).state ≠ x.state then b.postZone z else b

/-- The minute-boundary work of a zone (R27); the licence limit and grace count handed to the compliance unit are added to the list. -/
def State.zoneMinute (st : State × List (Level × Nat)) (z : ZoneId) : State × List (Level × Nat) :=
  let a := st.1.evaluateZone z
  let x := a.zone z
  let b := a.updZone z fun x => { x with grace := x.grace - 1 }
  (b.zoneSecond z, st.2 ++ [(x.licence, x.grace)])

/-- Inserts a breakpoint into a list of ascending minutes. -/
def insertBreakpoint (b : Breakpoint) : List Breakpoint → List Breakpoint
  | [] => [b]
  | x :: xs => if b.minute < x.minute then b :: x :: xs else x :: insertBreakpoint b xs

/-- Breakpoints in ascending minute order (R30). -/
def sortBreakpoints (bs : List Breakpoint) : List Breakpoint := bs.foldl (fun acc b => insertBreakpoint b acc) []

/-- The zone's unloaded form (R31): TABLE DELETE and TABLE CLEAR of ZONE, each change a trigger, with the ZONE notice. DEDUCED (log 25): the
record is written whole before the triggers. -/
def State.unloadZone (s : State) (z : ZoneId) : State :=
  let old := s.zone z
  let a := s.setZone z zoneDefault
  let b := (((a.triggerIf (old.effective != 0)).triggerIf (old.fade != 0)).triggerIf (old.state != .opened)).triggerIf
    (old.recoveryMargin != 30)
  b.postZone z

end Sys2Proof.Machine
end

