-- ==== Sys2Proof/Machine/Allowance.lean ====
section
/-! DEFINITION. The allowance engine: budgets, Q values, computed ceilings, publication, the report of a pass and forecasts (chapters 7, 9). -/

namespace Sys2Proof.Machine

/-! ### The computation of a pass, from its captured inputs -/

/-- The captured loss of a slot at a receptor, if it is audible there (R103, R110). -/
def Capture.loss (c : Capture) (i : SlotId) (r : ReceptorId) : Option Nat :=
  (c.paths.find? fun e => e.slot == i && e.receptor == r).map (·.loss)

/-- The counted set of a recalculation pass: captured LIVE or ENTERING (07 section 7.3). -/
def Capture.recalculationSet (c : Capture) : List SlotId := allSlots.filter fun i => (c.slots.get i).state.counted

/-- The counted set of a forecast pass: the slots of the query captured occupied (R123). -/
def Capture.forecastSet (c : Capture) (query : List SlotId) : List SlotId :=
  allSlots.filter fun i => query.contains i && (c.slots.get i).state.occupied

/-- The counted weight of a receptor (R113). -/
def Capture.countedWeight (c : Capture) (counted : List SlotId) (r : ReceptorId) : Nat :=
  ((counted.filter fun i => (c.loss i r).isSome).map fun i => (c.slots.get i).weight).sum

/-- The budget of a receptor: the effective limit less the correction, the recovery term, the blind term and the fade offset (R112). -/
def Capture.budget (c : Capture) (x : ReceptorCapture) : Int :=
  let z := c.zones.get x.zone
  (z.effective : Int) - x.correction - (if x.exceeded then z.recoveryMargin else 0) - (if x.blind then c.blindMargin else 0) - z.fade

/-- The Q value of a member at a receptor where its loss is given (R114). -/
def Capture.qValue (c : Capture) (counted : List SlotId) (i : SlotId) (x : ReceptorCapture) (loss : Nat) : Int :=
  if (c.zones.get x.zone).state = .silenced then 0
  else share (c.budget x) (c.slots.get i).weight (c.countedWeight counted x.receptor) + loss

/-- A Q value with what it was formed from (R122). -/
structure QTerm where
  receptor : ReceptorId
  q : Int
  budget : Int
  weight : Nat
  loss : Nat
deriving DecidableEq, Repr

/-- The Q values of a member, one for each receptor at which it is audible, in ascending receptor number (R115). -/
def Capture.qTerms (c : Capture) (counted : List SlotId) (i : SlotId) : List QTerm :=
  c.receptors.filterMap fun x => (c.loss i x.receptor).map fun loss =>
    { receptor := x.receptor, q := c.qValue counted i x loss, budget := c.budget x, weight := c.countedWeight counted x.receptor,
      loss := loss }

/-- The least of the terms of R115. -/
def Capture.least (c : Capture) (counted : List SlotId) (i : SlotId) : Int :=
  let x := c.slots.get i
  let bound : Int := match x.topCap with
    | some cap => min x.stageMax cap
    | none => x.stageMax
  ((c.qTerms counted i).map (·.q)).foldl min bound

/-- The computed ceiling of a member (R115). -/
def Capture.ceiling (c : Capture) (counted : List SlotId) (i : SlotId) : Level := floorAtZero (c.least counted i)

/-- The Q term that set the ceiling: that of the lowest receptor whose Q value equals the least, if any does (R115). -/
def Capture.limitTerm (c : Capture) (counted : List SlotId) (i : SlotId) : Option QTerm :=
  (c.qTerms counted i).find? fun t => t.q == c.least counted i

/-- The limit source of a member's computed ceiling (R115). -/
def Capture.source (c : Capture) (counted : List SlotId) (i : SlotId) : LimitSource :=
  match c.limitTerm counted i with
  | some t => .receptor t.receptor
  | none => if (c.slots.get i).topCap.map (fun v => (v : Int)) = some (c.least counted i) then .cap else .maximum

/-! ### Publication (R116 to R122) -/

/-- A slot captured LIVE and LIVE at the publication is published its computed ceiling; any other is published 0 (R116, R117). -/
def State.publishesComputed (s : State) (c : Capture) (i : SlotId) : Bool :=
  (c.slots.get i).state == .live && (s.slot i).state == .live

/-- The new published ceiling of a slot (R116, R117). -/
def State.newPublished (s : State) (c : Capture) (i : SlotId) : Level :=
  if s.publishesComputed c i then c.ceiling c.recalculationSet i else 0

/-- The slots captured LIVE whose published ceiling falls at this publication (R120). -/
def State.fallenSet (s : State) (c : Capture) : List SlotId :=
  allSlots.filter fun i => (c.slots.get i).state == .live && decide (s.newPublished c i < (s.slot i).published)

/-- The slot captured ENTERING, if any (R120). -/
def Capture.entering (c : Capture) : Option SlotId := allSlots.find? fun i => (c.slots.get i).state == .entering

/-- The prospective ceiling of a slot at a publication (R119). -/
def State.newProspective (s : State) (c : Capture) (i : SlotId) : Option Level :=
  if (c.slots.get i).state = .entering ∧ (s.slot i).state = .entering then some (c.ceiling c.recalculationSet i)
  else (s.slot i).prospective

/-- The record of a slot whose published ceiling takes a new value (R117). -/
def Slot.publish (x : Slot) (v : Level) : Slot :=
  { x with previous := x.published, published := v, serial := (x.serial + 1) % 65536 }

/-- The CEILING notice and the CEILING witness copy of a slot whose published ceiling has just changed (R121, R122). The least of a slot that
the pass did not count is a free value (log 12). -/
def State.reportCeiling (s : State) (c : Capture) (i : SlotId) (computed : Bool) : State :=
  let x := s.slot i
  let counted := c.recalculationSet
  let source := if computed then c.source counted i else .notCounted
  let detail := if computed then (c.limitTerm counted i).map fun t => (t.receptor, t.budget, t.weight, t.loss) else none
  let isMember := counted.contains i
  let least := if isMember then c.least counted i else Config.uncountedLeast s.freeIndex
  let a := if isMember then s else { s with freeIndex := s.freeIndex + 1 }
  (a.post (.ceiling i x.published x.previous x.serial x.state source)).send
    (.ceiling i x.port x.previous x.published x.serial x.state source least a.clock.minute a.clock.second detail)

/-- The publication of one slot (R117, R119). -/
def State.publishSlot (c : Capture) (s : State) (i : SlotId) : State :=
  let v := s.newPublished c i
  let computed := s.publishesComputed c i
  let a := s.updSlot i fun x => { x with prospective := s.newProspective c i }
  if v = (s.slot i).published then a else (a.updSlot i (·.publish v)).reportCeiling c i computed

/-- The publication of a recalculation pass, in ascending slot number (R117). -/
def State.publish (s : State) (c : Capture) : State := allSlots.foldl (State.publishSlot c) s

/-- The result of a forecast pass (R123). -/
def Capture.forecast (c : Capture) (query : List SlotId) : List (SlotId × Level) :=
  (c.forecastSet query).map fun i => (i, c.ceiling (c.forecastSet query) i)

/-- A recalculation pass ends: it publishes, aged slots that this settles leave (R81), the arbiter takes the report, and the engine chooses its
next work (R109, R120). DESIGN CHOICE (log 52): the slots that age out do so after the whole publication, in ascending slot number, and before the
report to the arbiter (log 23). -/
def State.endRecalculation (s : State) (c : Capture) : State :=
  (((s.publish c).ageAll).takePassReport c.entering (s.fallenSet c)).chooseNext

/-- The latch takes the result of its forecast and starts the discard timer (R148). -/
def State.takeForecast (s : State) (result : List (SlotId × Level)) (minute second : Nat) : State :=
  match s.latch with
  | .computing o q => { s with latch := .ready o q result minute second (1000 * s.site.discardTime) }
  | _ => s

/-- A forecast pass ends (R109, R148). -/
def State.endForecast (s : State) (c : Capture) (query : List SlotId) (minute second : Nat) : State :=
  (s.takeForecast (c.forecast query) minute second).chooseNext

/-! ### Commands -/

/-- RECALCULATION_PASS_END (R109, R117, R120); with no recalculation pass in flight nothing ends (log 3). -/
def execRecalculationPassEnd (s : State) : Host.Outcome State Fault Refusal :=
  .next <|
    match s.engine.activity with
    | .recalculating c => s.endRecalculation c
    | _ => s

/-- FORECAST_PASS_END (R109, R123, R148); with no forecast pass in flight nothing ends (log 3). -/
def execForecastPassEnd (s : State) : Host.Outcome State Fault Refusal :=
  .next <|
    match s.engine.activity with
    | .forecasting c q m sec => s.endForecast c q m sec
    | _ => s

end Sys2Proof.Machine
end

