-- ==== Sys2Proof/Machine/Compliance.lean ====
section
/-! DEFINITION. The compliance unit and the minute close: predictions, residuals, corrections, the ring and exceedance records (chapters 3, 4). -/

namespace Sys2Proof.Machine

/-! ### Prediction and residual -/

/-- The level at which a stage is predicted: its last reported level, or its published ceiling when it is stale or has reported none (R55). -/
def Slot.predictedAt (x : Slot) : Level :=
  if x.stale then x.published else x.lastLevel.getD x.published

/-- The contributions at a receptor of the counted stages audible there, in ascending slot number (R55). -/
def State.contributions (s : State) (r : ReceptorId) : List Level :=
  allSlots.filterMap fun i =>
    let x := s.slot i
    if x.state.counted then (s.pathLoss i r).map fun loss => x.predictedAt - loss else none

/-- The predicted level of a receptor; absent where no counted stage is audible (R55). -/
def State.predictedLevel (s : State) (r : ReceptorId) : Option Level := foldLevels (s.contributions r)

/-- A residual hand-off: a sample is taken where the conditions of R56 hold, and dropped otherwise. -/
def State.residualHandOff (s : State) (r : ReceptorId) (level : Level) : State :=
  match s.predictedLevel r, s.receptor r with
  | some p, some x =>
    if x.floor ≤ p ∧ x.residual.count < 30 then
      s.updReceptor r fun x =>
        { x with residual := { sum := x.residual.sum + ((level : Int) - (p : Int)), count := x.residual.count + 1 } }
    else s
  | _, _ => s

/-! ### Exceedance records -/

/-- The slots audible at a receptor that meet a condition, in ascending slot number. -/
def State.audibleSlots (s : State) (r : ReceptorId) (cond : Slot → Bool) : List SlotId :=
  allSlots.filter fun i => cond (s.slot i) && s.audible i r

/-- The position of a record being opened: the lowest free one, or that of the first CLOSED record on the creation list (R62). -/
def State.openingPosition (s : State) : Option ExcPos :=
  match allExcPos.find? fun p => (s.excRecord p).isNone with
  | some p => some p
  | none => s.exceedances.created.find? fun p => match s.excRecord p with
    | some x => x.state == .closed
    | none => false

/-- Opens a record for a receptor at a judged close (R62, R64): the record, the link, the trigger, the notice and the copy. -/
def State.openExceedance (s : State) (r : ReceptorId) (x : Receptor) (minute : Nat) (limit level : Level) : State :=
  match s.openingPosition with
  | none => s
  | some p =>
    let removed := (s.excRecord p).map fun old => (old.receptor, old.openedAt, old.closedAt)
    let opening : ExcRecord :=
      { state := .opened, receptor := r, zone := x.zone, openedAt := minute, closedAt := none, cause := none, limit := limit,
        peak := level, minutesAbove := 1, liveAtOpening := s.audibleSlots r fun y => y.state == .live,
        stagesOver := s.audibleSlots r fun y => y.causes.hasOver }
    let a := s.setExcRecord p (some opening)
    let b := { a with exceedances := { a.exceedances with created := a.exceedances.created.erase p ++ [p] } }
    let c := (b.updReceptor r fun y => { y with exceedance := some p }).trigger
    (c.post (exceedanceNotice p opening)).send (.exceedance true c.clock.minute c.clock.second p opening removed)

/-- Closes the open record of a receptor (R65, R67): the record, the link, the trigger where one is due, the notice and the copy. -/
def State.closeExceedance (s : State) (r : ReceptorId) (minute : Nat) (cause : ClosingCause) (withTrigger : Bool) : State :=
  match (s.receptor r).bind (·.exceedance) with
  | none => s
  | some p =>
    let a := (s.updExcRecord p fun y => { y with state := .closed, closedAt := some minute, cause := some cause }).updReceptor r
      fun y => { y with exceedance := none }
    let b := a.triggerIf withTrigger
    match b.excRecord p with
    | some y => (b.post (exceedanceNotice p y)).send (.exceedance false b.clock.minute b.clock.second p y none)
    | none => b

/-- An open record continues (R65): minutes above rises, staying at 65535, and the peak follows the level. -/
def ExcRecord.continued (x : ExcRecord) (level : Level) : ExcRecord :=
  { x with minutesAbove := min 65535 (x.minutesAbove + 1), peak := max x.peak level }

/-- The stages-over set of the receptor's open record is brought up to date (R66). -/
def State.updateStagesOver (s : State) (r : ReceptorId) : State :=
  match (s.receptor r).bind (·.exceedance) with
  | none => s
  | some p =>
    let now := s.audibleSlots r fun y => y.causes.hasOver
    s.updExcRecord p fun y => { y with stagesOver := allSlots.filter fun i => y.stagesOver.contains i || now.contains i }

/-- The judgement of a receptor at a minute close, against the licence limit and grace count handed (R63 to R66). -/
def State.judge (s : State) (r : ReceptorId) (limit grace minute : Nat) : State :=
  let t := s.updateStagesOver r
  match t.receptor r with
  | none => t
  | some x =>
    if 0 < grace then t
    else
      match x.level15 with
      | none => t
      | some level =>
        match x.exceedance with
        | none => if limit < level then t.openExceedance r x minute limit level else t
        | some p =>
          if limit < level then t.updExcRecord p fun y => y.continued level else t.closeExceedance r minute .returned true

/-! ### The minute close -/

/-- The minute record of a receptor at the close of a minute (R45). -/
def Receptor.minuteRecord (x : Receptor) (minute : Nat) : MinuteRecord :=
  match x.accumulator with
  | some a => { minute := minute, level := if 20 ≤ a.count then some (averageOfFold a.level a.count) else none, count := a.count }
  | none => { minute := minute, level := none, count := 0 }

/-- A minute record joins the ring; the oldest of fifteen leaves (R46). -/
def joinRing (ring : List MinuteRecord) (m : MinuteRecord) : List MinuteRecord :=
  (if ring.length < 15 then ring else ring.drop (ring.length - 14)) ++ [m]

/-- The present levels of a ring, oldest first (R47). -/
def presentLevels (ring : List MinuteRecord) : List Level := ring.filterMap (·.level)

/-- The 15-minute level of a ring: absent with fewer than ten present levels (R47). -/
def level15Of (ring : List MinuteRecord) : Option Level :=
  let present := presentLevels ring
  if 10 ≤ present.length then (foldLevels present).map fun f => averageOfFold f present.length else none

/-- The receptor store's part of a close: the ring, the 15-minute level, and an empty accumulator (R45 to R47). -/
def Receptor.closed (x : Receptor) (minute : Nat) : Receptor :=
  let ring := joinRing x.ring (x.minuteRecord minute)
  { x with accumulator := none, ring := ring, level15 := level15Of ring }

/-- The correction after a close (R58). -/
def Receptor.corrected (x : Receptor) (rise fall : Nat) : Nat :=
  if 10 ≤ x.residual.count ∧ x.station = .active then
    limitedStep x.correction (correctionTarget (meanTowardZero x.residual.sum x.residual.count)) rise fall
  else x.correction

/-- The correction update of a close; the residual accumulator is cleared, held or not (R57, R58). -/
def State.correct (s : State) (r : ReceptorId) : State :=
  match s.receptor r with
  | none => s
  | some x =>
    let v := x.corrected s.site.correctionRise s.site.correctionFall
    let a := (s.updReceptor r fun y => { y with correction := v }).triggerIf (v != x.correction)
    a.updReceptor r fun y => { y with residual := { sum := 0, count := 0 } }

/-- The close of one receptor (R45): its record, ring, 15-minute level and MINUTE copy, then the compliance unit's work. -/
def State.closeReceptor (handed : List (Level × Nat)) (minute : Nat) (s : State) (r : ReceptorId) : State :=
  match s.receptor r with
  | none => s
  | some x =>
    let y := x.closed minute
    let a := (s.setReceptor r (some y)).send (.minute r y.zone (x.minuteRecord minute) y.level15 (presentLevels y.ring).length)
    let h := handed.getD y.zone.val (0, 0)
    (a.correct r).judge r h.1 h.2 minute

end Sys2Proof.Machine
end

