-- ==== Sys2Proof/Machine/Operands.lean ====
section
/-! DEFINITION. How the values of a request are read: keys, selectors, enumerated values and clamped settings (R160). -/

namespace Sys2Proof.Machine

/-- A key from 1 to n as an index from 0, or absent when it is out of range. -/
def keyFromOne (n : Nat) (v : Nat) : Option (Fin n) :=
  if h : v - 1 < n then (if 1 ≤ v then some ⟨v - 1, h⟩ else none) else none

/-- A key from 0 to n - 1, or absent when it is out of range. -/
def keyFromZero (n : Nat) (v : Nat) : Option (Fin n) :=
  if h : v < n then some ⟨v, h⟩ else none

/-- A slot number, 1 to 8 (R160). -/
def slotOf (v : Nat) : Option SlotId := keyFromOne 8 v

/-- A receptor number, 1 to 16 (R160). -/
def receptorOf (v : Nat) : Option ReceptorId := keyFromOne 16 v

/-- A zone number, 1 to 4 (R160). -/
def zoneOf (v : Nat) : Option ZoneId := keyFromOne 4 v

/-- A path table position, 0 to 63 (R106). -/
def pathPosOf (v : Nat) : Option PathPos := keyFromZero 64 v

/-- An exceedance position, 0 to 31 (R68). -/
def excPosOf (v : Nat) : Option ExcPos := keyFromZero 32 v

/-- A table selector (R165). -/
def tableOf : Nat → Option Table
  | 1 => some .site
  | 2 => some .zone
  | 3 => some .receptor
  | 4 => some .stage
  | 5 => some .path
  | 6 => some .exceedance
  | 7 => some .ring
  | _ => none

/-- A byte that must be 0 or 1: a flag, an enable (R160, R165). -/
def flagOf : Nat → Option Bool
  | 0 => some false
  | 1 => some true
  | _ => none

/-- The kind of a STAGE write (R165: OPEN 0, FIXED 1). -/
def slotKindOf : Nat → Option SlotKind
  | 0 => some .openKind
  | 1 => some .fixed
  | _ => none

/-- A numeric setting clamped to its range, and whether it was out of it (R160). -/
structure Clamped where
  value : Nat
  adjusted : Bool
deriving DecidableEq, Repr

/-- Clamps a numeric setting (R11, R160). -/
def clampSetting (low high v : Nat) : Clamped :=
  { value := clampNat low high v, adjusted := !(decide (low ≤ v) && decide (v ≤ high)) }

/-- The request kinds of Table 10-4. -/
def requestKinds : List Nat :=
  [0x01, 0x02, 0x03, 0x04, 0x05, 0x10, 0x11, 0x12, 0x13, 0x14, 0x15, 0x18, 0x19, 0x1A, 0x1B, 0x1C, 0x20, 0x21, 0x22, 0x23, 0x24, 0x25,
   0x28, 0x29, 0x2C]

/-- A list of slot numbers as a query, each number taken once, ascending; absent if one is out of range (R145). -/
def queryOf (ns : List Nat) : Option (List SlotId) :=
  if ns.all fun n => (slotOf n).isSome then some (allSlots.filter fun i => ns.contains (i.val + 1)) else none

/-- Whether a station's flag byte marks WIND, CALIBRATING, FAULT (R165: bits 0, 1, 2; other bits are ignored, R163). -/
def flagBit (flags bit : Nat) : Bool := flags / 2 ^ bit % 2 == 1

/-- The class of a reply by its flags: FAULT before CALIBRATING before WIND (R39). -/
def replyClass (flags : Nat) : PollClass :=
  if flagBit flags 2 then .fault
  else if flagBit flags 1 then .replyCalibrating
  else if flagBit flags 0 then .replyWind
  else .reply

end Sys2Proof.Machine
end

