-- ==== Sys2Proof/Machine/Bus.lean ====
section
/-! DEFINITION. The monitor bus poller: the poll cycle, the outcomes of a poll, and the commands of the bus (chapter 3, R163). -/

namespace Sys2Proof.Machine

/-- Writes the outstanding poll; the bus receiver hunts between polls (R38, R155). -/
def State.setPoll (s : State) (p : Option Poll) : State := { s with poller := { poll := p, receiver := .hunting } }

/-- The lowest receptor that has a record and whose index is at least `low` (R37). -/
def State.nextReceptor (s : State) (low : Nat) : Option ReceptorId :=
  allReceptors.find? fun r => decide (low ≤ r.val) && (s.receptor r).isSome

/-- Sends a poll to the lowest receptor from `low` on, in the cycle of a second; where there is none the cycle ends (R37). -/
def State.pollFrom (s : State) (low second : Nat) : State :=
  match s.nextReceptor low with
  | none => s.setPoll none
  | some r =>
    match s.receptor r with
    | some x => s.setPoll (some { receptor := r, address := x.address, second := second, wait := none })
    | none => s.setPoll none

/-- A poll cycle begins, cutting short one still running (R37, R40). -/
def State.startCycle (s : State) : State := s.pollFrom 0 s.clock.second

/-- The cycle goes on to the next receptor number above the one just polled (R37). -/
def State.continueCycle (s : State) (p : Poll) : State := s.pollFrom (p.receptor.val + 1) p.second

/-- A poll outstanding to a receptor is abandoned without an outcome, and the cycle goes on (R40). -/
def State.abandonPoll (s : State) (r : ReceptorId) : State :=
  match s.poller.poll with
  | some p => if p.receptor = r then s.continueCycle p else s
  | none => s

/-- The station state and the consecutive misses after an outcome (Table 3-3). -/
def stationAfter (cls : PollClass) (st : StationState) (misses : Nat) : StationState × Nat :=
  match cls with
  | .reply => (.active, 0)
  | .replyWind => (.active, 0)
  | .replyCalibrating => (.calibrating, 0)
  | _ => if 2 ≤ misses then (.lost, 3) else (st, misses + 1)

/-- The class is a reply that is not a miss (R39, R41). -/
def PollClass.heard : PollClass → Bool
  | .reply => true
  | .replyWind => true
  | .replyCalibrating => true
  | _ => false

/-- The class is taken into the minute (Table 3-2). -/
def PollClass.taken : PollClass → Bool
  | .reply => true
  | .replyWind => true
  | _ => false

/-- The class carries a level in its witness copy: every whole station reply (R49). -/
def PollClass.carriesLevel : PollClass → Bool
  | .badFrame => false
  | .timeout => false
  | _ => true

/-- A level taken into the minute accumulator (R44). -/
def takeIntoMinute (a : Option Accumulator) (level : Level) : Option Accumulator :=
  match a with
  | none => some { level := level, count := 1 }
  | some x => if x.count < 30 then some { level := powerSum x.level level, count := x.count + 1 } else some x

/-- The station's part of an outcome: its state, its misses and its last reported level (Table 3-2, R41, R43). -/
def Receptor.heardFrom (x : Receptor) (cls : PollClass) (level : Level) : Receptor :=
  let st := stationAfter cls x.station x.misses
  { x with station := st.1, misses := st.2, lastLevel := if cls.heard then some level else x.lastLevel }

/-- The outcome of the outstanding poll acts on the receptor record (R39 to R44, R48, R49); `level` is the level reported, taken as 1400 if
above. Then the cycle goes on. -/
def State.pollOutcome (s : State) (p : Poll) (cls : PollClass) (level : Level) : State :=
  match s.receptor p.receptor with
  | none => s.continueCycle p
  | some x =>
    let y := x.heardFrom cls level
    let a := (s.setReceptor p.receptor (some y)).triggerIf (x.station.blind != y.station.blind)
    let b := if x.station = y.station then a else a.post (stationNotice p.receptor y)
    let c := if cls.taken then b.updReceptor p.receptor fun z => { z with accumulator := takeIntoMinute z.accumulator level } else b
    let d := if cls = .reply then c.residualHandOff p.receptor level else c
    let e := d.send (.stationReply p.receptor p.address cls (if cls.carriesLevel then some level else none) y.station y.misses
      d.clock.minute d.clock.second)
    e.continueCycle p

/-- The outcome of a poll that awaits its reply; at any other moment what arrives on the bus changes nothing (R38). -/
def State.pollEnds (s : State) (cls : PollClass) (level : Level) : State :=
  match s.poller.poll with
  | some p => if p.wait.isSome then s.pollOutcome p cls level else s
  | none => s

/-- The receptor whose poll awaits a reply. -/
def State.awaiting (s : State) : Option Poll :=
  match s.poller.poll with
  | some p => if p.wait.isSome then some p else none
  | none => none

/-! ### Commands -/

/-- POLL_SENT: the last byte of the POLL has left, and the 40 ms wait begins (R38, R163). -/
def execPollSent (s : State) : Host.Outcome State Fault Refusal :=
  .next <|
    match s.poller.poll with
    | some p => if p.wait.isNone then s.setPoll (some { p with wait := some 40 }) else s
    | none => s

/-- STATION_REPLY: a whole station reply; from another address than the one polled it is a BAD_FRAME (R38, R39). -/
def execStationReply (address level flags : Nat) (s : State) : Host.Outcome State Fault Refusal :=
  .next <|
    match s.awaiting with
    | some p => s.pollEnds (if p.address = address then replyClass flags else .badFrame) (saturate level)
    | none => s

/-- BAD_FRAME: a whole frame that fails its checks or is no reply of the polled station (R38). -/
def execBadFrame (s : State) : Host.Outcome State Fault Refusal := .next (s.pollEnds .badFrame 0)

/-- STATION_REPLY_TIMEOUT: 40 ms have passed with no whole frame (R38). -/
def execStationReplyTimeout (s : State) : Host.Outcome State Fault Refusal := .next (s.pollEnds .timeout 0)

end Sys2Proof.Machine
end

