-- ==== Sys2Proof/Machine/Boundaries.lean ====
section
/-! DEFINITION. The second and minute boundaries of the timebase and the work of every block at them (R14, R27, R28, R37, R45). -/

namespace Sys2Proof.Machine

/-- The time of day at the next second boundary (R14). -/
def Clock.nextSecond (c : Clock) : Clock :=
  if c.second < 59 then { c with ms := 0, second := c.second + 1 }
  else { c with ms := 0, second := 0, minute := (c.minute + 1) % 1440 }

/-- The time of day at the next minute boundary (R14). -/
def Clock.nextMinute (c : Clock) : Clock := { c with ms := 0, second := 0, minute := (c.minute + 1) % 1440 }

/-- The second-boundary work of every zone, in ascending zone number (R28). -/
def State.zonesAtSecond (s : State) : State := allZones.foldl State.zoneSecond s

/-- The minute-boundary work of every zone, in ascending zone number, and what each hands to the compliance unit (R27). -/
def State.zonesAtMinute (s : State) : State × List (Level × Nat) := allZones.foldl State.zoneMinute (s, [])

/-- The closes of every receptor, in ascending receptor number (R45). -/
def State.closeMinute (s : State) (handed : List (Level × Nat)) (minute : Nat) : State :=
  allReceptors.foldl (State.closeReceptor handed minute) s

/-- A poll cycle begins where the new second is even (R37). -/
def State.pollAtSecond (s : State) : State := if s.clock.second % 2 = 0 then s.startCycle else s

/-- The work of a second boundary that is no minute boundary: the zones, then the poll cycle (R28, R37; log 16). -/
def State.secondWork (s : State) : State := if s.mode = .boot then s else s.zonesAtSecond.pollAtSecond

/-- The work of a minute boundary: the zones, the minute closes of the minute just ended, then the poll cycle (R27, R45, R37; log 16). -/
def State.minuteWork (s : State) (ended : Nat) : State :=
  if s.mode = .boot then s
  else
    let z := s.zonesAtMinute
    (z.1.closeMinute z.2 ended).pollAtSecond

/-- The timebase reaches its next second boundary (R14); while reset is asserted it does not run. -/
def State.secondBoundary (s : State) : State :=
  if s.loader = .held then s
  else
    let a := { s.elapse (1000 - s.clock.ms) with clock := s.clock.nextSecond }
    if s.clock.second < 59 then a.secondWork else a.minuteWork s.clock.minute

/-- The timebase reaches its next minute boundary (R14); the time to it passes for every timer (log 29). -/
def State.minuteBoundary (s : State) : State :=
  if s.loader = .held then s
  else
    let a := { s.elapse (60000 - (1000 * s.clock.second + s.clock.ms)) with clock := s.clock.nextMinute }
    a.minuteWork s.clock.minute

/-- SECOND_BOUNDARY (R14). -/
def execSecondBoundary (s : State) : Host.Outcome State Fault Refusal := .next s.secondBoundary

/-- MINUTE_BOUNDARY (R14). -/
def execMinuteBoundary (s : State) : Host.Outcome State Fault Refusal := .next s.minuteBoundary

end Sys2Proof.Machine
end

