-- ==== Sys2Proof/Machine/Expiries.lean ====
section
/-! DEFINITION. The expiries of the timers: the stale time, the age time, the handover timer, the discard timer (R81, R94, R133, R149). -/

namespace Sys2Proof.Machine

/-- STALE_TIME_EXPIRY: a bound slot whose report age has reached the stale time becomes stale (R94). One that is stale already, holds no bound port,
or has a report age below the stale time, as after a REPORT taken first (R88), does not (log 3). -/
def execStaleTimeExpiry (slot : SlotId) (s : State) : Host.Outcome State Fault Refusal := .next (s.staleSlot slot)

/-- AGE_OUT: a settled QUIET bound OPEN slot whose report age has reached the age time is emptied (R81); any other slot does not age out. -/
def execAgeOut (slot : SlotId) (s : State) : Host.Outcome State Fault Refusal := .next (s.ageSlot slot)

/-- HANDOVER_TIMER_EXPIRY: a running handover timer expires and grants the head by timeout (R133, R134). -/
def execHandoverTimerExpiry (s : State) : Host.Outcome State Fault Refusal :=
  .next (if s.arbiter.timer.isSome then s.grant .byTimeout else s)

/-- The latch discards its result, if it is READY (R149). -/
def State.discardForecast (s : State) : State :=
  match s.latch with
  | .ready o q _ m sec _ => ({ s with latch := .empty } : State).post (.forecastDiscarded o q m sec s.clock.minute s.clock.second)
  | _ => s

/-- DISCARD_TIMER_EXPIRY: the discard timer, which runs in READY alone, expires (R149). -/
def execDiscardTimerExpiry (s : State) : Host.Outcome State Fault Refusal := .next s.discardForecast

end Sys2Proof.Machine
end

