-- ==== Sys2Proof/Machine/Wire.lean ====
section
/-! DEFINITION. Bytes on a wire: numbers high byte first, the CRC, the frame of R153, the receiver's checks (chapter 10). -/

namespace Sys2Proof.Machine

/-! ### Numbers, high byte first (R153) -/

/-- A one-byte number. -/
def u8 (n : Nat) : List Byte := [BitVec.ofNat 8 n]

/-- A two-byte number. -/
def u16 (n : Nat) : List Byte := u8 (n / 256) ++ u8 n

/-- A three-byte number: the report age of a slot. -/
def u24 (n : Nat) : List Byte := u8 (n / 65536) ++ u16 n

/-- A signed two-byte number in two's complement. -/
def i16 (v : Int) : List Byte := u16 (v % 65536).toNat

/-- A flag: 0 or 1 (R165). -/
def flagByte (b : Bool) : List Byte := u8 (if b then 1 else 0)

/-- The six bytes of an identity. -/
def identityBytes (x : Identity) : List Byte :=
  let n := x.toNat
  u16 (n / 4294967296) ++ u16 (n / 65536) ++ u16 n

/-- An optional value: its presence byte, then the value when it is present (R153). -/
def optional {α : Type} (f : α → List Byte) : Option α → List Byte
  | none => u8 0
  | some a => u8 1 ++ f a

/-- A set of slots: bit n - 1 for slot n (R165). -/
def slotSetByte (xs : List SlotId) : List Byte := u8 ((allSlots.filter fun i => xs.contains i).foldl (fun n i => n + 2 ^ i.val) 0)

/-- A list of slot numbers: its count byte, then the numbers (R153). -/
def slotListBytes (xs : List SlotId) : List Byte := u8 xs.length ++ xs.flatMap fun i => u8 (i.val + 1)

/-- The value of a run of bytes, high byte first. -/
def bytesToNat (bs : List Byte) : Nat := bs.foldl (fun n b => n * 256 + b.toNat) 0

/-! ### The CRC (R154) -/

/-- One bit of the CRC register: generator x^16 + x^12 + x^5 + 1. -/
def crcShift (c : BitVec 16) : BitVec 16 := if c.msb then (c <<< 1) ^^^ 0x1021#16 else c <<< 1

/-- One byte into the CRC register, most significant bit first. -/
def crcByte (c : BitVec 16) (b : Byte) : BitVec 16 := Nat.repeat crcShift 8 (c ^^^ (b.setWidth 16 <<< 8))

/-- The CRC over bytes in the order sent: the register starts at 0xFFFF and is not inverted at the end. -/
def crc16 (bs : List Byte) : BitVec 16 := bs.foldl crcByte 0xFFFF#16

/-- The two CRC bytes, the high byte first. -/
def crcBytes (bs : List Byte) : List Byte := u16 (crc16 bs).toNat

/-! ### Frames (R153, R155) -/

/-- The SYNC byte. -/
def sync : Byte := 0xC5#8

/-- A frame of a request link or of the witness port: SYNC, LENGTH, body, CRC. -/
def frame (body : List Byte) : List Byte :=
  let covered := u8 body.length ++ body
  [sync] ++ covered ++ crcBytes covered

/-- A frame of the monitor bus, with the ADDRESS byte after LENGTH. -/
def busFrame (address : Nat) (body : List Byte) : List Byte :=
  let covered := u8 body.length ++ u8 address ++ body
  [sync] ++ covered ++ crcBytes covered

/-- What a receiver makes of the bytes of one frame (R155). -/
inductive Received where
  | accepted (body : List Byte)
  | discarded (cause : Nat)
  /-- Not a frame that has arrived whole: no SYNC, or fewer or more bytes than LENGTH asks for. -/
  | incomplete
deriving DecidableEq, Repr

/-- A LENGTH byte outside 2 to 60. -/
def badLength (len : Byte) : Bool := decide (len.toNat < 2) || decide (60 < len.toNat)

/-- The bytes of a frame after SYNC on a request link: LENGTH 2 to 60, then the CRC once the last byte is there. The cause of a discard is 0 for
LENGTH, 2 for CRC. -/
def judgeLink : List Byte → Received
  | [] => .incomplete
  | len :: rest =>
    if badLength len then .discarded 0
    else if rest.length ≠ len.toNat + 2 then .incomplete
    else
      let body := rest.take len.toNat
      if rest.drop len.toNat = crcBytes (len :: body) then .accepted body else .discarded 2

/-- The bytes of a frame after SYNC on the monitor bus: LENGTH 2 to 60, ADDRESS 1 to 31, then the CRC once the last byte is there. The body
accepted is preceded by the ADDRESS byte. The cause of a discard is 0 for LENGTH, 1 for ADDRESS, 2 for CRC. -/
def judgeBus : List Byte → Received
  | [] => .incomplete
  | len :: rest =>
    if badLength len then .discarded 0
    else
      match rest with
      | [] => .incomplete
      | address :: tail =>
        if address.toNat = 0 ∨ 31 < address.toNat then .discarded 1
        else if tail.length ≠ len.toNat + 2 then .incomplete
        else
          let body := tail.take len.toNat
          if tail.drop len.toNat = crcBytes (len :: address :: body) then .accepted (address :: body) else .discarded 2

/-- The checks of R155 on a run of bytes offered as one frame. -/
def receiveWith (judge : List Byte → Received) : List Byte → Received
  | [] => .incomplete
  | first :: rest => if first = sync then judge rest else .incomplete

/-- The checks of R155 on a whole frame of a request link. -/
def receiveFrame : List Byte → Received := receiveWith judgeLink

/-- The checks of R155 on a whole frame of the monitor bus. -/
def receiveBusFrame : List Byte → Received := receiveWith judgeBus

/-! ### A receiver in a stream of bytes (R155) -/

/-- A receiver between two bytes: HUNTING, or RECEIVING with the bytes taken since SYNC. -/
inductive Reception where
  | hunting
  | receiving (taken : List Byte)
deriving DecidableEq, Repr

/-- What a receiver tells of the bytes it takes. -/
inductive LineEvent where
  | begun
  | accepted (body : List Byte)
  | discarded (cause : Nat)
deriving DecidableEq, Repr

/-- One byte arrives (R155): a HUNTING receiver waits for SYNC; a RECEIVING one takes the byte into its frame and ends the frame as soon as it is
accepted or fails. -/
def Reception.take (judge : List Byte → Received) (r : Reception) (b : Byte) : Reception × List LineEvent :=
  match r with
  | .hunting => if b = sync then (.receiving [], [.begun]) else (.hunting, [])
  | .receiving taken =>
    match judge (taken ++ [b]) with
    | .accepted body => (.hunting, [.accepted body])
    | .discarded cause => (.hunting, [.discarded cause])
    | .incomplete => (.receiving (taken ++ [b]), [])

/-- A run of bytes arrives, each taken in its turn: after a discard the search goes on at the byte after the one at which the frame failed
(R155). -/
def Reception.takeAll (judge : List Byte → Received) (r : Reception) : List Byte → Reception × List LineEvent
  | [] => (r, [])
  | b :: bs =>
    let x := r.take judge b
    let y := x.1.takeAll judge bs
    (y.1, x.2 ++ y.2)

end Sys2Proof.Machine
end

