-- ==== Sys2Proof/Machine/Encode.lean ====
section
/-! DEFINITION. The bodies the controller sends: replies, notices, witness copies and polls, byte by byte (R153, R157, R163 to R165). -/

namespace Sys2Proof.Machine

/-! ### Enumerated values (Table 10-6) -/

/-- Mode: BOOT 0, SETUP 1, ENFORCE 2. -/
def Mode.code : Mode → Nat
  | .boot => 0
  | .setup => 1
  | .enforce => 2

/-- Start kind. -/
def StartKind.code : StartKind → Nat
  | .powerOn => 0
  | .pin => 1
  | .warmRestart => 2

/-- Zone state. -/
def ZoneState.code : ZoneState → Nat
  | .opened => 0
  | .fading => 1
  | .silenced => 2

/-- Station state. -/
def StationState.code : StationState → Nat
  | .new => 0
  | .active => 1
  | .lost => 2
  | .calibrating => 3

/-- Outcome class of a poll. -/
def PollClass.code : PollClass → Nat
  | .reply => 0
  | .replyWind => 1
  | .replyCalibrating => 2
  | .fault => 3
  | .badFrame => 4
  | .timeout => 5

/-- Slot kind. -/
def SlotKind.code : SlotKind → Nat
  | .openKind => 0
  | .fixed => 1

/-- Slot state. -/
def SlotState.code : SlotState → Nat
  | .empty => 0
  | .quiet => 1
  | .waiting => 2
  | .entering => 3
  | .live => 4

/-- Last admission outcome. -/
def Admission.code : Admission → Nat
  | .none => 0
  | .granted => 1
  | .refusedCurfew => 2
  | .withdrawn => 3
  | .forcedQuiet => 4

/-- Head phase. -/
def Phase.code : Phase → Nat
  | .counting => 1
  | .confirming => 2

/-- Manner of a grant. -/
def Manner.code : Manner → Nat
  | .atOnce => 0
  | .byConfirmation => 1
  | .byTimeout => 2

/-- Clamp-cause set: bit 0 OVER, bit 1 STALE, bit 2 HANDOVER, bit 3 CONSOLE. -/
def Causes.code (c : Causes) : Nat :=
  (if c.hasOver then 1 else 0) + (if c.hasStale then 2 else 0) + (if c.hasHandover then 4 else 0) + (if c.hasConsole then 8 else 0)

/-- Event of a CLAMP copy. -/
def ClampEvent.code : ClampEvent → Nat
  | .report => 0
  | .staleTime => 1
  | .grant => 2
  | .leaveLive => 3
  | .forceClamp => 4
  | .releaseClamp => 5
  | .bind => 6
  | .unbind => 7
  | .empty => 8

/-- Limit source: NOT_COUNTED 0, RECEPTOR r as r, CAP 17, MAXIMUM 18. -/
def LimitSource.code : LimitSource → Nat
  | .notCounted => 0
  | .receptor r => r.val + 1
  | .cap => 17
  | .maximum => 18

/-- Exceedance record state. -/
def RecordState.code : RecordState → Nat
  | .opened => 0
  | .closed => 1

/-- Closing cause. -/
def ClosingCause.code : ClosingCause → Nat
  | .returned => 0
  | .receptorEdited => 1
  | .restart => 2

/-- Latch state. -/
def Latch.code : Latch → Nat
  | .empty => 0
  | .queued .. => 1
  | .computing .. => 2
  | .ready .. => 3

/-- Table selector. -/
def Table.code : Table → Nat
  | .site => 1
  | .zone => 2
  | .receptor => 3
  | .stage => 4
  | .path => 5
  | .exceedance => 6
  | .ring => 7

/-- Settings section. -/
def sectionCode : Section → Nat
  | .site => 1
  | .zones => 2
  | .receptors => 3
  | .stages => 4
  | .paths => 5
  | .witness => 6

/-- Section outcome. -/
def SectionOutcome.code : SectionOutcome → Nat
  | .loaded => 0
  | .skipped => 1
  | .bad => 2

/-- Status (Table 10-1). -/
def Status.code : Status → Nat
  | .done => 0
  | .pending => 1
  | .granted => 2
  | .defer => 3
  | .notReady => 4
  | .busy => 5
  | .refused => 6
  | .unknownKind => 7

/-- Reason (Table 10-2). -/
def Reason.code : Reason → Nat
  | .noSuch => 1
  | .full => 2
  | .duplicate => 3
  | .notEnrolled => 4
  | .portBusy => 5
  | .curfew => 6
  | .unmapped => 7
  | .isProtected => 8
  | .wrongMode => 9
  | .notEmpty => 10
  | .notQuiet => 11
  | .stackFull => 12
  | .stackEmpty => 13
  | .clockUnset => 14

/-! ### Records -/

/-- The fields of the SITE entry, in the order of R168. -/
def siteBytes (x : Site) : List Byte :=
  u8 x.blindMargin ++ u8 x.correctionRise ++ u8 x.correctionFall ++ u8 x.tolerance ++ u8 x.overLimit ++ u8 x.releaseCount ++
  u8 x.staleTime ++ u16 x.ageTime ++ u8 x.handoverTime ++ u8 x.discardTime ++ flagByte x.enables.stationReply ++
  flagByte x.enables.minute ++ flagByte x.enables.exceedance ++ flagByte x.enables.ceiling ++ flagByte x.enables.clamp

/-- A breakpoint: minute, limit, curfew flag (R165). -/
def breakpointBytes (b : Breakpoint) : List Byte := u16 b.minute ++ u16 b.limit ++ flagByte b.curfew

/-- The stored fields of a zone record, in the order of Table 2-2 (R31). -/
def zoneBytes (x : Zone) : List Byte :=
  u8 x.breakpoints.length ++ x.breakpoints.flatMap breakpointBytes ++ u8 x.rampRate ++ u8 x.recoveryMargin ++ u8 x.state.code ++
  u16 x.licence ++ u16 x.effective ++ u16 x.fade ++ u8 x.grace ++ optional u8 x.inForce

/-- The fields a READ of a receptor returns, in the order of R54. -/
def receptorBytes (x : Receptor) : List Byte :=
  u8 x.address ++ u8 (x.zone.val + 1) ++ u16 x.floor ++ u8 x.station.code ++ u8 x.misses ++
  optional (fun a : Accumulator => u16 a.level ++ u8 a.count) x.accumulator ++ optional u16 x.level15 ++ optional u16 x.lastLevel ++
  u8 x.correction ++ optional (fun p : ExcPos => u8 p.val) x.exceedance

/-- A minute record of a ring: its minute, its level or absent, its count (R54). -/
def minuteRecordBytes (x : MinuteRecord) : List Byte := u16 x.minute ++ optional u16 x.level ++ u8 x.count

/-- Every field of a slot record, in the order of Table 5-1 (R85); the override stack from position 1 at the bottom. -/
def slotBytes (i : SlotId) (x : Slot) : List Byte :=
  u8 (i.val + 1) ++ u8 x.kind.code ++ optional identityBytes x.identity ++ optional (fun p : Port => u8 p.val) x.port ++
  u8 x.state.code ++ u8 x.weight ++ u16 x.stageMax ++ optional u16 x.lastLevel ++ optional u24 x.reportAge ++ flagByte x.stale ++
  u8 x.overCount ++ u8 x.goodCount ++ u8 x.causes.code ++ (u8 x.caps.length ++ x.caps.reverse.flatMap u16) ++ u16 x.published ++
  u16 x.previous ++ u16 x.serial ++ optional u16 x.prospective ++ flagByte x.debt ++ u8 x.outcome.code

/-- All the fields of an exceedance record, in the order of Table 4-2 (R68, R71). -/
def excRecordBytes (p : ExcPos) (x : ExcRecord) : List Byte :=
  u8 p.val ++ u8 x.state.code ++ u8 (x.receptor.val + 1) ++ u8 (x.zone.val + 1) ++ u16 x.openedAt ++ optional u16 x.closedAt ++
  optional (fun c : ClosingCause => u8 c.code) x.cause ++ u16 x.limit ++ u16 x.peak ++ u16 x.minutesAbove ++
  slotSetByte x.liveAtOpening ++ slotSetByte x.stagesOver

/-- A minute-of-day and a second. -/
def timeBytes (minute second : Nat) : List Byte := u16 minute ++ u8 second

/-! ### Notices (R165) -/

/-- The payload of a notice, in the order its posting rule lists it. -/
def Notice.payload : Notice → List Byte
  | .stageState _ st k id p w m o =>
    u8 st.code ++ u8 k.code ++ optional identityBytes id ++ optional (fun q : Port => u8 q.val) p ++ u8 w ++ u16 m ++ u8 o.code
  | .ceiling _ pub prev ser st src => u16 pub ++ u16 prev ++ u16 ser ++ u8 st.code ++ u8 src.code
  | .clamp _ c line p overN goodN stale lvl =>
    u8 c.code ++ flagByte line ++ optional (fun q : Port => u8 q.val) p ++ u8 overN ++ u8 goodN ++ flagByte stale ++ optional u16 lvl
  | .admission _ st o pos queued head manner =>
    u8 st.code ++ u8 o.code ++ optional u8 pos ++ u8 queued ++
    optional (fun h : Phase × Nat × Option Nat => u8 h.1.code) head ++ optional (fun h : Phase × Nat × Option Nat => u8 h.2.1) head ++
    optional u16 (head.bind fun h => h.2.2) ++ optional (fun m : Manner => u8 m.code) manner
  | .station _ st misses lvl addr => u8 st.code ++ u8 misses ++ optional u16 lvl ++ u8 addr
  | .exceedance _ p st opened closed lim peak above cause =>
    u8 p.val ++ u8 st.code ++ u16 opened ++ optional u16 closed ++ u16 lim ++ u16 peak ++ u16 above ++
    optional (fun c : ClosingCause => u8 c.code) cause
  | .zone _ st lic eff fade grace inForce => u8 st.code ++ u16 lic ++ u16 eff ++ u16 fade ++ u8 grace ++ optional u8 inForce
  | .forecastDiscarded _ q cm cs m sec => slotListBytes q ++ timeBytes cm cs ++ timeBytes m sec
  | .engine (.cleared t n) => u8 0 ++ u8 t.code ++ u8 n
  | .engine .saved => u8 1 ++ u8 0
  | .engine (.saveFailed x) => u8 1 ++ u8 1 ++ u8 (sectionCode x)
  | .site (.load adj outs clamped skipped) =>
    u8 0 ++ flagByte adj ++ outs.flatMap (fun o => u8 o.code) ++ u8 clamped ++ u8 skipped
  | .site (.fields x) => u8 1 ++ siteBytes x
  | .site .memoryAbsent => u8 2

/-- A notice in a READ NOTICES reply: its kind, its subject, its payload. -/
def Notice.bytes (n : Notice) : List Byte := u8 (n.kindIndex.val + 1) ++ u8 n.subject ++ n.payload

/-! ### Replies (R157) -/

/-- The items of a reply after the ADJUSTED flag. DEDUCED (log 19): where a rule itself lists the number that goes with a list, that number is sent once,
before the list, and R153 adds no count byte: the pairs of a forecast result (R147), the records of a RING part (R161: the number in the ring), the
notices returned (R170). -/
def Items.bytes : Items → List Byte
  | .none => []
  | .enrolled i w m c => u8 (i.val + 1) ++ u8 w ++ u16 m ++ u8 c
  | .enrolCheck c => u8 c
  | .report i cl ser st c d o => u8 (i.val + 1) ++ u16 cl ++ u16 ser ++ u8 st.code ++ u8 c.code ++ flagByte d ++ u8 o.code
  | .position n => u8 n
  | .granted cl ser => u16 cl ++ u16 ser
  | .slotState st => u8 st.code
  | .defer l m => u8 l ++ u8 (if m then 0 else 1)
  | .forecast res m sec => u8 res.length ++ res.flatMap (fun e => u8 (e.1.val + 1) ++ u16 e.2) ++ timeBytes m sec
  | .identify part format mode isSet start => u16 part ++ u8 format ++ u8 mode.code ++ flagByte isSet ++ u8 start.code
  | .siteClock mode isSet m sec zones =>
    u8 1 ++ u8 3 ++ u8 mode.code ++ flagByte isSet ++ timeBytes m sec ++
    allZones.flatMap fun z =>
      let x := zones.get z
      u8 x.state.code ++ u16 x.licence ++ u16 x.effective ++ u16 x.fade ++ u8 x.grace ++ optional u8 x.inForce
  | .siteAdmission q ph debts t =>
    u8 2 ++ u8 3 ++ slotListBytes q ++ optional (fun x : Phase => u8 x.code) ph ++ slotListBytes debts ++ optional u16 t
  | .siteLatch l =>
    u8 3 ++ u8 3 ++ u8 l.code ++
    match l with
    | .empty => u8 0 ++ u8 0 ++ u8 0 ++ u8 0
    | .queued o q => u8 1 ++ u8 o.val ++ u8 1 ++ slotSetByte q ++ u8 0 ++ u8 0
    | .computing o q => u8 1 ++ u8 o.val ++ u8 1 ++ slotSetByte q ++ u8 0 ++ u8 0
    | .ready o q _ m sec left => u8 1 ++ u8 o.val ++ u8 1 ++ slotSetByte q ++ u8 1 ++ timeBytes m sec ++ u8 1 ++ u16 left
  | .capStack n top => u8 n ++ optional u16 top
  | .capPushed n top => u8 n ++ u16 top
  | .causes c => u8 c.code
  | .site x => siteBytes x
  | .zone x => zoneBytes x
  | .receptor x => receptorBytes x
  | .stage i x => slotBytes i x
  | .slotNumber i => u8 (i.val + 1)
  | .pathPosition p => u8 p.val
  | .pathFound p l => u8 p.val ++ u16 l
  | .pathEntry e => u8 (e.slot.val + 1) ++ u8 (e.receptor.val + 1) ++ u16 e.loss
  | .excPosition p => u8 p.val
  | .excRecord p x rank => excRecordBytes p x ++ u8 rank
  | .ring part total recs => u8 part ++ u8 2 ++ u8 total ++ recs.flatMap minuteRecordBytes
  | .notices ns rest lost => u8 ns.length ++ ns.flatMap Notice.bytes ++ u8 rest ++ flagByte lost
  | .mask m => (List.finRange 10).flatMap fun k => flagByte (m.get k)
  | .kindReceived k => u8 k

/-- The body of a reply: kind, tag, status, the reason of a refusal, the ADJUSTED flag, the items. -/
def Reply.body (r : Reply) : List Byte :=
  u8 r.kind ++ u8 r.tag ++ u8 r.answer.status.code ++
  (match r.answer.reason with
    | some x => u8 x.code
    | none => []) ++
  flagByte r.answer.adjusted ++ r.answer.items.bytes

/-- The frame in which a reply leaves (R153, R157). -/
def Reply.frame (r : Reply) : List Byte := Machine.frame r.body

/-! ### Witness frames (R164) -/

/-- The kind value of a witness entry (Table 10-4). -/
def WitnessEntry.kind : WitnessEntry → Nat
  | .copy (.stationReply ..) => 0x60
  | .copy (.minute ..) => 0x61
  | .copy (.exceedance ..) => 0x62
  | .copy (.ceiling ..) => 0x63
  | .copy (.clamp ..) => 0x64
  | .gap .. => 0x65

/-- The items of a witness copy, in the order its rule lists them. DEDUCED (log 19): items that a rule gives for some copies alone (the removed
record, the terms of a limit source, the values of a REPORT) stand behind one presence byte, and the closed-at minute of a removed record keeps the
presence byte it has in every other body. -/
def Copy.items : Copy → List Byte
  | .stationReply r a cls lvl st misses m sec =>
    u8 (r.val + 1) ++ u8 a ++ u8 cls.code ++ optional u16 lvl ++ u8 st.code ++ u8 misses ++ timeBytes m sec
  | .minute r z rec l15 present => u8 (r.val + 1) ++ u8 (z.val + 1) ++ minuteRecordBytes rec ++ optional u16 l15 ++ u8 present
  | .exceedance opened m sec p rec removed =>
    u8 (if opened then 0 else 1) ++ timeBytes m sec ++ excRecordBytes p rec ++
    optional (fun x : ReceptorId × Nat × Option Nat => u8 (x.1.val + 1) ++ u16 x.2.1 ++ optional u16 x.2.2) removed
  | .ceiling i port before after ser st src least m sec detail =>
    u8 (i.val + 1) ++ optional (fun q : Port => u8 q.val) port ++ u16 before ++ u16 after ++ u16 ser ++ u8 st.code ++ u8 src.code ++
    i16 least ++ timeBytes m sec ++
    optional (fun x : ReceptorId × Int × Nat × Nat => u8 (x.1.val + 1) ++ i16 x.2.1 ++ u8 x.2.2.1 ++ u16 x.2.2.2) detail
  | .clamp i port before after line ev lvl m sec rep =>
    u8 (i.val + 1) ++ optional (fun q : Port => u8 q.val) port ++ u8 before.code ++ u8 after.code ++ flagByte line ++ u8 ev.code ++
    optional u16 lvl ++ timeBytes m sec ++
    optional (fun x : Level × Nat × Level => u16 x.1 ++ u16 x.2.1 ++ u16 x.2.2) rep

/-- The bodies of the frames of a witness entry: one frame with the continuation byte 0, or two with 1 and 2 (R164); a GAP frame carries
none (log 20). -/
def WitnessEntry.bodies (e : WitnessEntry) : List (List Byte) :=
  match e with
  | .gap drops m sec => [u8 e.kind ++ u16 drops ++ timeBytes m sec]
  | .copy c =>
    if c.items.length ≤ 58 then [u8 e.kind ++ u8 0 ++ c.items]
    else [u8 e.kind ++ u8 1 ++ c.items.take 58, u8 e.kind ++ u8 2 ++ c.items.drop 58]

/-- The frames of a witness entry (R153, R164). -/
def WitnessEntry.frames (e : WitnessEntry) : List (List Byte) := e.bodies.map frame

/-! ### The poll (R163) -/

/-- The POLL frame of an outstanding poll: kind 0x40 and the second of the cycle, to the polled address. -/
def Poll.frame (p : Poll) : List Byte := busFrame p.address (u8 0x40 ++ u8 p.second)

end Sys2Proof.Machine
end

