-- ==== Sys2Proof/Machine/Settings.lean ====
section
/-! DEFINITION. The settings memory image: reading a section, loading its entries, and the bytes a save writes (chapter 12). -/

namespace Sys2Proof.Machine

/-! ### The image (Table 12-1) -/

/-- The six sections in the order of Table 12-1. -/
def allSections : List Section := [.site, .zones, .receptors, .stages, .paths, .witness]

/-- The offset of a section's marker. -/
def sectionOffset : Section → Nat
  | .site => 0x0000
  | .zones => 0x0100
  | .receptors => 0x0200
  | .stages => 0x0400
  | .paths => 0x0600
  | .witness => 0x0800

/-- A run of bytes of the memory. -/
def Memory.bytes (m : Memory) (start n : Nat) : List Byte := (List.range n).map fun k => m.read (start + k)

/-- The value of one byte of the memory. -/
def Memory.value (m : Memory) (a : Nat) : Nat := (m.read a).toNat

/-- The bytes that `n` zone records take from an address on; absent when a breakpoint count is above 8 (R175). -/
def zoneRecordsLength (m : Memory) (a : Nat) : Nat → Option Nat
  | 0 => some 0
  | n + 1 =>
    let bps := m.value (a + 3)
    if 8 < bps then none
    else
      let size := 4 + 5 * bps
      (zoneRecordsLength m (a + size) n).map (size + ·)

/-- The bytes of a section whose count byte heads `most` entries at most, of `size` bytes each; absent when the count is above it (R175). -/
def countedLength (m : Memory) (a most size : Nat) : Option Nat :=
  if most < m.value a then none else some (1 + size * m.value a)

/-- The length of a section's contents, from the counts it holds as stored; absent when a count is above its maximum (R175). -/
def sectionLength (m : Memory) (sec : Section) : Option Nat :=
  let a := sectionOffset sec + 1
  match sec with
  | .site => some 11
  | .zones => if 4 < m.value a then none else (zoneRecordsLength m (a + 1) (m.value a)).map (1 + ·)
  | .receptors => countedLength m a 16 5
  | .stages => countedLength m a 8 10
  | .paths => countedLength m a 64 4
  | .witness => some 5

/-- What the load makes of a section: its outcome, and its contents when it is LOADED (R175). -/
def readSection (m : Memory) (sec : Section) : SectionOutcome × List Byte :=
  let a := sectionOffset sec
  if m.read a ≠ 0x5A#8 then (.skipped, [])
  else
    match sectionLength m sec with
    | none => (.bad, [])
    | some n =>
      let contents := m.bytes (a + 1) n
      if m.bytes (a + 1 + n) 2 = crcBytes contents then (.loaded, contents) else (.bad, [])

/-! ### Loading (R176) -/

/-- Byte k of a run as a number. -/
def byteAt (bs : List Byte) (k : Nat) : Nat := (bs.getD k 0).toNat

/-- The two-byte number at k. -/
def wordAt (bs : List Byte) (k : Nat) : Nat := byteAt bs k * 256 + byteAt bs (k + 1)

/-- The site parameters of a write or of the image, clamped to the ranges of R59, R60, R81, R95, R133 and R150, and the number of values clamped. -/
def clampSite (blind rise fall tolerance overLimit release stale age handover discard : Nat) (enables : WitnessEnables) : Site × Nat :=
  let c := [clampSetting 0 60 blind, clampSetting 1 30 rise, clampSetting 1 30 fall, clampSetting 0 30 tolerance,
    clampSetting 1 32 overLimit, clampSetting 1 255 release, clampSetting 1 10 stale, clampSetting 10 600 age,
    clampSetting 1 30 handover, clampSetting 2 30 discard]
  ({ blindMargin := clampNat 0 60 blind, correctionRise := clampNat 1 30 rise, correctionFall := clampNat 1 30 fall,
     tolerance := clampNat 0 30 tolerance, overLimit := clampNat 1 32 overLimit, releaseCount := clampNat 1 255 release,
     staleTime := clampNat 1 10 stale, ageTime := clampNat 10 600 age, handoverTime := clampNat 1 30 handover,
     discardTime := clampNat 2 30 discard, enables := enables },
   (c.filter (·.adjusted)).length)

/-- The state while a load runs, with the numbers of values clamped and of entries and breakpoints skipped. -/
structure Loading where
  state : State
  clamped : Nat
  skipped : Nat
deriving DecidableEq, Repr

/-- One entry more is skipped. -/
def Loading.skip (l : Loading) : Loading := { l with skipped := l.skipped + 1 }

/-- The SITE section; the witness enables stand in their own section. -/
def loadSite (l : Loading) (bs : List Byte) : Loading :=
  let v := clampSite (byteAt bs 0) (byteAt bs 1) (byteAt bs 2) (byteAt bs 3) (byteAt bs 4) (byteAt bs 5) (byteAt bs 6) (wordAt bs 7)
    (byteAt bs 9) (byteAt bs 10) l.state.site.enables
  { l with state := { l.state with site := v.1 }, clamped := l.clamped + v.2 }

/-- The chunks of `size` bytes that hold `n` entries. -/
def entriesOf (size : Nat) : Nat → List Byte → List (List Byte)
  | 0, _ => []
  | n + 1, bs => bs.take size :: entriesOf size n (bs.drop size)

/-- The zone entries of the ZONES section, each its 4 header bytes and its breakpoints. -/
def zoneEntries : Nat → List Byte → List (List Byte)
  | 0, _ => []
  | n + 1, bs =>
    let size := 4 + 5 * byteAt bs 3
    bs.take size :: zoneEntries n (bs.drop size)

/-- The breakpoints kept of an entry, with the numbers clamped and skipped. -/
structure KeptBreakpoints where
  kept : List Breakpoint
  /-- The minutes of the breakpoints seen so far, kept or not (log 38). -/
  seen : List Nat
  clamped : Nat
  skipped : Nat
deriving DecidableEq, Repr

/-- One breakpoint of an entry (R176). DEDUCED (log 21): a skipped breakpoint counts one among the skipped, and its limit is not counted as clamped. -/
def takeBreakpoint (k : KeptBreakpoints) (bs : List Byte) : KeptBreakpoints :=
  let minute := wordAt bs 0
  let limit := clampSetting 0 1400 (wordAt bs 2)
  let t := { k with seen := minute :: k.seen }
  match flagOf (byteAt bs 4) with
  | none => { t with skipped := t.skipped + 1 }
  | some curfew =>
    if 1439 < minute ∨ k.seen.contains minute then { t with skipped := t.skipped + 1 }
    else
      { t with
        kept := t.kept ++ [{ minute := minute, limit := limit.value, curfew := curfew }]
        clamped := t.clamped + (if limit.adjusted then 1 else 0) }

/-- The breakpoints of a zone entry. -/
def takeBreakpoints (bs : List Byte) : KeptBreakpoints :=
  (entriesOf 5 (byteAt bs 3) (bs.drop 4)).foldl takeBreakpoint { kept := [], seen := [], clamped := 0, skipped := 0 }

/-- The number of settings clamped in a list. -/
def countAdjusted (cs : List Clamped) : Nat := (cs.filter (·.adjusted)).length

/-- One zone entry, after the entries before it (R176). DEDUCED (log 21): an entry that is skipped counts one among the skipped, none of its breakpoints
is counted besides it, and none of its values is counted as clamped. -/
def loadZone (before : List (List Byte)) (l : Loading) (bs : List Byte) : Loading :=
  match zoneOf (byteAt bs 0) with
  | none => l.skip
  | some z =>
    if before.any fun b => byteAt b 0 == byteAt bs 0 then l.skip
    else
      let ramp := clampSetting 1 50 (byteAt bs 1)
      let margin := clampSetting 0 60 (byteAt bs 2)
      let k := takeBreakpoints bs
      { state := l.state.updZone z fun x =>
          { x with rampRate := ramp.value, recoveryMargin := margin.value, breakpoints := sortBreakpoints k.kept }
        clamped := l.clamped + countAdjusted [ramp, margin] + k.clamped
        skipped := l.skipped + k.skipped }

/-- One receptor entry: number, station address, zone, ambient floor (R36, R176). -/
def loadReceptor (before : List (List Byte)) (l : Loading) (bs : List Byte) : Loading :=
  let address := byteAt bs 1
  let floor := clampSetting 0 1400 (wordAt bs 3)
  match receptorOf (byteAt bs 0), zoneOf (byteAt bs 2) with
  | some r, some z =>
    if address = 0 ∨ 31 < address then l.skip
    else if before.any fun b => byteAt b 0 == byteAt bs 0 || byteAt b 1 == address then l.skip
    else if (l.state.zone z).breakpoints.isEmpty then l.skip
    else
      { l with
        state := l.state.setReceptor r (some (receptorCreated address z floor.value))
        clamped := l.clamped + countAdjusted [floor] }
  | _, _ => l.skip

/-- The identity of a FIXED slot entry. -/
def identityOf (bs : List Byte) : Identity := BitVec.ofNat 48 (bytesToNat ((bs.drop 1).take 6))

/-- One FIXED slot entry: slot, identity, weight, stage maximum (R86, R176). -/
def loadStage (before : List (List Byte)) (l : Loading) (bs : List Byte) : Loading :=
  let weight := clampSetting 1 4 (byteAt bs 7)
  let stageMax := clampSetting 0 1400 (wordAt bs 8)
  match slotOf (byteAt bs 0) with
  | none => l.skip
  | some i =>
    if before.any fun b => byteAt b 0 == byteAt bs 0 || identityOf b == identityOf bs then l.skip
    else
      { l with
        state := l.state.setSlot i
          { slotDefault with
            kind := .fixed, state := .quiet, identity := some (identityOf bs), weight := weight.value, stageMax := stageMax.value }
        clamped := l.clamped + countAdjusted [weight, stageMax] }

/-- One path entry: slot, receptor, loss (R103, R176). -/
def loadPath (before : List (List Byte)) (l : Loading) (bs : List Byte) : Loading :=
  let loss := clampSetting 0 1200 (wordAt bs 2)
  match slotOf (byteAt bs 0), receptorOf (byteAt bs 1), l.state.freePathPosition with
  | some i, some r, some p =>
    if before.any fun b => byteAt b 0 == byteAt bs 0 && byteAt b 1 == byteAt bs 1 then l.skip
    else if (l.state.slot i).kind ≠ .fixed ∨ (l.state.receptor r).isNone then l.skip
    else
      { l with
        state := l.state.setPath p (some { slot := i, receptor := r, loss := loss.value })
        clamped := l.clamped + countAdjusted [loss] }
  | _, _, _ => l.skip

/-- A witness enable of the image: other than 0 or 1 it is taken as enabled and counted as clamped (R176). -/
def loadEnable (v : Nat) : Bool × Nat :=
  match flagOf v with
  | some b => (b, 0)
  | none => (true, 1)

/-- The WITNESS section. -/
def loadWitness (l : Loading) (bs : List Byte) : Loading :=
  let e (k : Nat) := loadEnable (byteAt bs k)
  { l with
    state := { l.state with site := { l.state.site with enables :=
      { stationReply := (e 0).1, minute := (e 1).1, exceedance := (e 2).1, ceiling := (e 3).1, clamp := (e 4).1 } } }
    clamped := l.clamped + ((e 0).2 + (e 1).2 + (e 2).2 + (e 3).2 + (e 4).2) }

/-- Takes the entries of a section in the order the image holds them, each with the entries before it. -/
def loadEntries (f : List (List Byte) → Loading → List Byte → Loading) : List (List Byte) → Loading → List (List Byte) → Loading
  | _, l, [] => l
  | before, l, e :: es => loadEntries f (before ++ [e]) (f before l e) es

/-- The contents of a LOADED section are taken (R176). -/
def loadContents (sec : Section) (l : Loading) (bs : List Byte) : Loading :=
  match sec with
  | .site => loadSite l bs
  | .zones => loadEntries loadZone [] l (zoneEntries (byteAt bs 0) (bs.drop 1))
  | .receptors => loadEntries loadReceptor [] l (entriesOf 5 (byteAt bs 0) (bs.drop 1))
  | .stages => loadEntries loadStage [] l (entriesOf 10 (byteAt bs 0) (bs.drop 1))
  | .paths => loadEntries loadPath [] l (entriesOf 4 (byteAt bs 0) (bs.drop 1))
  | .witness => loadWitness l bs

/-- One section of the load; a section SKIPPED or BAD leaves its defaults (R175). -/
def loadSection (l : Loading) (sec : Section) : Loading :=
  let r := readSection l.state.settings sec
  if r.1 = .loaded then loadContents sec l r.2 else l

/-- The outcomes of the six sections, in order (R175). -/
def State.sectionOutcomes (s : State) : List SectionOutcome := allSections.map fun sec => (readSection s.settings sec).1

/-- The whole load, section after section (R175). -/
def State.load (s : State) : Loading := allSections.foldl loadSection { state := s, clamped := 0, skipped := 0 }

/-! ### Saving (R177) -/

/-- The SITE section's contents. -/
def siteContents (x : Site) : List Byte :=
  u8 x.blindMargin ++ u8 x.correctionRise ++ u8 x.correctionFall ++ u8 x.tolerance ++ u8 x.overLimit ++ u8 x.releaseCount ++
  u8 x.staleTime ++ u16 x.ageTime ++ u8 x.handoverTime ++ u8 x.discardTime

/-- A zone record of the image. -/
def zoneContents (z : ZoneId) (x : Zone) : List Byte :=
  u8 (z.val + 1) ++ u8 x.rampRate ++ u8 x.recoveryMargin ++ u8 x.breakpoints.length ++
  x.breakpoints.flatMap fun b => u16 b.minute ++ u16 b.limit ++ flagByte b.curfew

/-- A receptor of the image. -/
def receptorContents (r : ReceptorId) (x : Receptor) : List Byte :=
  u8 (r.val + 1) ++ u8 x.address ++ u8 (x.zone.val + 1) ++ u16 x.floor

/-- A FIXED slot of the image. -/
def stageContents (i : SlotId) (id : Identity) (x : Slot) : List Byte :=
  u8 (i.val + 1) ++ identityBytes id ++ u8 x.weight ++ u16 x.stageMax

/-- A path entry of the image. -/
def pathContents (e : PathEntry) : List Byte := u8 (e.slot.val + 1) ++ u8 (e.receptor.val + 1) ++ u16 e.loss

/-- The WITNESS section's contents. -/
def witnessContents (e : WitnessEnables) : List Byte :=
  flagByte e.stationReply ++ flagByte e.minute ++ flagByte e.exceedance ++ flagByte e.ceiling ++ flagByte e.clamp

/-- A count byte and the entries it counts. -/
def countedContents (entries : List (List Byte)) : List Byte := u8 entries.length ++ entries.flatten

/-- The entries of the STAGES section: every FIXED slot, ascending. -/
def State.stageEntries (s : State) : List (List Byte) :=
  allSlots.filterMap fun i =>
    let x := s.slot i
    if x.kind = .fixed then x.identity.map fun id => stageContents i id x else none

/-- The entries of the PATHS section: every path entry that names a FIXED slot, in ascending position. -/
def State.pathEntries (s : State) : List (List Byte) :=
  allPathPos.filterMap fun p => (s.path p).bind fun e => if (s.slot e.slot).kind = .fixed then some (pathContents e) else none

/-- The contents of a section as the settings stand (R177). -/
def State.sectionContents (s : State) (sec : Section) : List Byte :=
  match sec with
  | .site => siteContents s.site
  | .zones => countedContents (allZones.map fun z => zoneContents z (s.zone z))
  | .receptors => countedContents (allReceptors.filterMap fun r => (s.receptor r).map (receptorContents r))
  | .stages => countedContents s.stageEntries
  | .paths => countedContents s.pathEntries
  | .witness => witnessContents s.site.enables

/-- The settings a save captures (R177). -/
def State.captureSettings (s : State) : List SectionImage := allSections.map fun sec => { sec := sec, contents := s.sectionContents sec }

/-- Bytes laid at an address and on. -/
def cellsAt (a : Nat) (bs : List Byte) : List Host.Cell := bs.mapIdx fun k b => (a + k, b)

/-- The byte writes of a section, in order: the marker 0x00, the contents and the CRC, the marker 0x5A (R177). -/
def SectionImage.writes (x : SectionImage) : List Host.Cell :=
  let a := sectionOffset x.sec
  [(a, 0x00#8)] ++ cellsAt (a + 1) (x.contents ++ crcBytes x.contents) ++ [(a, 0x5A#8)]

/-- The byte writes of a whole save, in order (R177). -/
def saveWrites (image : List SectionImage) : List Host.Cell := image.flatMap SectionImage.writes

/-- A save that a reset cuts: a first part of its byte writes was made, how many is a free value (R177, log 9). -/
def State.abandonSave (s : State) : State :=
  match s.table with
  | .saving image =>
    let ws := saveWrites image
    { s with
      settings := s.settings.writeAll (ws.take (Config.saveProgress s.freeIndex % (ws.length + 1)))
      freeIndex := s.freeIndex + 1 }
  | _ => s

end Sys2Proof.Machine
end

