-- ==== Sys2Proof/Machine/Resets.lean ====
section
/-! DEFINITION. The three kinds of reset, the settings load and the save: the commands of the settings loader (chapter 12, R14, R69, R162). -/

namespace Sys2Proof.Machine

/-! ### Resets (R174) -/

/-- The state after a power-on or pin reset: every block at its reset values, reset still asserted; the settings memory is kept, with a save in
progress abandoned, and the commands that wait still wait (R174, R177). -/
def State.hardReset (s : State) (start : StartKind) : State :=
  let a := s.abandonSave
  { State.reset with startKind := start, settings := a.settings, freeIndex := a.freeIndex, pending := s.pending }

/-- An exceedance record through a WARM RESTART: an OPEN one is closed with cause RESTART (R69). -/
def ExcRecord.restarted (x : ExcRecord) (minute : Nat) : ExcRecord :=
  match x.state with
  | .opened => { x with state := .closed, closedAt := some minute, cause := some .restart }
  | .closed => x

/-- The exceedance table through a WARM RESTART (R69). -/
def State.restartedExceedances (s : State) : ExcTable :=
  { records := Vector.ofFn fun p => (s.excRecord p).map fun x => x.restarted s.clock.minute, created := s.exceedances.created }

/-- The restart of a WARM RESTART: as a power-on reset, but the clock runs on, the exceedance table is kept with its OPEN records closed, and the
load begins at once (R174). -/
def State.warmRestart (s : State) : State :=
  { s.hardReset .warmRestart with clock := s.clock, exceedances := s.restartedExceedances, loader := .loading }

/-- POWER_ON_RESET (R174). -/
def execPowerOnReset (s : State) : Host.Outcome State Fault Refusal := .next (s.hardReset .powerOn)

/-- PIN_RESET (R174). -/
def execPinReset (s : State) : Host.Outcome State Fault Refusal := .next (s.hardReset .pin)

/-- RESET_RELEASE: the timebase runs and the load begins (R14, R174); when reset is not asserted nothing is released (log 3). -/
def execResetRelease (s : State) : Host.Outcome State Fault Refusal :=
  .next (if s.loader = .held then { s with loader := .loading } else s)

/-! ### The end of the load (R175) -/

/-- The mode becomes SETUP and every zone is evaluated: steps 2 and 3 of the end of a load (R175). -/
def State.endLoad (s : State) : State := ({ s with mode := .setup, loader := .ended } : State).evaluateZones

/-- The SITE notice of a load is due: a section was BAD, or something was clamped or skipped (R175). -/
def State.loadNewsDue (s : State) : Bool :=
  s.sectionOutcomes.contains .bad || decide (0 < s.load.clamped) || decide (0 < s.load.skipped)

/-- The load of an answering memory and its end (R175). -/
def State.completeLoad (s : State) : State :=
  let l := s.load
  let a := if s.loadNewsDue then l.state.post (.site (.load (decide (0 < l.clamped)) s.sectionOutcomes l.clamped l.skipped)) else l.state
  a.endLoad

/-- SETTINGS_LOAD_END (R175, R176); with no load running nothing ends (log 3). -/
def execSettingsLoadEnd (s : State) : Host.Outcome State Fault Refusal :=
  .next (if s.loader = .loading then s.completeLoad else s)

/-- MEMORY_NOT_ANSWERING: every section takes its defaults (R175). -/
def execMemoryNotAnswering (s : State) : Host.Outcome State Fault Refusal :=
  .next (if s.loader = .loading then (s.post (.site .memoryAbsent)).endLoad else s)

/-! ### The end of a save (R177) -/

/-- The table engine becomes IDLE and posts its ENGINE notice (R167, R177). -/
def State.engineDone (s : State) (result : EngineResult) : State := ({ s with table := .idle } : State).post (.engine result)

/-- SAVE_END: every section has been written (R177); with no save in progress nothing ends (log 3). -/
def execSaveEnd (s : State) : Host.Outcome State Fault Refusal :=
  .next <|
    match s.table with
    | .saving image => ({ s with settings := s.settings.writeAll (saveWrites image) } : State).engineDone .saved
    | _ => s

/-- The byte writes made when a write of a section is not confirmed: every earlier section whole, then the section's writes before that one, and
that one if it landed (R177, log 10). -/
def writesUpTo (sec : Section) (count : Nat) : List SectionImage → List Host.Cell
  | [] => []
  | x :: xs => if x.sec = sec then x.writes.take count else x.writes ++ writesUpTo sec count xs

/-- The section has a write of that number. -/
def hasWrite (image : List SectionImage) (sec : Section) (write : Nat) : Bool :=
  image.any fun x => x.sec == sec && decide (write < x.writes.length)

/-- SAVE_WRITE_TIMEOUT: the numbered write of a section is not confirmed; it has reached the memory or not (R177). -/
def execSaveWriteTimeout (sec : Section) (write : Nat) (landed : Bool) (s : State) : Host.Outcome State Fault Refusal :=
  .next <|
    match s.table with
    | .saving image =>
      if hasWrite image sec write then
        ({ s with settings := s.settings.writeAll (writesUpTo sec (if landed then write + 1 else write) image) } : State).engineDone
          (.saveFailed sec)
      else s
    | _ => s

end Sys2Proof.Machine
end

