-- ==== Sys2Proof/Machine/LinkIf.lean ====
section
/-! DEFINITION. The link interfaces: how a request is taken and answered, and the commands of receivers, buffers and the witness port (chapter 10). -/

namespace Sys2Proof.Machine

/-! ### Answers (R157, R159) -/

/-- DONE with items. -/
def Answer.done (items : Items) : Answer := { status := .done, reason := none, adjusted := false, items := items }

/-- DONE with items and, where a value was clamped, the ADJUSTED flag (R160). -/
def Answer.doneAdjusted (adjusted : Bool) (items : Items) : Answer := { status := .done, reason := none, adjusted := adjusted, items := items }

/-- Another status with items. -/
def Answer.withStatus (status : Status) (items : Items) : Answer := { status := status, reason := none, adjusted := false, items := items }

/-- REFUSED with a reason. -/
def Answer.refused (reason : Reason) : Answer := { status := .refused, reason := some reason, adjusted := false, items := .none }

/-- REFUSED with a reason and items: an ENROL refused by the stage table (R79). -/
def Answer.refusedWith (reason : Reason) (items : Items) : Answer := { status := .refused, reason := some reason, adjusted := false, items := items }

/-- A request that its owner answers without a change. -/
def State.refuse (s : State) (reason : Reason) : State × Answer := (s, .refused reason)

/-! ### Taking a request (R156, R158) -/

/-- Where Table 10-4 serves a request kind. -/
inductive Served where
  | console
  | stages
  | both
deriving DecidableEq, Repr

/-- A request kind is served on the link it arrived on (R158 step 3). -/
def Served.on (l : Served) (p : Port) : Bool :=
  match l with
  | .console => p == 0
  | .stages => p != 0
  | .both => true

/-- How an owner answers a request, given the state: the new state and the answer. -/
abbrev Handler := State → State × Answer

/-- The handler for the parameters of a body; absent where the body is too short (R158 step 4). A selector that names no table is refused with
NO_SUCH (R160). -/
def handled {α : Type} (params : Params α) (owner : α → Handler) : Option Handler :=
  match params with
  | .whole a => some (owner a)
  | .short => none
  | .noTable => some fun s => s.refuse .noSuch

/-- Steps 3 to 5 of R158. -/
def State.checked (s : State) (p : Port) (links : Served) (body : Option Handler) : State × Answer :=
  if links.on p then
    match body with
    | some handler => handler s
    | none => s.refuse .noSuch
  else s.refuse .noSuch

/-- The receiver of a link hunts again (R155). -/
def State.hunt (s : State) (p : Port) : State := s.setLink p { s.link p with receiver := .hunting }

/-- The buffer of a link holds a request with the reply that answers it, and the receiver hunts again (R155, R156, log 5). -/
def State.hold (s : State) (p : Port) (r : Reply) : State := s.setLink p { receiver := .hunting, buffer := some r }

/-- A whole frame is accepted on a link: it is discarded where the buffer is HELD, and taken as a request where it is FREE (R156); while reset is
asserted no receiver listens (10 section 10.2). -/
def State.accept (s : State) (p : Port) (take : State → State × Reply) : State :=
  if s.loader = .held then s
  else if (s.link p).buffer.isSome then s.hunt p
  else
    let r := take s
    r.1.hold p r.2

/-- The NOT_READY answer of BOOT (R158 step 1). -/
def Answer.notReady : Answer := .withStatus .notReady .none

/-- The kind of the reply to a request kind (R157): the kind value plus 128. -/
def replyKind (kind : Nat) : Nat := kind + 128

/-- A request of a listed kind arrives whole on a link and is answered by the checks of R158. -/
def State.serve (s : State) (p : Port) (kind tag : Nat) (links : Served) (body : Option Handler) : State :=
  s.accept p fun s =>
    let r := if s.mode = .boot then (s, Answer.notReady) else s.checked p links body
    (r.1, { kind := replyKind kind, tag := tag, answer := r.2 })

/-! ### Kind values (Table 10-4) -/

/-- The reply kind of a NOT_READY reply to a kind value that is not listed; from 128 on it is a free value (R157, log 13). -/
def unlistedReplyKind (kind : Nat) : Nat := if kind < 128 then replyKind kind else Config.wideReplyKind kind

/-- The reply to a request of a kind value that is not a request kind (R158 steps 1 and 2). -/
def State.unknownKindReply (s : State) (tag kind : Nat) : Reply :=
  if s.mode = .boot then { kind := unlistedReplyKind kind, tag := tag, answer := .notReady }
  else { kind := 0xFF, tag := tag, answer := .withStatus .unknownKind (.kindReceived kind) }

/-! ### Commands of the receivers and buffers -/

/-- The reply to a WARM RESTART that was taken (R174, Table 10-4: 0x95). -/
def Reply.ordersRestart (r : Reply) : Bool := r.kind == 0x95 && r.answer.status == .done

/-- The restart that a WARM RESTART ordered is due: its reply is the one the console link holds (R174). -/
def State.restartOrdered (s : State) : Bool :=
  match (s.link 0).buffer with
  | some r => r.ordersRestart
  | none => false

/-- WARM_RESTART_TAKEN: the last byte of the WARM RESTART reply has left the console link (R174); with no such reply nothing is taken (log 3). -/
def execWarmRestartTaken (s : State) : Host.Outcome State Fault Refusal := .next (if s.restartOrdered then s.warmRestart else s)

/-- REPLY_SENT: the last byte of a link's reply has left, and its buffer is FREE (R156); the reply to WARM RESTART brings the restart (R174,
log 6). -/
def execReplySent (port : Port) (s : State) : Host.Outcome State Fault Refusal :=
  .next <|
    if port = 0 ∧ s.restartOrdered then s.warmRestart
    else s.setLink port { s.link port with buffer := none }

/-- FRAME_BEGUN: a byte 0xC5 at a HUNTING receiver (R155); the bus receiver listens only while a poll awaits its reply. -/
def execFrameBegun (line : Line) (s : State) : Host.Outcome State Fault Refusal :=
  .next <|
    match line with
    | .link p => if s.loader = .held then s else s.setLink p { s.link p with receiver := .receiving }
    | .bus => if s.awaiting.isSome then { s with poller := { s.poller with receiver := .receiving } } else s

/-- FRAME_DISCARDED: a frame fails its LENGTH, ADDRESS or CRC (R155); on the bus that ends the poll as a BAD_FRAME (R38). -/
def execFrameDiscarded (line : Line) (_cause : DiscardCause) (s : State) : Host.Outcome State Fault Refusal :=
  .next <|
    match line with
    | .link p => s.hunt p
    | .bus => s.pollEnds .badFrame 0

/-- INTER_BYTE_GAP: more than 5 ms inside a frame (R155); on the bus that ends the poll as a BAD_FRAME (R38). -/
def execInterByteGap (line : Line) (s : State) : Host.Outcome State Fault Refusal :=
  .next <|
    match line with
    | .link p => s.hunt p
    | .bus => if s.poller.receiver = .receiving then s.pollEnds .badFrame 0 else s

/-- FRAME_WHILE_HELD: a whole frame finds the buffer HELD and is discarded (R156); on a FREE buffer it is no frame of this kind (log 3). -/
def execFrameWhileHeld (port : Port) (s : State) : Host.Outcome State Fault Refusal :=
  .next (if (s.link port).buffer.isSome then s.hunt port else s)

/-- UNKNOWN_KIND: a request whose kind value Table 10-4 does not list (R158); a listed kind is no request of this command (log 3). -/
def execUnknownKind (port : Port) (tag kind : Nat) (s : State) : Host.Outcome State Fault Refusal :=
  .next (if requestKinds.contains kind then s else s.accept port fun s => (s, s.unknownKindReply tag kind))

/-- WITNESS_ENTRY_SENT: the last byte of the head entry has been sent (R172). -/
def execWitnessEntrySent (s : State) : Host.Outcome State Fault Refusal := .next { s with witness := s.witness.entrySent }

end Sys2Proof.Machine
end

