-- ==== Sys2Proof/Machine/StageRequests.lean ====
section
/-! DEFINITION. The requests of a stage link: ENROL, REPORT, GO LIVE, GO QUIET and FORECAST (chapters 5, 6, 8, 9). -/

namespace Sys2Proof.Machine

/-! ### ENROL (R79, R80) -/

/-- Another slot, bound to another port, holds the identity (R79 step 2). -/
def State.boundElsewhere (s : State) (p : Port) (id : Identity) : Bool :=
  allSlots.any fun i =>
    let x := s.slot i
    x.identity == some id && x.port.isSome && x.port != some p

/-- The slot an ENROL takes: the unbound FIXED slot with the identity, or else the lowest OPEN slot that is EMPTY or would be once the port's
present slot is emptied (R80). -/
def State.chosenSlot (s : State) (bound : Option SlotId) (id : Identity) : Option SlotId :=
  match allSlots.find? fun i => (s.slot i).kind == .fixed && (s.slot i).identity == some id && (s.slot i).port.isNone with
  | some i => some i
  | none => allSlots.find? fun i => (s.slot i).kind == .openKind && ((s.slot i).state == .empty || bound == some i)

/-- The port's present slot is unbound, or emptied (R80 step 1). -/
def State.releaseSlot (s : State) (bound : Option SlotId) : State :=
  match bound with
  | none => s
  | some i =>
    match (s.slot i).kind with
    | .fixed => s.unbindSlot i
    | .openKind => s.emptySlot i

/-- The answer to an ENROL taken (R79, R80). -/
def State.enrolled (s : State) (i : SlotId) (check : Nat) : Answer :=
  .done (.enrolled i (s.slot i).weight (s.slot i).stageMax check)

/-- Steps 3 and 4 of R79, and the taking of R80. -/
def State.enrolSlot (s : State) (p : Port) (bound : Option SlotId) (a : EnrolArgs) : State × Answer :=
  if bound.any fun i => !(s.slot i).settledQuiet then (s, .refusedWith .portBusy (.enrolCheck a.check))
  else
    match s.chosenSlot bound a.identity with
    | none => (s, .refusedWith .full (.enrolCheck a.check))
    | some i =>
      let t := (s.releaseSlot bound).bindSlot i p a.identity
      (t, t.enrolled i a.check)

/-- ENROL at the stage table (R79, R80). -/
def State.takeEnrol (p : Port) (a : EnrolArgs) (s : State) : State × Answer :=
  match s.boundSlot p with
  | some i =>
    if (s.slot i).identity = some a.identity then (s, s.enrolled i a.check)
    else if s.boundElsewhere p a.identity then (s, .refusedWith .duplicate (.enrolCheck a.check))
    else s.enrolSlot p (some i) a
  | none =>
    if s.boundElsewhere p a.identity then (s, .refusedWith .duplicate (.enrolCheck a.check))
    else s.enrolSlot p none a

/-- ENROL (R79, R80). -/
def execEnrol (port : Port) (tag : Nat) (args : Params EnrolArgs) (s : State) : Host.Outcome State Fault Refusal :=
  .next (s.serve port 0x01 tag .stages (handled args (State.takeEnrol port)))

/-! ### REPORT (R87 to R93) -/

/-- A request of the port's bound slot; without one it is refused with NOT_ENROLLED (R73, R87, R127, R135). -/
def forBoundSlot (p : Port) (owner : SlotId → Handler) : Handler := fun s =>
  match s.boundSlot p with
  | some i => owner i s
  | none => s.refuse .notEnrolled

/-- The limit for judgement of a report (R89). -/
def Slot.judgementLimit (x : Slot) (serial : Nat) : Level :=
  if serial = x.serial then x.published else max x.published x.previous

/-- The report confirms the current ceiling (R92). -/
def Slot.confirms (x : Slot) (level serial : Nat) : Bool := serial == x.serial && decide (level ≤ x.published)

/-- The over count after a report (R90). -/
def Slot.nextOver (x : Slot) (isOver : Bool) : Nat := if isOver then min 32 (x.overCount + 1) else 0

/-- The good count after a report (R90). -/
def Slot.nextGood (x : Slot) (isOver : Bool) : Nat := if isOver then 0 else min 255 (x.goodCount + 1)

/-- The OVER cause after a report (R91). -/
def Slot.nextHasOver (x : Slot) (site : Site) (isOver : Bool) : Bool :=
  if isOver then x.causes.hasOver || decide (site.overLimit ≤ x.nextOver true)
  else x.causes.hasOver && !decide (site.releaseCount ≤ x.nextGood false)

/-- The report is over: its level is strictly above the limit for judgement plus the tolerance (R89). -/
def Slot.judgedOver (x : Slot) (site : Site) (level serial : Nat) : Bool := decide (x.judgementLimit serial + site.tolerance < level)

/-- The slot record after a REPORT, its level already saturated (R88 to R92). -/
def Slot.reported (x : Slot) (site : Site) (level serial : Nat) : Slot :=
  let isOver := x.judgedOver site level serial
  { x with
    lastLevel := some level
    reportAge := some 0
    stale := false
    overCount := x.nextOver isOver
    goodCount := x.nextGood isOver
    causes :=
      { x.causes with
        hasOver := x.nextHasOver site isOver
        hasStale := x.causes.hasStale && !x.stale
        hasHandover := x.causes.hasHandover && !x.confirms level serial }
    debt := x.debt && !x.confirms level serial }

/-- The items of the reply to a REPORT (R93). -/
def State.reportItems (s : State) (i : SlotId) : Items :=
  let x := s.slot i
  .report i x.published x.serial x.state x.causes x.debt x.outcome

/-- REPORT at the report checker, for the port's bound slot (R88 to R93). DEDUCED (log 18): the change of the record, with its CLAMP notice and copy, comes
before what the arbiter does at a debt cleared (R92, R132), be it the grant of the head or the head's ADMISSION notice with the debts that remain. -/
def State.takeReport (a : ReportArgs) (i : SlotId) : Handler := fun s =>
  let x := s.slot i
  let level := saturate a.level
  let t := s.updClamped i (fun y => y.reported s.site level a.serial) .report (some (level, a.serial, x.judgementLimit a.serial))
  let u := if x.debt && x.confirms level a.serial then t.debtCleared else t
  (u, .done (u.reportItems i))

/-- REPORT (R87). -/
def execReport (port : Port) (tag : Nat) (args : Params ReportArgs) (s : State) : Host.Outcome State Fault Refusal :=
  .next (s.serve port 0x02 tag .stages (handled args fun a => forBoundSlot port (State.takeReport a)))

/-! ### GO LIVE (R127 to R130) -/

/-- The slot is audible at a receptor of a zone that is FADING or SILENCED (R128 step 2). -/
def State.underCurfew (s : State) (i : SlotId) : Bool :=
  allReceptors.any fun r => match s.receptor r with
    | some x => s.audible i r && (s.zone x.zone).state != .opened
    | none => false

/-- A QUIET slot joins the queue at its tail (R128, R130). -/
def State.joinQueue (s : State) (i : SlotId) : State :=
  let a := (s.updSlot i fun x => { x with outcome := .none }).setQueue (s.arbiter.queue ++ [i])
  if s.arbiter.queue.isEmpty then a.becomeHead i
  else ((a.updSlot i fun x => { x with state := .waiting }).postStageState i).postAdmission i none

/-- The PENDING answer with the slot's position in the queue (R128, R129). -/
def State.pendingAnswer (s : State) (i : SlotId) : Answer := .withStatus .pending (.position ((s.queuePosition i).getD 0))

/-- GO LIVE at the admission arbiter, for the port's bound slot (R128, R129). -/
def State.takeGoLive (i : SlotId) : Handler := fun s =>
  match (s.slot i).state with
  | .quiet =>
    if s.mapped i then
      if s.underCurfew i then s.refuse .curfew
      else
        let t := s.joinQueue i
        (t, t.pendingAnswer i)
    else s.refuse .unmapped
  | .waiting => (s, s.pendingAnswer i)
  | .entering => (s, s.pendingAnswer i)
  | .live => (s, .withStatus .granted (.granted (s.slot i).published (s.slot i).serial))
  | .empty => s.refuse .notEnrolled

/-- A request answered NOT_READY in SETUP (R127, R145). -/
def notInSetup (handler : Handler) : Handler := fun s => if s.mode = .setup then (s, .notReady) else handler s

/-- GO LIVE (R127). -/
def execGoLive (port : Port) (tag : Nat) (s : State) : Host.Outcome State Fault Refusal :=
  .next (s.serve port 0x03 tag .stages (some (notInSetup (forBoundSlot port State.takeGoLive))))

/-! ### GO QUIET (R135 to R137) -/

/-- GO QUIET or FORCE QUIET for a slot, answered DONE with the slot's state after it; from QUIET nothing changes (R135, R138). A slot that this makes
settled QUIET with its report age past the age time then ages out (R81); the reply shows the state the request gave it (log 50). -/
def State.takeQuiet (forced : Bool) (i : SlotId) : Handler := fun s =>
  let t := s.quietSlot i forced
  (if (s.slot i).state = .quiet then t else t.ageSlot i, .done (.slotState (t.slot i).state))

/-- GO QUIET (R135). -/
def execGoQuiet (port : Port) (tag : Nat) (s : State) : Host.Outcome State Fault Refusal :=
  .next (s.serve port 0x04 tag .stages (some (forBoundSlot port (State.takeQuiet false))))

/-! ### FORECAST (R145 to R147) -/

/-- The owner port and the query of the latch, in every state but EMPTY (R144). -/
def Latch.held : Latch → Option (Port × List SlotId)
  | .empty => none
  | .queued o q => some (o, q)
  | .computing o q => some (o, q)
  | .ready o q _ _ _ _ => some (o, q)

/-- An EMPTY latch takes a query; an IDLE engine begins its pass at once (R109, R146). -/
def State.takeQuery (s : State) (p : Port) (q : List SlotId) : State :=
  let a := { s with latch := .queued p q }
  match s.engine.activity with
  | .idle => a.beginForecast
  | _ => a

/-- The DEFER answer: the latch state after the request, and the match indication (R146). -/
def State.deferAnswer (s : State) (matched : Bool) : Answer := .withStatus .defer (.defer s.latch.code matched)

/-- A FORECAST that passed its checks meets the latch (R146, R147). -/
def State.meetLatch (s : State) (p : Port) (q : List SlotId) : State × Answer :=
  match s.latch with
  | .empty =>
    let t := s.takeQuery p q
    (t, t.deferAnswer true)
  | .ready o q' result m sec _ =>
    if o = p ∧ q' = q then ({ s with latch := .empty }, .done (.forecast result m sec)) else (s, s.deferAnswer false)
  | l => (s, s.deferAnswer (l.held == some (p, q)))

/-- FORECAST at the latch (R145). -/
def State.takeForecastRequest (p : Port) (slots : List Nat) : Handler := fun s =>
  if s.mode = .setup ∧ p ≠ 0 then (s, .notReady)
  else if slots.isEmpty ∨ 8 < slots.length then s.refuse .noSuch
  else
    match queryOf slots with
    | none => s.refuse .noSuch
    | some q => s.meetLatch p q

/-- FORECAST (R145). -/
def execForecast (port : Port) (tag : Nat) (slots : Params (List Nat)) (s : State) : Host.Outcome State Fault Refusal :=
  .next (s.serve port 0x05 tag .both (handled slots (State.takeForecastRequest port)))

end Sys2Proof.Machine
end

