-- ==== Sys2Proof/Machine/Console.lean ====
section
/-! DEFINITION. The console's requests but for the tables: IDENTIFY, status, clock, modes, caps, clamps, evictions, notices, saves. -/

namespace Sys2Proof.Machine

/-- A request of the console link with no parameters. -/
def State.consoleRequest (s : State) (p : Port) (kind tag : Nat) (handler : Handler) : State := s.serve p kind tag .console (some handler)

/-- The table engine runs a long operation (R166). -/
def State.tableBusy (s : State) : Bool := s.table != .idle

/-- The answer BUSY (R159, R166). -/
def Answer.busy : Answer := .withStatus .busy .none

/-! ### IDENTIFY and SITE STATUS (R22, R143, R152, R161, R162) -/

/-- IDENTIFY at the link interface (R162): the part code 816 and the format number 1. -/
def takeIdentify : Handler := fun s => (s, .done (.identify 816 1 s.mode s.clock.isSet s.startKind))

/-- IDENTIFY. -/
def execIdentify (port : Port) (tag : Nat) (s : State) : Host.Outcome State Fault Refusal :=
  .next (s.consoleRequest port 0x10 tag takeIdentify)

/-- SITE STATUS in its three parts (R161). -/
def takeSiteStatus (part : Nat) : Handler := fun s =>
  match part with
  | 1 => (s, .done (.siteClock s.mode s.clock.isSet s.clock.minute s.clock.second s.zones))
  | 2 => (s, .done (.siteAdmission s.arbiter.queue s.arbiter.phase s.debtSet s.arbiter.timer))
  | 3 => (s, .done (.siteLatch s.latch))
  | _ => s.refuse .noSuch

/-- SITE STATUS. -/
def execSiteStatus (port : Port) (tag : Nat) (part : Params Nat) (s : State) : Host.Outcome State Fault Refusal :=
  .next (s.serve port 0x11 tag .console (handled part takeSiteStatus))

/-! ### The clock and the modes (R17, R19, R21) -/

/-- SET CLOCK (R17). -/
def takeSetClock (a : ClockArgs) : Handler := fun s =>
  if s.mode = .enforce then s.refuse .wrongMode
  else
    let minute := clampSetting 0 1439 a.minute
    let second := clampSetting 0 59 a.second
    let t : State := { s with clock := { ms := 0, minute := minute.value, second := second.value, isSet := true } }
    (t.evaluateZones, .doneAdjusted (minute.adjusted || second.adjusted) .none)

/-- SET CLOCK. -/
def execSetClock (port : Port) (tag : Nat) (args : Params ClockArgs) (s : State) : Host.Outcome State Fault Refusal :=
  .next (s.serve port 0x12 tag .console (handled args takeSetClock))

/-- Any receptor has a record. -/
def State.anyReceptor (s : State) : Bool := allReceptors.any fun r => (s.receptor r).isSome

/-- The taking of ENTER ENFORCE: the zones are evaluated under the SETUP rules, the mode becomes ENFORCE, a trigger is raised (R19). -/
def State.beginEnforce (s : State) : State := ({ s.evaluateZones with mode := .enforce } : State).trigger

/-- ENTER ENFORCE (R19). -/
def takeEnterEnforce : Handler := fun s =>
  if s.mode = .enforce then (s, .done .none)
  else if s.tableBusy then (s, .busy)
  else if s.clock.isSet = false then s.refuse .clockUnset
  else if s.anyReceptor then (s.beginEnforce, .done .none)
  else s.refuse .noSuch

/-- ENTER ENFORCE. -/
def execEnterEnforce (port : Port) (tag : Nat) (s : State) : Host.Outcome State Fault Refusal :=
  .next (s.consoleRequest port 0x13 tag takeEnterEnforce)

/-- Every occupied slot is QUIET and the queue is empty (R21). -/
def State.allQuiet (s : State) : Bool :=
  (allSlots.all fun i => !(s.slot i).state.occupied || (s.slot i).state == .quiet) && s.arbiter.queue.isEmpty

/-- RETURN TO SETUP (R21). -/
def takeReturnToSetup : Handler := fun s =>
  if s.mode = .enforce then
    if s.allQuiet then ({ s with mode := .setup }, .done .none) else s.refuse .notQuiet
  else (s, .done .none)

/-- RETURN TO SETUP. -/
def execReturnToSetup (port : Port) (tag : Nat) (s : State) : Host.Outcome State Fault Refusal :=
  .next (s.consoleRequest port 0x14 tag takeReturnToSetup)

/-- WARM RESTART at the settings loader; the restart follows the reply (R174). -/
def takeWarmRestart : Handler := fun s => if s.mode = .enforce then s.refuse .wrongMode else (s, .done .none)

/-- WARM RESTART. -/
def execWarmRestart (port : Port) (tag : Nat) (s : State) : Host.Outcome State Fault Refusal :=
  .next (s.consoleRequest port 0x15 tag takeWarmRestart)

/-! ### Requests that name an occupied slot (R98, R99, R101, R102, R138) -/

/-- The slot a request names; NO_SUCH for a number outside 1 to 8 and for an EMPTY slot. -/
def forOccupied (n : Nat) (owner : SlotId → Handler) : Handler := fun s =>
  match slotOf n with
  | none => s.refuse .noSuch
  | some i => if (s.slot i).state.occupied then owner i s else s.refuse .noSuch

/-- PUSH CAP on an occupied slot (R101). -/
def takePushCap (cap : Nat) (i : SlotId) : Handler := fun s =>
  let c := clampSetting 0 1400 cap
  if 4 ≤ (s.slot i).caps.length then s.refuse .stackFull
  else
    let t := (s.updSlot i fun x => { x with caps := c.value :: x.caps }).trigger
    (t, .doneAdjusted c.adjusted (.capPushed ((s.slot i).caps.length + 1) c.value))

/-- PUSH CAP. -/
def execPushCap (port : Port) (tag : Nat) (args : Params CapArgs) (s : State) : Host.Outcome State Fault Refusal :=
  .next (s.serve port 0x20 tag .console (handled args fun a => forOccupied a.slot (takePushCap a.cap)))

/-- POP CAP on an occupied slot (R102). -/
def takePopCap (i : SlotId) : Handler := fun s =>
  match (s.slot i).caps with
  | [] => s.refuse .stackEmpty
  | _ :: rest => ((s.updSlot i fun x => { x with caps := rest }).trigger, .done (.capStack rest.length rest.head?))

/-- POP CAP. -/
def execPopCap (port : Port) (tag : Nat) (slot : Params Nat) (s : State) : Host.Outcome State Fault Refusal :=
  .next (s.serve port 0x21 tag .console (handled slot fun n => forOccupied n takePopCap))

/-- The CONSOLE cause of a slot is added or removed, answered with the causes after it (R98, R99). -/
def State.setConsole (s : State) (i : SlotId) (present : Bool) (event : ClampEvent) : State × Answer :=
  let t := s.updClamped i (fun x => { x with causes := { x.causes with hasConsole := present } }) event none
  (t, .done (.causes (t.slot i).causes))

/-- FORCE CLAMP (R98). -/
def execForceClamp (port : Port) (tag : Nat) (slot : Params Nat) (s : State) : Host.Outcome State Fault Refusal :=
  .next (s.serve port 0x22 tag .console (handled slot fun n => forOccupied n fun i s => s.setConsole i true .forceClamp))

/-- RELEASE CLAMP (R99). -/
def execReleaseClamp (port : Port) (tag : Nat) (slot : Params Nat) (s : State) : Host.Outcome State Fault Refusal :=
  .next (s.serve port 0x23 tag .console (handled slot fun n => forOccupied n fun i s => s.setConsole i false .releaseClamp))

/-- FORCE QUIET (R138). -/
def execForceQuiet (port : Port) (tag : Nat) (slot : Params Nat) (s : State) : Host.Outcome State Fault Refusal :=
  .next (s.serve port 0x24 tag .console (handled slot fun n => forOccupied n (State.takeQuiet true)))

/-! ### EVICT (R82) -/

/-- The eviction of a settled QUIET slot: a bound FIXED slot is unbound, an OPEN slot is emptied (R82). -/
def State.evictSlot (s : State) (i : SlotId) : State :=
  match (s.slot i).kind with
  | .fixed => if (s.slot i).port.isSome then s.unbindSlot i else s
  | .openKind => s.emptySlot i

/-- EVICT at the stage table (R82). -/
def takeEvict (n : Nat) : Handler := fun s =>
  match slotOf n with
  | none => s.refuse .noSuch
  | some i => if (s.slot i).settledQuiet then (s.evictSlot i, .done .none) else s.refuse .notQuiet

/-- EVICT. -/
def execEvict (port : Port) (tag : Nat) (slot : Params Nat) (s : State) : Host.Outcome State Fault Refusal :=
  .next (s.serve port 0x25 tag .console (handled slot takeEvict))

/-! ### Notices (R170, R171) -/

/-- The number of oldest notices that fit: at most `count`, stopping before the first that would pass the room left (R170). -/
def fitting (room count : Nat) : List Notice → Nat
  | [] => 0
  | n :: ns =>
    match count with
    | 0 => 0
    | k + 1 => if n.bytes.length ≤ room then fitting (room - n.bytes.length) k ns + 1 else 0

/-- The bytes a READ NOTICES reply body leaves to the notices: 60 less the kind, tag, status, ADJUSTED flag, the two counts and the lost flag. -/
def noticeRoom : Nat := 53

/-- The number of notices a READ NOTICES returns: at least one while the queue is not empty (R170). -/
def NoticeQueue.returnedCount (q : NoticeQueue) (count : Nat) : Nat :=
  if q.notices.isEmpty then 0 else max 1 (fitting noticeRoom count q.notices)

/-- READ NOTICES at the notice queue (R170). -/
def takeReadNotices (count : Nat) : Handler := fun s =>
  let c := clampSetting 1 8 count
  let n := s.notices.returnedCount c.value
  let rest := s.notices.notices.drop n
  ({ s with notices := { s.notices with notices := rest, lost := false } },
   .doneAdjusted c.adjusted (.notices (s.notices.notices.take n) rest.length s.notices.lost))

/-- READ NOTICES. -/
def execReadNotices (port : Port) (tag : Nat) (count : Params Nat) (s : State) : Host.Outcome State Fault Refusal :=
  .next (s.serve port 0x28 tag .console (handled count takeReadNotices))

/-- SET ATTENTION MASK at the notice queue; an enable that is neither 0 nor 1 refuses the request (R160, R171). -/
def takeSetMask (enables : Vector Nat 10) : Handler := fun s =>
  if (List.finRange 10).all fun k => (flagOf (enables.get k)).isSome then
    let mask := Vector.ofFn fun k => enables.get k == 1
    ({ s with notices := { s.notices with mask := mask } }, .done (.mask mask))
  else s.refuse .noSuch

/-- SET ATTENTION MASK. -/
def execSetAttentionMask (port : Port) (tag : Nat) (enables : Params (Vector Nat 10)) (s : State) : Host.Outcome State Fault Refusal :=
  .next (s.serve port 0x29 tag .console (handled enables takeSetMask))

/-! ### SAVE SETTINGS (R177) -/

/-- SAVE SETTINGS at the settings loader (R177). -/
def takeSaveSettings : Handler := fun s =>
  if s.mode = .enforce then s.refuse .wrongMode
  else if s.tableBusy then (s, .busy)
  else ({ s with table := .saving s.captureSettings }, .done .none)

/-- SAVE SETTINGS. -/
def execSaveSettings (port : Port) (tag : Nat) (s : State) : Host.Outcome State Fault Refusal :=
  .next (s.consoleRequest port 0x2C tag takeSaveSettings)

end Sys2Proof.Machine
end

