-- ==== Sys2Proof/Machine/SiteTables.lean ====
section
/-! DEFINITION. The table engine's front, and the SITE, ZONE and RECEPTOR tables (R30 to R33, R50 to R54, R67, R166, R168). -/

namespace Sys2Proof.Machine

/-- The kind values of the table requests (Table 10-4). -/
def kindWrite : Nat := 0x18
/-- TABLE DELETE. -/
def kindDelete : Nat := 0x19
/-- TABLE FIND. -/
def kindFind : Nat := 0x1A
/-- TABLE READ. -/
def kindRead : Nat := 0x1B
/-- TABLE CLEAR. -/
def kindClear : Nat := 0x1C

/-- The table engine hands a request to the table's owner in IDLE and answers BUSY otherwise (R166). -/
def whenIdle (handler : Handler) : Handler := fun s => if s.tableBusy then (s, .busy) else handler s

/-- A table request of the console link (R158, R166). -/
def State.tableRequest {α : Type} (s : State) (p : Port) (kind tag : Nat) (args : Params α) (owner : α → Handler) : State :=
  s.serve p kind tag .console ((handled args owner).map whenIdle)

/-! ### SITE (R168) -/

/-- The enables of a SITE write; absent when one is neither 0 nor 1 (R160). -/
def siteEnables (a : SiteArgs) : Option WitnessEnables :=
  match flagOf a.stationReply, flagOf a.minute, flagOf a.exceedance, flagOf a.ceiling, flagOf a.clamp with
  | some e1, some e2, some e3, some e4, some e5 =>
    some { stationReply := e1, minute := e2, exceedance := e3, ceiling := e4, clamp := e5 }
  | _, _, _, _, _ => none

/-- The fields of a SITE write after clamping, and the number clamped. -/
def siteClamped (a : SiteArgs) (e : WitnessEnables) : Site × Nat :=
  clampSite a.blindMargin a.correctionRise a.correctionFall a.tolerance a.overLimit a.releaseCount a.staleTime a.ageTime
    a.handoverTime a.discardTime e

/-- A category enabled in one set is enabled in another. -/
def WitnessEnables.keeps (old new : WitnessEnables) : Bool :=
  (!old.stationReply || new.stationReply) && (!old.minute || new.minute) && (!old.exceedance || new.exceedance) &&
  (!old.ceiling || new.ceiling) && (!old.clamp || new.clamp)

/-- Some field of a SITE write loosens (R168, R173). -/
def Site.loosenedBy (old new : Site) : Bool :=
  decide (new.blindMargin < old.blindMargin) || decide (new.correctionRise < old.correctionRise) ||
  decide (old.correctionFall < new.correctionFall) || !old.enables.keeps new.enables

/-- The site parameters are replaced: the trigger of the blind margin, the SITE notice, then the stale and aged slots of lowered times (R60, R81,
R94, R168; log 22; among the slots log 52). -/
def State.replaceSite (s : State) (x : Site) : State :=
  let a := ({ s with site := x } : State).triggerIf (x.blindMargin != s.site.blindMargin)
  ((a.post (.site (.fields x))).staleAll).ageAll

/-- TABLE WRITE of SITE (R168). -/
def writeSite (a : SiteArgs) : Handler := fun s =>
  match siteEnables a with
  | none => s.refuse .noSuch
  | some e =>
    let v := siteClamped a e
    if s.mode = .enforce ∧ s.site.loosenedBy v.1 then s.refuse .isProtected
    else (s.replaceSite v.1, .doneAdjusted (decide (0 < v.2)) .none)

/-- TABLE WRITE SITE. -/
def execTableWriteSite (port : Port) (tag : Nat) (args : Params SiteArgs) (s : State) : Host.Outcome State Fault Refusal :=
  .next (s.tableRequest port kindWrite tag args writeSite)

/-- TABLE DELETE of SITE (R168). -/
def deleteSite : Handler := fun s =>
  if s.mode = .enforce then s.refuse .isProtected else (s.replaceSite siteDefault, .done .none)

/-- TABLE DELETE SITE. -/
def execTableDeleteSite (port : Port) (tag : Nat) (args : Params Unit) (s : State) : Host.Outcome State Fault Refusal :=
  .next (s.tableRequest port kindDelete tag args fun _ => deleteSite)

/-- TABLE FIND SITE: DONE with no field (R168). -/
def execTableFindSite (port : Port) (tag : Nat) (args : Params Unit) (s : State) : Host.Outcome State Fault Refusal :=
  .next (s.tableRequest port kindFind tag args fun _ s => (s, .done .none))

/-- TABLE READ SITE: DONE with every field (R168). -/
def execTableReadSite (port : Port) (tag : Nat) (args : Params Unit) (s : State) : Host.Outcome State Fault Refusal :=
  .next (s.tableRequest port kindRead tag args fun _ s => (s, .done (.site s.site)))

/-! ### ZONE (R30, R31, R33) -/

/-- The breakpoints of a write in ascending minute order, their limits clamped; absent when a curfew flag is neither 0 nor 1 (R30, R160). -/
def clampBreakpoints (bs : List BreakpointArgs) : Option (List Breakpoint) :=
  (bs.mapM fun b => (flagOf b.curfew).map fun c =>
    ({ minute := b.minute, limit := clampNat 0 1400 b.limit, curfew := c } : Breakpoint)).map sortBreakpoints

/-- Two breakpoints stand at the same minute (R30 step 3). -/
def repeatsMinute : List BreakpointArgs → Bool
  | [] => false
  | b :: bs => (bs.any fun c => c.minute == b.minute) || repeatsMinute bs

/-- A breakpoint list written in ENFORCE tightens: the same minutes and flags at the same positions, no limit raised (R33). -/
def breakpointsTighten : List Breakpoint → List Breakpoint → Bool
  | [], [] => true
  | o :: os, n :: ns => o.minute == n.minute && o.curfew == n.curfew && decide (n.limit ≤ o.limit) && breakpointsTighten os ns
  | _, _ => false

/-- A ZONE write in ENFORCE tightens (R33). -/
def Zone.tightenedBy (old : Zone) (bps : List Breakpoint) (ramp margin : Nat) : Bool :=
  breakpointsTighten old.breakpoints bps && decide (old.rampRate ≤ ramp) && decide (old.recoveryMargin ≤ margin)

/-- A ZONE write is taken (R30): the fields, the trigger of the recovery margin, the evaluation, the ZONE notice. -/
def State.replaceZone (s : State) (z : ZoneId) (bps : List Breakpoint) (ramp margin : Nat) : State :=
  let old := s.zone z
  let a := s.updZone z fun x =>
    { x with
      breakpoints := bps
      rampRate := ramp
      recoveryMargin := margin
      inForce := if s.mode = .enforce then x.inForce else none }
  ((a.triggerIf (old.recoveryMargin != margin)).evaluateZone z).postZone z

/-- TABLE WRITE of ZONE (R30). -/
def writeZone (a : ZoneArgs) : Handler := fun s =>
  match zoneOf a.zone with
  | none => s.refuse .noSuch
  | some z =>
    if 8 < a.breakpoints.length then s.refuse .full
    else if a.breakpoints.any fun b => decide (1439 < b.minute) then s.refuse .noSuch
    else
      match clampBreakpoints a.breakpoints with
      | none => s.refuse .noSuch
      | some bps =>
        if repeatsMinute a.breakpoints then s.refuse .duplicate
        else if a.breakpoints.isEmpty ∧ s.zoneUsed z then s.refuse .notEmpty
        else
          let ramp := clampSetting 1 50 a.rampRate
          let margin := clampSetting 0 60 a.recoveryMargin
          let limits := a.breakpoints.any fun b => decide (1400 < b.limit)
          if s.mode = .enforce ∧ !(s.zone z).tightenedBy bps ramp.value margin.value then s.refuse .isProtected
          else (s.replaceZone z bps ramp.value margin.value, .doneAdjusted (ramp.adjusted || margin.adjusted || limits) .none)

/-- TABLE WRITE ZONE. -/
def execTableWriteZone (port : Port) (tag : Nat) (args : Params ZoneArgs) (s : State) : Host.Outcome State Fault Refusal :=
  .next (s.tableRequest port kindWrite tag args writeZone)

/-- TABLE DELETE of ZONE (R31). -/
def deleteZone (n : Nat) : Handler := fun s =>
  match zoneOf n with
  | none => s.refuse .noSuch
  | some z =>
    if s.mode = .enforce then s.refuse .isProtected
    else if s.zoneUsed z then s.refuse .notEmpty
    else (s.unloadZone z, .done .none)

/-- TABLE DELETE ZONE. -/
def execTableDeleteZone (port : Port) (tag : Nat) (zone : Params Nat) (s : State) : Host.Outcome State Fault Refusal :=
  .next (s.tableRequest port kindDelete tag zone deleteZone)

/-- TABLE FIND and TABLE READ of ZONE return the stored fields of the record (R31). -/
def readZone (n : Nat) : Handler := fun s =>
  match zoneOf n with
  | none => s.refuse .noSuch
  | some z => (s, .done (.zone (s.zone z)))

/-- TABLE FIND ZONE. -/
def execTableFindZone (port : Port) (tag : Nat) (zone : Params Nat) (s : State) : Host.Outcome State Fault Refusal :=
  .next (s.tableRequest port kindFind tag zone readZone)

/-- TABLE READ ZONE. -/
def execTableReadZone (port : Port) (tag : Nat) (zone : Params Nat) (s : State) : Host.Outcome State Fault Refusal :=
  .next (s.tableRequest port kindRead tag zone readZone)

/-! ### RECEPTOR (R50 to R54, R67) -/

/-- Another receptor's record holds the station address (R50 step 4). -/
def State.addressTaken (s : State) (r : ReceptorId) (address : Nat) : Bool :=
  allReceptors.any fun q => q != r && match s.receptor q with
    | some x => x.address == address
    | none => false

/-- The station values of a new record, with the address written (R52). -/
def Receptor.restationed (x : Receptor) (address : Nat) : Receptor :=
  { x with
    address := address
    station := .new
    misses := 0
    accumulator := none
    ring := []
    level15 := none
    lastLevel := none }

/-- A station address is rewritten: the station values, the trigger of a blind receptor, the STATION notice, the poll abandoned (R52). -/
def State.restation (s : State) (r : ReceptorId) (old : Receptor) (address : Nat) : State :=
  let y := (s.receptor r).getD old |>.restationed address
  let a := ((s.setReceptor r (some y)).triggerIf (old.station == .active)).post (stationNotice r y)
  a.abandonPoll r

/-- The compliance values after a change of station address: residual cleared, correction 0 with its trigger (R67). -/
def State.clearCompliance (s : State) (r : ReceptorId) : State :=
  match s.receptor r with
  | none => s
  | some x =>
    (s.setReceptor r (some { x with residual := { sum := 0, count := 0 }, correction := 0 })).triggerIf (decide (0 < x.correction))

/-- A RECEPTOR write to an existing record is taken (R52, R67). DESIGN CHOICE (log 45): the open record is closed after both changes of the write,
so the trigger of the zone and the STATION notice come before the closing. -/
def State.editReceptor (s : State) (r : ReceptorId) (old : Receptor) (address : Nat) (zone : ZoneId) (floor : Level) : State :=
  let moved := old.zone != zone
  let rewired := old.address != address
  let a := (s.setReceptor r (some { old with zone := zone, floor := floor })).triggerIf moved
  let b := if rewired then a.restation r old address else a
  let c := if moved || rewired then b.closeExceedance r b.clock.minute .receptorEdited true else b
  if rewired then c.clearCompliance r else c

/-- TABLE WRITE of RECEPTOR (R50). -/
def writeReceptor (a : ReceptorArgs) : Handler := fun s =>
  match receptorOf a.receptor with
  | none => s.refuse .noSuch
  | some r =>
    if a.address = 0 ∨ 31 < a.address then s.refuse .noSuch
    else
      match zoneOf a.zone with
      | none => s.refuse .noSuch
      | some z =>
        if (s.zone z).breakpoints.isEmpty then s.refuse .noSuch
        else if s.addressTaken r a.address then s.refuse .duplicate
        else
          let floor := clampSetting 0 1400 a.floor
          match s.receptor r with
          | none => (s.setReceptor r (some (receptorCreated a.address z floor.value)), .doneAdjusted floor.adjusted .none)
          | some x =>
            if s.mode = .enforce ∧ (x.address ≠ a.address ∨ x.zone ≠ z) then s.refuse .isProtected
            else (s.editReceptor r x a.address z floor.value, .doneAdjusted floor.adjusted .none)

/-- TABLE WRITE RECEPTOR. -/
def execTableWriteReceptor (port : Port) (tag : Nat) (args : Params ReceptorArgs) (s : State) : Host.Outcome State Fault Refusal :=
  .next (s.tableRequest port kindWrite tag args writeReceptor)

/-- A receptor record is removed: its open record closed without a trigger, its poll abandoned (R53, R67). -/
def State.removeReceptor (s : State) (r : ReceptorId) : State :=
  ((s.closeExceedance r s.clock.minute .receptorEdited false).setReceptor r none).abandonPoll r

/-- A request that names a receptor with a record; NO_SUCH otherwise (R53, R54). -/
def forReceptor (n : Nat) (owner : ReceptorId → Receptor → Handler) : Handler := fun s =>
  match receptorOf n with
  | none => s.refuse .noSuch
  | some r =>
    match s.receptor r with
    | none => s.refuse .noSuch
    | some x => owner r x s

/-- TABLE DELETE of RECEPTOR (R53). -/
def deleteReceptor (r : ReceptorId) (_x : Receptor) : Handler := fun s =>
  if s.mode = .enforce then s.refuse .isProtected
  else if s.receptorNamed r then s.refuse .notEmpty
  else (s.removeReceptor r, .done .none)

/-- TABLE DELETE RECEPTOR. -/
def execTableDeleteReceptor (port : Port) (tag : Nat) (receptor : Params Nat) (s : State) : Host.Outcome State Fault Refusal :=
  .next (s.tableRequest port kindDelete tag receptor fun n => forReceptor n deleteReceptor)

/-- TABLE FIND of RECEPTOR, and of RING: a record exists (R54, R166). -/
def findReceptor (n : Nat) : Handler := forReceptor n fun _ _ s => (s, .done .none)

/-- TABLE FIND RECEPTOR. -/
def execTableFindReceptor (port : Port) (tag : Nat) (receptor : Params Nat) (s : State) : Host.Outcome State Fault Refusal :=
  .next (s.tableRequest port kindFind tag receptor findReceptor)

/-- TABLE READ of RECEPTOR (R54). -/
def readReceptor (n : Nat) : Handler := forReceptor n fun _ x s => (s, .done (.receptor x))

/-- TABLE READ RECEPTOR. -/
def execTableReadReceptor (port : Port) (tag : Nat) (receptor : Params Nat) (s : State) : Host.Outcome State Fault Refusal :=
  .next (s.tableRequest port kindRead tag receptor readReceptor)

end Sys2Proof.Machine
end

