-- ==== Sys2Proof/Machine/StageTables.lean ====
section
/-! DEFINITION. The STAGE, PATH, EXCEEDANCE and RING tables and TABLE CLEAR (R68, R83 to R85, R104 to R106, R161, R166, R167). -/

namespace Sys2Proof.Machine

/-! ### STAGE (R83 to R85) -/

/-- Another slot holds the identity (R83 step 3). -/
def State.identityTaken (s : State) (i : SlotId) (id : Identity) : Bool :=
  allSlots.any fun j => j != i && (s.slot j).identity == some id

/-- The kind and the identity a STAGE write names: none for OPEN, the identity for FIXED (R83). -/
inductive StageKind where
  | openKind
  | fixed (id : Identity)
deriving DecidableEq, Repr

/-- The kind of a STAGE write, or absent: a kind byte or presence byte that names none of its set, or FIXED with no identity (R83, R160). -/
def stageKindOf (a : StageArgs) : Option StageKind :=
  match slotKindOf a.kind, a.identity with
  | some .openKind, .absent => some .openKind
  | some .openKind, .present _ => some .openKind
  | some .fixed, .present id => some (.fixed id)
  | _, _ => none

/-- The write would change the kind, or the identity of a FIXED slot (R83 step 4). -/
def Slot.rekindedBy (x : Slot) (k : StageKind) : Bool :=
  match x.kind, k with
  | .openKind, .openKind => false
  | .fixed, .fixed id => x.identity != some id
  | _, _ => true

/-- Step 1 of R84: the kind and the identity of an unbound slot. -/
def State.rekind (s : State) (i : SlotId) (k : StageKind) : State :=
  match (s.slot i).kind, k with
  | .openKind, .fixed id => s.updSlot i fun x => { x with kind := .fixed, identity := some id, state := .quiet }
  | .fixed, .openKind => s.emptySlot i
  | .fixed, .fixed id => s.updSlot i fun x => { x with identity := some id }
  | .openKind, .openKind => s

/-- A STAGE write is taken (R84). -/
def State.replaceStage (s : State) (i : SlotId) (k : StageKind) (weight : Nat) (stageMax : Level) : State :=
  let x := s.slot i
  let resized := x.weight != weight || x.stageMax != stageMax
  let a := if x.rekindedBy k then s.rekind i k else s
  let b := (a.updSlot i fun y => { y with weight := weight, stageMax := stageMax }).triggerIf resized
  if x.rekindedBy k || resized then b.postStageState i else b

/-- The identity of a FIXED write is held by another slot. -/
def State.kindTaken (s : State) (i : SlotId) : StageKind → Bool
  | .openKind => false
  | .fixed id => s.identityTaken i id

/-- A slot whose weight may not change: WAITING, ENTERING or LIVE (R83 step 6). -/
def SlotState.weightHeld (st : SlotState) : Bool := st.queued || st == .live

/-- TABLE WRITE of STAGE (R83, R84). -/
def writeStage (a : StageArgs) : Handler := fun s =>
  match slotOf a.slot with
  | none => s.refuse .noSuch
  | some i =>
    match stageKindOf a with
    | none => s.refuse .noSuch
    | some k =>
      let x := s.slot i
      let weight := clampSetting 1 4 a.weight
      let stageMax := clampSetting 0 1400 a.stageMax
      if s.kindTaken i k then s.refuse .duplicate
      else if x.port.isSome ∧ x.rekindedBy k then s.refuse .portBusy
      else if weight.value ≠ x.weight ∧ x.state.weightHeld then s.refuse .notQuiet
      else if s.mode = .enforce ∧ x.stageMax < stageMax.value then s.refuse .isProtected
      else (s.replaceStage i k weight.value stageMax.value, .doneAdjusted (weight.adjusted || stageMax.adjusted) .none)

/-- TABLE WRITE STAGE. -/
def execTableWriteStage (port : Port) (tag : Nat) (args : Params StageArgs) (s : State) : Host.Outcome State Fault Refusal :=
  .next (s.tableRequest port kindWrite tag args writeStage)

/-- An unbound slot returns to its unconfigured form (R85): a FIXED slot is emptied, then the weight and stage maximum, the trigger and the notice
(log 39). -/
def State.returnStage (s : State) (i : SlotId) : State :=
  let a := match (s.slot i).kind with
    | .fixed => s.emptySlot i
    | .openKind => s
  ((a.updSlot i fun x => { x with weight := 1, stageMax := 1050 }).trigger).postStageState i

/-- TABLE DELETE of STAGE (R85). -/
def deleteStage (n : Nat) : Handler := fun s =>
  if s.mode = .enforce then s.refuse .isProtected
  else
    match slotOf n with
    | none => s.refuse .noSuch
    | some i => if (s.slot i).port.isSome then s.refuse .portBusy else (s.returnStage i, .done .none)

/-- TABLE DELETE STAGE. -/
def execTableDeleteStage (port : Port) (tag : Nat) (slot : Params Nat) (s : State) : Host.Outcome State Fault Refusal :=
  .next (s.tableRequest port kindDelete tag slot deleteStage)

/-- TABLE FIND of STAGE, by identity (R85). -/
def findStage (id : Identity) : Handler := fun s =>
  match allSlots.find? fun i => (s.slot i).identity == some id with
  | some i => (s, .done (.slotNumber i))
  | none => s.refuse .noSuch

/-- TABLE FIND STAGE. -/
def execTableFindStage (port : Port) (tag : Nat) (identity : Params Identity) (s : State) : Host.Outcome State Fault Refusal :=
  .next (s.tableRequest port kindFind tag identity findStage)

/-- TABLE READ of STAGE (R85). -/
def readStage (n : Nat) : Handler := fun s =>
  match slotOf n with
  | none => s.refuse .noSuch
  | some i => (s, .done (.stage i (s.slot i)))

/-- TABLE READ STAGE. -/
def execTableReadStage (port : Port) (tag : Nat) (slot : Params Nat) (s : State) : Host.Outcome State Fault Refusal :=
  .next (s.tableRequest port kindRead tag slot readStage)

/-! ### PATH (R104 to R106) -/

/-- A request that names a path by its key; NO_SUCH for a slot or receptor out of range (R104, R105, R106). -/
def forPathKey (slot receptor : Nat) (owner : SlotId → ReceptorId → Handler) : Handler := fun s =>
  match slotOf slot, receptorOf receptor with
  | some i, some r => owner i r s
  | _, _ => s.refuse .noSuch

/-- A new path entry takes a free position, with its trigger and the word to the arbiter (R104, R140). DESIGN CHOICE (log 43): the trigger comes
before the arbiter's removal. -/
def State.createPath (s : State) (p : PathPos) (i : SlotId) (r : ReceptorId) (loss : Nat) : State :=
  ((s.setPath p (some { slot := i, receptor := r, loss := loss })).trigger).pathCreated i r

/-- The loss of an entry takes a value; a change is a trigger (R104). -/
def State.changeLoss (s : State) (p : PathPos) (i : SlotId) (r : ReceptorId) (old loss : Nat) : State :=
  (s.setPath p (some { slot := i, receptor := r, loss := loss })).triggerIf (old != loss)

/-- TABLE WRITE of PATH (R104). -/
def writePath (lossWritten : Nat) (i : SlotId) (r : ReceptorId) : Handler := fun s =>
  if (s.slot i).state = .empty then s.refuse .noSuch
  else if (s.receptor r).isNone then s.refuse .noSuch
  else
    let loss := clampSetting 0 1200 lossWritten
    match s.pathPosition i r with
    | some p =>
      let old := (s.pathLoss i r).getD 0
      if s.mode = .enforce ∧ old < loss.value then s.refuse .isProtected
      else (s.changeLoss p i r old loss.value, .doneAdjusted loss.adjusted (.pathPosition p))
    | none =>
      match s.freePathPosition with
      | none => s.refuse .full
      | some p => (s.createPath p i r loss.value, .doneAdjusted loss.adjusted (.pathPosition p))

/-- TABLE WRITE PATH. -/
def execTableWritePath (port : Port) (tag : Nat) (args : Params PathArgs) (s : State) : Host.Outcome State Fault Refusal :=
  .next (s.tableRequest port kindWrite tag args fun a => forPathKey a.slot a.receptor (writePath a.loss))

/-- TABLE DELETE of PATH (R105). -/
def deletePath (i : SlotId) (r : ReceptorId) : Handler := fun s =>
  match s.pathPosition i r with
  | none => s.refuse .noSuch
  | some p => if s.mode = .enforce then s.refuse .isProtected else ((s.setPath p none).trigger, .done .none)

/-- TABLE DELETE PATH. -/
def execTableDeletePath (port : Port) (tag : Nat) (key : Params PathKey) (s : State) : Host.Outcome State Fault Refusal :=
  .next (s.tableRequest port kindDelete tag key fun k => forPathKey k.slot k.receptor deletePath)

/-- TABLE FIND of PATH: the position and the loss (R106). -/
def findPath (i : SlotId) (r : ReceptorId) : Handler := fun s =>
  match s.pathPosition i r with
  | none => s.refuse .noSuch
  | some p => (s, .done (.pathFound p ((s.pathLoss i r).getD 0)))

/-- TABLE FIND PATH. -/
def execTableFindPath (port : Port) (tag : Nat) (key : Params PathKey) (s : State) : Host.Outcome State Fault Refusal :=
  .next (s.tableRequest port kindFind tag key fun k => forPathKey k.slot k.receptor findPath)

/-- TABLE READ of PATH, by position (R106). -/
def readPath (n : Nat) : Handler := fun s =>
  match (pathPosOf n).bind s.path with
  | none => s.refuse .noSuch
  | some e => (s, .done (.pathEntry e))

/-- TABLE READ PATH. -/
def execTableReadPath (port : Port) (tag : Nat) (position : Params Nat) (s : State) : Host.Outcome State Fault Refusal :=
  .next (s.tableRequest port kindRead tag position readPath)

/-! ### EXCEEDANCE (R68) -/

/-- TABLE WRITE EXCEEDANCE: refused with PROTECTED in both modes (R68). -/
def execTableWriteExceedance (port : Port) (tag : Nat) (position : Params Nat) (s : State) : Host.Outcome State Fault Refusal :=
  .next (s.tableRequest port kindWrite tag position fun _ s => s.refuse .isProtected)

/-- TABLE DELETE EXCEEDANCE: refused with PROTECTED in both modes (R68). -/
def execTableDeleteExceedance (port : Port) (tag : Nat) (position : Params Nat) (s : State) : Host.Outcome State Fault Refusal :=
  .next (s.tableRequest port kindDelete tag position fun _ s => s.refuse .isProtected)

/-- TABLE FIND of EXCEEDANCE: the position of a receptor's OPEN record (R68). -/
def findExceedance (n : Nat) : Handler := forReceptor n fun _ x s =>
  match x.exceedance with
  | some p => (s, .done (.excPosition p))
  | none => s.refuse .noSuch

/-- TABLE FIND EXCEEDANCE. -/
def execTableFindExceedance (port : Port) (tag : Nat) (receptor : Params Nat) (s : State) : Host.Outcome State Fault Refusal :=
  .next (s.tableRequest port kindFind tag receptor findExceedance)

/-- TABLE READ of EXCEEDANCE: the record and its rank on the creation list, from 1 at the oldest (R68). -/
def readExceedance (n : Nat) : Handler := fun s =>
  match excPosOf n with
  | none => s.refuse .noSuch
  | some p =>
    match s.excRecord p with
    | none => s.refuse .noSuch
    | some x => (s, .done (.excRecord p x (s.exceedances.created.idxOf p + 1)))

/-- TABLE READ EXCEEDANCE. -/
def execTableReadExceedance (port : Port) (tag : Nat) (position : Params Nat) (s : State) : Host.Outcome State Fault Refusal :=
  .next (s.tableRequest port kindRead tag position readExceedance)

/-! ### RING (R54, R161, R166) -/

/-- TABLE WRITE RING: refused with PROTECTED in both modes (R166). -/
def execTableWriteRing (port : Port) (tag : Nat) (receptor : Params Nat) (s : State) : Host.Outcome State Fault Refusal :=
  .next (s.tableRequest port kindWrite tag receptor fun _ s => s.refuse .isProtected)

/-- TABLE DELETE RING: refused with PROTECTED in both modes (R166). -/
def execTableDeleteRing (port : Port) (tag : Nat) (receptor : Params Nat) (s : State) : Host.Outcome State Fault Refusal :=
  .next (s.tableRequest port kindDelete tag receptor fun _ s => s.refuse .isProtected)

/-- TABLE FIND RING answers as a FIND of RECEPTOR (R166). -/
def execTableFindRing (port : Port) (tag : Nat) (receptor : Params Nat) (s : State) : Host.Outcome State Fault Refusal :=
  .next (s.tableRequest port kindFind tag receptor findReceptor)

/-- TABLE READ of RING: part 1 holds the records 1 to 8, part 2 the records 9 to 15 (R161). -/
def readRing (a : RingArgs) : Handler := forReceptor a.receptor fun _ x s =>
  match a.part with
  | 1 => (s, .done (.ring 1 x.ring.length (x.ring.take 8)))
  | 2 => (s, .done (.ring 2 x.ring.length (x.ring.drop 8)))
  | _ => s.refuse .noSuch

/-- TABLE READ RING. -/
def execTableReadRing (port : Port) (tag : Nat) (args : Params RingArgs) (s : State) : Host.Outcome State Fault Refusal :=
  .next (s.tableRequest port kindRead tag args readRing)

/-! ### TABLE CLEAR (R167) -/

/-- Why a CLEAR of a table is refused, if it is (R167). -/
def State.clearRefusal (s : State) (t : Table) : Option Reason :=
  match t with
  | .ring => some .isProtected
  | .site => if s.mode = .enforce then some .isProtected else none
  | .stage => if s.mode = .enforce then some .isProtected else none
  | .path => if s.mode = .enforce then some .wrongMode else none
  | .exceedance => if s.mode = .enforce then some .wrongMode else none
  | .receptor =>
    if s.mode = .enforce then some .wrongMode
    else if allPathPos.any fun p => (s.path p).isSome then some .notEmpty else none
  | .zone => if s.mode = .enforce then some .wrongMode else if s.anyReceptor then some .notEmpty else none

/-- TABLE CLEAR at the table engine (R167). -/
def takeClear (n : Nat) : Handler := fun s =>
  match tableOf n with
  | none => s.refuse .noSuch
  | some t =>
    match s.clearRefusal t with
    | some reason => s.refuse reason
    | none => ({ s with table := .clearing t }, .done .none)

/-- TABLE CLEAR. -/
def execTableClear (port : Port) (tag : Nat) (table : Params Nat) (s : State) : Host.Outcome State Fault Refusal :=
  .next (s.tableRequest port kindClear tag table takeClear)

/-! ### The completion of a clear (R167) -/

/-- The number of entries the path table holds. -/
def State.pathCount (s : State) : Nat := (allPathPos.filter fun p => (s.path p).isSome).length

/-- Every position of the path table becomes free (R106). -/
def State.clearPaths (s : State) : State :=
  ({ s with paths := Vector.replicate 64 none } : State).triggerIf (decide (0 < s.pathCount))

/-- The receptors that have a record, ascending. -/
def State.receptorsHeld (s : State) : List ReceptorId := allReceptors.filter fun r => (s.receptor r).isSome

/-- Every receptor record is removed, in ascending receptor number (R53, R167). -/
def State.clearReceptors (s : State) : State := s.receptorsHeld.foldl State.removeReceptor s

/-- Every zone takes its unloaded form, with a ZONE notice for each (R31, R167). DESIGN CHOICE (log 46): in ascending zone number. -/
def State.clearZones (s : State) : State := allZones.foldl State.unloadZone s

/-- The slots that hold no bound port, ascending. -/
def State.unboundSlots (s : State) : List SlotId := allSlots.filter fun i => (s.slot i).port.isNone

/-- Each slot that holds no bound port is returned to its unconfigured form (R85); DESIGN CHOICE (log 46): in ascending slot number. -/
def State.clearStages (s : State) : State := s.unboundSlots.foldl State.returnStage s

/-- The number of exceedance records. -/
def State.excCount (s : State) : Nat := (allExcPos.filter fun p => (s.excRecord p).isSome).length

/-- The open exceedance of a receptor is made absent, with a trigger, where it was present (R68). -/
def State.unlinkExceedance (s : State) (r : ReceptorId) : State :=
  if ((s.receptor r).bind (·.exceedance)).isSome then (s.updReceptor r fun x => { x with exceedance := none }).trigger else s

/-- Every position of the exceedance table becomes free, and the links with it (R68). DESIGN CHOICE (log 44): the links are made absent one after
another, in ascending receptor number, each with its trigger. -/
def State.clearExceedances (s : State) : State :=
  allReceptors.foldl State.unlinkExceedance { s with exceedances := excTableAtReset }

/-- What the completion of a clear does to its table, and the number of records or entries it removed or returned (R167). -/
def State.clearTable (s : State) (t : Table) : State × Nat :=
  match t with
  | .site => (s.replaceSite siteDefault, 1)
  | .zone => (s.clearZones, 4)
  | .receptor => (s.clearReceptors, s.receptorsHeld.length)
  | .stage => (s.clearStages, s.unboundSlots.length)
  | .path => (s.clearPaths, s.pathCount)
  | .exceedance => (s.clearExceedances, s.excCount)
  | .ring => (s, 0)

/-- TABLE_CLEAR_COMPLETION (R167); with no clear in progress nothing completes (log 3). -/
def execTableClearCompletion (s : State) : Host.Outcome State Fault Refusal :=
  .next <|
    match s.table with
    | .clearing t =>
      let r := s.clearTable t
      r.1.engineDone (.cleared t r.2)
    | _ => s

end Sys2Proof.Machine
end

