-- ==== Sys2Proof/Machine/Dispatch.lean ====
section
/-! DEFINITION. The dispatch of every command to its meaning. -/

namespace Sys2Proof.Machine

/-- The effect of a command on everything but the queue. -/
def exec (i : Instr) (s : State) : Host.Outcome State Fault Refusal :=
  match i with
  | .powerOnReset => Sys2Proof.Machine.execPowerOnReset s
  | .pinReset => Sys2Proof.Machine.execPinReset s
  | .resetRelease => Sys2Proof.Machine.execResetRelease s
  | .memoryNotAnswering => Sys2Proof.Machine.execMemoryNotAnswering s
  | .settingsLoadEnd => Sys2Proof.Machine.execSettingsLoadEnd s
  | .secondBoundary => Sys2Proof.Machine.execSecondBoundary s
  | .minuteBoundary => Sys2Proof.Machine.execMinuteBoundary s
  | .pollSent => Sys2Proof.Machine.execPollSent s
  | .stationReply address level flags => Sys2Proof.Machine.execStationReply address level flags s
  | .badFrame => Sys2Proof.Machine.execBadFrame s
  | .stationReplyTimeout => Sys2Proof.Machine.execStationReplyTimeout s
  | .recalculationPassEnd => Sys2Proof.Machine.execRecalculationPassEnd s
  | .forecastPassEnd => Sys2Proof.Machine.execForecastPassEnd s
  | .staleTimeExpiry slot => Sys2Proof.Machine.execStaleTimeExpiry slot s
  | .ageOut slot => Sys2Proof.Machine.execAgeOut slot s
  | .handoverTimerExpiry => Sys2Proof.Machine.execHandoverTimerExpiry s
  | .discardTimerExpiry => Sys2Proof.Machine.execDiscardTimerExpiry s
  | .tableClearCompletion => Sys2Proof.Machine.execTableClearCompletion s
  | .saveEnd => Sys2Proof.Machine.execSaveEnd s
  | .saveWriteTimeout sec write landed => Sys2Proof.Machine.execSaveWriteTimeout sec write landed s
  | .warmRestartTaken => Sys2Proof.Machine.execWarmRestartTaken s
  | .frameDiscarded line cause => Sys2Proof.Machine.execFrameDiscarded line cause s
  | .interByteGap line => Sys2Proof.Machine.execInterByteGap line s
  | .frameWhileHeld port => Sys2Proof.Machine.execFrameWhileHeld port s
  | .replySent port => Sys2Proof.Machine.execReplySent port s
  | .unknownKind port tag kind => Sys2Proof.Machine.execUnknownKind port tag kind s
  | .witnessEntrySent => Sys2Proof.Machine.execWitnessEntrySent s
  | .enrol port tag args => Sys2Proof.Machine.execEnrol port tag args s
  | .report port tag args => Sys2Proof.Machine.execReport port tag args s
  | .goLive port tag => Sys2Proof.Machine.execGoLive port tag s
  | .goQuiet port tag => Sys2Proof.Machine.execGoQuiet port tag s
  | .forceQuiet port tag slot => Sys2Proof.Machine.execForceQuiet port tag slot s
  | .forecast port tag slots => Sys2Proof.Machine.execForecast port tag slots s
  | .identify port tag => Sys2Proof.Machine.execIdentify port tag s
  | .siteStatus port tag part => Sys2Proof.Machine.execSiteStatus port tag part s
  | .setClock port tag args => Sys2Proof.Machine.execSetClock port tag args s
  | .enterEnforce port tag => Sys2Proof.Machine.execEnterEnforce port tag s
  | .returnToSetup port tag => Sys2Proof.Machine.execReturnToSetup port tag s
  | .warmRestart port tag => Sys2Proof.Machine.execWarmRestart port tag s
  | .tableWriteSite port tag args => Sys2Proof.Machine.execTableWriteSite port tag args s
  | .tableDeleteSite port tag args => Sys2Proof.Machine.execTableDeleteSite port tag args s
  | .tableFindSite port tag args => Sys2Proof.Machine.execTableFindSite port tag args s
  | .tableReadSite port tag args => Sys2Proof.Machine.execTableReadSite port tag args s
  | .tableWriteZone port tag args => Sys2Proof.Machine.execTableWriteZone port tag args s
  | .tableDeleteZone port tag zone => Sys2Proof.Machine.execTableDeleteZone port tag zone s
  | .tableFindZone port tag zone => Sys2Proof.Machine.execTableFindZone port tag zone s
  | .tableReadZone port tag zone => Sys2Proof.Machine.execTableReadZone port tag zone s
  | .tableWriteReceptor port tag args => Sys2Proof.Machine.execTableWriteReceptor port tag args s
  | .tableDeleteReceptor port tag receptor => Sys2Proof.Machine.execTableDeleteReceptor port tag receptor s
  | .tableFindReceptor port tag receptor => Sys2Proof.Machine.execTableFindReceptor port tag receptor s
  | .tableReadReceptor port tag receptor => Sys2Proof.Machine.execTableReadReceptor port tag receptor s
  | .tableWriteStage port tag args => Sys2Proof.Machine.execTableWriteStage port tag args s
  | .tableDeleteStage port tag slot => Sys2Proof.Machine.execTableDeleteStage port tag slot s
  | .tableFindStage port tag identity => Sys2Proof.Machine.execTableFindStage port tag identity s
  | .tableReadStage port tag slot => Sys2Proof.Machine.execTableReadStage port tag slot s
  | .tableWritePath port tag args => Sys2Proof.Machine.execTableWritePath port tag args s
  | .tableDeletePath port tag key => Sys2Proof.Machine.execTableDeletePath port tag key s
  | .tableFindPath port tag key => Sys2Proof.Machine.execTableFindPath port tag key s
  | .tableReadPath port tag position => Sys2Proof.Machine.execTableReadPath port tag position s
  | .tableWriteExceedance port tag position => Sys2Proof.Machine.execTableWriteExceedance port tag position s
  | .tableDeleteExceedance port tag position => Sys2Proof.Machine.execTableDeleteExceedance port tag position s
  | .tableFindExceedance port tag receptor => Sys2Proof.Machine.execTableFindExceedance port tag receptor s
  | .tableReadExceedance port tag position => Sys2Proof.Machine.execTableReadExceedance port tag position s
  | .tableWriteRing port tag receptor => Sys2Proof.Machine.execTableWriteRing port tag receptor s
  | .tableDeleteRing port tag receptor => Sys2Proof.Machine.execTableDeleteRing port tag receptor s
  | .tableFindRing port tag receptor => Sys2Proof.Machine.execTableFindRing port tag receptor s
  | .tableReadRing port tag args => Sys2Proof.Machine.execTableReadRing port tag args s
  | .tableClear port tag table => Sys2Proof.Machine.execTableClear port tag table s
  | .pushCap port tag args => Sys2Proof.Machine.execPushCap port tag args s
  | .popCap port tag slot => Sys2Proof.Machine.execPopCap port tag slot s
  | .forceClamp port tag slot => Sys2Proof.Machine.execForceClamp port tag slot s
  | .releaseClamp port tag slot => Sys2Proof.Machine.execReleaseClamp port tag slot s
  | .evict port tag slot => Sys2Proof.Machine.execEvict port tag slot s
  | .readNotices port tag count => Sys2Proof.Machine.execReadNotices port tag count s
  | .setAttentionMask port tag enables => Sys2Proof.Machine.execSetAttentionMask port tag enables s
  | .saveSettings port tag => Sys2Proof.Machine.execSaveSettings port tag s
  | .frameBegun line => Sys2Proof.Machine.execFrameBegun line s

end Sys2Proof.Machine
end

