-- ==== Sys2Proof/Machine/Idle.lean ====
section
/-! DEFINITION. What the controller does of itself when no command waits: a due event, or one millisecond of the timebase (R14, R15; log 1). -/

namespace Sys2Proof.Machine

/-- The wait for a station's reply has run out (R38). -/
def State.pollDue (s : State) : Bool :=
  match s.poller.poll with
  | some p => p.wait == some 0
  | none => false

/-- The discard timer has run out (R149). -/
def Latch.due : Latch → Bool
  | .ready _ _ _ _ _ left => left == 0
  | _ => false

/-- The completion of a pass or of a clear, or else one millisecond (R14, R111, R167). -/
def State.tick (s : State) : Host.Outcome State Fault Refusal :=
  match s.engine.activity, s.table with
  | .recalculating _, _ => execRecalculationPassEnd s
  | .forecasting .., _ => execForecastPassEnd s
  | .idle, .clearing _ => execTableClearCompletion s
  | .idle, _ =>
    if s.clock.ms < 999 then .next { s.elapse 1 with clock := { s.clock with ms := s.clock.ms + 1 } } else execSecondBoundary s

/-- The idle step (DESIGN CHOICE, log 1): while reset is asserted nothing happens; else the first timer that is due expires; else `State.tick`. -/
def State.idle (s : State) : Host.Outcome State Fault Refusal :=
  if s.loader = .held then .next s
  else if s.pollDue then execStationReplyTimeout s
  else
    match allSlots.find? s.staleDue, allSlots.find? s.ageDue with
    | some i, _ => execStaleTimeExpiry i s
    | none, some i => execAgeOut i s
    | none, none =>
      if s.arbiter.timer = some 0 then execHandoverTimerExpiry s
      else if s.latch.due then execDiscardTimerExpiry s
      else s.tick

end Sys2Proof.Machine
end

