-- ==== Sys2Proof/Machine/Request.lean ====
section
/-! DEFINITION. From bytes to commands and back: the body of a request (R153, R158, R165), the frames of a link and of the bus (R155, R163). -/

namespace Sys2Proof.Machine

/-! ### Reading the parameters of a body -/

/-- Reads a value from the front of a run of bytes; absent where the bytes run out. -/
abbrev Reader (α : Type) := List Byte → Option (α × List Byte)

/-- A one-byte number. -/
def read8 : Reader Nat
  | a :: rest => some (a.toNat, rest)
  | [] => none

/-- A two-byte number, high byte first. -/
def read16 : Reader Nat
  | a :: b :: rest => some (a.toNat * 256 + b.toNat, rest)
  | _ => none

/-- A six-byte identity. -/
def readIdentity : Reader Identity
  | a :: b :: c :: d :: e :: f :: rest => some (BitVec.ofNat 48 (bytesToNat [a, b, c, d, e, f]), rest)
  | _ => none

/-- One value after another. -/
def readThen {α β γ : Type} (f : α → β → γ) (first : Reader α) (second : Reader β) : Reader γ := fun bs =>
  match first bs with
  | none => none
  | some (a, rest) =>
    match second rest with
    | none => none
    | some (b, rest') => some (f a b, rest')

/-- A number of values one after another. -/
def readMany {α : Type} (one : Reader α) : Nat → Reader (List α)
  | 0 => fun bs => some ([], bs)
  | n + 1 => readThen List.cons one (readMany one n)

/-- A list: a count byte, then that many values (R153). -/
def readList {α : Type} (one : Reader α) : Reader (List α) := fun bs =>
  match bs with
  | n :: rest => readMany one n.toNat rest
  | [] => none

/-- An optional value; after a presence byte that is neither 0 nor 1 no value is read (R153, log 14). -/
def readOptional {α : Type} (one : Reader α) : Reader (WireOption α) := fun bs =>
  match bs with
  | [] => none
  | p :: rest =>
    match p.toNat with
    | 0 => some (.absent, rest)
    | 1 => (one rest).map fun x => (.present x.1, x.2)
    | _ => some (.invalid, rest)

/-- The parameters of a body; bytes beyond the last parameter are ignored, and a body too short holds none (R158 step 4). -/
def paramsOf {α : Type} (reader : Reader α) (bs : List Byte) : Params α :=
  match reader bs with
  | some x => .whole x.1
  | none => .short

/-! ### The parameters of each request, in the order of its body -/

/-- ENROL identity, check. -/
def readEnrol : Reader EnrolArgs := readThen EnrolArgs.mk readIdentity read8

/-- REPORT level, applied serial. -/
def readReport : Reader ReportArgs := readThen ReportArgs.mk read16 read16

/-- SET CLOCK minute, second. -/
def readClock : Reader ClockArgs := readThen ClockArgs.mk read16 read8

/-- PUSH CAP slot, cap. -/
def readCap : Reader CapArgs := readThen CapArgs.mk read8 read16

/-- A breakpoint: minute, limit, curfew flag (R165). -/
def readBreakpoint : Reader BreakpointArgs :=
  readThen (fun f c => f c) (readThen BreakpointArgs.mk read16 read16) read8

/-- A ZONE write: the zone, then the values of R30. -/
def readZoneArgs : Reader ZoneArgs :=
  readThen (fun f b => f b) (readThen (fun f m => f m) (readThen ZoneArgs.mk read8 read8) read8) (readList readBreakpoint)

/-- A RECEPTOR write: the receptor, then the values of R50. -/
def readReceptorArgs : Reader ReceptorArgs :=
  readThen (fun f b => f b) (readThen (fun f m => f m) (readThen ReceptorArgs.mk read8 read8) read8) read16

/-- A STAGE write: the slot, then the values of R83. -/
def readStageArgs : Reader StageArgs :=
  readThen (fun f b => f b) (readThen (fun f m => f m) (readThen (fun f m => f m) (readThen StageArgs.mk read8 read8)
    (readOptional readIdentity)) read8) read16

/-- The key of a PATH. -/
def readPathKey : Reader PathKey := readThen PathKey.mk read8 read8

/-- A PATH write: slot, receptor, loss. -/
def readPathArgs : Reader PathArgs := readThen (fun f b => f b) (readThen PathArgs.mk read8 read8) read16

/-- A RING read: receptor, part. -/
def readRingArgs : Reader RingArgs := readThen RingArgs.mk read8 read8

/-- A SITE write from its bytes before and after the age time. -/
def siteArgsFrom (a : List Nat) (age : Nat) (b : List Nat) : SiteArgs :=
  { blindMargin := a.getD 0 0, correctionRise := a.getD 1 0, correctionFall := a.getD 2 0, tolerance := a.getD 3 0,
    overLimit := a.getD 4 0, releaseCount := a.getD 5 0, staleTime := a.getD 6 0, ageTime := age, handoverTime := b.getD 0 0,
    discardTime := b.getD 1 0, stationReply := b.getD 2 0, minute := b.getD 3 0, exceedance := b.getD 4 0, ceiling := b.getD 5 0,
    clamp := b.getD 6 0 }

/-- A SITE write: seven bytes, the age time in two, seven bytes (R153, R168). -/
def readSiteArgs : Reader SiteArgs := readThen (fun f b => f b) (readThen siteArgsFrom (readMany read8 7) read16) (readMany read8 7)

/-- The ten enables of SET ATTENTION MASK (R165). -/
def readMask : Reader (Vector Nat 10) := fun bs =>
  (readMany read8 10 bs).map fun x => (Vector.ofFn fun k => x.1.getD k.val 0, x.2)

/-! ### From a body to the request it spells -/

/-- TABLE WRITE: the selector, the key and the values (R165). A body with no selector goes with SITE as a short one (log 7). -/
def tableWriteOf (p : Port) (tag : Nat) : List Byte → Instr
  | [] => .tableWriteSite p tag .short
  | sel :: bs =>
    match tableOf sel.toNat with
    | none => .tableWriteSite p tag .noTable
    | some .site => .tableWriteSite p tag (paramsOf readSiteArgs bs)
    | some .zone => .tableWriteZone p tag (paramsOf readZoneArgs bs)
    | some .receptor => .tableWriteReceptor p tag (paramsOf readReceptorArgs bs)
    | some .stage => .tableWriteStage p tag (paramsOf readStageArgs bs)
    | some .path => .tableWritePath p tag (paramsOf readPathArgs bs)
    | some .exceedance => .tableWriteExceedance p tag (paramsOf read8 bs)
    | some .ring => .tableWriteRing p tag (paramsOf read8 bs)

/-- TABLE DELETE. -/
def tableDeleteOf (p : Port) (tag : Nat) : List Byte → Instr
  | [] => .tableDeleteSite p tag .short
  | sel :: bs =>
    match tableOf sel.toNat with
    | none => .tableDeleteSite p tag .noTable
    | some .site => .tableDeleteSite p tag (.whole ())
    | some .zone => .tableDeleteZone p tag (paramsOf read8 bs)
    | some .receptor => .tableDeleteReceptor p tag (paramsOf read8 bs)
    | some .stage => .tableDeleteStage p tag (paramsOf read8 bs)
    | some .path => .tableDeletePath p tag (paramsOf readPathKey bs)
    | some .exceedance => .tableDeleteExceedance p tag (paramsOf read8 bs)
    | some .ring => .tableDeleteRing p tag (paramsOf read8 bs)

/-- TABLE FIND. -/
def tableFindOf (p : Port) (tag : Nat) : List Byte → Instr
  | [] => .tableFindSite p tag .short
  | sel :: bs =>
    match tableOf sel.toNat with
    | none => .tableFindSite p tag .noTable
    | some .site => .tableFindSite p tag (.whole ())
    | some .zone => .tableFindZone p tag (paramsOf read8 bs)
    | some .receptor => .tableFindReceptor p tag (paramsOf read8 bs)
    | some .stage => .tableFindStage p tag (paramsOf readIdentity bs)
    | some .path => .tableFindPath p tag (paramsOf readPathKey bs)
    | some .exceedance => .tableFindExceedance p tag (paramsOf read8 bs)
    | some .ring => .tableFindRing p tag (paramsOf read8 bs)

/-- TABLE READ. -/
def tableReadOf (p : Port) (tag : Nat) : List Byte → Instr
  | [] => .tableReadSite p tag .short
  | sel :: bs =>
    match tableOf sel.toNat with
    | none => .tableReadSite p tag .noTable
    | some .site => .tableReadSite p tag (.whole ())
    | some .zone => .tableReadZone p tag (paramsOf read8 bs)
    | some .receptor => .tableReadReceptor p tag (paramsOf read8 bs)
    | some .stage => .tableReadStage p tag (paramsOf read8 bs)
    | some .path => .tableReadPath p tag (paramsOf read8 bs)
    | some .exceedance => .tableReadExceedance p tag (paramsOf read8 bs)
    | some .ring => .tableReadRing p tag (paramsOf readRingArgs bs)

/-- The request of a kind value with a tag and the bytes after it (Table 10-4). -/
def requestOfKind (p : Port) (kind tag : Nat) (bs : List Byte) : Instr :=
  match kind with
  | 0x01 => .enrol p tag (paramsOf readEnrol bs)
  | 0x02 => .report p tag (paramsOf readReport bs)
  | 0x03 => .goLive p tag
  | 0x04 => .goQuiet p tag
  | 0x05 => .forecast p tag (paramsOf (readList read8) bs)
  | 0x10 => .identify p tag
  | 0x11 => .siteStatus p tag (paramsOf read8 bs)
  | 0x12 => .setClock p tag (paramsOf readClock bs)
  | 0x13 => .enterEnforce p tag
  | 0x14 => .returnToSetup p tag
  | 0x15 => .warmRestart p tag
  | 0x18 => tableWriteOf p tag bs
  | 0x19 => tableDeleteOf p tag bs
  | 0x1A => tableFindOf p tag bs
  | 0x1B => tableReadOf p tag bs
  | 0x1C => .tableClear p tag (paramsOf read8 bs)
  | 0x20 => .pushCap p tag (paramsOf readCap bs)
  | 0x21 => .popCap p tag (paramsOf read8 bs)
  | 0x22 => .forceClamp p tag (paramsOf read8 bs)
  | 0x23 => .releaseClamp p tag (paramsOf read8 bs)
  | 0x24 => .forceQuiet p tag (paramsOf read8 bs)
  | 0x25 => .evict p tag (paramsOf read8 bs)
  | 0x28 => .readNotices p tag (paramsOf read8 bs)
  | 0x29 => .setAttentionMask p tag (paramsOf readMask bs)
  | 0x2C => .saveSettings p tag
  | _ => .unknownKind p tag kind

/-- The command that a body received on a request link stands for; absent below two bytes, which no accepted frame holds (R153). -/
def requestOf (p : Port) : List Byte → Option Instr
  | kind :: tag :: bs => some (requestOfKind p kind.toNat tag.toNat bs)
  | _ => none

/-! ### From a request to its body -/

/-- The bytes of whole parameters; absent for a short body and for a selector that names no table. -/
def wholeBytes {α : Type} (f : α → List Byte) : Params α → Option (List Byte)
  | .whole a => some (f a)
  | _ => none

/-- The bytes of a SITE write (R168). -/
def siteArgsBytes (a : SiteArgs) : List Byte :=
  u8 a.blindMargin ++ u8 a.correctionRise ++ u8 a.correctionFall ++ u8 a.tolerance ++ u8 a.overLimit ++ u8 a.releaseCount ++
  u8 a.staleTime ++ u16 a.ageTime ++ u8 a.handoverTime ++ u8 a.discardTime ++ u8 a.stationReply ++ u8 a.minute ++ u8 a.exceedance ++
  u8 a.ceiling ++ u8 a.clamp

/-- The bytes of a breakpoint list. -/
def breakpointArgsBytes (bs : List BreakpointArgs) : List Byte :=
  u8 bs.length ++ bs.flatMap fun b => u16 b.minute ++ u16 b.limit ++ u8 b.curfew

/-- The bytes of an optional identity; a presence byte that is neither 0 nor 1 is written as 2. -/
def wireIdentityBytes : WireOption Identity → List Byte
  | .absent => u8 0
  | .present id => u8 1 ++ identityBytes id
  | .invalid => u8 2

/-- The kind value, the tag and the parameters of a request whose parameters are whole (R153, R165); absent for any other command. -/
def requestParts : Instr → Option (Nat × Nat × List Byte)
  | .enrol _ tag args => (wholeBytes (fun a => identityBytes a.identity ++ u8 a.check) args).map fun bs => (0x01, tag, bs)
  | .report _ tag args => (wholeBytes (fun a => u16 a.level ++ u16 a.serial) args).map fun bs => (0x02, tag, bs)
  | .goLive _ tag => some (0x03, tag, [])
  | .goQuiet _ tag => some (0x04, tag, [])
  | .forecast _ tag slots => (wholeBytes (fun l => u8 l.length ++ l.flatMap u8) slots).map fun bs => (0x05, tag, bs)
  | .identify _ tag => some (0x10, tag, [])
  | .siteStatus _ tag part => (wholeBytes u8 part).map fun bs => (0x11, tag, bs)
  | .setClock _ tag args => (wholeBytes (fun a => u16 a.minute ++ u8 a.second) args).map fun bs => (0x12, tag, bs)
  | .enterEnforce _ tag => some (0x13, tag, [])
  | .returnToSetup _ tag => some (0x14, tag, [])
  | .warmRestart _ tag => some (0x15, tag, [])
  | .tableWriteSite _ tag args => (wholeBytes siteArgsBytes args).map fun bs => (0x18, tag, u8 1 ++ bs)
  | .tableWriteZone _ tag args =>
    (wholeBytes (fun a => u8 a.zone ++ u8 a.rampRate ++ u8 a.recoveryMargin ++ breakpointArgsBytes a.breakpoints) args).map
      fun bs => (0x18, tag, u8 2 ++ bs)
  | .tableWriteReceptor _ tag args =>
    (wholeBytes (fun a => u8 a.receptor ++ u8 a.address ++ u8 a.zone ++ u16 a.floor) args).map fun bs => (0x18, tag, u8 3 ++ bs)
  | .tableWriteStage _ tag args =>
    (wholeBytes (fun a => u8 a.slot ++ u8 a.kind ++ wireIdentityBytes a.identity ++ u8 a.weight ++ u16 a.stageMax) args).map
      fun bs => (0x18, tag, u8 4 ++ bs)
  | .tableWritePath _ tag args =>
    (wholeBytes (fun a => u8 a.slot ++ u8 a.receptor ++ u16 a.loss) args).map fun bs => (0x18, tag, u8 5 ++ bs)
  | .tableWriteExceedance _ tag position => (wholeBytes u8 position).map fun bs => (0x18, tag, u8 6 ++ bs)
  | .tableWriteRing _ tag receptor => (wholeBytes u8 receptor).map fun bs => (0x18, tag, u8 7 ++ bs)
  | .tableDeleteSite _ tag args => (wholeBytes (fun _ => []) args).map fun bs => (0x19, tag, u8 1 ++ bs)
  | .tableDeleteZone _ tag zone => (wholeBytes u8 zone).map fun bs => (0x19, tag, u8 2 ++ bs)
  | .tableDeleteReceptor _ tag receptor => (wholeBytes u8 receptor).map fun bs => (0x19, tag, u8 3 ++ bs)
  | .tableDeleteStage _ tag slot => (wholeBytes u8 slot).map fun bs => (0x19, tag, u8 4 ++ bs)
  | .tableDeletePath _ tag key => (wholeBytes (fun k => u8 k.slot ++ u8 k.receptor) key).map fun bs => (0x19, tag, u8 5 ++ bs)
  | .tableDeleteExceedance _ tag position => (wholeBytes u8 position).map fun bs => (0x19, tag, u8 6 ++ bs)
  | .tableDeleteRing _ tag receptor => (wholeBytes u8 receptor).map fun bs => (0x19, tag, u8 7 ++ bs)
  | .tableFindSite _ tag args => (wholeBytes (fun _ => []) args).map fun bs => (0x1A, tag, u8 1 ++ bs)
  | .tableFindZone _ tag zone => (wholeBytes u8 zone).map fun bs => (0x1A, tag, u8 2 ++ bs)
  | .tableFindReceptor _ tag receptor => (wholeBytes u8 receptor).map fun bs => (0x1A, tag, u8 3 ++ bs)
  | .tableFindStage _ tag identity => (wholeBytes identityBytes identity).map fun bs => (0x1A, tag, u8 4 ++ bs)
  | .tableFindPath _ tag key => (wholeBytes (fun k => u8 k.slot ++ u8 k.receptor) key).map fun bs => (0x1A, tag, u8 5 ++ bs)
  | .tableFindExceedance _ tag receptor => (wholeBytes u8 receptor).map fun bs => (0x1A, tag, u8 6 ++ bs)
  | .tableFindRing _ tag receptor => (wholeBytes u8 receptor).map fun bs => (0x1A, tag, u8 7 ++ bs)
  | .tableReadSite _ tag args => (wholeBytes (fun _ => []) args).map fun bs => (0x1B, tag, u8 1 ++ bs)
  | .tableReadZone _ tag zone => (wholeBytes u8 zone).map fun bs => (0x1B, tag, u8 2 ++ bs)
  | .tableReadReceptor _ tag receptor => (wholeBytes u8 receptor).map fun bs => (0x1B, tag, u8 3 ++ bs)
  | .tableReadStage _ tag slot => (wholeBytes u8 slot).map fun bs => (0x1B, tag, u8 4 ++ bs)
  | .tableReadPath _ tag position => (wholeBytes u8 position).map fun bs => (0x1B, tag, u8 5 ++ bs)
  | .tableReadExceedance _ tag position => (wholeBytes u8 position).map fun bs => (0x1B, tag, u8 6 ++ bs)
  | .tableReadRing _ tag args => (wholeBytes (fun a => u8 a.receptor ++ u8 a.part) args).map fun bs => (0x1B, tag, u8 7 ++ bs)
  | .tableClear _ tag table => (wholeBytes u8 table).map fun bs => (0x1C, tag, bs)
  | .pushCap _ tag args => (wholeBytes (fun a => u8 a.slot ++ u16 a.cap) args).map fun bs => (0x20, tag, bs)
  | .popCap _ tag slot => (wholeBytes u8 slot).map fun bs => (0x21, tag, bs)
  | .forceClamp _ tag slot => (wholeBytes u8 slot).map fun bs => (0x22, tag, bs)
  | .releaseClamp _ tag slot => (wholeBytes u8 slot).map fun bs => (0x23, tag, bs)
  | .forceQuiet _ tag slot => (wholeBytes u8 slot).map fun bs => (0x24, tag, bs)
  | .evict _ tag slot => (wholeBytes u8 slot).map fun bs => (0x25, tag, bs)
  | .readNotices _ tag count => (wholeBytes u8 count).map fun bs => (0x28, tag, bs)
  | .setAttentionMask _ tag enables => (wholeBytes (fun e => e.toList.flatMap u8) enables).map fun bs => (0x29, tag, bs)
  | .saveSettings _ tag => some (0x2C, tag, [])
  | .unknownKind _ tag kind => some (kind, tag, [])
  | _ => none

/-- The body of a request (R153): its kind, its tag, its parameters. -/
def requestBody (c : Instr) : Option (List Byte) := (requestParts c).map fun x => u8 x.1 ++ u8 x.2.1 ++ x.2.2

/-- The port a request arrives on. -/
def requestPort : Instr → Port
  | .enrol p .. => p
  | .report p .. => p
  | .goLive p .. => p
  | .goQuiet p .. => p
  | .forecast p .. => p
  | .identify p .. => p
  | .siteStatus p .. => p
  | .setClock p .. => p
  | .enterEnforce p .. => p
  | .returnToSetup p .. => p
  | .warmRestart p .. => p
  | .tableWriteSite p .. => p
  | .tableWriteZone p .. => p
  | .tableWriteReceptor p .. => p
  | .tableWriteStage p .. => p
  | .tableWritePath p .. => p
  | .tableWriteExceedance p .. => p
  | .tableWriteRing p .. => p
  | .tableDeleteSite p .. => p
  | .tableDeleteZone p .. => p
  | .tableDeleteReceptor p .. => p
  | .tableDeleteStage p .. => p
  | .tableDeletePath p .. => p
  | .tableDeleteExceedance p .. => p
  | .tableDeleteRing p .. => p
  | .tableFindSite p .. => p
  | .tableFindZone p .. => p
  | .tableFindReceptor p .. => p
  | .tableFindStage p .. => p
  | .tableFindPath p .. => p
  | .tableFindExceedance p .. => p
  | .tableFindRing p .. => p
  | .tableReadSite p .. => p
  | .tableReadZone p .. => p
  | .tableReadReceptor p .. => p
  | .tableReadStage p .. => p
  | .tableReadPath p .. => p
  | .tableReadExceedance p .. => p
  | .tableReadRing p .. => p
  | .tableClear p .. => p
  | .pushCap p .. => p
  | .popCap p .. => p
  | .forceClamp p .. => p
  | .releaseClamp p .. => p
  | .forceQuiet p .. => p
  | .evict p .. => p
  | .readNotices p .. => p
  | .setAttentionMask p .. => p
  | .saveSettings p .. => p
  | .unknownKind p .. => p
  | _ => 0

/-! ### Whole frames -/

/-- Why a frame was discarded, from the number a receiver gives it. -/
def discardCauseOf : Nat → DiscardCause
  | 0 => .length
  | 1 => .address
  | _ => .crc

/-- The command that a whole frame on a request link stands for: its request, or its discard (R155, R158). -/
def linkCommand (p : Port) (bytes : List Byte) : Option Instr :=
  match receiveFrame bytes with
  | .accepted body => requestOf p body
  | .discarded cause => some (.frameDiscarded (.link p) (discardCauseOf cause))
  | .incomplete => none

/-- The command that an event of a request link's receiver stands for (R155, R158). -/
def linkEventCommand (p : Port) : LineEvent → Option Instr
  | .begun => some (.frameBegun (.link p))
  | .accepted body => requestOf p body
  | .discarded cause => some (.frameDiscarded (.link p) (discardCauseOf cause))

/-- The commands that a stream of bytes on a request link stands for, from a receiver that hunts (R155). -/
def linkCommands (p : Port) (bytes : List Byte) : List Instr :=
  (Reception.hunting.takeAll judgeLink bytes).2.filterMap (linkEventCommand p)

/-- The body of a bus frame, its ADDRESS in front, as a station reply: kind 0x41, a level in two bytes, a flag byte; anything else is a BAD_FRAME
(R163). -/
def stationReplyOf : List Byte → Instr
  | address :: kind :: hi :: lo :: flags :: _ =>
    if kind.toNat = 0x41 then .stationReply address.toNat (hi.toNat * 256 + lo.toNat) flags.toNat else .badFrame
  | _ => .badFrame

/-- The command that a whole frame on the monitor bus stands for (R155, R163). -/
def busCommand (bytes : List Byte) : Option Instr :=
  match receiveBusFrame bytes with
  | .accepted body => some (stationReplyOf body)
  | .discarded cause => some (.frameDiscarded .bus (discardCauseOf cause))
  | .incomplete => none

/-- The command that an event of the bus receiver stands for (R155, R163). -/
def busEventCommand : LineEvent → Instr
  | .begun => .frameBegun .bus
  | .accepted body => stationReplyOf body
  | .discarded cause => .frameDiscarded .bus (discardCauseOf cause)

/-- The commands that a stream of bytes on the monitor bus stands for, while a poll awaits its reply (R155, R163). -/
def busCommands (bytes : List Byte) : List Instr := (Reception.hunting.takeAll judgeBus bytes).2.map busEventCommand

end Sys2Proof.Machine
end

