-- ==== Sys2Proof/Safety.lean ====
section
/-! DEFINITION. What a sound state is: the relations the manual states of the records, each to be kept by every step; and what the
statements name of an event: its triggers, its notices and its witness copies. -/

namespace Sys2Proof.Machine

/-! ### The clock (R14) -/

/-- The millisecond count, second and minute-of-day stay in their ranges (R14). -/
abbrev Clock.InRange (c : Clock) : Prop := c.ms < 1000 ∧ c.second < 60 ∧ c.minute < 1440

/-! ### BOOT (R18) -/

/-- Every block but the clock, the links, the exceedance table and the settings memory holds its reset values. -/
abbrev State.BlocksAtReset (s : State) : Prop :=
  s.site = siteDefault ∧ (∀ z, s.zone z = zoneDefault) ∧ (∀ r, s.receptor r = none) ∧ s.poller.poll = none ∧
  (∀ i, s.slot i = slotDefault) ∧ (∀ p, s.path p = none) ∧ s.engine = engineAtReset ∧ s.arbiter = arbiterAtReset ∧
  s.latch = .empty ∧ s.table = .idle ∧ s.notices = noticesAtReset ∧ s.witness = witnessAtReset

/-- The mode is BOOT exactly until the settings load has ended, and until then the blocks hold their reset values (R18). -/
abbrev State.BootSound (s : State) : Prop := (s.mode = .boot ↔ s.loader ≠ .ended) ∧ (s.mode = .boot → s.BlocksAtReset)

/-! ### Zones (R23, R28, R30) -/

/-- The fade offset that goes with a zone state: 0 while OPEN, below 600 while FADING, 600 while SILENCED (R25, R26, R28). -/
abbrev Zone.FadeSound (x : Zone) : Prop :=
  (x.state = .opened → x.fade = 0) ∧ (x.state = .fading → x.fade < 600) ∧ (x.state = .silenced → x.fade = 600)

/-- The limits, counts and settings of a zone record stay in their ranges, the effective limit at or above the licence limit (R23). -/
abbrev Zone.InRange (x : Zone) : Prop :=
  x.licence ≤ x.effective ∧ x.effective ≤ 1400 ∧ x.grace ≤ 15 ∧ 1 ≤ x.rampRate ∧ x.rampRate ≤ 50 ∧ x.recoveryMargin ≤ 60

/-- A breakpoint list: at most eight, in ascending minute order, no two at the same minute, each in range (R23). -/
abbrev BreakpointsSound (bs : List Breakpoint) : Prop :=
  bs.length ≤ 8 ∧ bs.Pairwise (fun a b => a.minute < b.minute) ∧ ∀ b ∈ bs, b.minute ≤ 1439 ∧ b.limit ≤ 1400

/-- Every zone record is sound. -/
abbrev State.ZonesSound (s : State) : Prop :=
  ∀ z, (s.zone z).FadeSound ∧ (s.zone z).InRange ∧ BreakpointsSound (s.zone z).breakpoints

/-! ### Receptors (R35, R41, R44, R46, R58) -/

/-- A minute record in its ranges (R35). -/
abbrev MinuteRecord.InRange (m : MinuteRecord) : Prop := m.minute < 1440 ∧ (∀ v ∈ m.level, v ≤ 1400) ∧ m.count ≤ 30

/-- The residual accumulator in its ranges: at most 30 samples, each a difference of two levels (R56, R57). -/
abbrev Residual.InRange (x : Residual) : Prop := x.count ≤ 30 ∧ -(1400 * x.count : Int) ≤ x.sum ∧ x.sum ≤ 1400 * x.count

/-- A receptor record in its ranges; a station is LOST exactly when its misses are 3 (R35, R41). -/
abbrev Receptor.Sound (x : Receptor) : Prop :=
  1 ≤ x.address ∧ x.address ≤ 31 ∧ x.floor ≤ 1400 ∧ x.misses ≤ 3 ∧ (x.station = .lost ↔ x.misses = 3) ∧
  (∀ a ∈ x.accumulator, a.level ≤ 1400 ∧ 1 ≤ a.count ∧ a.count ≤ 30) ∧ x.ring.length ≤ 15 ∧ (∀ m ∈ x.ring, m.InRange) ∧
  (∀ v ∈ x.level15, v ≤ 1400) ∧ (∀ v ∈ x.lastLevel, v ≤ 1400) ∧ x.residual.InRange ∧ x.correction ≤ 120

/-- Every receptor record is sound, and no two records share a station address (R35). -/
abbrev State.ReceptorsSound (s : State) : Prop :=
  (∀ r, ∀ x ∈ s.receptor r, x.Sound) ∧
  ∀ r q, ∀ x ∈ s.receptor r, ∀ y ∈ s.receptor q, x.address = y.address → r = q

/-! ### The exceedance table (R61) -/

/-- The record at a position is OPEN. -/
abbrev State.openAt (s : State) (p : ExcPos) : Prop := ∃ x ∈ s.excRecord p, x.state = .opened

/-- The creation list holds each occupied position once, and a receptor's link names exactly its OPEN record (R61). -/
abbrev State.ExceedancesSound (s : State) : Prop :=
  s.exceedances.created.Nodup ∧ (∀ p, p ∈ s.exceedances.created ↔ (s.excRecord p).isSome) ∧
  (∀ p, ∀ x ∈ s.excRecord p, x.state = .opened → (s.receptor x.receptor).bind (·.exceedance) = some p) ∧
  (∀ r p, (s.receptor r).bind (·.exceedance) = some p → ∃ x ∈ s.excRecord p, x.state = .opened ∧ x.receptor = r)

/-! ### Slots (R72, R73, R74) -/

/-- The numbers of a slot record stay in their ranges (R72), and the report age is present exactly while a port is bound (R74). -/
abbrev Slot.InRange (x : Slot) : Prop :=
  1 ≤ x.weight ∧ x.weight ≤ 4 ∧ x.stageMax ≤ 1400 ∧ x.overCount ≤ 32 ∧ x.goodCount ≤ 255 ∧ x.caps.length ≤ 4 ∧
  (∀ c ∈ x.caps, c ≤ 1400) ∧ x.published ≤ 1400 ∧ x.previous ≤ 1400 ∧ x.serial ≤ 65535 ∧
  (x.reportAge.isSome ↔ x.port.isSome) ∧ (∀ a ∈ x.reportAge, a ≤ 600000) ∧ (∀ v ∈ x.lastLevel, v ≤ 1400) ∧ ∀ v ∈ x.prospective, v ≤ 1400

/-- What the pass in flight captured, if there is one. -/
def Activity.captured : Activity → Option Capture
  | .idle => none
  | .recalculating c => some c
  | .forecasting c _ _ _ => some c

/-- Every slot record is in range, and so is what a pass in flight captured of it. -/
abbrev State.SlotsInRange (s : State) : Prop := 
  (∀ i, (s.slot i).InRange) ∧ ∀ c ∈ s.engine.activity.captured, ∀ i, (c.slots.get i).stageMax ≤ 1400

/-- The kind, identity, port and state of one slot go together (R73). -/
abbrev Slot.BindingSound (x : Slot) : Prop :=
  (x.kind = .openKind → (x.identity.isSome ↔ x.port.isSome) ∧ (x.state = .empty ↔ x.port = none)) ∧
  (x.kind = .fixed → x.identity.isSome ∧ x.state ≠ .empty) ∧
  (x.port = none → x.state = .quiet ∨ x.state = .empty) ∧ x.port ≠ some 0

/-- The relations of R73: no identity and no port is held twice. -/
abbrev State.BindingsSound (s : State) : Prop :=
  (∀ i, (s.slot i).BindingSound) ∧
  ∀ i j, i ≠ j →
    ((s.slot i).identity = (s.slot j).identity → (s.slot i).identity = none) ∧
    ((s.slot i).port = (s.slot j).port → (s.slot i).port = none)

/-! ### Admission (R125, R126, R132, R133) -/

/-- The admission queue holds each WAITING and ENTERING slot once, the ENTERING one at its head (R126). -/
abbrev State.QueueSound (s : State) : Prop :=
  s.arbiter.queue.Nodup ∧ (∀ i, i ∈ s.arbiter.queue ↔ (s.slot i).state.queued) ∧
  ∀ i, (s.slot i).state = .entering ↔ s.arbiter.queue.head? = some i

/-- The head phase is absent exactly while the queue is empty, CONFIRMING exactly while the timer runs and exactly while some debt is SET; a
debtor is LIVE, and only an ENTERING slot has a prospective ceiling (R119, R125, R132, R133). -/
abbrev State.HandoverSound (s : State) : Prop :=
  (s.arbiter.phase = none ↔ s.arbiter.queue = []) ∧ (s.arbiter.phase = some .confirming ↔ s.arbiter.timer.isSome) ∧
  (s.arbiter.phase = some .confirming ↔ ∃ i, (s.slot i).debt) ∧ (∀ i, (s.slot i).debt → (s.slot i).state = .live) ∧
  ∀ i, (s.slot i).prospective.isSome → (s.slot i).state = .entering

/-- The slots, the queue and the handover go together. -/
abbrev State.AdmissionSound (s : State) : Prop := s.BootSound ∧ s.BindingsSound ∧ s.QueueSound ∧ s.HandoverSound

/-! ### Paths (R103) -/

/-- No two entries share a key, and each has a loss of at most 1200 and names a slot that is not EMPTY and a receptor that has a record (R103); a
receptor's zone has a breakpoint (R30, R31, R50); a clear of the receptors runs only over an empty path table, a clear of the zones only without
receptors (R167). -/
abbrev State.PathsSound (s : State) : Prop :=
  (∀ p q, ∀ e ∈ s.path p, ∀ f ∈ s.path q, e.slot = f.slot ∧ e.receptor = f.receptor → p = q) ∧
  (∀ p, ∀ e ∈ s.path p, e.loss ≤ 1200 ∧ (s.slot e.slot).state ≠ .empty ∧ (s.receptor e.receptor).isSome) ∧
  (∀ r, ∀ x ∈ s.receptor r, (s.zone x.zone).breakpoints ≠ []) ∧
  (s.table = .clearing .receptor → ∀ p, s.path p = none) ∧ (s.table = .clearing .zone → ∀ r, s.receptor r = none)

/-! ### Play (R21, R105, R126, R140) -/

/-- Only ENFORCE admits: outside it no slot is WAITING, ENTERING or LIVE, and a slot that is has a path; no slot of the queue is audible in a zone
under curfew (R105, R126, R140). -/
abbrev State.PlaySound (s : State) : Prop :=
  (∀ i, (s.slot i).state.queued ∨ (s.slot i).state = .live → s.mode = .enforce ∧ s.mapped i) ∧
  ∀ i ∈ s.arbiter.queue, s.underCurfew i = false

/-- Every relation that the admission of stages rests on. -/
abbrev State.StagesSound (s : State) : Prop :=
  s.AdmissionSound ∧ s.PathsSound ∧ s.PlaySound ∧ (s.table ≠ .idle → s.mode = .setup)

/-! ### Engine and latch (R107, R109, R148) -/

/-- The engine's work and the latch go together: COMPUTING exactly while the engine runs the forecast of that query; no query left waiting by an
IDLE engine. -/
def workSound : Activity → Latch → Bool
  | .idle, .queued .. => false
  | .idle, .computing .. => false
  | .idle, _ => true
  | .recalculating _, .computing .. => false
  | .recalculating _, _ => true
  | .forecasting _ q _ _, .computing _ q' => q == q'
  | .forecasting .., _ => false

/-- The engine and the latch go together, and an IDLE engine has nothing pending (R108, R109, R148). -/
abbrev State.EngineSound (s : State) : Prop :=
  workSound s.engine.activity s.latch = true ∧ (s.engine.activity = .idle → s.engine.pending = false)

/-! ### Notices and the witness transmitter (R169, R172) -/

/-- At most 32 notices, no two of the same kind and subject (R169). -/
abbrev NoticeQueue.Sound (q : NoticeQueue) : Prop :=
  q.notices.length ≤ 32 ∧ q.notices.Pairwise fun a b => a.sameSubject b = false

/-- At most 16 entries; while the gap-pending flag is SET the FIFO is full; drops are counted and dated exactly while it is (R172). -/
abbrev WitnessTx.Sound (w : WitnessTx) : Prop :=
  w.fifo.length ≤ 16 ∧ (w.gapPending → w.fifo.length = 16) ∧ w.drops ≤ 65535 ∧ (w.gapPending ↔ 0 < w.drops) ∧
  (w.gapPending ↔ w.firstDrop.isSome)

/-! ### Requests (R156, R158) -/

/-- A link takes the next whole frame as a request that its owner sees: reset is released, the mode is not BOOT, the buffer is FREE. -/
abbrev State.Ready (s : State) (p : Port) : Prop := s.loader ≠ .held ∧ s.mode ≠ .boot ∧ (s.link p).buffer = none

/-- The console link is ready, and the table engine is IDLE. -/
abbrev State.TableReady (s : State) : Prop := s.Ready 0 ∧ s.table = .idle

/-- The command changes the state `s` to `t` and leaves its answer in the buffer of its link. -/
def Answered (c : Instr) (s t : State) (p : Port) (kind tag : Nat) (a : Answer) : Prop :=
  exec c s = .next (t.hold p { kind := kind + 128, tag := tag, answer := a })

/-- What the link interface reads of a request: its kind value, its link, its tag, where Table 10-4 serves it, whether its body is too short. -/
structure RequestHead where
  kind : Nat
  port : Port
  tag : Nat
  served : Served
  isShort : Bool
deriving DecidableEq, Repr

/-- The parameters are those of a body too short. -/
def isShort {α : Type} : Params α → Bool
  | .short => true
  | _ => false

/-- The head of a request row; absent for a row that is no request of Table 10-4. -/
def requestHead : Instr → Option RequestHead
  | .enrol p t a => some ⟨0x01, p, t, .stages, isShort a⟩
  | .report p t a => some ⟨0x02, p, t, .stages, isShort a⟩
  | .goLive p t => some ⟨0x03, p, t, .stages, false⟩
  | .goQuiet p t => some ⟨0x04, p, t, .stages, false⟩
  | .forecast p t a => some ⟨0x05, p, t, .both, isShort a⟩
  | .identify p t => some ⟨0x10, p, t, .console, false⟩
  | .siteStatus p t a => some ⟨0x11, p, t, .console, isShort a⟩
  | .setClock p t a => some ⟨0x12, p, t, .console, isShort a⟩
  | .enterEnforce p t => some ⟨0x13, p, t, .console, false⟩
  | .returnToSetup p t => some ⟨0x14, p, t, .console, false⟩
  | .warmRestart p t => some ⟨0x15, p, t, .console, false⟩
  | .tableWriteSite p t a => some ⟨0x18, p, t, .console, isShort a⟩
  | .tableWriteZone p t a => some ⟨0x18, p, t, .console, isShort a⟩
  | .tableWriteReceptor p t a => some ⟨0x18, p, t, .console, isShort a⟩
  | .tableWriteStage p t a => some ⟨0x18, p, t, .console, isShort a⟩
  | .tableWritePath p t a => some ⟨0x18, p, t, .console, isShort a⟩
  | .tableWriteExceedance p t a => some ⟨0x18, p, t, .console, isShort a⟩
  | .tableWriteRing p t a => some ⟨0x18, p, t, .console, isShort a⟩
  | .tableDeleteSite p t a => some ⟨0x19, p, t, .console, isShort a⟩
  | .tableDeleteZone p t a => some ⟨0x19, p, t, .console, isShort a⟩
  | .tableDeleteReceptor p t a => some ⟨0x19, p, t, .console, isShort a⟩
  | .tableDeleteStage p t a => some ⟨0x19, p, t, .console, isShort a⟩
  | .tableDeletePath p t a => some ⟨0x19, p, t, .console, isShort a⟩
  | .tableDeleteExceedance p t a => some ⟨0x19, p, t, .console, isShort a⟩
  | .tableDeleteRing p t a => some ⟨0x19, p, t, .console, isShort a⟩
  | .tableFindSite p t a => some ⟨0x1A, p, t, .console, isShort a⟩
  | .tableFindZone p t a => some ⟨0x1A, p, t, .console, isShort a⟩
  | .tableFindReceptor p t a => some ⟨0x1A, p, t, .console, isShort a⟩
  | .tableFindStage p t a => some ⟨0x1A, p, t, .console, isShort a⟩
  | .tableFindPath p t a => some ⟨0x1A, p, t, .console, isShort a⟩
  | .tableFindExceedance p t a => some ⟨0x1A, p, t, .console, isShort a⟩
  | .tableFindRing p t a => some ⟨0x1A, p, t, .console, isShort a⟩
  | .tableReadSite p t a => some ⟨0x1B, p, t, .console, isShort a⟩
  | .tableReadZone p t a => some ⟨0x1B, p, t, .console, isShort a⟩
  | .tableReadReceptor p t a => some ⟨0x1B, p, t, .console, isShort a⟩
  | .tableReadStage p t a => some ⟨0x1B, p, t, .console, isShort a⟩
  | .tableReadPath p t a => some ⟨0x1B, p, t, .console, isShort a⟩
  | .tableReadExceedance p t a => some ⟨0x1B, p, t, .console, isShort a⟩
  | .tableReadRing p t a => some ⟨0x1B, p, t, .console, isShort a⟩
  | .tableClear p t a => some ⟨0x1C, p, t, .console, isShort a⟩
  | .pushCap p t a => some ⟨0x20, p, t, .console, isShort a⟩
  | .popCap p t a => some ⟨0x21, p, t, .console, isShort a⟩
  | .forceClamp p t a => some ⟨0x22, p, t, .console, isShort a⟩
  | .releaseClamp p t a => some ⟨0x23, p, t, .console, isShort a⟩
  | .forceQuiet p t a => some ⟨0x24, p, t, .console, isShort a⟩
  | .evict p t a => some ⟨0x25, p, t, .console, isShort a⟩
  | .readNotices p t a => some ⟨0x28, p, t, .console, isShort a⟩
  | .setAttentionMask p t a => some ⟨0x29, p, t, .console, isShort a⟩
  | .saveSettings p t => some ⟨0x2C, p, t, .console, false⟩
  | _ => none

/-- A table request, by its kind value (R166). -/
def RequestHead.isTable (h : RequestHead) : Bool := decide (0x18 ≤ h.kind) && decide (h.kind ≤ 0x1C)

/-! ### The table engine (R166) -/

/-- A long operation of the table engine runs in SETUP alone (R166). -/
abbrev State.TableSound (s : State) : Prop := s.table ≠ .idle → s.mode = .setup

/-! ### Replies (R161) -/

/-- The query a latch holds, and the number of ceilings of its result, are of eight slots at most. -/
def Latch.small : Latch → Bool
  | .empty => true
  | .queued _ q => decide (q.length ≤ 8)
  | .computing _ q => decide (q.length ≤ 8)
  | .ready _ q result _ _ _ => decide (q.length ≤ 8) && decide (result.length ≤ 8)

/-- Every reply held fits a frame, every notice that waits fits a READ NOTICES reply, and the latch and a forecast pass hold eight slots at most. -/
abbrev State.RepliesFit (s : State) : Prop :=
  (∀ p, ∀ r ∈ (s.link p).buffer, r.body.length ≤ 60) ∧ (∀ n ∈ s.notices.notices, n.bytes.length ≤ 53) ∧ s.latch.small = true

/-! ### Triggers (R108) -/

/-- `t` is `s` after one trigger that a change raised: an IDLE engine has begun a pass on the state as `t` has it, any other has its pending flag
SET (R108, R110). -/
abbrev State.EngineTriggered (s t : State) : Prop :=
  if s.engine.activity = .idle then
    t.engine = { activity := .recalculating t.capture, pending := s.engine.pending } ∧ t.arbiter = { s.arbiter with passSinceHead := true }
  else t.engine = { s.engine with pending := true } ∧ t.arbiter = s.arbiter

/-! ### Several triggers, and a head that is granted or takes its place (R108, R130, R134, R142) -/

/-- The engine runs a recalculation pass. -/
def Activity.recalculates : Activity → Bool
  | .recalculating _ => true
  | _ => false

/-- `t` comes after `s` with one trigger or more: an IDLE engine has begun a recalculation pass, any other has its pending flag SET (R108). -/
abbrev State.AnyTrigger (s t : State) : Prop :=
  if s.engine.activity = .idle then t.engine.activity.recalculates = true else t.engine = { s.engine with pending := true }

/-- `t` comes after `s` with a trigger, and with another after it exactly where `again` says so: an IDLE engine that begins a pass at the first has
its pending flag SET by the other alone (R108). -/
abbrev State.TriggersRaised (s t : State) (again : Bool) : Prop :=
  s.AnyTrigger t ∧ (s.engine.activity = .idle → t.engine.pending = (s.engine.pending || again))

/-- The slot that has become the head, if one has, has its ADMISSION and STAGE_STATE notices waiting, unless a notice was lost (R130, R142). -/
abbrev State.HeadPosted (t : State) (head : Option SlotId) : Prop :=
  t.notices.lost = false → ∀ j ∈ head, t.admissionNotice j none ∈ t.notices.notices ∧ t.stageStateNotice j ∈ t.notices.notices

/-- From `s` to `t` the head `h` was granted and left `rest` as the queue, whose first member, if any, is the head in COUNTING; the notices of both
wait, unless one was lost (R134, R142). -/
abbrev State.HeadGranted (s t : State) (h : SlotId) (rest : List SlotId) (manner : Manner) : Prop :=
  t.arbiter.queue = rest ∧ t.arbiter.timer = none ∧ t.arbiter.phase = (if rest = [] then none else some .counting) ∧
  t.slot h = { s.slot h with state := .live, outcome := .granted, prospective := none } ∧
  (t.notices.lost = false → t.admissionNotice h (some manner) ∈ t.notices.notices ∧ t.stageStateNotice h ∈ t.notices.notices) ∧
  t.HeadPosted rest.head?

/-! ### What a binding, an emptying and a SITE edit bring about (R77, R78, R81, R94, R96, R97, R168) -/

/-- The record of an emptied slot: what R77 keeps, and all else at reset. -/
def Slot.afterEmptying (x : Slot) : Slot :=
  { slotDefault with
    weight := x.weight, stageMax := x.stageMax, published := x.published, previous := x.previous, serial := x.serial, prospective := x.prospective }

/-- What a slot that is bound, unbound or emptied posts and sends, its record going from `x` to `y`: its STAGE_STATE notice, then, where its causes or its
clamp line changed, its CLAMP notice and copy (R78, R96, R97). -/
def State.reportBinding (s : State) (i : SlotId) (x y : Slot) (event : ClampEvent) : State :=
  let t := s.post (.stageState i y.state y.kind y.identity y.port y.weight y.stageMax y.outcome)
  if y.causes = x.causes ∧ y.lineAsserted = x.lineAsserted then t
  else (t.post (.clamp i y.causes y.lineAsserted y.port y.overCount y.goodCount y.stale y.lastLevel)).send
    (.clamp i y.port x.causes y.causes y.lineAsserted event y.lastLevel s.clock.minute s.clock.second none)

/-- Two states have posted and sent the same. -/
abbrev State.SamePosts (s t : State) : Prop := s.notices = t.notices ∧ s.witness = t.witness

/-- The path entries of the slots named are gone, and every other position is as it was (R77). -/
abbrev State.PathsLeft (s t : State) (gone : SlotId → Bool) : Prop :=
  ∀ p, t.path p = (s.path p).bind fun e => if gone e.slot then none else some e

/-- From `s` to `t` the SITE parameters took the values `new`: a trigger for a new blind margin, the SITE notice, then the slots that the new stale time
makes stale and those that the new age time ages out, each in ascending slot number (R81, R94, R96, R168). -/
abbrev State.SiteReplaced (s t : State) (new : Site) : Prop :=
  let reaches (i : SlotId) (seconds : Nat) : Bool := (s.slot i).reportAge.any fun a => decide (1000 * seconds ≤ a)
  let marked (i : SlotId) : Slot :=
    if (s.slot i).port.isSome && !(s.slot i).stale && reaches i new.staleTime then
      { s.slot i with stale := true, causes := { (s.slot i).causes with hasStale := true } }
    else s.slot i
  let ages (i : SlotId) : Bool := (s.slot i).kind == .openKind && (s.slot i).state == .quiet && (s.slot i).published == 0 &&
    (s.slot i).port.isSome && reaches i new.ageTime
  t = { s with
    site := new, slots := t.slots, paths := t.paths, engine := t.engine, arbiter := { s.arbiter with passSinceHead := t.arbiter.passSinceHead }
    notices := t.notices, witness := t.witness } ∧
  (∀ i, t.slot i = if ages i then (s.slot i).afterEmptying else marked i) ∧ s.PathsLeft t ages ∧
  (new.blindMargin ≠ s.site.blindMargin ∨ (∃ i, ages i = true) → s.AnyTrigger t) ∧
  (new.blindMargin = s.site.blindMargin → (∀ i, ages i = false) → t.engine = s.engine) ∧
  (t.notices.lost = false → .site (.fields new) ∈ t.notices.notices ∧ ∀ i,
    (ages i = true → t.stageStateNotice i ∈ t.notices.notices) ∧
    ((marked i).causes ≠ (s.slot i).causes ∨ (ages i = true ∧ (marked i).causes ≠ causesNone) → t.clampNotice i ∈ t.notices.notices)) ∧
  let staled := allSlots.foldl
    (fun (u : State) i => if (marked i).causes = (s.slot i).causes then u else u.send (.clamp i (s.slot i).port (s.slot i).causes (marked i).causes
      (marked i).lineAsserted .staleTime (s.slot i).lastLevel s.clock.minute s.clock.second none)) { s with site := new }
  t.witness = ((allSlots.filter fun i => ages i && (marked i).causes != causesNone).foldl
    (fun (u : State) i => u.send (.clamp i none (marked i).causes causesNone false .empty none s.clock.minute s.clock.second none)) staled).witness

/-! ### Settings (R36, R60, R86, R95, R133, R150, R173) -/

/-- The site parameters stay in their ranges. -/
abbrev Site.InRange (x : Site) : Prop :=
  x.blindMargin ≤ 60 ∧ 1 ≤ x.correctionRise ∧ x.correctionRise ≤ 30 ∧ 1 ≤ x.correctionFall ∧ x.correctionFall ≤ 30 ∧ x.tolerance ≤ 30 ∧
  1 ≤ x.overLimit ∧ x.overLimit ≤ 32 ∧ 1 ≤ x.releaseCount ∧ x.releaseCount ≤ 255 ∧ 1 ≤ x.staleTime ∧ x.staleTime ≤ 10 ∧
  10 ≤ x.ageTime ∧ x.ageTime ≤ 600 ∧ 1 ≤ x.handoverTime ∧ x.handoverTime ≤ 30 ∧ 2 ≤ x.discardTime ∧ x.discardTime ≤ 30

end Sys2Proof.Machine
end

