-- ==== Sys2Proof/WellFormed.lean ====
section
/-! DEFINITION. Which commands a wire can carry: every value fits the bytes the manual gives it (R153), every row is of its own kind (R158, R160). -/

namespace Sys2Proof

/-- A one-byte value. -/
def isByte (n : Nat) : Bool := decide (n < 256)

/-- A two-byte value. -/
def isWord (n : Nat) : Bool := decide (n < 65536)

/-- The parameters of a row that names its table itself: whole ones that pass a check, or a short body. -/
def Params.fits {α : Type} (ok : α → Bool) : Params α → Bool
  | .whole a => ok a
  | .short => true
  | .noTable => false

/-- The parameters of a SITE row: it also carries the selectors that name no table (R160, log 7). -/
def Params.fitsSite {α : Type} (ok : α → Bool) : Params α → Bool
  | .whole a => ok a
  | .short => true
  | .noTable => true

/-- A SITE write fits its bytes (R153, R168). -/
def SiteArgs.fits (a : SiteArgs) : Bool :=
  isByte a.blindMargin && isByte a.correctionRise && isByte a.correctionFall && isByte a.tolerance && isByte a.overLimit &&
  isByte a.releaseCount && isByte a.staleTime && isWord a.ageTime && isByte a.handoverTime && isByte a.discardTime &&
  isByte a.stationReply && isByte a.minute && isByte a.exceedance && isByte a.ceiling && isByte a.clamp

/-- A breakpoint fits its bytes (R165). -/
def BreakpointArgs.fits (b : BreakpointArgs) : Bool := isWord b.minute && isWord b.limit && isByte b.curfew

/-- A ZONE write fits its bytes; its breakpoint list fits a body of 60 bytes (R153, R161). -/
def ZoneArgs.fits (a : ZoneArgs) : Bool :=
  isByte a.zone && isByte a.rampRate && isByte a.recoveryMargin && a.breakpoints.all BreakpointArgs.fits &&
  decide (a.breakpoints.length ≤ 10)

/-- A command that can arrive: each value fits its bytes, an UNKNOWN_KIND carries a kind value that is no request kind, a link frame is not discarded
for an ADDRESS, and only a SITE row carries a selector that names no table. -/
def Instr.wellFormed : Instr → Bool
  | .powerOnReset => true
  | .pinReset => true
  | .resetRelease => true
  | .memoryNotAnswering => true
  | .settingsLoadEnd => true
  | .secondBoundary => true
  | .minuteBoundary => true
  | .pollSent => true
  | .stationReply address level flags => decide (1 ≤ address) && decide (address ≤ 31) && isWord level && isByte flags
  | .badFrame => true
  | .stationReplyTimeout => true
  | .recalculationPassEnd => true
  | .forecastPassEnd => true
  | .staleTimeExpiry _ => true
  | .ageOut _ => true
  | .handoverTimerExpiry => true
  | .discardTimerExpiry => true
  | .tableClearCompletion => true
  | .saveEnd => true
  | .saveWriteTimeout .. => true
  | .warmRestartTaken => true
  | .frameDiscarded (.link _) cause => cause != .address
  | .frameDiscarded .bus _ => true
  | .interByteGap _ => true
  | .frameWhileHeld _ => true
  | .replySent _ => true
  | .unknownKind _ tag kind => isByte tag && isByte kind && !Machine.requestKinds.contains kind
  | .witnessEntrySent => true
  | .enrol _ tag args => isByte tag && args.fits fun a => isByte a.check
  | .report _ tag args => isByte tag && args.fits fun a => isWord a.level && isWord a.serial
  | .goLive _ tag => isByte tag
  | .goQuiet _ tag => isByte tag
  | .forceQuiet _ tag slot => isByte tag && slot.fits isByte
  | .forecast _ tag slots => isByte tag && slots.fits fun l => l.all isByte && decide (l.length ≤ 57)
  | .identify _ tag => isByte tag
  | .siteStatus _ tag part => isByte tag && part.fits isByte
  | .setClock _ tag args => isByte tag && args.fits fun a => isWord a.minute && isByte a.second
  | .enterEnforce _ tag => isByte tag
  | .returnToSetup _ tag => isByte tag
  | .warmRestart _ tag => isByte tag
  | .tableWriteSite _ tag args => isByte tag && args.fitsSite SiteArgs.fits
  | .tableDeleteSite _ tag args => isByte tag && args.fitsSite fun _ => true
  | .tableFindSite _ tag args => isByte tag && args.fitsSite fun _ => true
  | .tableReadSite _ tag args => isByte tag && args.fitsSite fun _ => true
  | .tableWriteZone _ tag args => isByte tag && args.fits ZoneArgs.fits
  | .tableDeleteZone _ tag zone => isByte tag && zone.fits isByte
  | .tableFindZone _ tag zone => isByte tag && zone.fits isByte
  | .tableReadZone _ tag zone => isByte tag && zone.fits isByte
  | .tableWriteReceptor _ tag args =>
    isByte tag && args.fits fun a => isByte a.receptor && isByte a.address && isByte a.zone && isWord a.floor
  | .tableDeleteReceptor _ tag receptor => isByte tag && receptor.fits isByte
  | .tableFindReceptor _ tag receptor => isByte tag && receptor.fits isByte
  | .tableReadReceptor _ tag receptor => isByte tag && receptor.fits isByte
  | .tableWriteStage _ tag args =>
    isByte tag && args.fits fun a => isByte a.slot && isByte a.kind && isByte a.weight && isWord a.stageMax
  | .tableDeleteStage _ tag slot => isByte tag && slot.fits isByte
  | .tableFindStage _ tag identity => isByte tag && identity.fits fun _ => true
  | .tableReadStage _ tag slot => isByte tag && slot.fits isByte
  | .tableWritePath _ tag args => isByte tag && args.fits fun a => isByte a.slot && isByte a.receptor && isWord a.loss
  | .tableDeletePath _ tag key => isByte tag && key.fits fun k => isByte k.slot && isByte k.receptor
  | .tableFindPath _ tag key => isByte tag && key.fits fun k => isByte k.slot && isByte k.receptor
  | .tableReadPath _ tag position => isByte tag && position.fits isByte
  | .tableWriteExceedance _ tag position => isByte tag && position.fits isByte
  | .tableDeleteExceedance _ tag position => isByte tag && position.fits isByte
  | .tableFindExceedance _ tag receptor => isByte tag && receptor.fits isByte
  | .tableReadExceedance _ tag position => isByte tag && position.fits isByte
  | .tableWriteRing _ tag receptor => isByte tag && receptor.fits isByte
  | .tableDeleteRing _ tag receptor => isByte tag && receptor.fits isByte
  | .tableFindRing _ tag receptor => isByte tag && receptor.fits isByte
  | .tableReadRing _ tag args => isByte tag && args.fits fun a => isByte a.receptor && isByte a.part
  | .tableClear _ tag table => isByte tag && table.fits isByte
  | .pushCap _ tag args => isByte tag && args.fits fun a => isByte a.slot && isWord a.cap
  | .popCap _ tag slot => isByte tag && slot.fits isByte
  | .forceClamp _ tag slot => isByte tag && slot.fits isByte
  | .releaseClamp _ tag slot => isByte tag && slot.fits isByte
  | .evict _ tag slot => isByte tag && slot.fits isByte
  | .readNotices _ tag count => isByte tag && count.fits isByte
  | .setAttentionMask _ tag enables => isByte tag && enables.fits fun e => e.toList.all isByte
  | .saveSettings _ tag => isByte tag
  | .frameBegun _ => true

end Sys2Proof
end

