-- ==== Sys2Proof/Certificates/Slice0/Obligations.lean ====
section
/-! DEFINITION. The statements for the provers, in the order of OBLIGATIONS.json. -/

open Sys2Proof Sys2Proof.Machine

/-! ### Steps and frames -/

/-- A step takes the command at the front of the queue and runs it on the state with the queue's rest. -/
def Obligations.StepRunsTheFrontCommand : Prop :=
  ∀ (s : State) (c : Instr) (rest : List Instr), s.pending = c :: rest → step s = exec c { s with pending := rest }

/-- Every command completes with a next state and leaves the waiting commands as they were; so does every step, which takes at most the front one.
That a row completes in a state in which its event cannot happen is the model's choice (log 3: it leaves the state), as are the step with no
command (log 1) and the queue of commands (log 30). -/
def Obligations.EveryCommandCompletes : Prop :=
  (∀ (c : Instr) (s : State), ∃ t, exec c s = .next t ∧ t.pending = s.pending) ∧
  ∀ s : State, ∃ t, step s = .next t ∧ t.pending = s.pending.tail

/-- MODEL's choice (log 1): what one step does while no command waits. -/
def Obligations.IdleStepIsOneMillisecond : Prop :=
  ∀ s : State, s.pending = [] →
    (s.loader = .held → step s = .next s) ∧
    (s.loader ≠ .held → s.poller.poll = none → (∀ i, (s.slot i).port = none) → s.arbiter.timer = none → s.latch = .empty →
      s.engine.activity = .idle → s.table = .idle →
      (s.clock.ms < 999 →
        step s = .next { s with
          clock := { s.clock with ms := s.clock.ms + 1 }
          slots := Vector.ofFn fun i =>
            { s.slot i with reportAge := (s.slot i).reportAge.map fun a => min 600000 (a + 1) } }) ∧
      (s.clock.ms = 999 → step s = exec .secondBoundary s))

/-- A frame sent as R153 and R154 lay it out passes the receiver's checks of R155 and gives back the body, on a link and on the bus. In a stream
of bytes (R155): a HUNTING receiver passes over every byte that is no SYNC; a whole frame is begun and accepted; a LENGTH outside 2 to 60, and on
the bus an ADDRESS outside 1 to 31, discards the frame at that byte, a wrong CRC at its last byte; the search goes on at the byte after. -/
def Obligations.FramesArriveAsSent : Prop :=
  (∀ body : List Byte, 2 ≤ body.length → body.length ≤ 60 →
    receiveFrame (frame body) = .accepted body ∧
    ∀ a : Nat, 1 ≤ a → a ≤ 31 →
      receiveBusFrame (busFrame a body) = .accepted (BitVec.ofNat 8 a :: body) ∧
      ∀ level flags : Nat, level < 65536 → flags < 256 →
        busCommand (busFrame a (u8 0x41 ++ u16 level ++ u8 flags)) = some (.stationReply a level flags)) ∧
  (let link (bytes : List Byte) := Reception.takeAll judgeLink .hunting bytes
  let bus (bytes : List Byte) := Reception.takeAll judgeBus .hunting bytes
  let after (told : List LineEvent) (x : Reception × List LineEvent) := (x.1, told ++ x.2)
  (∀ (b : Byte) (rest : List Byte), b ≠ sync → link (b :: rest) = link rest ∧ bus (b :: rest) = bus rest) ∧
  (∀ body crc rest : List Byte, 2 ≤ body.length → body.length ≤ 60 → crc.length = 2 →
    link (frame body ++ rest) = after [.begun, .accepted body] (link rest) ∧
    (crc ≠ crcBytes (u8 body.length ++ body) →
      link (sync :: (u8 body.length ++ body ++ crc ++ rest)) = after [.begun, .discarded 2] (link rest)) ∧
    ∀ a : Nat, 1 ≤ a → a ≤ 31 →
      bus (busFrame a body ++ rest) = after [.begun, .accepted (BitVec.ofNat 8 a :: body)] (bus rest) ∧
      (crc ≠ crcBytes (u8 body.length ++ u8 a ++ body) →
        bus (sync :: (u8 body.length ++ u8 a ++ body ++ crc ++ rest)) = after [.begun, .discarded 2] (bus rest))) ∧
  (∀ (len : Byte) (rest : List Byte), len.toNat < 2 ∨ 60 < len.toNat →
    link (sync :: len :: rest) = after [.begun, .discarded 0] (link rest) ∧
    bus (sync :: len :: rest) = after [.begun, .discarded 0] (bus rest)) ∧
  ∀ (len address : Byte) (rest : List Byte), 2 ≤ len.toNat → len.toNat ≤ 60 → address.toNat = 0 ∨ 31 < address.toNat →
    bus (sync :: len :: address :: rest) = after [.begun, .discarded 1] (bus rest))

/-- Every request that a wire can carry is read back from its body, with every parameter, and from the frame that carries it. A body too short,
and one whose selector names no table, spell no parameters and are left out (log 7). The layouts that the rules leave to inference are log 19. -/
def Obligations.RequestsDecodeAsEncoded : Prop :=
  ∀ (c : Instr) (body : List Byte), c.wellFormed → requestBody c = some body →
    requestOf (requestPort c) body = some c ∧
    (body.length ≤ 60 → linkCommand (requestPort c) (frame body) = some c)

/-! ### Sound states -/

/-- The state after reset is sound in every respect in which a step keeps a state sound. The values that are the model's are named in logs 8, 11,
33, 35 and 36. -/
def Obligations.ResetIsSound : Prop :=
  State.reset.clock.InRange ∧ State.reset.BootSound ∧ State.reset.ZonesSound ∧ State.reset.ReceptorsSound ∧
  State.reset.ExceedancesSound ∧ State.reset.SlotsInRange ∧ State.reset.StagesSound ∧ State.reset.EngineSound ∧
  State.reset.notices.Sound ∧ State.reset.witness.Sound ∧ State.reset.RepliesFit ∧ State.reset.settings.wf = true ∧
  State.reset.site.InRange

/-- The millisecond count, the second and the minute-of-day stay in their ranges. The mode is BOOT exactly until the settings load has ended, and
through BOOT the blocks hold their reset values, those of the SITE parameters by inference (log 35) and of the time of the first drop by the
model's choice (log 36). -/
def Obligations.StepKeepsClockAndModeSound : Prop :=
  (∀ s t : State, s.clock.InRange → step s = .next t → t.clock.InRange) ∧
  (∀ s t : State, s.BootSound → step s = .next t → t.BootSound)

/-- Every zone record stays in its ranges, its fade offset goes with its state, its breakpoints stay ascending. Every slot record stays in the
ranges of Table 5-1, and its report age is present exactly while a port is bound. The site parameters stay in the ranges of their rules. -/
def Obligations.StepKeepsZonesAndSlotsInRange : Prop :=
  (∀ s t : State, s.ZonesSound → step s = .next t → t.ZonesSound) ∧
  (∀ s t : State, s.SlotsInRange → step s = .next t → t.SlotsInRange) ∧
  (∀ s t : State, s.site.InRange → step s = .next t → t.site.InRange)

/-- Every receptor record stays in its ranges (the levels, the ring, the residual of a clock and slots in range among them), a station is LOST
exactly at 3 misses, and no two records share a station address. The creation list holds the occupied positions once each, and a receptor's open
exceedance names exactly its OPEN record. -/
def Obligations.StepKeepsReceptorsAndRecordsSound : Prop :=
  (∀ s t : State, s.BootSound → s.clock.InRange → s.SlotsInRange → s.ReceptorsSound → step s = .next t → t.ReceptorsSound) ∧
  (∀ s t : State, s.BootSound → s.ExceedancesSound → step s = .next t → t.ExceedancesSound)

/-- The bindings, the admission queue and the handover stay sound together. -/
def Obligations.StepKeepsAdmissionSound : Prop :=
  ∀ s t : State, s.AdmissionSound → step s = .next t → t.AdmissionSound

/-- Only ENFORCE admits, every path entry names an occupied slot and a receptor, and no slot of the queue stands under curfew. -/
def Obligations.StepKeepsStagesSound : Prop :=
  ∀ s t : State, s.StagesSound → step s = .next t → t.StagesSound

/-- The engine's pass and the latch stay together, and an IDLE engine has nothing pending. The notice queue holds at most 32 notices, one for each
kind and subject; the witness FIFO at most 16 entries, its drops counted exactly while the gap-pending flag is SET, and dated exactly then (the
time of the first drop is absent otherwise by the model's choice, log 36). The settings memory keeps its canonical form. -/
def Obligations.StepKeepsEngineQueuesAndMemorySound : Prop :=
  (∀ s t : State, s.EngineSound → step s = .next t → t.EngineSound) ∧
  (∀ s t : State, s.notices.Sound → s.witness.Sound → step s = .next t → t.notices.Sound ∧ t.witness.Sound) ∧
  (∀ s t : State, s.settings.wf = true → step s = .next t → t.settings.wf = true)

/-- No reply held ever exceeds 60 bytes (R161), in the layouts of the model where the rules leave them to inference (log 19). -/
def Obligations.RepliesFitSixtyBytes : Prop :=
  ∀ s t : State, s.ZonesSound → s.ReceptorsSound → s.SlotsInRange → s.AdmissionSound → s.RepliesFit → step s = .next t → t.RepliesFit

/-! ### Resets, load and save -/

/-- POWER_ON_RESET and PIN_RESET leave every block at its reset values and reset asserted; they differ in the start kind alone. The settings
memory is kept but for a first part of the byte writes of a save that was in progress (how many is free, log 9). That the SITE parameters take
their not-loaded values is read from R168 (log 35), that reset stays asserted until its release from R174 (log 26). -/
def Obligations.HardResetsLeaveTheResetValues : Prop :=
  ∀ s : State, ∃ t, exec .powerOnReset s = .next t ∧ exec .pinReset s = .next { t with startKind := .pin } ∧
    t.startKind = .powerOn ∧ t.loader = .held ∧ t.mode = .boot ∧ t.clock = { ms := 0, minute := 0, second := 0, isSet := false } ∧
    t.site = { blindMargin := 30, correctionRise := 10, correctionFall := 5, tolerance := 10, overLimit := 8, releaseCount := 20, staleTime := 3,
               ageTime := 60, handoverTime := 8, discardTime := 8,
               enables := { stationReply := true, minute := true, exceedance := true, ceiling := true, clamp := true } } ∧
    (∀ z, t.zone z = { breakpoints := [], rampRate := 10, recoveryMargin := 30, state := .opened, licence := 0, effective := 0, fade := 0,
                       grace := 0, inForce := none }) ∧
    (∀ r, t.receptor r = none) ∧ t.poller = { poll := none, receiver := .hunting } ∧
    (∀ p, t.excRecord p = none) ∧ t.exceedances.created = [] ∧
    (∀ i, t.slot i = { kind := .openKind, identity := none, port := none, state := .empty, weight := 1, stageMax := 1050, lastLevel := none,
                       reportAge := none, stale := false, overCount := 0, goodCount := 0,
                       causes := { hasOver := false, hasStale := false, hasHandover := false, hasConsole := false }, caps := [],
                       published := 0, previous := 0, serial := 0, prospective := none, debt := false, outcome := .none }) ∧
    (∀ p, t.path p = none) ∧ t.engine = { activity := .idle, pending := false } ∧
    t.arbiter.queue = [] ∧ t.arbiter.phase = none ∧ t.arbiter.timer = none ∧ t.latch = .empty ∧
    (∀ p, t.link p = { receiver := .hunting, buffer := none }) ∧ t.table = .idle ∧
    t.notices.notices = [] ∧ t.notices.lost = false ∧ (∀ k, t.notices.mask.get k = false) ∧
    t.witness.fifo = [] ∧ t.witness.gapPending = false ∧ t.witness.drops = 0 ∧ t.pending = s.pending ∧
    ((∀ image, s.table ≠ .saving image) → t.settings = s.settings) ∧
    ∀ image, s.table = .saving image → ∃ n, t.settings = s.settings.writeAll ((saveWrites image).take n)

/-- RESET_RELEASE begins the load; MEMORY_NOT_ANSWERING, and SETTINGS_LOAD_END over a memory in which no section is marked, end it in SETUP with
every default, the first with a SITE notice, the second with none (R174, R175). With no load running neither changes anything, and RESET_RELEASE
of a part that runs changes nothing: the model's choice (log 3). A marked section whose CRC does not match its contents, or one of whose counts is
above its maximum, is BAD: a load whose only marked section is bad ends in SETUP with every default and one SITE notice that names the bad section
(R175; ADJUSTED false in it is the model's choice, log 21). -/
def Obligations.StartWithoutSettingsEndsInSetup : Prop :=
  (∀ s : State,
    exec .resetRelease s = .next { s with loader := if s.loader = .held then .loading else s.loader } ∧
    (s.loader ≠ .loading → exec .memoryNotAnswering s = .next s ∧ exec .settingsLoadEnd s = .next s) ∧
    (s.loader = .loading → s.BootSound →
      exec .memoryNotAnswering s =
        .next { s with mode := .setup, loader := .ended, notices := { s.notices with notices := [.site .memoryAbsent] } } ∧
      ((∀ sec, s.settings.read (sectionOffset sec) ≠ 0x5A#8) →
        exec .settingsLoadEnd s = .next { s with mode := .setup, loader := .ended }))) ∧
  (∀ (s : State) (bad : Section), s.loader = .loading → s.BootSound →
    s.settings.read (sectionOffset bad) = 0x5A#8 → (∀ sec, sec ≠ bad → s.settings.read (sectionOffset sec) ≠ 0x5A#8) →
    (∀ n, sectionLength s.settings bad = some n →
      s.settings.bytes (sectionOffset bad + 1 + n) 2 ≠ crcBytes (s.settings.bytes (sectionOffset bad + 1) n)) →
    exec .settingsLoadEnd s = .next { s with
      mode := .setup
      loader := .ended
      notices := { s.notices with
        notices := [.site (.load false (allSections.map fun sec => if sec = bad then .bad else .skipped) 0 0)] } })

/-- Whatever canonical memory there was, after the byte writes of a save every section reads back LOADED with the contents the save captured
(R175, R177). A save followed by a start brings back as they were saved the site parameters, the witness enables, the zone settings, every
receptor record with the starting values of R36, every FIXED slot, unbound and QUIET (R86), and the paths of FIXED slots, at the lowest positions
in their order (R103). -/
def Obligations.SavedSettingsComeBack : Prop :=
  (∀ (s : State) (m : Memory) (sec : Section), m.wf = true → s.ZonesSound →
    readSection (m.writeAll (saveWrites s.captureSettings)) sec = (.loaded, s.sectionContents sec)) ∧
  (∀ (s u : State) (m : Memory), m.wf = true → s.ZonesSound → s.site.InRange → s.ReceptorsSound → s.SlotsInRange → s.BindingsSound →
    s.PathsSound → u.BootSound → u.loader = .loading → u.settings = m.writeAll (saveWrites s.captureSettings) →
    ∃ t, exec .settingsLoadEnd u = .next t ∧ t.mode = .setup ∧ t.loader = .ended ∧ t.settings = u.settings ∧ t.site = s.site ∧
      (∀ z, (t.zone z).breakpoints = (s.zone z).breakpoints ∧ (t.zone z).rampRate = (s.zone z).rampRate ∧
        (t.zone z).recoveryMargin = (s.zone z).recoveryMargin) ∧
      (∀ r, t.receptor r = (s.receptor r).map fun x =>
        { address := x.address, zone := x.zone, floor := x.floor, station := .new, misses := 0, accumulator := none, ring := [],
          level15 := none, lastLevel := none, residual := { sum := 0, count := 0 }, correction := 0, exceedance := none }) ∧
      (∀ i, t.slot i =
        if (s.slot i).kind = .fixed then
          { slotDefault with
            kind := .fixed, state := .quiet, identity := (s.slot i).identity, weight := (s.slot i).weight, stageMax := (s.slot i).stageMax }
        else slotDefault) ∧
      ∀ p, t.path p = ((allPathPos.filterMap s.path).filter fun e => (s.slot e.slot).kind == .fixed)[p.val]?)

/-- The end of a save, whole or at a write that is not confirmed: each address holds the byte written to it last, every other address is
unchanged, the table engine is IDLE and its notice is posted. With no save in progress nothing changes (log 3), nor at a write that the save does
not hold; that the byte of a write not confirmed may have landed or not is the row's operand (log 10). -/
def Obligations.SaveWritesItsBytesAndNoOther : Prop :=
  ∀ (s : State) (sec : Section) (write : Nat) (landed : Bool), s.settings.wf = true →
    ((∀ image, s.table ≠ .saving image) → exec .saveEnd s = .next s ∧ exec (.saveWriteTimeout sec write landed) s = .next s) ∧
    ∀ image, s.table = .saving image →
      (∃ t, exec .saveEnd s = .next t ∧
        t = { s with settings := t.settings, table := .idle, notices := s.notices.post (.engine .saved) } ∧
        ∀ a, t.settings.read a = (((saveWrites image).reverse.find? fun w => w.1 == a).map (·.2)).getD (s.settings.read a)) ∧
      (hasWrite image sec write = false → exec (.saveWriteTimeout sec write landed) s = .next s) ∧
      (hasWrite image sec write = true →
        ∃ t, exec (.saveWriteTimeout sec write landed) s = .next t ∧
          t = { s with settings := t.settings, table := .idle, notices := s.notices.post (.engine (.saveFailed sec)) } ∧
          ∀ a, t.settings.read a =
            (((writesUpTo sec (if landed then write + 1 else write) image).reverse.find? fun w => w.1 == a).map (·.2)).getD (s.settings.read a))

/-- The restart that a WARM RESTART ordered, when its reply has been sent: as a hard reset, but the clock runs on, the exceedance table is kept
with its OPEN records closed with cause RESTART, and the load begins at once. With no such reply WARM_RESTART_TAKEN changes nothing (log 3), and
it is the model's choice that REPLY_SENT of that reply performs the restart (log 6). What a save that it cuts leaves in the memory is left out
(log 9). -/
def Obligations.WarmRestartKeepsClockAndRecords : Prop :=
  ∀ s : State,
    ((∀ r, (s.link 0).buffer = some r → ¬(r.kind = 0x95 ∧ r.answer.status = .done)) → exec .warmRestartTaken s = .next s) ∧
    ∀ tag : Nat, (s.link 0).buffer = some { kind := 0x95, tag := tag, answer := .done .none } →
      ∃ t, exec .warmRestartTaken s = .next t ∧ exec (.replySent 0) s = .next t ∧
        t.clock = s.clock ∧ t.startKind = .warmRestart ∧ t.loader = .loading ∧ t.mode = .boot ∧ t.BlocksAtReset ∧
        (∀ p, t.link p = { receiver := .hunting, buffer := none }) ∧ t.poller = { poll := none, receiver := .hunting } ∧
        t.exceedances.created = s.exceedances.created ∧
        (∀ p, t.excRecord p = (s.excRecord p).map fun x =>
          if x.state = .opened then { x with state := .closed, closedAt := some s.clock.minute, cause := some .restart } else x) ∧
        t.pending = s.pending ∧ ((∀ image, s.table ≠ .saving image) → t.settings = s.settings)

/-! ### Boundaries -/

/-- SECOND_BOUNDARY below second 59: the clock, each zone's ramp and fade with the ZONE notices of a ramp's or a fade's end in ascending zone
number (log 16), and the poll cycle of an even second. That the rest of the second, 1000 less the millisecond count, passes for every timer is the
model's choice (log 29), as is that nothing happens while reset is asserted (log 3). -/
def Obligations.SecondBoundaryMovesTimeZonesAndPoll : Prop :=
  ∀ s : State, (s.loader = .held → exec .secondBoundary s = .next s) ∧
    (s.loader ≠ .held → s.clock.second < 59 →
      ∃ t, exec .secondBoundary s = .next t ∧
        t = { s with
          clock := { s.clock with ms := 0, second := s.clock.second + 1 }
          zones := t.zones
          slots := Vector.ofFn fun i =>
            { s.slot i with reportAge := (s.slot i).reportAge.map fun a => min 600000 (a + (1000 - s.clock.ms)) }
          engine := t.engine
          arbiter := { s.arbiter with
            timer := s.arbiter.timer.map fun left => left - (1000 - s.clock.ms)
            passSinceHead := t.arbiter.passSinceHead }
          latch := s.latch.elapse (1000 - s.clock.ms)
          poller := t.poller
          notices := t.notices } ∧
        (s.mode = .boot → t.zones = s.zones ∧ t.engine = s.engine ∧ t.notices = s.notices) ∧
        (s.mode ≠ .boot →
          (∀ z, (s.zone z).FadeSound → t.zone z =
            { s.zone z with
              effective :=
                if (s.zone z).licence < (s.zone z).effective then max (s.zone z).licence ((s.zone z).effective - (s.zone z).rampRate)
                else (s.zone z).effective
              fade := if (s.zone z).state = .fading then min 600 ((s.zone z).fade + (s.zone z).rampRate) else (s.zone z).fade
              state :=
                if (s.zone z).state = .fading ∧ 600 ≤ (s.zone z).fade + (s.zone z).rampRate then .silenced else (s.zone z).state }) ∧
          ((∀ z, (s.zone z).FadeSound) →
            let ends := allZones.filter fun z =>
              decide ((s.zone z).licence < (s.zone z).effective ∧ (s.zone z).effective - (s.zone z).rampRate ≤ (s.zone z).licence) ||
              decide ((s.zone z).state = .fading ∧ 600 ≤ (s.zone z).fade + (s.zone z).rampRate)
            t.notices = ends.foldl (fun q z => q.post (t.zoneNotice z)) s.notices) ∧
          (t.zones = s.zones → t.engine = s.engine) ∧
          (t.zones ≠ s.zones → t.engine.activity ≠ .idle ∧ (s.engine.activity ≠ .idle → t.engine = { s.engine with pending := true })) ∧
          ((s.clock.second + 1) % 2 = 1 → t.poller.poll = s.poller.poll.map fun p => { p with wait := p.wait.map fun w => w - (1000 - s.clock.ms) }) ∧
          ((s.clock.second + 1) % 2 = 0 → t.poller.receiver = .hunting ∧
            ((∀ r, s.receptor r = none) → t.poller.poll = none) ∧
            ∀ r x, s.receptor r = some x → (∀ q, q < r → s.receptor q = none) →
              t.poller.poll = some { receptor := r, address := x.address, second := s.clock.second + 1, wait := none })))

/-- MINUTE_BOUNDARY, and SECOND_BOUNDARY at second 59: the clock, each zone's evaluation, grace and second-boundary move with its ZONE notice, the
close of every receptor's minute with its MINUTE copy and its judgement against the limit and the grace count that R27 hands over, and the poll
cycle of second 0. A change of an effective limit, a fade offset, a zone state, a correction or an open exceedance raises a trigger (R29, R58,
R64, R65), and without one the engine is as it was. At another second than 59 the rest of the minute passes for every timer (log 29); the order of
the blocks is log 16, nothing while reset is asserted log 3. -/
def Obligations.MinuteBoundaryClosesTheMinute : Prop :=
  ∀ s : State, (s.loader = .held → exec .minuteBoundary s = .next s) ∧
    (s.clock.second = 59 → exec .secondBoundary s = exec .minuteBoundary s) ∧
    (s.loader ≠ .held →
      ∃ t, exec .minuteBoundary s = .next t ∧
        t.clock = { s.clock with ms := 0, second := 0, minute := (s.clock.minute + 1) % 1440 } ∧
        t = { s with
          clock := t.clock, zones := t.zones, receptors := t.receptors, poller := t.poller, exceedances := t.exceedances, slots := t.slots,
          paths := t.paths, engine := t.engine, arbiter := t.arbiter, latch := s.latch.elapse (60000 - (1000 * s.clock.second + s.clock.ms)),
          notices := t.notices, witness := t.witness } ∧
        (∀ i, i ∉ s.arbiter.queue ∨ (t.slot i).state ≠ .empty → (t.slot i).reportAge =
          (s.slot i).reportAge.map fun a => min 600000 (a + (60000 - (1000 * s.clock.second + s.clock.ms)))) ∧
        (s.mode = .boot → t.zones = s.zones ∧ t.receptors = s.receptors ∧ t.engine = s.engine ∧ t.notices = s.notices ∧ t.witness = s.witness) ∧
        (s.mode ≠ .boot → s.ZonesSound →
          (∀ z, let e := ({ s with clock := t.clock } : State).evaluateZone z |>.zone z
            t.zone z =
              { e with
                grace := e.grace - 1
                effective := if e.licence < e.effective then max e.licence (e.effective - e.rampRate) else e.effective
                fade := if e.state = .fading then min 600 (e.fade + e.rampRate) else e.fade
                state := if e.state = .fading ∧ 600 ≤ e.fade + e.rampRate then .silenced else e.state } ∧
            let ends := (e.licence < e.effective ∧ e.effective - e.rampRate ≤ e.licence) ∨ (e.state = .fading ∧ 600 ≤ e.fade + e.rampRate)
            (t.notices.lost = false → ends → t.zoneNotice z ∈ t.notices.notices) ∧
            (t.notices.lost = false → ¬ends → e.licence ≠ (s.zone z).licence ∨ e.state ≠ (s.zone z).state →
              .zone z e.state e.licence e.effective e.fade e.grace e.inForce ∈ t.notices.notices)) ∧
          ((∀ z, (t.zone z).state ≠ (s.zone z).state → (t.zone z).state = .opened) → t.paths = s.paths ∧
            (∀ i, t.slot i = { s.slot i with reportAge := (t.slot i).reportAge }) ∧
            t.arbiter = { s.arbiter with timer := t.arbiter.timer, passSinceHead := t.arbiter.passSinceHead }) ∧
          (let changed := (∃ z, let e := ({ s with clock := t.clock } : State).evaluateZone z |>.zone z
              (e.effective, e.fade, e.state) ≠ ((s.zone z).effective, (s.zone z).fade, (s.zone z).state) ∨
              ((t.zone z).effective, (t.zone z).fade, (t.zone z).state) ≠ (e.effective, e.fade, e.state)) ∨
            ∃ r, (t.receptor r).map (fun y => (y.correction, y.exceedance)) ≠ (s.receptor r).map fun x => (x.correction, x.exceedance)
          (changed → s.AnyTrigger t) ∧ (¬changed → t.engine = s.engine)) ∧
          (∀ r, s.receptor r = none → t.receptor r = none) ∧
          (∀ r x, s.receptor r = some x →
            let count := (x.accumulator.map (·.count)).getD 0
            let level := if 20 ≤ count then x.accumulator.map fun a => a.level - shareOffset a.count else none
            let ring := (if x.ring.length < 15 then x.ring else x.ring.drop (x.ring.length - 14)) ++
              [{ minute := s.clock.minute, level := level, count := count }]
            let present := ring.filterMap (·.level)
            let mean := meanTowardZero x.residual.sum x.residual.count
            ∃ y, t.receptor r = some y ∧
              y = { x with
                accumulator := none
                ring := ring
                level15 :=
                  if 10 ≤ present.length then (foldLevels present).map fun f => f - shareOffset present.length else none
                residual := { sum := 0, count := 0 }
                correction :=
                  if 10 ≤ x.residual.count ∧ x.station = .active then
                    limitedStep x.correction (min 120 mean.toNat) s.site.correctionRise s.site.correctionFall
                  else x.correction
                exceedance := y.exceedance } ∧
              (t.witness.gapPending = false → s.site.enables.minute = true →
                .copy (.minute r x.zone { minute := s.clock.minute, level := level, count := count } y.level15 present.length) ∈ t.witness.fifo) ∧
              (s.ExceedancesSound →
                let e := ({ s with clock := t.clock } : State).evaluateZone x.zone |>.zone x.zone
                let withOver := allSlots.filter fun i => (t.slot i).causes.hasOver && t.audible i r
                (x.exceedance = none →
                  (0 < e.grace ∨ y.level15 = none ∨ (∃ v, y.level15 = some v ∧ v ≤ e.licence) → y.exceedance = none) ∧
                  (∀ v, e.grace = 0 → y.level15 = some v → e.licence < v → ∃ p, y.exceedance = some p ∧ t.excRecord p = some
                    { state := .opened, receptor := r, zone := x.zone, openedAt := s.clock.minute, closedAt := none, cause := none,
                      limit := e.licence, peak := v, minutesAbove := 1,
                      liveAtOpening := allSlots.filter fun i => (t.slot i).state == .live && t.audible i r, stagesOver := withOver })) ∧
                (∀ p old, x.exceedance = some p → s.excRecord p = some old →
                  let merged := allSlots.filter fun i => old.stagesOver.contains i || withOver.contains i
                  (0 < e.grace ∨ y.level15 = none → y.exceedance = some p ∧ t.excRecord p = some { old with stagesOver := merged }) ∧
                  (∀ v, e.grace = 0 → y.level15 = some v → e.licence < v → y.exceedance = some p ∧ t.excRecord p = some
                    { old with stagesOver := merged, minutesAbove := min 65535 (old.minutesAbove + 1), peak := max old.peak v }) ∧
                  (∀ v, e.grace = 0 → y.level15 = some v → v ≤ e.licence → y.exceedance = none ∧
                    (t.excRecord p = some
                      { old with stagesOver := merged, state := .closed, closedAt := some s.clock.minute, cause := some .returned } ∨
                    ∃ q, r < q ∧ (t.receptor q).bind (·.exceedance) = some p))))) ∧
          t.poller.receiver = .hunting ∧ ((∀ r, s.receptor r = none) → t.poller.poll = none) ∧
          ∀ r x, s.receptor r = some x → (∀ q, q < r → s.receptor q = none) →
            t.poller.poll = some { receptor := r, address := x.address, second := 0, wait := none }))

/-- The evaluation of a zone (R24 to R26): the breakpoint in force is the one with the greatest minute reached, or else the last of the day; a new
one sets limits, grace, state and fade; a lowered one lowers the licence limit; an empty list opens the zone at 0. No other zone changes. A change
of the effective limit, the fade offset or the zone state raises a trigger, one of the state or the licence limit posts the ZONE notice, and a
zone that becomes FADING is handed to the arbiter; with no such change the slots, the paths and the queue stay as they were (R29). What a zone
that becomes FADING does to the admission queue (R139): each member audible in the zone leaves it, QUIET, with the outcome REFUSED_CURFEW and its
STAGE_STATE and ADMISSION notices (R142; the ADMISSION one counts the members that stay: log 49). With the head gone the timer stops, every debt
is CLEAR without a grant, and the first member left becomes the ENTERING head, with its notices; with the head not gone nothing else changes. A
member that is then settled QUIET past its age time is emptied, with its CLAMP copy (R81, R96; at once: log 50, in the order of the queue: log
52). -/
def Obligations.EvaluationPutsABreakpointInForce : Prop :=
  ((∀ (bps : List Breakpoint) (m : Nat), BreakpointsSound bps → bps ≠ [] →
    ∃ k bp, inForceAt bps m = some k ∧ 1 ≤ k ∧ bps[k - 1]? = some bp ∧
      (∀ b ∈ bps, b.minute ≤ m → bp.minute ≤ m ∧ b.minute ≤ bp.minute) ∧
      ((∀ b ∈ bps, m < b.minute) → ∀ b ∈ bps, b.minute ≤ bp.minute)) ∧
  ∀ (s : State) (z : ZoneId),
    (∀ w, w ≠ z → (s.evaluateZone z).zone w = s.zone w) ∧
    (let t := s.evaluateZone z
    let changed := (t.zone z).effective ≠ (s.zone z).effective ∨ (t.zone z).fade ≠ (s.zone z).fade ∨ (t.zone z).state ≠ (s.zone z).state
    (changed → s.mode ≠ .boot → s.AnyTrigger t) ∧ (¬changed → t.engine = s.engine) ∧
      ((t.zone z).state ≠ (s.zone z).state ∨ (t.zone z).licence ≠ (s.zone z).licence → t.notices.lost = false →
        t.zoneNotice z ∈ t.notices.notices)) ∧
    (let t := s.evaluateZone z
    let u := if (s.zone z).state ≠ .fading ∧ (t.zone z).state = .fading then s.curfewZone z else s
    t.slots = u.slots ∧ t.paths = u.paths ∧ t.arbiter.queue = u.arbiter.queue ∧ t.arbiter.phase = u.arbiter.phase ∧
      t.arbiter.timer = u.arbiter.timer) ∧
    ((s.zone z).breakpoints = [] → (s.evaluateZone z).zone z =
      { s.zone z with inForce := none, licence := 0, effective := 0, state := .opened, fade := 0 }) ∧
    ∀ k bp, inForceAt (s.zone z).breakpoints s.clock.minute = some k → (s.zone z).breakpoints[k - 1]? = some bp →
      ((s.zone z).inForce = some k → (s.evaluateZone z).zone z =
        if bp.limit < (s.zone z).licence then
          { s.zone z with licence := bp.limit, grace := if s.mode = .enforce then 15 else (s.zone z).grace }
        else s.zone z) ∧
      ((s.zone z).inForce ≠ some k → (s.evaluateZone z).zone z =
        { s.zone z with
          inForce := some k
          licence := bp.limit
          effective := max (s.zone z).effective bp.limit
          grace :=
            if s.mode = .enforce ∧ (bp.limit < (s.zone z).licence ∨ bp.curfew = true ∧ (s.zone z).state = .opened) then 15
            else (s.zone z).grace
          state :=
            if bp.curfew = false then .opened
            else if s.mode = .enforce ∧ (s.zone z).state ≠ .silenced then .fading
            else .silenced
          fade :=
            if bp.curfew = false then 0
            else if s.mode = .enforce ∧ (s.zone z).state = .opened then 0
            else if s.mode = .enforce ∧ (s.zone z).state = .fading then (s.zone z).fade
            else 600 })) ∧
  (∀ (s : State) (z : ZoneId), s.AdmissionSound →
    let t := s.curfewZone z
    let heard (i : SlotId) : Bool := allPathPos.any fun p =>
      (s.path p).any fun e => e.slot == i && (s.receptor e.receptor).any fun x => x.zone == z
    let ages (i : SlotId) : Bool := (s.slot i).kind == .openKind && (s.slot i).published == 0 && (s.slot i).port.isSome &&
      (s.slot i).reportAge.any fun a => decide (1000 * s.site.ageTime ≤ a)
    let left := s.arbiter.queue.filter fun i => !heard i
    let headGone := ∃ h, s.arbiter.queue.head? = some h ∧ heard h = true
    t = { s with slots := t.slots, paths := t.paths, engine := t.engine, arbiter := t.arbiter, notices := t.notices, witness := t.witness } ∧
    t.arbiter.queue = left ∧
    (∀ i ∈ s.arbiter.queue, heard i = true →
      (ages i = false → t.slot i = { s.slot i with state := .quiet, prospective := none, outcome := .refusedCurfew, debt := false }) ∧
      (ages i = true → t.slot i = { slotDefault with
        weight := (s.slot i).weight, stageMax := (s.slot i).stageMax, previous := (s.slot i).previous, serial := (s.slot i).serial }) ∧
      (t.notices.lost = false → t.stageStateNotice i ∈ t.notices.notices ∧
        .admission i .quiet .refusedCurfew none left.length none none ∈ t.notices.notices)) ∧
    t.witness = ((s.arbiter.queue.filter fun i => heard i && ages i && (s.slot i).causes != causesNone).foldl
      (fun u i => u.send (.clamp i none (s.slot i).causes causesNone false .empty none s.clock.minute s.clock.second none)) s).witness ∧
    (∀ p, t.path p = (s.path p).bind fun e => if e.slot ∈ s.arbiter.queue ∧ heard e.slot = true ∧ ages e.slot = true then none else some e) ∧
    (¬headGone →
      t.arbiter = { s.arbiter with queue := left, passSinceHead := t.arbiter.passSinceHead } ∧
      (∀ i, i ∉ s.arbiter.queue ∨ heard i = false → t.slot i = s.slot i) ∧
      ((∀ i ∈ s.arbiter.queue, heard i = true → ages i = false) → t.engine = s.engine ∧ t.arbiter.passSinceHead = s.arbiter.passSinceHead) ∧
      ((∃ i ∈ s.arbiter.queue, heard i = true ∧ ages i = true) → s.AnyTrigger t)) ∧
    (headGone →
      t.arbiter.timer = none ∧ t.arbiter.phase = (if left = [] then none else some .counting) ∧ s.AnyTrigger t ∧ t.HeadPosted left.head? ∧
      ∀ i, i ∉ s.arbiter.queue ∨ heard i = false →
        t.slot i = { s.slot i with state := if left.head? = some i then .entering else (s.slot i).state, debt := false }))

/-- The judgement of a receptor at a close (R62 to R66), with the stages-over set brought up to date first: a held close opens and closes nothing;
a judged one opens, continues or closes a record, or changes nothing. An opening and a closing each raise one trigger, post the EXCEEDANCE notice
and send the EXCEEDANCE copy, which names the record an opening removed (R64, R65, R70, R71). -/
def Obligations.JudgementFollowsTable43 : Prop :=
  ∀ (s : State) (r : ReceptorId) (x : Receptor) (limit grace minute : Nat), s.receptor r = some x → s.ExceedancesSound →
    let withOver := allSlots.filter fun i => (s.slot i).causes.hasOver && s.audible i r
    let t := s.judge r limit grace minute
    (∀ q, q ≠ r → t.receptor q = s.receptor q) ∧
    (x.exceedance = none →
      (0 < grace ∨ x.level15 = none ∨ (∃ level, x.level15 = some level ∧ level ≤ limit) → t = s) ∧
      (grace = 0 → ∀ level, x.level15 = some level → limit < level →
        ∃ p, t.receptor r = some { x with exceedance := some p } ∧
          t.exceedances.created = s.exceedances.created.erase p ++ [p] ∧ (∀ q, q ≠ p → t.excRecord q = s.excRecord q) ∧
          (s.excRecord p = none → ∀ q, q < p → s.excRecord q ≠ none) ∧
          (s.excRecord p ≠ none → (∀ q, s.excRecord q ≠ none) ∧
            (s.exceedances.created.find? fun q => ((s.excRecord q).map (·.state)) == some .closed) = some p) ∧
          let opened : ExcRecord :=
            { state := .opened, receptor := r, zone := x.zone, openedAt := minute, closedAt := none, cause := none, limit := limit,
              peak := level, minutesAbove := 1,
              liveAtOpening := allSlots.filter fun i => (s.slot i).state == .live && s.audible i r, stagesOver := withOver }
          t.excRecord p = some opened ∧ (s.mode ≠ .boot → s.EngineTriggered t) ∧
          t.notices = s.notices.post (.exceedance r p .opened minute none limit level 1 none) ∧
          t.witness = (s.send (.exceedance true s.clock.minute s.clock.second p opened
            ((s.excRecord p).map fun old => (old.receptor, old.openedAt, old.closedAt)))).witness)) ∧
    (∀ p y, x.exceedance = some p → s.excRecord p = some y →
      let merged := allSlots.filter fun i => y.stagesOver.contains i || withOver.contains i
      (∀ q, q ≠ p → t.excRecord q = s.excRecord q) ∧ t.exceedances.created = s.exceedances.created ∧
      (0 < grace ∨ x.level15 = none → t.receptor r = some x ∧ t.excRecord p = some { y with stagesOver := merged } ∧
        t.engine = s.engine ∧ t.notices = s.notices ∧ t.witness = s.witness) ∧
      (grace = 0 → ∀ level, x.level15 = some level → limit < level →
        t.receptor r = some x ∧ t.engine = s.engine ∧ t.notices = s.notices ∧ t.witness = s.witness ∧
        t.excRecord p = some { y with stagesOver := merged, minutesAbove := min 65535 (y.minutesAbove + 1), peak := max y.peak level }) ∧
      (grace = 0 → ∀ level, x.level15 = some level → level ≤ limit →
        let closed : ExcRecord := { y with stagesOver := merged, state := .closed, closedAt := some minute, cause := some .returned }
        t.receptor r = some { x with exceedance := none } ∧ t.excRecord p = some closed ∧ (s.mode ≠ .boot → s.EngineTriggered t) ∧
        t.notices = s.notices.post (.exceedance r p .closed y.openedAt (some minute) y.limit y.peak y.minutesAbove (some .returned)) ∧
        t.witness = (s.send (.exceedance false s.clock.minute s.clock.second p closed none)).witness))

/-! ### The monitor bus -/

/-- A reply of the polled station acts on its receptor as Tables 3-2 and 3-3 give for its flags, and the cycle goes on to the next receptor number
above that has a record; no other receptor changes. A change between blind and sighted raises one trigger (R42), a change of the station state
posts the STATION notice (R48), and the outcome sends its STATION_REPLY copy (R49). The reply is taken whatever is left of the 40 ms: the model's
choice (log 2). -/
def Obligations.StationReplyUpdatesItsReceptor : Prop :=
  ∀ (s : State) (p : Poll) (w level flags : Nat) (x : Receptor),
    s.poller.poll = some p → p.wait = some w → s.receptor p.receptor = some x →
    let taken := min level 1400
    let isFault := flags / 4 % 2 = 1
    let isCalibrating := flags / 2 % 2 = 1
    let isWind := flags % 2 = 1
    let minuteTaken := match x.accumulator with
      | none => some { level := taken, count := 1 }
      | some a => if a.count < 30 then some { level := powerSum a.level taken, count := a.count + 1 } else some a
    ∃ t, exec (.stationReply p.address level flags) s = .next t ∧
      t = { s with
        receptors := t.receptors, poller := t.poller, engine := t.engine, arbiter := { s.arbiter with passSinceHead := t.arbiter.passSinceHead },
        notices := t.notices, witness := t.witness } ∧
      (∀ q, q ≠ p.receptor → t.receptor q = s.receptor q) ∧
      (isFault → t.receptor p.receptor =
        some (if x.misses < 2 then { x with misses := x.misses + 1 } else { x with misses := 3, station := .lost })) ∧
      (¬isFault → isCalibrating → t.receptor p.receptor = some { x with station := .calibrating, misses := 0, lastLevel := some taken }) ∧
      (¬isFault → ¬isCalibrating → isWind →
        t.receptor p.receptor = some { x with station := .active, misses := 0, lastLevel := some taken, accumulator := minuteTaken }) ∧
      (¬isFault → ¬isCalibrating → ¬isWind →
        t.receptor p.receptor = some
          { x with
            station := .active, misses := 0, lastLevel := some taken, accumulator := minuteTaken
            residual := match s.predictedLevel p.receptor with
              | none => x.residual
              | some predicted =>
                if x.floor ≤ predicted ∧ x.residual.count < 30 then
                  { sum := x.residual.sum + ((taken : Int) - predicted), count := x.residual.count + 1 }
                else x.residual }) ∧
      (let cls := if isFault then .fault else if isCalibrating then .replyCalibrating else if isWind then .replyWind else .reply
      let station := if isFault then (if x.misses < 2 then x.station else .lost) else if isCalibrating then .calibrating else .active
      let misses := if isFault then (if x.misses < 2 then x.misses + 1 else 3) else 0
      let lastLevel := if isFault then x.lastLevel else some taken
      ((x.station = .active ↔ station = .active) → t.engine = s.engine ∧ t.arbiter = s.arbiter) ∧
      (¬(x.station = .active ↔ station = .active) → s.mode ≠ .boot → s.EngineTriggered t) ∧
      t.notices = (if station = x.station then s.notices else s.notices.post (.station p.receptor station misses lastLevel x.address)) ∧
      t.witness =
        (s.send (.stationReply p.receptor p.address cls (some taken) station misses s.clock.minute s.clock.second)).witness) ∧
      t.poller.receiver = .hunting ∧
      ((∀ q, p.receptor < q → s.receptor q = none) → t.poller.poll = none) ∧
      ∀ q y, p.receptor < q → s.receptor q = some y → (∀ k, p.receptor < k → k < q → s.receptor k = none) →
        t.poller.poll = some { receptor := q, address := y.address, second := p.second, wait := none }

/-- POLL_SENT starts the 40 ms wait, and nothing else (R38); with no poll being sent it changes nothing (the model's choice, log 3). Every other
end of a poll is a miss: it raises the consecutive misses, the third making the station LOST, and changes nothing else of any receptor. A sighted
receptor that becomes blind raises one trigger (R42), a station that becomes LOST posts its STATION notice (R48), and each miss sends its
STATION_REPLY copy (R49). While no poll awaits a reply, and at a gap outside a frame, nothing on the bus changes anything: for what arrives R38
says so, for a timeout and a gap it is the model's choice (log 3). Each row is taken whatever is left of the 40 ms, STATION_REPLY_TIMEOUT before
they have passed too: the model's choice (log 2). -/
def Obligations.EveryOtherPollEndIsAMiss : Prop :=
  (∀ s : State,
    (∀ p, s.poller.poll = some p → p.wait = none →
      exec .pollSent s = .next { s with poller := { poll := some { p with wait := some 40 }, receiver := .hunting } }) ∧
    ((∀ p, s.poller.poll = some p → p.wait ≠ none) → exec .pollSent s = .next s)) ∧
  (∀ (s : State) (c : Instr),
    (c = .badFrame ∨ c = .stationReplyTimeout ∨ (∃ cause, c = .frameDiscarded .bus cause) ∨
      (c = .interByteGap .bus ∧ s.poller.receiver = .receiving) ∨
      ∃ a level flags, c = .stationReply a level flags ∧ ∀ p, s.poller.poll = some p → p.address ≠ a) →
    ((∀ p, s.poller.poll = some p → p.wait = none) → exec c s = .next s) ∧
    (s.poller.receiver = .hunting → exec (.interByteGap .bus) s = .next s) ∧
    ∀ p w x, s.poller.poll = some p → p.wait = some w → s.receptor p.receptor = some x →
      ∃ t, exec c s = .next t ∧
        t = { s with
          receptors := t.receptors, poller := t.poller, engine := t.engine, arbiter := { s.arbiter with passSinceHead := t.arbiter.passSinceHead },
          notices := t.notices, witness := t.witness } ∧
        (∀ q, q ≠ p.receptor → t.receptor q = s.receptor q) ∧
        t.receptor p.receptor =
          some (if x.misses < 2 then { x with misses := x.misses + 1 } else { x with misses := 3, station := .lost }) ∧
        (let station := if x.misses < 2 then x.station else .lost
        let misses := if x.misses < 2 then x.misses + 1 else 3
        let cls := if c = .stationReplyTimeout then .timeout else .badFrame
        (x.station ≠ .active ∨ x.misses < 2 → t.engine = s.engine ∧ t.arbiter = s.arbiter) ∧
        (x.station = .active → ¬x.misses < 2 → s.mode ≠ .boot → s.EngineTriggered t) ∧
        t.notices = (if station = x.station then s.notices else s.notices.post (.station p.receptor station misses x.lastLevel x.address)) ∧
        t.witness = (s.send (.stationReply p.receptor p.address cls none station misses s.clock.minute s.clock.second)).witness) ∧
        t.poller.receiver = .hunting ∧ t.poller.poll = (s.pollFrom (p.receptor.val + 1) p.second).poller.poll)

/-! ### The allowance engine -/

/-- A trigger starts a pass on the present inputs when the engine is IDLE, sets the pending flag otherwise, and is not taken in BOOT (R108); the
end of a pass serves a pending recalculation before a waiting forecast, and else leaves the engine IDLE (R109). -/
def Obligations.TriggersAndTheChoiceOfWork : Prop :=
  ∀ s : State,
    (s.mode = .boot → s.trigger = s) ∧
    (s.mode ≠ .boot → s.engine.activity = .idle →
      s.trigger = { s with
        engine := { activity := .recalculating s.capture, pending := s.engine.pending }, arbiter := { s.arbiter with passSinceHead := true } }) ∧
    (s.mode ≠ .boot → s.engine.activity ≠ .idle → s.trigger = { s with engine := { s.engine with pending := true } }) ∧
    (s.engine.pending = true → s.chooseNext = { s with
      engine := { activity := .recalculating s.capture, pending := false }, arbiter := { s.arbiter with passSinceHead := true } }) ∧
    (s.engine.pending = false →
      (∀ o q, s.latch = .queued o q → s.chooseNext = { s with
        engine := { activity := .forecasting s.capture q s.clock.minute s.clock.second, pending := false }, latch := .computing o q }) ∧
      ((∀ o q, s.latch ≠ .queued o q) → s.chooseNext = { s with engine := { activity := .idle, pending := false } }))

/-- The budget, Q value, computed ceiling and limit source of a pass (R112 to R115): the ceiling is the least of the Q values, the stage maximum
and the top cap, floored at 0, so 0 only where one of them is at or below 0; the source is the lowest receptor whose Q value equals the least,
else CAP where the top cap equals it, else MAXIMUM. -/
def Obligations.CeilingIsTheLeastOfItsTerms : Prop :=
  ∀ (c : Capture) (counted : List SlotId) (i : SlotId),
    (∀ x : ReceptorCapture, c.budget x =
      ((c.zones.get x.zone).effective : Int) - x.correction - (if x.exceeded = true then ((c.zones.get x.zone).recoveryMargin : Int) else 0)
        - (if x.blind = true then (c.blindMargin : Int) else 0) - (c.zones.get x.zone).fade) ∧
    (∀ (x : ReceptorCapture) (loss : Nat),
      let whole := ((counted.filter fun j => (c.loss j x.receptor).isSome).map fun j => (c.slots.get j).weight).sum
      c.qValue counted i x loss =
        if (c.zones.get x.zone).state = .silenced then 0
        else c.budget x - shareOffset whole + shareOffset (c.slots.get i).weight + loss) ∧
    c.ceiling counted i ≤ (c.slots.get i).stageMax ∧
    (∀ cap, (c.slots.get i).topCap = some cap → c.ceiling counted i ≤ cap) ∧
    (∀ x ∈ c.receptors, ∀ loss, c.loss i x.receptor = some loss → (c.ceiling counted i : Int) ≤ max 0 (c.qValue counted i x loss)) ∧
    (c.ceiling counted i = (c.slots.get i).stageMax ∨ (c.slots.get i).topCap = some (c.ceiling counted i) ∨
      ∃ x ∈ c.receptors, ∃ loss, c.loss i x.receptor = some loss ∧ (c.ceiling counted i : Int) = max 0 (c.qValue counted i x loss)) ∧
    (let isLeast (v : Int) := v ≤ (c.slots.get i).stageMax ∧ (∀ cap, (c.slots.get i).topCap = some cap → v ≤ cap) ∧
      ∀ y ∈ c.receptors, ∀ l, c.loss i y.receptor = some l → v ≤ c.qValue counted i y l
    c.ceiling counted i = (c.least counted i).toNat ∧ isLeast (c.least counted i) ∧
    (c.receptors.Pairwise (fun a b => a.receptor < b.receptor) →
      ∀ x ∈ c.receptors, ∀ loss, c.loss i x.receptor = some loss → isLeast (c.qValue counted i x loss) →
        (∀ y ∈ c.receptors, y.receptor < x.receptor → ∀ l, c.loss i y.receptor = some l → c.qValue counted i y l ≠ c.qValue counted i x loss) →
        c.source counted i = .receptor x.receptor ∧ c.limitTerm counted i = some
          { receptor := x.receptor, q := c.qValue counted i x loss, budget := c.budget x, weight := c.countedWeight counted x.receptor,
            loss := loss }) ∧
    ((∀ x ∈ c.receptors, ∀ loss, c.loss i x.receptor = some loss → ¬isLeast (c.qValue counted i x loss)) → c.limitTerm counted i = none ∧
      (∀ cap, (c.slots.get i).topCap = some cap → cap ≤ (c.slots.get i).stageMax → c.source counted i = .cap) ∧
      ((∀ cap, (c.slots.get i).topCap = some cap → (c.slots.get i).stageMax < cap) → c.source counted i = .maximum)))

/-- RECALCULATION_PASS_END publishes every slot as R116 and R117 give, with the CEILING notice and copy of each change (R121, R122), writes the
prospective ceiling of the slot that stays ENTERING (R119), and empties the slots this settles past their age time, with their STAGE_STATE and
CLAMP notices (R78, R81, R96); the arbiter then takes the captured ENTERING slot and the fallen set (R120), and the engine chooses its next work
(R109). That the emptying comes after the whole publication and before that report is the model's choice (log 52), as is that it falls in this
step (log 23). The least in the copy of a slot the pass did not count is a free value (log 12). With no such pass in flight it changes nothing
(log 3). -/
def Obligations.PassEndPublishesEveryCeiling : Prop :=
  ∀ s : State,
    ((∀ c, s.engine.activity ≠ .recalculating c) → exec .recalculationPassEnd s = .next s) ∧
    ∀ c, s.AdmissionSound → s.engine.activity = .recalculating c →
      let counted := allSlots.filter fun j => (c.slots.get j).state.counted
      let isComputed (i : SlotId) : Bool := (c.slots.get i).state == .live && (s.slot i).state == .live
      let v (i : SlotId) : Level := if isComputed i then c.ceiling counted i else 0
      let ages (i : SlotId) : Bool := (s.slot i).kind == .openKind && (s.slot i).state == .quiet && (s.slot i).port.isSome && v i == 0 &&
        (s.slot i).reportAge.any fun a => decide (1000 * s.site.ageTime ≤ a)
      let serial (i : SlotId) : Nat := if v i = (s.slot i).published then (s.slot i).serial else ((s.slot i).serial + 1) % 65536
      let previous (i : SlotId) : Level := if v i = (s.slot i).published then (s.slot i).previous else (s.slot i).published
      let fallen := allSlots.filter fun i => (c.slots.get i).state == .live && decide (v i < (s.slot i).published)
      ∃ u t : State, exec .recalculationPassEnd s = .next t ∧
        t = (u.takePassReport (allSlots.find? fun i => (c.slots.get i).state == .entering) fallen).chooseNext ∧
        u = { s with
          slots := u.slots, paths := u.paths, engine := u.engine, notices := u.notices, witness := u.witness, freeIndex := u.freeIndex } ∧
        u.engine = { s.engine with pending := s.engine.pending || allSlots.any ages } ∧
        (∀ p, u.path p = (s.path p).bind fun e => if ages e.slot then none else some e) ∧
        (∀ i, (t.slot i).published = v i ∧ (t.slot i).previous = previous i ∧ (t.slot i).serial = serial i ∧
          (t.slot i).weight = (s.slot i).weight ∧ (t.slot i).stageMax = (s.slot i).stageMax ∧
          (ages i = true → u.slot i = { slotDefault with
            weight := (s.slot i).weight, stageMax := (s.slot i).stageMax, published := 0, previous := previous i, serial := serial i }) ∧
          (ages i = false → u.slot i = { s.slot i with
            published := v i
            previous := previous i
            serial := serial i
            prospective :=
              if (c.slots.get i).state = .entering ∧ (s.slot i).state = .entering then some (c.ceiling counted i)
              else (s.slot i).prospective })) ∧
        (t.notices.lost = false → ∀ i, ages i = true →
          t.stageStateNotice i ∈ t.notices.notices ∧ ((s.slot i).causes ≠ causesNone → t.clampNotice i ∈ t.notices.notices)) ∧
        ∀ i, v i ≠ (s.slot i).published →
          let source := if isComputed i then c.source counted i else .notCounted
          let detail := if isComputed i then (c.limitTerm counted i).map fun x => (x.receptor, x.budget, x.weight, x.loss) else none
          (t.notices.lost = false →
            .ceiling i (v i) (s.slot i).published (serial i) (s.slot i).state source ∈ t.notices.notices) ∧
          (t.witness.gapPending = false → s.site.enables.ceiling = true → ∃ free : Int,
            .copy (.ceiling i (s.slot i).port (s.slot i).published (v i) (serial i) (s.slot i).state source
              (if i ∈ counted then c.least counted i else free) s.clock.minute s.clock.second detail) ∈ t.witness.fifo)

/-- FORECAST_PASS_END makes the latch READY with one ceiling for each occupied slot of the query, starts the discard timer, and chooses the next
work; no slot, notice or witness entry changes (R123, R148, R109). With no forecast pass in flight it changes nothing: the model's choice (log 3). -/
def Obligations.ForecastEndMakesTheLatchReady : Prop :=
  ∀ s : State,
    ((∀ c q m sec, s.engine.activity ≠ .forecasting c q m sec) → exec .forecastPassEnd s = .next s) ∧
    ∀ c q m sec o, s.engine.activity = .forecasting c q m sec → s.latch = .computing o q →
      let counted := allSlots.filter fun i => q.contains i && (c.slots.get i).state.occupied
      exec .forecastPassEnd s = .next { s with
        latch := .ready o q (counted.map fun i => (i, c.ceiling counted i)) m sec (1000 * s.site.discardTime)
        engine := { activity := if s.engine.pending then .recalculating s.capture else .idle, pending := false }
        arbiter := { s.arbiter with passSinceHead := s.arbiter.passSinceHead || s.engine.pending } }

/-! ### Admission -/

/-- The arbiter acts on a pass's report only where R131 says so: each LIVE slot of the fallen set takes a debt, and with one the head waits in
CONFIRMING with its timer started and its ADMISSION notice posted; with none the head is granted at once: it becomes LIVE with the outcome GRANTED
and leaves the queue, the next member becomes the ENTERING head, each with a trigger and its notices, and no HANDOVER cause is added. Any other
report changes nothing. That a pass has begun since the head became ENTERING is held in the model's own flag (log 33). -/
def Obligations.PassReportSetsDebtsOrGrants : Prop :=
  ∀ (s : State) (entering : Option SlotId) (fallen : List SlotId), s.AdmissionSound →
    let acts := s.arbiter.queue ≠ [] ∧ s.arbiter.phase = some .counting ∧ entering = s.arbiter.queue.head? ∧ s.arbiter.passSinceHead = true
    let t := s.takePassReport entering fallen
    (¬acts → t = s) ∧
    (acts → (∀ i ∈ fallen, (s.slot i).state ≠ .live) → t = s.grant .atOnce ∧
      ∀ h rest, s.arbiter.queue = h :: rest →
        t = { s with slots := t.slots, engine := t.engine, arbiter := t.arbiter, notices := t.notices } ∧
        s.HeadGranted t h rest .atOnce ∧ s.TriggersRaised t (!rest.isEmpty) ∧
        ∀ i, i ≠ h → t.slot i = { s.slot i with state := if rest.head? = some i then .entering else (s.slot i).state }) ∧
    (acts → (∃ i ∈ fallen, (s.slot i).state = .live) →
      t = { s with
        slots := t.slots
        arbiter := { s.arbiter with phase := some .confirming, timer := some (1000 * s.site.handoverTime) }
        notices := t.notices } ∧
      (∀ i, t.slot i = { s.slot i with debt := decide (i ∈ fallen) && (s.slot i).state == .live }) ∧
      ∀ h ∈ s.arbiter.queue.head?, t.notices = s.notices.post (t.admissionNotice h none))

/-- HANDOVER_TIMER_EXPIRY grants the head: each debt becomes the HANDOVER cause, with its CLAMP notice and copy, the head becomes LIVE and leaves
the queue, and the next member becomes the ENTERING head, each with a trigger and its ADMISSION and STAGE_STATE notices (R96, R133, R134, R142).
The model's choices: the debts are taken in ascending slot number (log 47), the row is taken whatever time is left (log 2), and with the timer
stopped it changes nothing (log 3). -/
def Obligations.HandoverExpiryGrantsTheHead : Prop :=
  ∀ s : State, (s.arbiter.timer = none → exec .handoverTimerExpiry s = .next s) ∧
    ∀ (left : Nat) (h : SlotId) (rest : List SlotId), s.AdmissionSound → s.arbiter.timer = some left → s.arbiter.queue = h :: rest →
      ∃ t, exec .handoverTimerExpiry s = .next t ∧
        t = { s with slots := t.slots, engine := t.engine, arbiter := t.arbiter, notices := t.notices, witness := t.witness } ∧
        s.HeadGranted t h rest .byTimeout ∧ s.TriggersRaised t (!rest.isEmpty) ∧
        (∀ i, i ≠ h → t.slot i =
          { s.slot i with
            state := if rest.head? = some i then .entering else (s.slot i).state
            debt := false
            causes := { (s.slot i).causes with hasHandover := (s.slot i).causes.hasHandover || (s.slot i).debt } }) ∧
        let clamped := allSlots.filter fun i => (s.slot i).debt && !(s.slot i).causes.hasHandover
        t.witness = (clamped.foldl
          (fun u i => u.send (.clamp i (s.slot i).port (s.slot i).causes (t.slot i).causes (t.slot i).lineAsserted .grant (s.slot i).lastLevel
            s.clock.minute s.clock.second none)) s).witness ∧
        (t.notices.lost = false → ∀ i ∈ clamped, t.clampNotice i ∈ t.notices.notices)

/-! ### Timers and the table engine -/

/-- STALE_TIME_EXPIRY marks stale a bound slot whose report age has reached the stale time, and adds the STALE cause (R94), with the CLAMP notice
and copy where the cause is new (R96). Any other slot, one whose REPORT was taken first among them (R88), does not become stale: the row then
changes nothing, by the model's choice (log 3). AGE_OUT empties a settled QUIET bound OPEN slot whose report age has reached the age time: its
record, its path entries, one trigger, and its notices and CLAMP copy (R77, R78, R81, R96; the level and port of the copy: log 31). Any other slot
does not age out, and the row then changes nothing (log 3). DISCARD_TIMER_EXPIRY empties a READY latch and posts FORECAST_DISCARDED (R149),
whatever time is left (log 2); in any other latch state it changes nothing: the model's choice (log 3). -/
def Obligations.TimersMarkEmptyAndDiscard : Prop :=
  (∀ (s : State) (i : SlotId),
    let due := (s.slot i).port ≠ none ∧ (s.slot i).stale = false ∧ ∃ a ∈ (s.slot i).reportAge, 1000 * s.site.staleTime ≤ a
    (¬due → exec (.staleTimeExpiry i) s = .next s) ∧
    (due →
      ∃ t, exec (.staleTimeExpiry i) s = .next t ∧ t = { s with slots := t.slots, notices := t.notices, witness := t.witness } ∧
        (∀ j, j ≠ i → t.slot j = s.slot j) ∧
        t.slot i = { s.slot i with
          stale := true
          causes := { (s.slot i).causes with hasStale := true } } ∧
        ((s.slot i).causes.hasStale = false → t.notices = s.notices.post (t.clampNotice i) ∧
          t.witness = (s.send (.clamp i (s.slot i).port (s.slot i).causes (t.slot i).causes (t.slot i).lineAsserted .staleTime (s.slot i).lastLevel
            s.clock.minute s.clock.second none)).witness) ∧
        ((s.slot i).causes.hasStale = true → t.notices = s.notices ∧ t.witness = s.witness))) ∧
  (∀ (s : State) (i : SlotId),
    let ages := (s.slot i).kind = .openKind ∧ (s.slot i).state = .quiet ∧ (s.slot i).published = 0 ∧ (s.slot i).port ≠ none ∧
      ∃ a ∈ (s.slot i).reportAge, 1000 * s.site.ageTime ≤ a
    (¬ages → exec (.ageOut i) s = .next s) ∧
    (ages →
      ∃ t, exec (.ageOut i) s = .next t ∧
        t = { s with slots := t.slots, paths := t.paths, engine := t.engine, arbiter := { s.arbiter with passSinceHead := t.arbiter.passSinceHead },
                     notices := t.notices, witness := t.witness } ∧
        (∀ j, j ≠ i → t.slot j = s.slot j) ∧ t.slot i = (s.slot i).afterEmptying ∧ s.PathsLeft t (· == i) ∧
        (s.mode ≠ .boot → s.EngineTriggered t) ∧ t.SamePosts (s.reportBinding i (s.slot i) (t.slot i) .empty))) ∧
  (∀ s : State,
    (∀ o q result m sec left, s.latch = .ready o q result m sec left →
      exec .discardTimerExpiry s = .next { s with
        latch := .empty, notices := s.notices.post (.forecastDiscarded o q m sec s.clock.minute s.clock.second) }) ∧
    ((∀ o q result m sec left, s.latch ≠ .ready o q result m sec left) → exec .discardTimerExpiry s = .next s))

/-- TABLE_CLEAR_COMPLETION empties its table with the triggers, notices and copies of the owners' rules, posts the ENGINE notice of the clear, and
leaves the table engine IDLE (R31, R53, R67, R68, R85, R106, R167, R168); several records go in ascending order, of STAGE by the model's choice
(log 46). The count in the notice is the model's choice for the tables whose records are not counted by their owners' rules: 4 zones, 1 site, the
unbound slots (log 40). With no clear in progress it changes nothing (log 3). -/
def Obligations.ClearCompletionEmptiesItsTable : Prop :=
  ∀ s : State, ((∀ k, s.table ≠ .clearing k) → exec .tableClearCompletion s = .next s) ∧
    ∀ k, s.table = .clearing k → s.StagesSound → s.ExceedancesSound →
      ∃ t n, exec .tableClearCompletion s = .next t ∧ t.table = .idle ∧
        (t.notices.lost = false → .engine (.cleared k n) ∈ t.notices.notices) ∧
        t.clock = s.clock ∧ t.mode = s.mode ∧ t.latch = s.latch ∧ t.links = s.links ∧ t.settings = s.settings ∧ t.pending = s.pending ∧
        (k = .path → n = (allPathPos.filter fun p => (s.path p).isSome).length ∧ (∀ p, t.path p = none) ∧
          t = { s with paths := t.paths, table := .idle, engine := t.engine, arbiter := { s.arbiter with passSinceHead := t.arbiter.passSinceHead },
                       notices := s.notices.post (.engine (.cleared k n)) } ∧
          (n ≠ 0 → s.EngineTriggered t) ∧ (n = 0 → t.engine = s.engine)) ∧
        (k = .exceedance → n = (allExcPos.filter fun p => (s.excRecord p).isSome).length ∧ (∀ p, t.excRecord p = none) ∧
          t.exceedances.created = [] ∧ (∀ r, t.receptor r = (s.receptor r).map fun x => { x with exceedance := none }) ∧
          t = { s with exceedances := t.exceedances, receptors := t.receptors, table := .idle, engine := t.engine,
                       arbiter := { s.arbiter with passSinceHead := t.arbiter.passSinceHead },
                       notices := s.notices.post (.engine (.cleared k n)) } ∧
          ((∃ r, (s.receptor r).bind (·.exceedance) ≠ none) → s.AnyTrigger t) ∧
          ((∀ r, (s.receptor r).bind (·.exceedance) = none) → t.engine = s.engine)) ∧
        (k = .receptor → n = (allReceptors.filter fun r => (s.receptor r).isSome).length ∧ (∀ r, t.receptor r = none) ∧
          t = { s with
            receptors := t.receptors, poller := t.poller, exceedances := t.exceedances, table := .idle, notices := t.notices, witness := t.witness } ∧
          (∀ q ∈ s.poller.poll, s.receptor q.receptor ≠ none → t.poller.poll = none) ∧
          (let closed (x : ExcRecord) : ExcRecord :=
            if x.state = .opened then { x with state := .closed, closedAt := some s.clock.minute, cause := some .receptorEdited } else x
          let linked (r : ReceptorId) : Option (ExcPos × ExcRecord) := ((s.receptor r).bind (·.exceedance)).bind fun p =>
            (s.excRecord p).map fun x => (p, closed x)
          (∀ p, t.excRecord p = (s.excRecord p).map closed) ∧
          (t.notices.lost = false → ∀ r, ∀ e ∈ linked r,
            .exceedance r e.1 .closed e.2.openedAt (some s.clock.minute) e.2.limit e.2.peak e.2.minutesAbove (some .receptorEdited) ∈ t.notices.notices) ∧
          t.witness = (allReceptors.foldl (fun (u : State) r => (linked r).elim u fun e =>
            u.send (.exceedance false s.clock.minute s.clock.second e.1 e.2 none)) s).witness)) ∧
        (k = .zone → n = 4 ∧ (∀ z, t.zone z = zoneDefault) ∧
          t = { s with zones := t.zones, table := .idle, engine := t.engine, arbiter := { s.arbiter with passSinceHead := t.arbiter.passSinceHead },
                       notices := t.notices } ∧
          (t.notices.lost = false → ∀ z, t.zoneNotice z ∈ t.notices.notices) ∧
          (let changes (x : Zone) : Prop := x.effective ≠ 0 ∨ x.fade ≠ 0 ∨ x.state ≠ .opened ∨ x.recoveryMargin ≠ 30
          ((∃ z, changes (s.zone z)) → s.AnyTrigger t) ∧ ((∀ z, ¬changes (s.zone z)) → t.engine = s.engine))) ∧
        (k = .stage → n = (allSlots.filter fun i => (s.slot i).port.isNone).length ∧
          t = { s with slots := t.slots, paths := t.paths, table := .idle, engine := t.engine,
                       arbiter := { s.arbiter with passSinceHead := t.arbiter.passSinceHead }, notices := t.notices, witness := t.witness } ∧
          (∀ i, (s.slot i).port ≠ none → t.slot i = s.slot i) ∧
          (∀ i, (s.slot i).port = none → (s.slot i).kind = .openKind → t.slot i = { s.slot i with weight := 1, stageMax := 1050 }) ∧
          (∀ i, (s.slot i).port = none → (s.slot i).kind = .fixed →
            t.slot i = { (s.slot i).afterEmptying with weight := 1, stageMax := 1050 }) ∧
          s.PathsLeft t (fun i => (s.slot i).port.isNone) ∧ (n ≠ 0 → s.AnyTrigger t) ∧ (n = 0 → t.engine = s.engine) ∧
          (let freed (i : SlotId) : Bool := (s.slot i).port.isNone && (s.slot i).kind == .fixed && (s.slot i).causes != causesNone
          (t.notices.lost = false → ∀ i, ((s.slot i).port = none → t.stageStateNotice i ∈ t.notices.notices) ∧
            (freed i = true → t.clampNotice i ∈ t.notices.notices)) ∧
          t.witness = ((allSlots.filter freed).foldl (fun (u : State) i => u.send
            (.clamp i none (s.slot i).causes causesNone false .empty none s.clock.minute s.clock.second none)) s).witness)) ∧
        (k = .site → n = 1 ∧ ({ s with table := .idle } : State).SiteReplaced t siteDefault)

/-! ### Receivers, buffers, notices and the witness port -/

/-- FRAME_BEGUN, FRAME_DISCARDED, INTER_BYTE_GAP and FRAME_WHILE_HELD change the receiver of their link alone, and REPLY_SENT frees the buffer of
its link alone when the reply is not that of a WARM RESTART taken (R155, R156). FRAME_WHILE_HELD while the buffer is FREE, and FRAME_BEGUN while
reset is asserted or no reply is awaited, change nothing: the model's choice (log 3). -/
def Obligations.ReceiversAndBuffersFollowTheLine : Prop :=
  ∀ (s : State) (p : Port) (cause : DiscardCause),
    let withLink (x : Link) := { s with links := s.links.set p.val x p.isLt }
    (s.loader = .held → exec (.frameBegun (.link p)) s = .next s) ∧
    (s.loader ≠ .held → exec (.frameBegun (.link p)) s = .next (withLink { s.link p with receiver := .receiving })) ∧
    exec (.frameDiscarded (.link p) cause) s = .next (withLink { s.link p with receiver := .hunting }) ∧
    exec (.interByteGap (.link p)) s = .next (withLink { s.link p with receiver := .hunting }) ∧
    ((s.link p).buffer ≠ none → exec (.frameWhileHeld p) s = .next (withLink { s.link p with receiver := .hunting })) ∧
    ((s.link p).buffer = none → exec (.frameWhileHeld p) s = .next s) ∧
    ((∀ r, (s.link p).buffer = some r → p = 0 → ¬(r.kind = 0x95 ∧ r.answer.status = .done)) →
      exec (.replySent p) s = .next (withLink { s.link p with buffer := none })) ∧
    (∀ q w, s.poller.poll = some q → q.wait = some w →
      exec (.frameBegun .bus) s = .next { s with poller := { s.poller with receiver := .receiving } }) ∧
    ((∀ q, s.poller.poll = some q → q.wait = none) → exec (.frameBegun .bus) s = .next s)

/-- A copy joins a witness FIFO of fewer than 16 entries and is dropped and counted otherwise, unless its category is disabled; when the head
entry leaves, a GAP entry with the drops takes the place freed if one is due (R172, R173). WITNESS_ENTRY_SENT with an empty FIFO changes nothing:
the model's choice (log 3). So is that the time of the first drop is absent once the GAP has joined, of which R172 says nothing (log 36). A notice
of a kind and subject that waits already takes that notice's place; a new one joins at the tail of a queue of fewer than 32, and is otherwise
dropped with the lost flag SET (R169). -/
def Obligations.NoticesAndWitnessQueues : Prop :=
  ((∀ (s : State) (c : Copy),
    (c.enabled s.site.enables = false → s.send c = s) ∧
    (c.enabled s.site.enables = true → s.witness.fifo.length < 16 →
      s.send c = { s with witness := { s.witness with fifo := s.witness.fifo ++ [.copy c] } }) ∧
    (c.enabled s.site.enables = true → 16 ≤ s.witness.fifo.length →
      s.send c = { s with witness :=
        { fifo := s.witness.fifo, gapPending := true, drops := min 65535 (s.witness.drops + 1),
          firstDrop := if s.witness.gapPending = true then s.witness.firstDrop else some (s.clock.minute, s.clock.second) } })) ∧
  ∀ s : State,
    (s.witness.fifo = [] → exec .witnessEntrySent s = .next s) ∧
    ∀ e rest, s.witness.fifo = e :: rest →
      (s.witness.gapPending = false → exec .witnessEntrySent s = .next { s with witness := { s.witness with fifo := rest } }) ∧
      ∀ m sec, s.witness.gapPending = true → s.witness.firstDrop = some (m, sec) →
        exec .witnessEntrySent s = .next { s with witness :=
          { fifo := rest ++ [.gap s.witness.drops m sec], gapPending := false, drops := 0, firstDrop := none } }) ∧
  (∀ (q : NoticeQueue) (n : Notice), q.Sound →
    (∀ older newer m, q.notices = older ++ m :: newer → m.kindIndex = n.kindIndex → m.subject = n.subject →
      q.post n = { q with notices := older ++ n :: newer }) ∧
    ((∀ m ∈ q.notices, m.kindIndex ≠ n.kindIndex ∨ m.subject ≠ n.subject) →
      (q.notices.length < 32 → q.post n = { q with notices := q.notices ++ [n] }) ∧
      (q.notices.length = 32 → q.post n = { q with lost := true })))

/-- Every request row meets the checks in the order of R156 and R158: nothing while reset is asserted, discarded by a HELD buffer, NOT_READY in
BOOT, then NO_SUCH on a link that does not serve its kind or for a body too short; the answer is the only change. BUSY goes before the NO_SUCH of
a selector that names no table: the model's choice (log 34), as is a request while reset is asserted (log 3). Here and in every statement of an
answer, that the answer stands in the buffer in the step that takes the request is the model's choice (log 5). UNKNOWN_KIND: a kind value that is
no request kind is answered with reply kind 0xFF and carries the kind received, on any link, with the buffer and reset rules of every request; in
BOOT a kind value below 128 is answered NOT_READY with its own reply kind (R157, R158). A value that is a request kind is not this command and
changes nothing (log 3); a kind of 128 or more in BOOT (log 13) is left out. A request of a port's bound slot is refused with NOT_ENROLLED where
the port has none, and one that names a slot is refused with NO_SUCH for a number outside 1 to 8 (R98, R99, R101, R102, R127, R135, R138). -/
def Obligations.RequestsMeetTheirChecksInOrder : Prop :=
  (∀ (s : State) (c : Instr) (h : RequestHead), requestHead c = some h →
    (s.loader = .held → exec c s = .next s) ∧
    (s.loader ≠ .held → (s.link h.port).buffer ≠ none →
      exec c s = .next { s with links := s.links.set h.port.val { s.link h.port with receiver := .hunting } h.port.isLt }) ∧
    (s.loader ≠ .held → (s.link h.port).buffer = none → s.mode = .boot →
      Answered c s s h.port h.kind h.tag { status := .notReady, reason := none, adjusted := false, items := .none }) ∧
    (s.Ready h.port →
      ((h.served = .console ∧ h.port ≠ 0) ∨ (h.served = .stages ∧ h.port = 0) ∨ h.isShort = true →
        Answered c s s h.port h.kind h.tag { status := .refused, reason := some .noSuch, adjusted := false, items := .none }) ∧
      (h.isTable = true → h.port = 0 → h.isShort = false → s.table ≠ .idle →
        Answered c s s h.port h.kind h.tag { status := .busy, reason := none, adjusted := false, items := .none }))) ∧
  (∀ (s : State) (p : Port) (tag kind : Nat),
    (kind ∈ requestKinds → exec (.unknownKind p tag kind) s = .next s) ∧
    (kind ∉ requestKinds →
      (s.loader = .held → exec (.unknownKind p tag kind) s = .next s) ∧
      (s.loader ≠ .held → (s.link p).buffer ≠ none →
        exec (.unknownKind p tag kind) s = .next { s with links := s.links.set p.val { s.link p with receiver := .hunting } p.isLt }) ∧
      (s.Ready p → exec (.unknownKind p tag kind) s = .next (s.hold p
        { kind := 0xFF, tag := tag, answer := { status := .unknownKind, reason := none, adjusted := false, items := .kindReceived kind } })) ∧
      (s.loader ≠ .held → (s.link p).buffer = none → s.mode = .boot → kind < 128 →
        exec (.unknownKind p tag kind) s = .next (s.hold p
          { kind := kind + 128, tag := tag, answer := { status := .notReady, reason := none, adjusted := false, items := .none } })))) ∧
  ((∀ (s : State) (p : Port) (tag : Nat), s.Ready p → p ≠ 0 → (∀ i, (s.slot i).port ≠ some p) →
    Answered (.goQuiet p tag) s s p 0x04 tag (.refused .notEnrolled)) ∧
  ∀ (s : State) (tag n cap : Nat), s.Ready 0 → n = 0 ∨ 8 < n ∨ (∃ i : SlotId, n = i.val + 1 ∧ (s.slot i).state = .empty) →
    Answered (.forceQuiet 0 tag (.whole n)) s s 0 0x24 tag (.refused .noSuch) ∧
    Answered (.forceClamp 0 tag (.whole n)) s s 0 0x22 tag (.refused .noSuch) ∧
    Answered (.releaseClamp 0 tag (.whole n)) s s 0 0x23 tag (.refused .noSuch) ∧
    Answered (.pushCap 0 tag (.whole { slot := n, cap := cap })) s s 0 0x20 tag (.refused .noSuch) ∧
    Answered (.popCap 0 tag (.whole n)) s s 0 0x21 tag (.refused .noSuch))

/-! ### Requests of the stage links -/

/-- ENROL (R79, R80): the same stage on its port is answered unchanged; an identity bound elsewhere, a port whose slot is not settled QUIET, and a
table with no slot to choose are refused with the check byte. FULL leaves the port's present slot, a settled QUIET FIXED one, as it stood. -/
def Obligations.EnrolChecksInOrder : Prop :=
  ∀ (s : State) (p : Port) (tag : Nat) (a : EnrolArgs), s.Ready p → p ≠ 0 → s.BindingsSound →
    let refused (reason : Reason) : Answer := { status := .refused, reason := some reason, adjusted := false, items := .enrolCheck a.check }
    let elsewhere := ∃ i q, (s.slot i).identity = some a.identity ∧ (s.slot i).port = some q ∧ q ≠ p
    (∀ i, (s.slot i).port = some p → (s.slot i).identity = some a.identity →
      Answered (.enrol p tag (.whole a)) s s p 0x01 tag (.done (.enrolled i (s.slot i).weight (s.slot i).stageMax a.check))) ∧
    (elsewhere → Answered (.enrol p tag (.whole a)) s s p 0x01 tag (refused .duplicate)) ∧
    (¬elsewhere → ∀ i, (s.slot i).port = some p → (s.slot i).identity ≠ some a.identity →
      ¬((s.slot i).state = .quiet ∧ (s.slot i).published = 0) → Answered (.enrol p tag (.whole a)) s s p 0x01 tag (refused .portBusy)) ∧
    ((∀ i, (s.slot i).port = some p → (s.slot i).kind = .fixed ∧ (s.slot i).state = .quiet ∧ (s.slot i).published = 0) →
      (∀ i, (s.slot i).kind = .openKind → (s.slot i).state ≠ .empty) → (∀ i, (s.slot i).identity ≠ some a.identity) →
      Answered (.enrol p tag (.whole a)) s s p 0x01 tag (refused .full))

/-- An ENROL that is taken on a port without a slot binds the unbound FIXED slot of the identity, or else the lowest EMPTY OPEN slot; one taken on
the port of a settled QUIET stage unbinds that slot first where it is FIXED, and empties it with its paths where it is OPEN, with a trigger (R77).
The slot bound takes the values of R75, from the emptied form where it is the slot just emptied, and no other slot changes. Each of the two posts
its STAGE_STATE notice and, where its causes or its line change, its CLAMP notice and copy (R78, R96, R97; the copy's level and port: log 31). -/
def Obligations.EnrolBindsTheChosenSlot : Prop :=
  ∀ (s : State) (p : Port) (tag : Nat) (a : EnrolArgs) (i : SlotId), s.Ready p → p ≠ 0 → s.BindingsSound →
    let bind (x : Slot) (identity : Option Identity) : Slot := { x with
      identity := identity
      port := some p
      state := .quiet
      reportAge := some 0
      stale := false
      lastLevel := none
      overCount := 0
      goodCount := 0
      outcome := .none }
    let unbound (x : Slot) : Slot := { x with
      port := none
      reportAge := none
      stale := false
      lastLevel := none
      overCount := 0
      goodCount := 0
      causes := { x.causes with hasOver := false, hasStale := false } }
    let answer : Answer := .done (.enrolled i (s.slot i).weight (s.slot i).stageMax a.check)
    ((∀ j, (s.slot j).port ≠ some p) →
      ((s.slot i).kind = .fixed → (s.slot i).identity = some a.identity → (s.slot i).port = none →
        ∃ t, Answered (.enrol p tag (.whole a)) s t p 0x01 tag answer ∧
          t = { s with slots := t.slots, notices := t.notices, witness := t.witness } ∧
          t.slot i = bind (s.slot i) (some a.identity) ∧ (∀ j, j ≠ i → t.slot j = s.slot j) ∧
          t.SamePosts (s.reportBinding i (s.slot i) (t.slot i) .bind)) ∧
      ((s.slot i).kind = .openKind → (s.slot i).state = .empty → (∀ j, j < i → ¬((s.slot j).kind = .openKind ∧ (s.slot j).state = .empty)) →
        (∀ j, (s.slot j).identity ≠ some a.identity) →
        ∃ t, Answered (.enrol p tag (.whole a)) s t p 0x01 tag answer ∧
          t = { s with slots := t.slots, notices := t.notices, witness := t.witness } ∧
          t.slot i = bind (s.slot i) (some a.identity) ∧ (∀ j, j ≠ i → t.slot j = s.slot j) ∧
          t.SamePosts (s.reportBinding i (s.slot i) (t.slot i) .bind))) ∧
    (∀ old, (s.slot old).port = some p → (s.slot old).state = .quiet → (s.slot old).published = 0 → (s.slot old).kind = .fixed →
      ((s.slot i).kind = .fixed ∧ (s.slot i).identity = some a.identity ∧ (s.slot i).port = none) ∨
        ((s.slot i).kind = .openKind ∧ (s.slot i).state = .empty ∧ (∀ j, j < i → ¬((s.slot j).kind = .openKind ∧ (s.slot j).state = .empty)) ∧
          ∀ j, (s.slot j).identity ≠ some a.identity) →
      ∃ t, Answered (.enrol p tag (.whole a)) s t p 0x01 tag answer ∧
        t = { s with slots := t.slots, notices := t.notices, witness := t.witness } ∧
        t.slot i = bind (s.slot i) (some a.identity) ∧
        t.slot old = unbound (s.slot old) ∧ (∀ j, j ≠ i → j ≠ old → t.slot j = s.slot j) ∧
        t.SamePosts ((s.reportBinding old (s.slot old) (t.slot old) .unbind).reportBinding i (s.slot i) (t.slot i) .bind)) ∧
    (∀ old, (s.slot old).port = some p → (s.slot old).state = .quiet → (s.slot old).published = 0 → (s.slot old).kind = .openKind →
      (s.slot i).kind = .fixed → (s.slot i).identity = some a.identity → (s.slot i).port = none →
      ∃ t, Answered (.enrol p tag (.whole a)) s t p 0x01 tag answer ∧
        t = { s with slots := t.slots, paths := t.paths, engine := t.engine, arbiter := { s.arbiter with passSinceHead := t.arbiter.passSinceHead },
                     notices := t.notices, witness := t.witness } ∧
        t.slot i = bind (s.slot i) (some a.identity) ∧ t.slot old = (s.slot old).afterEmptying ∧
        (∀ j, j ≠ i → j ≠ old → t.slot j = s.slot j) ∧ s.TriggersRaised t false ∧ s.PathsLeft t (· == old) ∧
        t.SamePosts ((s.reportBinding old (s.slot old) (t.slot old) .empty).reportBinding i (s.slot i) (t.slot i) .bind)) ∧
    (∀ old, (s.slot old).port = some p → (s.slot old).state = .quiet → (s.slot old).published = 0 → (s.slot old).kind = .openKind →
      (∀ j, (s.slot j).identity ≠ some a.identity) → i ≤ old → (i = old ∨ (s.slot i).kind = .openKind ∧ (s.slot i).state = .empty) →
      (∀ j, j < i → ¬((s.slot j).kind = .openKind ∧ (s.slot j).state = .empty)) →
      ∃ t, Answered (.enrol p tag (.whole a)) s t p 0x01 tag answer ∧
        t = { s with slots := t.slots, paths := t.paths, engine := t.engine, arbiter := { s.arbiter with passSinceHead := t.arbiter.passSinceHead },
                     notices := t.notices, witness := t.witness } ∧
        let chosen := if i = old then (s.slot old).afterEmptying else s.slot i
        t.slot i = bind chosen (some a.identity) ∧ (i ≠ old → t.slot old = (s.slot old).afterEmptying) ∧
        (∀ j, j ≠ i → j ≠ old → t.slot j = s.slot j) ∧ s.TriggersRaised t false ∧ s.PathsLeft t (· == old) ∧
        t.SamePosts ((s.reportBinding old (s.slot old) (s.slot old).afterEmptying .empty).reportBinding i chosen (t.slot i) .bind))

/-- REPORT on a port without a bound slot is refused with NOT_ENROLLED; otherwise the slot takes the values of R88 to R92, and the reply carries
the values of R93 as they stand after it. A change of its causes posts the CLAMP notice and sends the CLAMP copy with the report (R96). A debt it
confirms posts the head's ADMISSION notice while debts remain (R132, R142), the last one grants the head; any other report changes no other slot. -/
def Obligations.ReportIsJudgedAgainstItsLimit : Prop :=
  ∀ (s : State) (p : Port) (tag : Nat) (a : ReportArgs), s.Ready p → p ≠ 0 → s.AdmissionSound →
    ((∀ i, (s.slot i).port ≠ some p) → Answered (.report p tag (.whole a)) s s p 0x02 tag (.refused .notEnrolled)) ∧
    ∀ i, (s.slot i).port = some p →
      let x := s.slot i
      let level := min a.level 1400
      let limit := if a.serial = x.serial then x.published else max x.published x.previous
      let isOver := limit + s.site.tolerance < level
      let confirms := a.serial = x.serial ∧ level ≤ x.published
      let overCount := if isOver then min 32 (x.overCount + 1) else 0
      let goodCount := if isOver then 0 else min 255 (x.goodCount + 1)
      ∃ t, Answered (.report p tag (.whole a)) s t p 0x02 tag
          (.done (.report i x.published x.serial x.state (t.slot i).causes (t.slot i).debt x.outcome)) ∧
        t = { s with slots := t.slots, engine := t.engine, arbiter := t.arbiter, notices := t.notices, witness := t.witness } ∧
        t.slot i = { x with
          lastLevel := some level
          reportAge := some 0
          stale := false
          overCount := overCount
          goodCount := goodCount
          causes :=
            { hasOver := if isOver then x.causes.hasOver || decide (s.site.overLimit ≤ overCount)
                         else x.causes.hasOver && decide (goodCount < s.site.releaseCount)
              hasStale := x.causes.hasStale && !x.stale
              hasHandover := x.causes.hasHandover && !decide confirms
              hasConsole := x.causes.hasConsole }
          debt := x.debt && !decide confirms } ∧
        t.witness = (if (t.slot i).causes = x.causes then s.witness else
          (s.send (.clamp i x.port x.causes (t.slot i).causes (t.slot i).lineAsserted .report (some level) s.clock.minute s.clock.second
            (some (level, a.serial, limit)))).witness) ∧
        ((t.slot i).causes ≠ x.causes → t.notices.lost = false → t.clampNotice i ∈ t.notices.notices) ∧
        (x.debt = false ∨ ¬confirms → t.notices = if (t.slot i).causes = x.causes then s.notices else s.notices.post (t.clampNotice i)) ∧
        (x.debt = true → confirms → (∃ j, j ≠ i ∧ (s.slot j).debt = true) → t.notices.lost = false →
          ∀ h ∈ s.arbiter.queue.head?, t.admissionNotice h none ∈ t.notices.notices) ∧
        (x.debt = false ∨ ¬confirms ∨ (∃ j, j ≠ i ∧ (s.slot j).debt = true) →
          (∀ j, j ≠ i → t.slot j = s.slot j) ∧ t.arbiter = s.arbiter ∧ t.engine = s.engine) ∧
        (x.debt = true → confirms → (∀ j, j ≠ i → (s.slot j).debt = false) →
          ∀ h rest, s.arbiter.queue = h :: rest →
            s.HeadGranted t h rest .byConfirmation ∧ s.TriggersRaised t (!rest.isEmpty) ∧
            ∀ j, j ≠ i → j ≠ h → t.slot j = { s.slot j with state := if rest.head? = some j then .entering else (s.slot j).state })

/-- GO LIVE (R127 to R130): NOT_READY in SETUP, NOT_ENROLLED without a bound slot; a QUIET slot is refused UNMAPPED or CURFEW, or joins the queue
and becomes ENTERING at its head, with a trigger, or WAITING behind it, with its ADMISSION and STAGE_STATE notices (R142); a queued slot keeps its
place; a LIVE slot is answered GRANTED. That a pass has begun since the head became ENTERING is held in the model's own flag (log 33). -/
def Obligations.GoLiveJoinsTheQueue : Prop :=
  ∀ (s : State) (p : Port) (tag : Nat), s.Ready p → p ≠ 0 →
    (s.mode = .setup → Answered (.goLive p tag) s s p 0x03 tag { status := .notReady, reason := none, adjusted := false, items := .none }) ∧
    (s.mode = .enforce → (∀ i, (s.slot i).port ≠ some p) → Answered (.goLive p tag) s s p 0x03 tag (.refused .notEnrolled)) ∧
    ∀ i, s.mode = .enforce → s.BindingsSound → (s.slot i).port = some p →
      ((s.slot i).state = .live →
        Answered (.goLive p tag) s s p 0x03 tag (.withStatus .granted (.granted (s.slot i).published (s.slot i).serial))) ∧
      (∀ before after, (s.slot i).state = .waiting ∨ (s.slot i).state = .entering → s.arbiter.queue = before ++ i :: after → i ∉ before →
        Answered (.goLive p tag) s s p 0x03 tag (.withStatus .pending (.position (before.length + 1)))) ∧
      ((s.slot i).state = .quiet →
        ((∀ q e, s.path q = some e → e.slot ≠ i) → Answered (.goLive p tag) s s p 0x03 tag (.refused .unmapped)) ∧
        (∀ q e x, s.path q = some e → e.slot = i → s.receptor e.receptor = some x → (s.zone x.zone).state ≠ .opened →
          Answered (.goLive p tag) s s p 0x03 tag (.refused .curfew)) ∧
        (s.mapped i = true → s.underCurfew i = false → i ∉ s.arbiter.queue →
          ∃ t, Answered (.goLive p tag) s t p 0x03 tag (.withStatus .pending (.position (s.arbiter.queue.length + 1))) ∧
            t = { s with slots := t.slots, engine := t.engine, arbiter := t.arbiter, notices := t.notices } ∧
            (∀ j, j ≠ i → t.slot j = s.slot j) ∧ t.arbiter.queue = s.arbiter.queue ++ [i] ∧ t.arbiter.timer = s.arbiter.timer ∧
            (t.notices.lost = false → t.admissionNotice i none ∈ t.notices.notices ∧ t.stageStateNotice i ∈ t.notices.notices) ∧
            (s.arbiter.queue = [] → t.slot i = { s.slot i with state := .entering, outcome := .none } ∧
              t.arbiter.phase = some .counting ∧
              (s.engine.activity = .idle →
                t.engine = { activity := .recalculating t.capture, pending := s.engine.pending } ∧ t.arbiter.passSinceHead = true) ∧
              (s.engine.activity ≠ .idle → t.engine = { s.engine with pending := true } ∧ t.arbiter.passSinceHead = false)) ∧
            (s.arbiter.queue ≠ [] → t.slot i = { s.slot i with state := .waiting, outcome := .none } ∧
              t.arbiter = { s.arbiter with queue := s.arbiter.queue ++ [i] } ∧ t.engine = s.engine)))

/-- GO QUIET of a bound slot and FORCE QUIET (R135 to R138): refused for an EMPTY slot; a QUIET slot is unchanged, a WAITING one leaves the queue,
the ENTERING head leaves it with every debt cleared and the next member takes its place, a LIVE one leaves play with its HANDOVER cause and debt,
and its debt cleared posts the head's ADMISSION notice or grants the head (R132). Each raises its triggers and posts its notices (R142; those of
the LIVE slot before what R132 brings: log 48), and a cause removed sends the CLAMP copy (R96). A slot so settled past its age time ages out after
it (R81; the reply keeps QUIET: log 50), with the level and port of the record as emptied in its copy (log 31). -/
def Obligations.QuietTakesASlotOutOfPlay : Prop :=
  ∀ (s : State) (c : Instr) (p : Port) (kind tag : Nat) (outcome : Admission) (i : SlotId), s.Ready p → s.AdmissionSound →
    (c = .goQuiet p tag ∧ p ≠ 0 ∧ kind = 0x04 ∧ outcome = .withdrawn ∧ (s.slot i).port = some p) ∨
      (c = .forceQuiet 0 tag (.whole (i.val + 1)) ∧ p = 0 ∧ kind = 0x24 ∧ outcome = .forcedQuiet) →
    ((s.slot i).state = .empty → Answered c s s p kind tag (.refused .noSuch)) ∧
    ((s.slot i).state = .quiet → Answered c s s p kind tag (.done (.slotState .quiet))) ∧
    ((s.slot i).state ≠ .empty → (s.slot i).state ≠ .quiet →
      let ages : Bool := (s.slot i).kind == .openKind && (s.slot i).published == 0 && (s.slot i).port.isSome &&
        (s.slot i).reportAge.any fun a => decide (1000 * s.site.ageTime ≤ a)
      let x := s.slot i
      let gone (u : State) (causes : Causes) : State := if ages && causes != causesNone then
          u.send (.clamp i none causes causesNone false .empty none s.clock.minute s.clock.second none)
        else u
      let settled (x : Slot) : Slot := if ages then
          { slotDefault with weight := x.weight, stageMax := x.stageMax, published := x.published, previous := x.previous, serial := x.serial }
        else x
      ∃ t, Answered c s t p kind tag (.done (.slotState .quiet)) ∧
        t = { s with
          slots := t.slots, paths := t.paths, engine := t.engine, arbiter := t.arbiter, notices := t.notices, witness := t.witness } ∧
        (∀ q, t.path q = (s.path q).bind fun e => if ages = true ∧ e.slot = i then none else some e) ∧
        (t.notices.lost = false → t.stageStateNotice i ∈ t.notices.notices) ∧
        ((s.slot i).state = .waiting →
          t.arbiter = { s.arbiter with queue := s.arbiter.queue.erase i, passSinceHead := t.arbiter.passSinceHead } ∧
          (ages = false → t.engine = s.engine ∧ t.arbiter.passSinceHead = s.arbiter.passSinceHead) ∧
          (ages = true → s.TriggersRaised t false) ∧ t.witness = (gone s x.causes).witness ∧
          (t.notices.lost = false → .admission i .quiet outcome none t.arbiter.queue.length none none ∈ t.notices.notices) ∧
          t.slot i = settled { x with state := .quiet, outcome := outcome } ∧ ∀ j, j ≠ i → t.slot j = s.slot j) ∧
        (∀ rest, (s.slot i).state = .entering → s.arbiter.queue = i :: rest →
          t.arbiter.queue = rest ∧ t.arbiter.timer = none ∧ t.arbiter.phase = (if rest = [] then none else some .counting) ∧
          s.TriggersRaised t (!rest.isEmpty || ages) ∧ t.witness = (gone s x.causes).witness ∧
          (t.notices.lost = false → .admission i .quiet outcome none rest.length none none ∈ t.notices.notices) ∧ t.HeadPosted rest.head? ∧
          t.slot i = settled { x with state := .quiet, outcome := outcome, prospective := none, debt := false } ∧
          ∀ j, j ≠ i → t.slot j =
            { s.slot j with state := if rest.head? = some j then .entering else (s.slot j).state, debt := false }) ∧
        ((s.slot i).state = .live →
          let left := { x.causes with hasHandover := false }
          let clamped := if x.causes.hasHandover then
              s.send (.clamp i x.port x.causes left ({ x with causes := left } : Slot).lineAsserted .leaveLive x.lastLevel s.clock.minute
                s.clock.second none)
            else s
          t.slot i = settled
            { x with
              state := .quiet
              debt := false
              causes := left
              outcome := if outcome = .forcedQuiet then .forcedQuiet else x.outcome } ∧
          t.witness = (gone clamped left).witness ∧
          (t.notices.lost = false → x.causes.hasHandover = true ∨ (ages = true ∧ left ≠ causesNone) →
            (if ages = true ∧ left = causesNone then .clamp i left false x.port x.overCount x.goodCount x.stale x.lastLevel
              else t.clampNotice i) ∈ t.notices.notices) ∧
          (t.notices.lost = false → outcome = .forcedQuiet →
            .admission i .quiet .forcedQuiet none s.arbiter.queue.length none none ∈ t.notices.notices) ∧
          (x.debt = false ∨ (∃ j, j ≠ i ∧ (s.slot j).debt = true) →
            (∀ j, j ≠ i → t.slot j = s.slot j) ∧ t.arbiter = { s.arbiter with passSinceHead := t.arbiter.passSinceHead } ∧ s.TriggersRaised t ages) ∧
          (x.debt = true → (∃ j, j ≠ i ∧ (s.slot j).debt = true) → t.notices.lost = false →
            ∀ h ∈ s.arbiter.queue.head?, t.admissionNotice h none ∈ t.notices.notices) ∧
          (x.debt = true → (∀ j, j ≠ i → (s.slot j).debt = false) → ∀ h rest, s.arbiter.queue = h :: rest →
            s.HeadGranted t h rest .byConfirmation ∧ s.TriggersRaised t true ∧
            ∀ j, j ≠ i → j ≠ h → t.slot j = { s.slot j with state := if rest.head? = some j then .entering else (s.slot j).state })))

/-- FORECAST (R145 to R147): NOT_READY on a stage link in SETUP; NO_SUCH for an empty list, one of more than eight, or a number outside 1 to 8;
else an EMPTY latch takes the query, a READY one gives its result to its own master and query and becomes EMPTY, and every other meeting is
deferred. -/
def Obligations.ForecastMeetsTheLatch : Prop :=
  ∀ (s : State) (p : Port) (tag : Nat) (numbers : List Nat), s.Ready p →
    let c : Instr := .forecast p tag (.whole numbers)
    let defer (latch : Nat) (matched : Bool) : Answer := .withStatus .defer (.defer latch matched)
    (s.mode = .setup → p ≠ 0 → Answered c s s p 0x05 tag { status := .notReady, reason := none, adjusted := false, items := .none }) ∧
    (s.mode = .enforce ∨ p = 0 →
      (numbers = [] ∨ 8 < numbers.length ∨ (∃ n ∈ numbers, n = 0 ∨ 8 < n) → Answered c s s p 0x05 tag (.refused .noSuch)) ∧
      (numbers ≠ [] → numbers.length ≤ 8 → (∀ n ∈ numbers, 1 ≤ n ∧ n ≤ 8) →
        let query := allSlots.filter fun i => numbers.contains (i.val + 1)
        (s.latch = .empty → s.engine.activity ≠ .idle → Answered c s { s with latch := .queued p query } p 0x05 tag (defer 1 true)) ∧
        (s.latch = .empty → s.engine.activity = .idle →
          Answered c s { s with
            latch := .computing p query
            engine := { s.engine with activity := .forecasting s.capture query s.clock.minute s.clock.second } } p 0x05 tag (defer 2 true)) ∧
        (∀ o q, s.latch = .queued o q → Answered c s s p 0x05 tag (defer 1 (decide (o = p ∧ q = query)))) ∧
        (∀ o q, s.latch = .computing o q → Answered c s s p 0x05 tag (defer 2 (decide (o = p ∧ q = query)))) ∧
        (∀ o q result m sec left, s.latch = .ready o q result m sec left →
          (o = p ∧ q = query → Answered c s { s with latch := .empty } p 0x05 tag (.done (.forecast result m sec))) ∧
          (¬(o = p ∧ q = query) → Answered c s s p 0x05 tag (defer 3 false)))))

/-! ### Requests of the console link -/

/-- IDENTIFY answers DONE with the part code 816, the format number 1, the mode, the clock-set flag and the start kind, and changes no state
(R162). -/
def Obligations.IdentifyTellsPartModeAndStart : Prop :=
  ∀ (s : State) (tag : Nat), s.Ready 0 →
    Answered (.identify 0 tag) s s 0 0x10 tag
      { status := .done, reason := none, adjusted := false, items := .identify 816 1 s.mode s.clock.isSet s.startKind }

/-- SITE STATUS gives in part 1 the mode, the clock and every zone, in part 2 the queue, the head phase, the debt set and the timer, in part 3 the
latch; any other part is refused with NO_SUCH; no part changes any state (R22, R143, R152, R161). -/
def Obligations.SiteStatusShowsThreeParts : Prop :=
  ∀ (s : State) (tag : Nat), s.Ready 0 →
    Answered (.siteStatus 0 tag (.whole 1)) s s 0 0x11 tag
      (.done (.siteClock s.mode s.clock.isSet s.clock.minute s.clock.second s.zones)) ∧
    Answered (.siteStatus 0 tag (.whole 2)) s s 0 0x11 tag
      (.done (.siteAdmission s.arbiter.queue s.arbiter.phase (allSlots.filter fun i => (s.slot i).debt) s.arbiter.timer)) ∧
    Answered (.siteStatus 0 tag (.whole 3)) s s 0 0x11 tag (.done (.siteLatch s.latch)) ∧
    ∀ part, part = 0 ∨ 3 < part → Answered (.siteStatus 0 tag (.whole part)) s s 0 0x11 tag (.refused .noSuch)

/-- SET CLOCK is refused with WRONG_MODE in ENFORCE; in SETUP it sets the time of day, clamped, starts the second anew, sets the flag, and
evaluates every zone at the new time, with a trigger where an effective limit, a fade offset or a zone state changes and the ZONE notice of a new
state or licence limit, as every evaluation; no timer moves (R17). -/
def Obligations.SetClockSetsTheTimeInSetup : Prop :=
  ∀ (s : State) (tag minute second : Nat), s.Ready 0 →
    let c : Instr := .setClock 0 tag (.whole { minute := minute, second := second })
    (s.mode = .enforce → Answered c s s 0 0x12 tag (.refused .wrongMode)) ∧
    (s.mode = .setup →
      let set : State := { s with clock := { ms := 0, minute := min 1439 minute, second := min 59 second, isSet := true } }
      ∃ t, Answered c s t 0 0x12 tag
          { status := .done, reason := none, adjusted := decide (1439 < minute ∨ 59 < second), items := .none } ∧
        t = { set with zones := t.zones, slots := t.slots, engine := t.engine, arbiter := t.arbiter, notices := t.notices } ∧
        (∀ z, t.zone z = (set.evaluateZone z).zone z ∧
          ((t.zone z).state ≠ (s.zone z).state ∨ (t.zone z).licence ≠ (s.zone z).licence → t.notices.lost = false →
            t.zoneNotice z ∈ t.notices.notices)) ∧
        (let changes (z : ZoneId) : Prop := (t.zone z).effective ≠ (s.zone z).effective ∨ (t.zone z).fade ≠ (s.zone z).fade ∨
          (t.zone z).state ≠ (s.zone z).state
        ((∃ z, changes z) → s.AnyTrigger t) ∧ ((∀ z, ¬changes z) → t.engine = s.engine)) ∧
        (s.AdmissionSound → s.PlaySound → t.slots = s.slots ∧ t.arbiter = { s.arbiter with passSinceHead := t.arbiter.passSinceHead }))

/-- ENTER ENFORCE meets its checks in order and then evaluates every zone by the SETUP rules, changes the mode and raises a trigger; RETURN TO
SETUP changes the mode alone, and only while every occupied slot is QUIET and the queue is empty; in the mode each asks for, it changes nothing
(R19, R21). The evaluation posts the ZONE notice of a new state or licence limit (R29). ENTER ENFORCE alters no slot, and of the arbiter only that
a pass has begun. -/
def Obligations.ModesChangeByTheirRequests : Prop :=
  ∀ (s : State) (tag : Nat), s.Ready 0 →
    (s.mode = .enforce → Answered (.enterEnforce 0 tag) s s 0 0x13 tag (.done .none)) ∧
    (s.mode = .setup →
      Answered (.returnToSetup 0 tag) s s 0 0x14 tag (.done .none) ∧
      (s.table ≠ .idle → Answered (.enterEnforce 0 tag) s s 0 0x13 tag (.withStatus .busy .none)) ∧
      (s.table = .idle → s.clock.isSet = false → Answered (.enterEnforce 0 tag) s s 0 0x13 tag (.refused .clockUnset)) ∧
      (s.table = .idle → s.clock.isSet = true → (∀ r, s.receptor r = none) →
        Answered (.enterEnforce 0 tag) s s 0 0x13 tag (.refused .noSuch)) ∧
      (s.table = .idle → s.clock.isSet = true → (∃ r, s.receptor r ≠ none) →
        ∃ t, Answered (.enterEnforce 0 tag) s t 0 0x13 tag (.done .none) ∧
          t = { s with mode := .enforce, zones := t.zones, engine := t.engine,
                       arbiter := { s.arbiter with passSinceHead := t.arbiter.passSinceHead }, notices := t.notices } ∧
          (∀ z, t.zone z = (s.evaluateZone z).zone z) ∧ (∀ z, (t.zone z).grace = (s.zone z).grace) ∧ s.AnyTrigger t ∧
          (t.notices.lost = false → ∀ z, (t.zone z).state ≠ (s.zone z).state ∨ (t.zone z).licence ≠ (s.zone z).licence →
            t.zoneNotice z ∈ t.notices.notices))) ∧
    (s.mode = .enforce →
      ((∃ i, (s.slot i).state ≠ .empty ∧ (s.slot i).state ≠ .quiet) ∨ s.arbiter.queue ≠ [] →
        Answered (.returnToSetup 0 tag) s s 0 0x14 tag (.refused .notQuiet)) ∧
      ((∀ i, (s.slot i).state = .empty ∨ (s.slot i).state = .quiet) → s.arbiter.queue = [] →
        Answered (.returnToSetup 0 tag) s { s with mode := .setup } 0 0x14 tag (.done .none)))

/-- WARM RESTART, SAVE SETTINGS and TABLE CLEAR are refused in ENFORCE, and in SETUP are taken, the first whatever the table engine does, the
others by an IDLE one: they leave the restart to the reply, the table engine SAVING what the settings hold now, or CLEARING (R167, R174, R177). -/
def Obligations.LongOperationsAreOrderedInSetup : Prop :=
  ∀ (s : State) (tag : Nat), s.Ready 0 →
    (s.mode = .enforce → Answered (.warmRestart 0 tag) s s 0 0x15 tag (.refused .wrongMode) ∧
      Answered (.saveSettings 0 tag) s s 0 0x2C tag (.refused .wrongMode)) ∧
    (s.mode = .setup → Answered (.warmRestart 0 tag) s s 0 0x15 tag (.done .none) ∧
      (s.table ≠ .idle → Answered (.saveSettings 0 tag) s s 0 0x2C tag (.withStatus .busy .none)) ∧
      (s.table = .idle → Answered (.saveSettings 0 tag) s
        { s with table := .saving (allSections.map fun sec => { sec := sec, contents := s.sectionContents sec }) } 0 0x2C tag (.done .none))) ∧
    (s.table = .idle → ∀ n,
      let c : Instr := .tableClear 0 tag (.whole n)
      (n = 0 ∨ 7 < n → Answered c s s 0 0x1C tag (.refused .noSuch)) ∧
      (n = 7 → Answered c s s 0 0x1C tag (.refused .isProtected)) ∧
      (s.mode = .enforce → n = 1 ∨ n = 4 → Answered c s s 0 0x1C tag (.refused .isProtected)) ∧
      (s.mode = .enforce → n = 2 ∨ n = 3 ∨ n = 5 ∨ n = 6 → Answered c s s 0 0x1C tag (.refused .wrongMode)) ∧
      (s.mode = .setup → n = 3 → (∃ p, s.path p ≠ none) → Answered c s s 0 0x1C tag (.refused .notEmpty)) ∧
      (s.mode = .setup → n = 2 → (∃ r, s.receptor r ≠ none) → Answered c s s 0 0x1C tag (.refused .notEmpty)) ∧
      (s.mode = .setup → ∀ k, tableOf n = some k → k ≠ .ring → (k = .receptor → ∀ p, s.path p = none) → (k = .zone → ∀ r, s.receptor r = none) →
        Answered c s { s with table := .clearing k } 0 0x1C tag (.done .none)))

/-- PUSH CAP places the cap, taken as 1400 if above, on a stack of fewer than four and POP CAP removes the top of one that holds any, each with
one trigger; a full and an empty stack are refused unchanged. The reply carries the count and the top after it (R101, R102). -/
def Obligations.CapsArePushedAndPopped : Prop :=
  (∀ (s : State) (tag n cap : Nat), s.Ready 0 → n = 0 ∨ 8 < n ∨ (∃ i : SlotId, n = i.val + 1 ∧ (s.slot i).state = .empty) →
    Answered (.pushCap 0 tag (.whole { slot := n, cap := cap })) s s 0 0x20 tag (.refused .noSuch) ∧
    Answered (.popCap 0 tag (.whole n)) s s 0 0x21 tag (.refused .noSuch)) ∧
  ∀ (s : State) (tag cap : Nat) (i : SlotId), s.Ready 0 → (s.slot i).state ≠ .empty →
    (4 ≤ (s.slot i).caps.length →
      Answered (.pushCap 0 tag (.whole { slot := i.val + 1, cap := cap })) s s 0 0x20 tag (.refused .stackFull)) ∧
    ((s.slot i).caps.length < 4 →
      ∃ t, Answered (.pushCap 0 tag (.whole { slot := i.val + 1, cap := cap })) s t 0 0x20 tag
          { status := .done, reason := none, adjusted := decide (1400 < cap),
            items := .capPushed ((s.slot i).caps.length + 1) (min cap 1400) } ∧
        t = { s with slots := t.slots, engine := t.engine, arbiter := t.arbiter } ∧
        t.slot i = { s.slot i with caps := min cap 1400 :: (s.slot i).caps } ∧ (∀ j, j ≠ i → t.slot j = s.slot j) ∧ s.EngineTriggered t) ∧
    ((s.slot i).caps = [] → Answered (.popCap 0 tag (.whole (i.val + 1))) s s 0 0x21 tag (.refused .stackEmpty)) ∧
    ∀ top rest, (s.slot i).caps = top :: rest →
      ∃ t, Answered (.popCap 0 tag (.whole (i.val + 1))) s t 0 0x21 tag (.done (.capStack rest.length rest.head?)) ∧
        t = { s with slots := t.slots, engine := t.engine, arbiter := t.arbiter } ∧
        t.slot i = { s.slot i with caps := rest } ∧ (∀ j, j ≠ i → t.slot j = s.slot j) ∧ s.EngineTriggered t

/-- FORCE CLAMP adds the CONSOLE cause of an occupied slot and answers DONE with the causes after it. Where CONSOLE was absent the line of the
bound port is asserted and the CLAMP notice and copy follow; where it was present nothing changes (R98). -/
def Obligations.ForceClampAddsTheConsoleCause : Prop :=
  (∀ (s : State) (p : Port) (tag n : Nat), s.Ready p → p ≠ 0 ∨ n = 0 ∨ 8 < n →
    Answered (.forceClamp p tag (.whole n)) s s p 0x22 tag (.refused .noSuch)) ∧
  ∀ (s : State) (tag : Nat) (i : SlotId), s.Ready 0 →
    let c : Instr := .forceClamp 0 tag (.whole (i.val + 1))
    let causes : Causes := { (s.slot i).causes with hasConsole := true }
    ((s.slot i).state = .empty → Answered c s s 0 0x22 tag (.refused .noSuch)) ∧
    ((s.slot i).state ≠ .empty → (s.slot i).causes.hasConsole = true → Answered c s s 0 0x22 tag (.done (.causes causes))) ∧
    ((s.slot i).state ≠ .empty → (s.slot i).causes.hasConsole = false →
      ∃ t, Answered c s t 0 0x22 tag (.done (.causes causes)) ∧
        t = { s with slots := t.slots, notices := s.notices.post (t.clampNotice i), witness := t.witness } ∧
        t.slot i = { s.slot i with causes := causes } ∧ (∀ j, j ≠ i → t.slot j = s.slot j) ∧
        ((s.slot i).port ≠ none → (t.slot i).lineAsserted = true) ∧
        t.witness = (s.send (.clamp i (s.slot i).port (s.slot i).causes causes (t.slot i).lineAsserted .forceClamp (s.slot i).lastLevel
          s.clock.minute s.clock.second none)).witness)

/-- RELEASE CLAMP removes the CONSOLE cause of an occupied slot and answers DONE with the causes after it; the line stays asserted while another
cause remains, and the CLAMP notice and copy follow. Where CONSOLE was absent nothing changes (R99). -/
def Obligations.ReleaseClampRemovesTheConsoleCause : Prop :=
  (∀ (s : State) (p : Port) (tag n : Nat), s.Ready p → p ≠ 0 ∨ n = 0 ∨ 8 < n →
    Answered (.releaseClamp p tag (.whole n)) s s p 0x23 tag (.refused .noSuch)) ∧
  ∀ (s : State) (tag : Nat) (i : SlotId), s.Ready 0 →
    let c : Instr := .releaseClamp 0 tag (.whole (i.val + 1))
    let causes : Causes := { (s.slot i).causes with hasConsole := false }
    ((s.slot i).state = .empty → Answered c s s 0 0x23 tag (.refused .noSuch)) ∧
    ((s.slot i).state ≠ .empty → (s.slot i).causes.hasConsole = false → Answered c s s 0 0x23 tag (.done (.causes causes))) ∧
    ((s.slot i).state ≠ .empty → (s.slot i).causes.hasConsole = true →
      ∃ t, Answered c s t 0 0x23 tag (.done (.causes causes)) ∧
        t = { s with slots := t.slots, notices := s.notices.post (t.clampNotice i), witness := t.witness } ∧
        t.slot i = { s.slot i with causes := causes } ∧ (∀ j, j ≠ i → t.slot j = s.slot j) ∧
        (t.slot i).lineAsserted =
          ((s.slot i).port.isSome && (causes.hasOver || causes.hasStale || causes.hasHandover)) ∧
        t.witness = (s.send (.clamp i (s.slot i).port (s.slot i).causes causes (t.slot i).lineAsserted .releaseClamp (s.slot i).lastLevel
          s.clock.minute s.clock.second none)).witness)

/-- EVICT is refused for a number outside 1 to 8 and for a slot that is not settled QUIET; it unbinds a bound FIXED slot, leaves an unbound one,
and empties an OPEN one with its paths and a trigger (R76, R77, R82), with the STAGE_STATE notice and, where the causes or the line change, the
CLAMP notice and copy (R78, R96, R97; the copy's level and port: log 31). -/
def Obligations.EvictFreesASettledSlot : Prop :=
  ∀ (s : State) (tag : Nat), s.Ready 0 →
    (∀ n, n = 0 ∨ 8 < n → Answered (.evict 0 tag (.whole n)) s s 0 0x25 tag (.refused .noSuch)) ∧
    ∀ i : SlotId,
      let c : Instr := .evict 0 tag (.whole (i.val + 1))
      let x := s.slot i
      (¬(x.state = .quiet ∧ x.published = 0) → Answered c s s 0 0x25 tag (.refused .notQuiet)) ∧
      (x.state = .quiet → x.published = 0 → x.kind = .fixed → x.port = none → Answered c s s 0 0x25 tag (.done .none)) ∧
      (x.state = .quiet → x.published = 0 → x.kind = .fixed → x.port ≠ none →
        ∃ t, Answered c s t 0 0x25 tag (.done .none) ∧ t = { s with slots := t.slots, notices := t.notices, witness := t.witness } ∧
          (∀ j, j ≠ i → t.slot j = s.slot j) ∧
          t.slot i = { x with
            port := none
            reportAge := none
            stale := false
            lastLevel := none
            overCount := 0
            goodCount := 0
            causes := { x.causes with hasOver := false, hasStale := false } } ∧
          t.SamePosts (s.reportBinding i x (t.slot i) .unbind)) ∧
      (x.state = .quiet → x.published = 0 → x.kind = .openKind →
        ∃ t, Answered c s t 0 0x25 tag (.done .none) ∧
          t = { s with slots := t.slots, paths := t.paths, engine := t.engine, arbiter := { s.arbiter with passSinceHead := t.arbiter.passSinceHead },
                       notices := t.notices, witness := t.witness } ∧
          (∀ j, j ≠ i → t.slot j = s.slot j) ∧
          t.slot i = x.afterEmptying ∧ s.PathsLeft t (· == i) ∧ s.EngineTriggered t ∧ t.SamePosts (s.reportBinding i x (t.slot i) .empty))

/-- READ NOTICES returns the oldest notices, at most the clamped count, as many as fit and at least one while any waits; those leave the queue,
the rest stay in order, and the lost flag is returned and becomes CLEAR. SET ATTENTION MASK replaces the mask as a whole (R170, R171). How many
fit rests on the layouts that the rules leave to inference: the number returned is sent once, as the one count byte of the notices, and each
notice as `Notice.bytes` lays it out (log 19). -/
def Obligations.NoticesAreReadAndMasked : Prop :=
  ∀ (s : State) (tag : Nat), s.Ready 0 →
    (∀ count, ∃ n t, Answered (.readNotices 0 tag (.whole count)) s t 0 0x28 tag
        { status := .done, reason := none, adjusted := decide (count < 1 ∨ 8 < count),
          items := .notices (s.notices.notices.take n) (s.notices.notices.length - n) s.notices.lost } ∧
      t = { s with notices := { s.notices with notices := s.notices.notices.drop n, lost := false } } ∧
      n ≤ max 1 (min 8 count) ∧ n ≤ s.notices.notices.length ∧ (s.notices.notices ≠ [] → 1 ≤ n) ∧
      (1 < n → 7 + ((s.notices.notices.take n).flatMap Notice.bytes).length ≤ 60) ∧
      (n < max 1 (min 8 count) → n < s.notices.notices.length →
        60 < 7 + ((s.notices.notices.take (n + 1)).flatMap Notice.bytes).length)) ∧
    ∀ enables : Vector Nat 10,
      ((∃ k, 1 < enables.get k) → Answered (.setAttentionMask 0 tag (.whole enables)) s s 0 0x29 tag (.refused .noSuch)) ∧
      ((∀ k, enables.get k ≤ 1) →
        ∃ mask : Vector Bool 10, (∀ k, mask.get k = (enables.get k == 1)) ∧
          Answered (.setAttentionMask 0 tag (.whole enables)) s { s with notices := { s.notices with mask := mask } } 0 0x29 tag
            (.done (.mask mask)))

/-! ### The tables -/

/-- TABLE WRITE and TABLE DELETE of SITE: refused for an enable that is neither 0 nor 1 (before what loosens: log 14), and with PROTECTED for what
loosens in ENFORCE; otherwise every field takes its clamped or default value, with a trigger for a new blind margin and the SITE notice, and the
slots that the new stale time makes stale, or the new age time ages out, follow with their notices and copies, in the order of logs 22 and 52
(R81, R94, R96); the rest is left alone where no slot is bound. A selector that names no table is refused (R160, R168). -/
def Obligations.SiteWritesReplaceEveryField : Prop :=
  ∀ (s : State) (tag : Nat), s.TableReady →
    (Answered (.tableWriteSite 0 tag .noTable) s s 0 0x18 tag (.refused .noSuch) ∧
      Answered (.tableDeleteSite 0 tag .noTable) s s 0 0x19 tag (.refused .noSuch)) ∧
    (s.mode = .enforce → Answered (.tableDeleteSite 0 tag (.whole ())) s s 0 0x19 tag (.refused .isProtected)) ∧
    (s.mode = .setup → ∃ t, Answered (.tableDeleteSite 0 tag (.whole ())) s t 0 0x19 tag (.done .none) ∧
      s.SiteReplaced t siteDefault) ∧
    ∀ a : SiteArgs,
      let c : Instr := .tableWriteSite 0 tag (.whole a)
      let isEnable (v : Nat) := v = 0 ∨ v = 1
      let enablesGood := isEnable a.stationReply ∧ isEnable a.minute ∧ isEnable a.exceedance ∧ isEnable a.ceiling ∧ isEnable a.clamp
      let new : Site :=
        { blindMargin := min 60 a.blindMargin, correctionRise := max 1 (min 30 a.correctionRise),
          correctionFall := max 1 (min 30 a.correctionFall), tolerance := min 30 a.tolerance, overLimit := max 1 (min 32 a.overLimit),
          releaseCount := max 1 (min 255 a.releaseCount), staleTime := max 1 (min 10 a.staleTime), ageTime := max 10 (min 600 a.ageTime),
          handoverTime := max 1 (min 30 a.handoverTime), discardTime := max 2 (min 30 a.discardTime),
          enables := { stationReply := a.stationReply == 1, minute := a.minute == 1, exceedance := a.exceedance == 1,
                       ceiling := a.ceiling == 1, clamp := a.clamp == 1 } }
      let unclamped := new.blindMargin = a.blindMargin ∧ new.correctionRise = a.correctionRise ∧ new.correctionFall = a.correctionFall ∧
        new.tolerance = a.tolerance ∧ new.overLimit = a.overLimit ∧ new.releaseCount = a.releaseCount ∧ new.staleTime = a.staleTime ∧
        new.ageTime = a.ageTime ∧ new.handoverTime = a.handoverTime ∧ new.discardTime = a.discardTime
      let loosens := new.blindMargin < s.site.blindMargin ∨ new.correctionRise < s.site.correctionRise ∨
        s.site.correctionFall < new.correctionFall ∨ (s.site.enables.stationReply = true ∧ new.enables.stationReply = false) ∨
        (s.site.enables.minute = true ∧ new.enables.minute = false) ∨ (s.site.enables.exceedance = true ∧ new.enables.exceedance = false) ∨
        (s.site.enables.ceiling = true ∧ new.enables.ceiling = false) ∨ (s.site.enables.clamp = true ∧ new.enables.clamp = false)
      (¬enablesGood → Answered c s s 0 0x18 tag (.refused .noSuch)) ∧
      (enablesGood → s.mode = .enforce → loosens → Answered c s s 0 0x18 tag (.refused .isProtected)) ∧
      (enablesGood → s.mode = .setup ∨ ¬loosens →
        ∃ t, Answered c s t 0 0x18 tag { status := .done, reason := none, adjusted := !decide unclamped, items := .none } ∧ s.SiteReplaced t new ∧
          ((∀ i, (s.slot i).port = none) → t.slots = s.slots ∧ t.paths = s.paths ∧ t.witness = s.witness ∧
            t.notices = s.notices.post (.site (.fields new)) ∧
            (new.blindMargin = s.site.blindMargin → t.engine = s.engine) ∧ (new.blindMargin ≠ s.site.blindMargin → s.EngineTriggered t)))

/-- TABLE WRITE of ZONE meets the checks of R30 in order, a bad curfew flag, which R30 does not place, after FULL and before DUPLICATE (the
model's choice, log 14), and otherwise stores the breakpoints in ascending minute order with their limits clamped, evaluates the zone and posts
its notice, with a trigger for a new recovery margin, effective limit, fade offset or zone state (R29, R30); a zone that becomes FADING is handed
to the arbiter; no other zone changes. -/
def Obligations.ZoneWritesReplaceTheSchedule : Prop :=
  ∀ (s : State) (tag : Nat) (a : ZoneArgs), s.TableReady →
    let c : Instr := .tableWriteZone 0 tag (.whole a)
    let ramp := max 1 (min 50 a.rampRate)
    let margin := min 60 a.recoveryMargin
    (a.zone = 0 ∨ 4 < a.zone → Answered c s s 0 0x18 tag (.refused .noSuch)) ∧
    ∀ z : ZoneId, a.zone = z.val + 1 →
      (8 < a.breakpoints.length → Answered c s s 0 0x18 tag (.refused .full)) ∧
      (a.breakpoints.length ≤ 8 → (∃ b ∈ a.breakpoints, 1439 < b.minute ∨ 1 < b.curfew) → Answered c s s 0 0x18 tag (.refused .noSuch)) ∧
      (a.breakpoints.length ≤ 8 → (∀ b ∈ a.breakpoints, b.minute ≤ 1439 ∧ b.curfew ≤ 1) →
        (¬(a.breakpoints.map (·.minute)).Nodup → Answered c s s 0 0x18 tag (.refused .duplicate)) ∧
        (a.breakpoints = [] → (∃ r x, s.receptor r = some x ∧ x.zone = z) → Answered c s s 0 0x18 tag (.refused .notEmpty)) ∧
        ((a.breakpoints.map (·.minute)).Nodup → a.breakpoints ≠ [] ∨ (∀ r x, s.receptor r = some x → x.zone ≠ z) →
          ∃ bps : List Breakpoint, bps.Pairwise (fun x y => x.minute < y.minute) ∧ bps.length = a.breakpoints.length ∧
            (∀ b ∈ a.breakpoints, { minute := b.minute, limit := min 1400 b.limit, curfew := b.curfew == 1 } ∈ bps) ∧
            let tightens := bps.length = (s.zone z).breakpoints.length ∧ (s.zone z).rampRate ≤ ramp ∧ (s.zone z).recoveryMargin ≤ margin ∧
              ∀ (k : Nat) (old new : Breakpoint), (s.zone z).breakpoints[k]? = some old → bps[k]? = some new →
                new.minute = old.minute ∧ new.curfew = old.curfew ∧ new.limit ≤ old.limit
            let stored : State := s.setZone z { s.zone z with
              breakpoints := bps
              rampRate := ramp
              recoveryMargin := margin
              inForce := if s.mode = .enforce then (s.zone z).inForce else none }
            (s.mode = .enforce → ¬tightens → Answered c s s 0 0x18 tag (.refused .isProtected)) ∧
            (s.mode = .setup ∨ tightens →
              ∃ t, Answered c s t 0 0x18 tag
                  { status := .done, reason := none,
                    adjusted := decide (ramp ≠ a.rampRate ∨ margin ≠ a.recoveryMargin ∨ ∃ b ∈ a.breakpoints, 1400 < b.limit), items := .none } ∧
                t = { s with zones := t.zones, slots := t.slots, paths := t.paths, engine := t.engine, arbiter := t.arbiter,
                             notices := t.notices, witness := t.witness } ∧
                t.zone z = (stored.evaluateZone z).zone z ∧ (∀ w, w ≠ z → t.zone w = s.zone w) ∧
                (t.notices.lost = false → t.zoneNotice z ∈ t.notices.notices) ∧
                (let changed := (t.zone z).recoveryMargin ≠ (s.zone z).recoveryMargin ∨ (t.zone z).effective ≠ (s.zone z).effective ∨
                  (t.zone z).fade ≠ (s.zone z).fade ∨ (t.zone z).state ≠ (s.zone z).state
                (changed → s.AnyTrigger t) ∧ (¬changed → t.engine = s.engine)) ∧
                let u := if (s.zone z).state ≠ .fading ∧ (t.zone z).state = .fading then s.curfewZone z else s
                t.slots = u.slots ∧ t.paths = u.paths ∧ t.witness = u.witness ∧
                  t.arbiter = { u.arbiter with passSinceHead := t.arbiter.passSinceHead })))

/-- TABLE DELETE of ZONE and TABLE DELETE of RECEPTOR: refused in the order of R31 and R53; otherwise the zone takes its unloaded form, with its
notice and a trigger where what the engine reads of it changed, or the record is removed with its open exceedance closed, with its notice and copy
and without a trigger (R53, R67), and its poll abandoned, the cycle going on to the next receptor number above (R40), also while its POLL is still
being sent (log 32). -/
def Obligations.ZoneAndReceptorDeletes : Prop :=
  ∀ (s : State) (tag n : Nat), s.TableReady →
    ((n = 0 ∨ 4 < n → Answered (.tableDeleteZone 0 tag (.whole n)) s s 0 0x19 tag (.refused .noSuch)) ∧
    ∀ z : ZoneId, n = z.val + 1 →
      (s.mode = .enforce → Answered (.tableDeleteZone 0 tag (.whole n)) s s 0 0x19 tag (.refused .isProtected)) ∧
      (s.mode = .setup → (∃ r x, s.receptor r = some x ∧ x.zone = z) →
        Answered (.tableDeleteZone 0 tag (.whole n)) s s 0 0x19 tag (.refused .notEmpty)) ∧
      (s.mode = .setup → (∀ r x, s.receptor r = some x → x.zone ≠ z) →
        ∃ t, Answered (.tableDeleteZone 0 tag (.whole n)) s t 0 0x19 tag (.done .none) ∧
          t = { s with zones := t.zones, engine := t.engine, arbiter := { s.arbiter with passSinceHead := t.arbiter.passSinceHead },
                       notices := s.notices.post (t.zoneNotice z) } ∧
          t.zone z = zoneDefault ∧ (∀ w, w ≠ z → t.zone w = s.zone w) ∧
          let changed := (s.zone z).effective ≠ 0 ∨ (s.zone z).fade ≠ 0 ∨ (s.zone z).state ≠ .opened ∨ (s.zone z).recoveryMargin ≠ 30
          (changed → s.AnyTrigger t) ∧ (¬changed → t.engine = s.engine))) ∧
    ((n = 0 ∨ 16 < n → Answered (.tableDeleteReceptor 0 tag (.whole n)) s s 0 0x19 tag (.refused .noSuch)) ∧
    ∀ r : ReceptorId, n = r.val + 1 →
      (s.receptor r = none → Answered (.tableDeleteReceptor 0 tag (.whole n)) s s 0 0x19 tag (.refused .noSuch)) ∧
      (s.receptor r ≠ none → s.mode = .enforce → Answered (.tableDeleteReceptor 0 tag (.whole n)) s s 0 0x19 tag (.refused .isProtected)) ∧
      (s.receptor r ≠ none → s.mode = .setup → (∃ p e, s.path p = some e ∧ e.receptor = r) →
        Answered (.tableDeleteReceptor 0 tag (.whole n)) s s 0 0x19 tag (.refused .notEmpty)) ∧
      ∀ x, s.receptor r = some x → s.mode = .setup → (∀ p e, s.path p = some e → e.receptor ≠ r) →
        ∃ t, Answered (.tableDeleteReceptor 0 tag (.whole n)) s t 0 0x19 tag (.done .none) ∧
          t = { s with receptors := t.receptors, poller := t.poller, exceedances := t.exceedances, notices := t.notices, witness := t.witness } ∧
          t.receptor r = none ∧ (∀ q, q ≠ r → t.receptor q = s.receptor q) ∧ t.exceedances.created = s.exceedances.created ∧
          (∀ p, t.excRecord p = if x.exceedance = some p then
            (s.excRecord p).map fun y => { y with state := .closed, closedAt := some s.clock.minute, cause := some .receptorEdited }
            else s.excRecord p) ∧
          (let closed : Option (ExcPos × ExcRecord) := x.exceedance.bind fun p => (s.excRecord p).map fun y =>
            (p, { y with state := .closed, closedAt := some s.clock.minute, cause := some .receptorEdited })
          (closed = none → t.notices = s.notices ∧ t.witness = s.witness) ∧
          ∀ e ∈ closed,
            t.notices = s.notices.post (.exceedance e.2.receptor e.1 .closed e.2.openedAt (some s.clock.minute) e.2.limit e.2.peak
              e.2.minutesAbove (some .receptorEdited)) ∧
            t.witness = (s.send (.exceedance false s.clock.minute s.clock.second e.1 e.2 none)).witness) ∧
          ((∀ q, s.poller.poll = some q → q.receptor ≠ r) → t.poller = s.poller) ∧
          ∀ q, s.poller.poll = some q → q.receptor = r →
            t.poller.receiver = .hunting ∧ ((∀ k, r < k → s.receptor k = none) → t.poller.poll = none) ∧
            ∀ k y, s.receptor k = some y → r < k → (∀ j, r < j → j < k → s.receptor j = none) →
              t.poller.poll = some { receptor := k, address := y.address, second := q.second, wait := none })

/-- TABLE WRITE of RECEPTOR meets the checks of R50 in order; it then creates a record with the starting values of R36, or changes the fields that
differ, with what R52 and R67 say follows a new zone or a new station address: the STATION notice of a new address, the open exceedance closed
with its notice and copy, a trigger each for a new zone, an ACTIVE station that becomes NEW (R42), the closing and a correction that was above 0,
and the poll of the receptor abandoned, the cycle going on (R40). The order of these, and so what the pass of an IDLE engine captures, is the
model's choice (log 45); that a POLL still being sent is abandoned too is read from R40 (log 32). -/
def Obligations.ReceptorWritesCreateOrEdit : Prop :=
  ∀ (s : State) (tag : Nat) (a : ReceptorArgs), s.TableReady →
    let c : Instr := .tableWriteReceptor 0 tag (.whole a)
    let done : Answer := { status := .done, reason := none, adjusted := decide (1400 < a.floor), items := .none }
    (a.receptor = 0 ∨ 16 < a.receptor ∨ a.address = 0 ∨ 31 < a.address ∨ a.zone = 0 ∨ 4 < a.zone → Answered c s s 0 0x18 tag (.refused .noSuch)) ∧
    ∀ (r : ReceptorId) (z : ZoneId), a.receptor = r.val + 1 → 1 ≤ a.address → a.address ≤ 31 → a.zone = z.val + 1 →
      ((s.zone z).breakpoints = [] → Answered c s s 0 0x18 tag (.refused .noSuch)) ∧
      ((s.zone z).breakpoints ≠ [] →
        ((∃ q y, q ≠ r ∧ s.receptor q = some y ∧ y.address = a.address) → Answered c s s 0 0x18 tag (.refused .duplicate)) ∧
        ((∀ q y, q ≠ r → s.receptor q = some y → y.address ≠ a.address) →
          (s.receptor r = none → ∃ t, Answered c s t 0 0x18 tag done ∧ t = { s with receptors := t.receptors } ∧
            (∀ q, q ≠ r → t.receptor q = s.receptor q) ∧
            t.receptor r = some
              { address := a.address, zone := z, floor := min 1400 a.floor, station := .new, misses := 0, accumulator := none, ring := [],
                level15 := none, lastLevel := none, residual := { sum := 0, count := 0 }, correction := 0, exceedance := none }) ∧
          ∀ x, s.receptor r = some x →
            (s.mode = .enforce → x.address ≠ a.address ∨ x.zone ≠ z → Answered c s s 0 0x18 tag (.refused .isProtected)) ∧
            (s.mode = .setup ∨ (x.address = a.address ∧ x.zone = z) →
              ∃ t, Answered c s t 0 0x18 tag done ∧
                t = { s with receptors := t.receptors, poller := t.poller, exceedances := t.exceedances, engine := t.engine,
                             arbiter := { s.arbiter with passSinceHead := t.arbiter.passSinceHead }, notices := t.notices, witness := t.witness } ∧
                (∀ q, q ≠ r → t.receptor q = s.receptor q) ∧
                (x.address = a.address → x.zone = z → t = { s with receptors := t.receptors } ∧
                  t.receptor r = some { x with floor := min 1400 a.floor }) ∧
                (x.address = a.address → x.zone ≠ z → t.poller = s.poller ∧ t.engine.activity ≠ .idle ∧
                  t.receptor r = some { x with zone := z, floor := min 1400 a.floor, exceedance := none }) ∧
                (x.address ≠ a.address →
                  t.receptor r = some
                    { address := a.address, zone := z, floor := min 1400 a.floor, station := .new, misses := 0, accumulator := none, ring := [],
                      level15 := none, lastLevel := none, residual := { sum := 0, count := 0 }, correction := 0, exceedance := none }) ∧
                (x.address ≠ a.address ∨ x.zone ≠ z → ∀ p, t.excRecord p = if x.exceedance = some p then
                  (s.excRecord p).map fun y => { y with state := .closed, closedAt := some s.clock.minute, cause := some .receptorEdited }
                  else s.excRecord p) ∧
                let moved := x.zone ≠ z
                let rewired := x.address ≠ a.address
                let closed : Option (ExcPos × ExcRecord) := if moved ∨ rewired then x.exceedance.bind fun p => (s.excRecord p).map fun y =>
                  (p, { y with state := .closed, closedAt := some s.clock.minute, cause := some .receptorEdited }) else none
                let stationed := if rewired then s.notices.post (.station r .new 0 none a.address) else s.notices
                (closed = none → t.notices = stationed ∧ t.witness = s.witness) ∧
                (∀ e ∈ closed,
                  t.notices = stationed.post (.exceedance e.2.receptor e.1 .closed e.2.openedAt (some s.clock.minute) e.2.limit e.2.peak
                    e.2.minutesAbove (some .receptorEdited)) ∧
                  t.witness = (s.send (.exceedance false s.clock.minute s.clock.second e.1 e.2 none)).witness) ∧
                (let one (b : Bool) : Nat := if b then 1 else 0
                let blinded := rewired ∧ x.station = .active
                let closing := (moved ∨ rewired) ∧ x.exceedance ≠ none
                let triggers := one moved + one blinded + one closing + one (rewired ∧ 0 < x.correction)
                let first : Receptor :=
                  if moved then { x with zone := z, floor := min 1400 a.floor }
                  else
                    { x with
                      address := a.address, floor := min 1400 a.floor, station := .new, misses := 0, accumulator := none, ring := [],
                      level15 := none, lastLevel := none
                      correction := if blinded ∨ closing then x.correction else 0
                      exceedance := if blinded then x.exceedance else none }
                (s.engine.activity = .idle → 0 < triggers →
                  t.engine = { activity := .recalculating (s.setReceptor r (some first)).capture, pending := s.engine.pending || decide (1 < triggers) } ∧
                  t.arbiter.passSinceHead = true) ∧
                (s.engine.activity ≠ .idle ∨ triggers = 0 →
                  t.engine = { s.engine with pending := s.engine.pending || decide (0 < triggers) } ∧ t.arbiter = s.arbiter)) ∧
                ((∀ q, s.poller.poll = some q → q.receptor ≠ r) ∨ ¬rewired → t.poller = s.poller) ∧
                ∀ q, s.poller.poll = some q → q.receptor = r → rewired →
                  t.poller.receiver = .hunting ∧ ((∀ k, r < k → s.receptor k = none) → t.poller.poll = none) ∧
                  ∀ k y, s.receptor k = some y → r < k → (∀ j, r < j → j < k → s.receptor j = none) →
                    t.poller.poll = some { receptor := k, address := y.address, second := q.second, wait := none })))

/-- TABLE WRITE of STAGE meets the checks of R83 in order, an invalid presence byte refused for either kind (the model's choice, log 14), and then
makes the changes R84 gives to its slot alone, with a trigger for a new weight or stage maximum or an emptied slot, and a STAGE_STATE notice, an
emptied slot with its own notices and CLAMP copy before (R77, R78, R96). TABLE DELETE of STAGE (R85): PROTECTED in ENFORCE, whatever the number
(the model's choice, log 14); NO_SUCH for a number outside 1 to 8, PORT_BUSY for a bound slot; otherwise the slot takes weight 1 and stage maximum
1050, a FIXED one emptied with its paths, with a trigger of its own for the emptying (log 39), and a STAGE_STATE notice. -/
def Obligations.StageWritesAndDeletes : Prop :=
  (∀ (s : State) (tag : Nat) (a : StageArgs), s.TableReady → s.BindingsSound →
    let c : Instr := .tableWriteStage 0 tag (.whole a)
    let weight := max 1 (min 4 a.weight)
    let stageMax := min 1400 a.stageMax
    (a.slot = 0 ∨ 8 < a.slot → Answered c s s 0 0x18 tag (.refused .noSuch)) ∧
    ∀ i : SlotId, a.slot = i.val + 1 →
      (1 < a.kind ∨ a.identity = .invalid ∨ (a.kind = 1 ∧ a.identity = .absent) → Answered c s s 0 0x18 tag (.refused .noSuch)) ∧
      ∀ wanted : Option Identity,
        (a.kind = 0 ∧ a.identity ≠ .invalid ∧ wanted = none) ∨ (a.kind = 1 ∧ ∃ id, a.identity = .present id ∧ wanted = some id) →
        let x := s.slot i
        let taken := ∃ id j, wanted = some id ∧ j ≠ i ∧ (s.slot j).identity = some id
        let rekinds := if wanted = none then x.kind = .fixed else ¬(x.kind = .fixed ∧ x.identity = wanted)
        let held := weight ≠ x.weight ∧ (x.state = .waiting ∨ x.state = .entering ∨ x.state = .live)
        (taken → Answered c s s 0 0x18 tag (.refused .duplicate)) ∧
        (¬taken → rekinds → x.port ≠ none → Answered c s s 0 0x18 tag (.refused .portBusy)) ∧
        (¬taken → ¬rekinds ∨ x.port = none → held → Answered c s s 0 0x18 tag (.refused .notQuiet)) ∧
        (¬taken → ¬rekinds ∨ x.port = none → ¬held → s.mode = .enforce → x.stageMax < stageMax → Answered c s s 0 0x18 tag (.refused .isProtected)) ∧
        (¬taken → ¬rekinds ∨ x.port = none → ¬held → s.mode = .setup ∨ stageMax ≤ x.stageMax →
          ∃ t, Answered c s t 0 0x18 tag
              { status := .done, reason := none, adjusted := decide (weight ≠ a.weight ∨ stageMax ≠ a.stageMax), items := .none } ∧
            t = { s with slots := t.slots, paths := t.paths, engine := t.engine,
                         arbiter := { s.arbiter with passSinceHead := t.arbiter.passSinceHead }, notices := t.notices, witness := t.witness } ∧
            (∀ j, j ≠ i → t.slot j = s.slot j) ∧
            (¬rekinds → t.slot i = { x with weight := weight, stageMax := stageMax } ∧ t.paths = s.paths) ∧
            (rekinds → wanted ≠ none → t.slot i = { x with
              kind := .fixed
              identity := wanted
              state := .quiet
              weight := weight
              stageMax := stageMax } ∧ t.paths = s.paths) ∧
            (rekinds → wanted = none →
              t.slot i = { x.afterEmptying with weight := weight, stageMax := stageMax } ∧ s.PathsLeft t (· == i) ∧
              (let u := s.reportBinding i x x.afterEmptying .empty
              t.SamePosts (u.post (t.stageStateNotice i)))) ∧
            (¬rekinds → weight = x.weight → stageMax = x.stageMax → t = s) ∧
            (let resized := weight ≠ x.weight ∨ stageMax ≠ x.stageMax
            let empties := rekinds ∧ wanted = none
            (resized → empties → s.TriggersRaised t true) ∧ ((resized ∧ ¬empties) ∨ (empties ∧ ¬resized) → s.TriggersRaised t false) ∧
              (¬resized → ¬empties → t.engine = s.engine)) ∧
            (weight ≠ x.weight ∨ stageMax ≠ x.stageMax ∨ rekinds → ¬(rekinds ∧ wanted = none) → t.SamePosts (s.post (t.stageStateNotice i))))) ∧
  (∀ (s : State) (tag n : Nat), s.TableReady →
    (s.mode = .enforce → Answered (.tableDeleteStage 0 tag (.whole n)) s s 0 0x19 tag (.refused .isProtected)) ∧
    (s.mode = .setup → n = 0 ∨ 8 < n → Answered (.tableDeleteStage 0 tag (.whole n)) s s 0 0x19 tag (.refused .noSuch)) ∧
    ∀ i : SlotId, s.mode = .setup → n = i.val + 1 →
      ((s.slot i).port ≠ none → Answered (.tableDeleteStage 0 tag (.whole n)) s s 0 0x19 tag (.refused .portBusy)) ∧
      ((s.slot i).port = none →
        ∃ t, Answered (.tableDeleteStage 0 tag (.whole n)) s t 0 0x19 tag (.done .none) ∧
          t = { s with slots := t.slots, paths := t.paths, engine := t.engine,
                       arbiter := { s.arbiter with passSinceHead := t.arbiter.passSinceHead }, notices := t.notices, witness := t.witness } ∧
          (∀ j, j ≠ i → t.slot j = s.slot j) ∧ s.TriggersRaised t ((s.slot i).kind == .fixed) ∧
          ((s.slot i).kind = .openKind → t.slot i = { s.slot i with weight := 1, stageMax := 1050 } ∧ t.paths = s.paths ∧
            t.SamePosts (s.post (t.stageStateNotice i))) ∧
          ((s.slot i).kind = .fixed →
            t.slot i = { (s.slot i).afterEmptying with weight := 1, stageMax := 1050 } ∧ s.PathsLeft t (· == i) ∧
            (let u := s.reportBinding i (s.slot i) (s.slot i).afterEmptying .empty
            t.SamePosts (u.post (t.stageStateNotice i))))))

/-- TABLE WRITE and TABLE DELETE of PATH (R104, R105): a new entry takes the lowest free position with a trigger, a present one takes the new
loss, a deleted one frees its position; refused for a key out of range, an EMPTY slot, a missing receptor, a full table, or what loosens in
ENFORCE. An entry that puts a queued slot under curfew is the arbiter's (R140): the slot leaves the queue with the outcome REFUSED_CURFEW and its
notices, and where it was the head the timer stops, every debt is CLEAR, and the next member becomes the head with its own; the entry's trigger
comes before the removal (log 43). A slot it so settles past its age time is emptied with its paths (R81; at once: read from its three conditions,
log 50). -/
def Obligations.PathWritesAndDeletes : Prop :=
  ∀ (s : State) (tag slot receptor loss : Nat), s.TableReady → s.StagesSound →
    let w : Instr := .tableWritePath 0 tag (.whole { slot := slot, receptor := receptor, loss := loss })
    let d : Instr := .tableDeletePath 0 tag (.whole { slot := slot, receptor := receptor })
    let done (p : PathPos) : Answer := { status := .done, reason := none, adjusted := decide (1200 < loss), items := .pathPosition p }
    (slot = 0 ∨ 8 < slot ∨ receptor = 0 ∨ 16 < receptor →
      Answered w s s 0 0x18 tag (.refused .noSuch) ∧ Answered d s s 0 0x19 tag (.refused .noSuch)) ∧
    ∀ (i : SlotId) (r : ReceptorId), slot = i.val + 1 → receptor = r.val + 1 →
      ((s.slot i).state = .empty ∨ s.receptor r = none → Answered w s s 0 0x18 tag (.refused .noSuch)) ∧
      ((∀ p e, s.path p = some e → ¬(e.slot = i ∧ e.receptor = r)) → Answered d s s 0 0x19 tag (.refused .noSuch)) ∧
      (∀ p e, s.path p = some e → e.slot = i → e.receptor = r →
        (s.mode = .enforce → Answered d s s 0 0x19 tag (.refused .isProtected)) ∧
        (s.mode = .setup → ∃ t, Answered d s t 0 0x19 tag (.done .none) ∧
          t = { s with paths := t.paths, engine := t.engine, arbiter := t.arbiter } ∧
          t.path p = none ∧ (∀ q, q ≠ p → t.path q = s.path q) ∧ s.EngineTriggered t) ∧
        (s.mode = .enforce → e.loss < min 1200 loss → Answered w s s 0 0x18 tag (.refused .isProtected)) ∧
        (s.mode = .setup ∨ min 1200 loss ≤ e.loss → ∃ t, Answered w s t 0 0x18 tag (done p) ∧
          t = { s with paths := t.paths, engine := t.engine, arbiter := t.arbiter } ∧
          t.path p = some { e with loss := min 1200 loss } ∧ (∀ q, q ≠ p → t.path q = s.path q) ∧
          (e.loss = min 1200 loss → t = s) ∧ (e.loss ≠ min 1200 loss → s.EngineTriggered t))) ∧
      ((s.slot i).state ≠ .empty → s.receptor r ≠ none → (∀ p e, s.path p = some e → ¬(e.slot = i ∧ e.receptor = r)) →
        ((∀ p, s.path p ≠ none) → Answered w s s 0 0x18 tag (.refused .full)) ∧
        ∀ p x, s.path p = none → (∀ q, q < p → s.path q ≠ none) → s.receptor r = some x →
          let removed := i ∈ s.arbiter.queue ∧ (s.zone x.zone).state ≠ .opened
          let ages : Bool := (s.slot i).kind == .openKind && (s.slot i).published == 0 && (s.slot i).port.isSome &&
            (s.slot i).reportAge.any fun a => decide (1000 * s.site.ageTime ≤ a)
          ∃ t, Answered w s t 0 0x18 tag (done p) ∧
            t = { s with
              paths := t.paths, slots := t.slots, engine := t.engine, arbiter := t.arbiter, notices := t.notices, witness := t.witness } ∧
            (¬removed ∨ ages = false →
              t.path p = some { slot := i, receptor := r, loss := min 1200 loss } ∧ (∀ q, q ≠ p → t.path q = s.path q) ∧ t.witness = s.witness) ∧
            (¬removed → t.slots = s.slots ∧ t.notices = s.notices ∧ s.EngineTriggered t) ∧
            (removed →
              let left := s.arbiter.queue.erase i
              t.arbiter.queue = left ∧
              (t.notices.lost = false → t.stageStateNotice i ∈ t.notices.notices ∧
                .admission i .quiet .refusedCurfew none left.length none none ∈ t.notices.notices) ∧
              (ages = false →
                t.slot i = { s.slot i with state := .quiet, outcome := .refusedCurfew, prospective := none, debt := false }) ∧
              (ages = true →
                t.slot i = { slotDefault with
                  weight := (s.slot i).weight, stageMax := (s.slot i).stageMax, previous := (s.slot i).previous, serial := (s.slot i).serial } ∧
                (∀ q, t.path q = (s.path q).bind fun e => if e.slot = i then none else some e) ∧
                t.witness = (if (s.slot i).causes = causesNone then s.witness else
                  (s.send (.clamp i none (s.slot i).causes causesNone false .empty none s.clock.minute s.clock.second none)).witness)) ∧
              (s.arbiter.queue.head? ≠ some i →
                (∀ j, j ≠ i → t.slot j = s.slot j) ∧ s.TriggersRaised t ages ∧
                t.arbiter = { s.arbiter with queue := left, passSinceHead := t.arbiter.passSinceHead }) ∧
              (s.arbiter.queue.head? = some i →
                t.arbiter.timer = none ∧ t.arbiter.phase = (if left = [] then none else some .counting) ∧ s.TriggersRaised t true ∧
                t.HeadPosted left.head? ∧
                ∀ j, j ≠ i → t.slot j = { s.slot j with state := if left.head? = some j then .entering else (s.slot j).state, debt := false })))

/-- The EXCEEDANCE and RING tables refuse every WRITE and DELETE with PROTECTED, in SETUP and in ENFORCE (R68, R166), whatever the key (the
model's choice, log 14). TABLE FIND and TABLE READ of every table answer from the records as they stand and change no state; a key out of range,
and one that finds nothing, is refused with NO_SUCH (R31, R54, R68, R85, R106, R161, R166, R168). That a FIND of ZONE answers its fields is read
from R31 (log 15). -/
def Obligations.FindsAndReadsChangeNothing : Prop :=
  (∀ (s : State) (tag n : Nat), s.TableReady →
    Answered (.tableWriteExceedance 0 tag (.whole n)) s s 0 0x18 tag (.refused .isProtected) ∧
    Answered (.tableDeleteExceedance 0 tag (.whole n)) s s 0 0x19 tag (.refused .isProtected) ∧
    Answered (.tableWriteRing 0 tag (.whole n)) s s 0 0x18 tag (.refused .isProtected) ∧
    Answered (.tableDeleteRing 0 tag (.whole n)) s s 0 0x19 tag (.refused .isProtected)) ∧
  (∀ (s : State) (tag n m : Nat), s.TableReady →
    let found (c : Instr) (items : Items) := Answered c s s 0 0x1A tag (.done items)
    let read (c : Instr) (items : Items) := Answered c s s 0 0x1B tag (.done items)
    let noFind (c : Instr) := Answered c s s 0 0x1A tag (.refused .noSuch)
    let noRead (c : Instr) := Answered c s s 0 0x1B tag (.refused .noSuch)
    let ring (part : Nat) : Instr := .tableReadRing 0 tag (.whole { receptor := n, part := part })
    let key : Params PathKey := .whole { slot := n, receptor := m }
    (found (.tableFindSite 0 tag (.whole ())) .none ∧ read (.tableReadSite 0 tag (.whole ())) (.site s.site) ∧
      noFind (.tableFindSite 0 tag .noTable) ∧ noRead (.tableReadSite 0 tag .noTable)) ∧
    (n = 0 ∨ 4 < n → noFind (.tableFindZone 0 tag (.whole n)) ∧ noRead (.tableReadZone 0 tag (.whole n))) ∧
    (∀ z : ZoneId, n = z.val + 1 →
      found (.tableFindZone 0 tag (.whole n)) (.zone (s.zone z)) ∧ read (.tableReadZone 0 tag (.whole n)) (.zone (s.zone z))) ∧
    (n = 0 ∨ 16 < n ∨ (∃ r : ReceptorId, n = r.val + 1 ∧ s.receptor r = none) →
      noFind (.tableFindReceptor 0 tag (.whole n)) ∧ noRead (.tableReadReceptor 0 tag (.whole n)) ∧
      noFind (.tableFindRing 0 tag (.whole n)) ∧ noFind (.tableFindExceedance 0 tag (.whole n)) ∧ noRead (ring m)) ∧
    (∀ (r : ReceptorId) (x : Receptor), n = r.val + 1 → s.receptor r = some x →
      found (.tableFindReceptor 0 tag (.whole n)) .none ∧ read (.tableReadReceptor 0 tag (.whole n)) (.receptor x) ∧
      found (.tableFindRing 0 tag (.whole n)) .none ∧
      read (ring 1) (.ring 1 x.ring.length (x.ring.take 8)) ∧ read (ring 2) (.ring 2 x.ring.length (x.ring.drop 8)) ∧
      (m = 0 ∨ 2 < m → noRead (ring m)) ∧
      (∀ p, x.exceedance = some p → found (.tableFindExceedance 0 tag (.whole n)) (.excPosition p)) ∧
      (x.exceedance = none → noFind (.tableFindExceedance 0 tag (.whole n)))) ∧
    (n = 0 ∨ 8 < n → noRead (.tableReadStage 0 tag (.whole n))) ∧
    (∀ i : SlotId, n = i.val + 1 → read (.tableReadStage 0 tag (.whole n)) (.stage i (s.slot i))) ∧
    (∀ id : Identity, ((∀ i, (s.slot i).identity ≠ some id) → noFind (.tableFindStage 0 tag (.whole id))) ∧
      (s.BindingsSound → ∀ i, (s.slot i).identity = some id → found (.tableFindStage 0 tag (.whole id)) (.slotNumber i))) ∧
    (n = 0 ∨ 8 < n ∨ m = 0 ∨ 16 < m → noFind (.tableFindPath 0 tag key)) ∧
    (∀ (i : SlotId) (r : ReceptorId), n = i.val + 1 → m = r.val + 1 →
      ((∀ p e, s.path p = some e → ¬(e.slot = i ∧ e.receptor = r)) → noFind (.tableFindPath 0 tag key)) ∧
      (s.PathsSound → ∀ p e, s.path p = some e → e.slot = i → e.receptor = r → found (.tableFindPath 0 tag key) (.pathFound p e.loss))) ∧
    (63 < n ∨ (∃ p : PathPos, n = p.val ∧ s.path p = none) → noRead (.tableReadPath 0 tag (.whole n))) ∧
    (∀ (p : PathPos) (e : PathEntry), n = p.val → s.path p = some e → read (.tableReadPath 0 tag (.whole n)) (.pathEntry e)) ∧
    (31 < n ∨ (∃ p : ExcPos, n = p.val ∧ s.excRecord p = none) → noRead (.tableReadExceedance 0 tag (.whole n))) ∧
    ∀ (p : ExcPos) (x : ExcRecord) (older newer : List ExcPos), n = p.val → s.excRecord p = some x →
      s.exceedances.created = older ++ p :: newer → p ∉ older →
      read (.tableReadExceedance 0 tag (.whole n)) (.excRecord p x (older.length + 1)))

/-! ### Level arithmetic -/

/-- The power sum of two levels (R3): the higher level plus the increment of Table 0-2 for the tenth of their difference, saturated at 1400,
whichever comes first; equal levels give 30 more; the result lies in 0 to 1400 and is not below the higher. The share offset of n is the entry of
Table 0-3 for n (R7). The fold of a list is its running power sum in the order of the list, absent for an empty one, within 1400 and at least
every level of the list (R4). The limited step of R12 never passes its target and reaches it within the step; the mean of R10 is the quotient
rounded toward zero. -/
def Obligations.LevelArithmeticFollowsItsRules : Prop :=
  ((∀ k : Nat, powerSumIncrement k =
    ([30, 25, 21, 18, 15, 12, 10, 8, 6, 5, 4, 3, 3, 2, 2, 1, 1, 1, 1, 1] : List Nat).getD k 0) ∧
  ∀ a b : Level, a ≤ 1400 → b ≤ 1400 →
    powerSum a b = powerSum b a ∧ powerSum a a = min 1400 (a + 30) ∧ powerSum a b ≤ 1400 ∧ max a b ≤ powerSum a b ∧
    (b ≤ a → powerSum a b = min 1400 (a + powerSumIncrement ((a - b) / 10)) ∧ (200 ≤ a - b → powerSum a b = a))) ∧
  ((∀ n : Nat, 1 ≤ n → n ≤ 32 → shareOffset n =
    ([0, 30, 48, 60, 70, 78, 85, 90, 95, 100, 104, 108, 111, 115, 118, 120, 123, 126, 128, 130, 132, 134, 136, 138, 140, 141, 143, 145, 146, 148,
      149, 151] : List Nat).getD (n - 1) 0) ∧
  foldLevels [] = none ∧ (∀ x : Level, foldLevels [x] = some x) ∧
  (∀ (x y : Level) (xs : List Level), foldLevels (x :: xs ++ [y]) = (foldLevels (x :: xs)).map fun v => powerSum v y) ∧
  ∀ (xs : List Level) (v : Level), (∀ x ∈ xs, x ≤ 1400) → foldLevels xs = some v → v ≤ 1400 ∧ ∀ x ∈ xs, x ≤ v) ∧
  ((∀ value target rise fall : Nat,
    (value < target → limitedStep value target rise fall = min target (value + rise)) ∧
    (target < value → limitedStep value target rise fall = max target (value - fall)) ∧
    limitedStep target target rise fall = target) ∧
  ∀ (sum : Int) (count : Nat), 1 ≤ count →
    (0 ≤ sum → (meanTowardZero sum count : Int) * count ≤ sum ∧ sum < (meanTowardZero sum count + 1) * count) ∧
    (sum ≤ 0 → sum ≤ meanTowardZero sum count * count ∧ (meanTowardZero sum count - 1) * count < sum))

/-! ### Loading the settings -/

/-- What a load makes of a section LOADED (R176): its entries in the order of the image, each clamped to its ranges and the values clamped
counted, or skipped and counted. A receptor takes its place as R36 gives, a FIXED slot as R86, a path the lowest free position (R103), a zone
replaces its breakpoints, kept in ascending order of minute, its ramp rate and its margin. The model's inferences: an entry or a breakpoint
repeats one before it, kept or skipped (log 38); a skipped breakpoint counts with the skipped entries, its limit is not counted as clamped, and of
a skipped entry neither the values are counted as clamped nor the breakpoints as skipped (log 21). A load takes the entries of a section in the
order of the image, each after all before it (R176). -/
def Obligations.LoadClampsAndSkips : Prop :=
  (∀ (l : Loading) (before : List (List Byte)) (bs : List Byte),
    let value (b : List Byte) (k : Nat) : Nat := (b.getD k 0).toNat
    let word (b : List Byte) (k : Nat) : Nat := 256 * value b k + value b (k + 1)
    let skipped : Loading := { l with skipped := l.skipped + 1 }
    let one (p : Bool) : Nat := if p then 1 else 0
    (let v := value bs
    loadSite l bs =
      { l with
        state := { l.state with site :=
          { blindMargin := min 60 (v 0), correctionRise := max 1 (min 30 (v 1)), correctionFall := max 1 (min 30 (v 2)), tolerance := min 30 (v 3),
            overLimit := max 1 (min 32 (v 4)), releaseCount := max 1 (v 5), staleTime := max 1 (min 10 (v 6)),
            ageTime := max 10 (min 600 (word bs 7)), handoverTime := max 1 (min 30 (v 9)), discardTime := max 2 (min 30 (v 10)),
            enables := l.state.site.enables } }
        clamped := l.clamped + one (60 < v 0) + one (v 1 = 0 ∨ 30 < v 1) + one (v 2 = 0 ∨ 30 < v 2) + one (30 < v 3) +
          one (v 4 = 0 ∨ 32 < v 4) + one (v 5 = 0) + one (v 6 = 0 ∨ 10 < v 6) + one (word bs 7 < 10 ∨ 600 < word bs 7) +
          one (v 9 = 0 ∨ 30 < v 9) + one (v 10 < 2 ∨ 30 < v 10) }) ∧
    (let v := value bs
    loadWitness l bs =
      { l with
        state := { l.state with site := { l.state.site with enables :=
          { stationReply := v 0 != 0, minute := v 1 != 0, exceedance := v 2 != 0, ceiling := v 3 != 0, clamp := v 4 != 0 } } }
        clamped := l.clamped + one (1 < v 0) + one (1 < v 1) + one (1 < v 2) + one (1 < v 3) + one (1 < v 4) }) ∧
    (let n := value bs 0
    let repeats := ∃ b ∈ before, value b 0 = n
    (n = 0 ∨ 4 < n ∨ repeats → loadZone before l bs = skipped) ∧
    ∀ z : ZoneId, n = z.val + 1 → ¬repeats →
      let k := takeBreakpoints bs
      ∃ bps : List Breakpoint, bps.Perm k.kept ∧ bps.Pairwise (fun x y => x.minute < y.minute) ∧
        loadZone before l bs =
          { state := l.state.setZone z { l.state.zone z with
              breakpoints := bps, rampRate := max 1 (min 50 (value bs 1)), recoveryMargin := min 60 (value bs 2) }
            clamped := l.clamped + one (value bs 1 = 0 ∨ 50 < value bs 1) + one (60 < value bs 2) + k.clamped
            skipped := l.skipped + k.skipped }) ∧
    (∀ k : KeptBreakpoints,
      let minute := word bs 0
      let isSkipped := 1439 < minute ∨ 1 < value bs 4 ∨ minute ∈ k.seen
      (isSkipped → takeBreakpoint k bs = { k with seen := minute :: k.seen, skipped := k.skipped + 1 }) ∧
      (¬isSkipped → takeBreakpoint k bs =
        { k with
          kept := k.kept ++ [{ minute := minute, limit := min 1400 (word bs 2), curfew := value bs 4 == 1 }]
          seen := minute :: k.seen
          clamped := k.clamped + one (1400 < word bs 2) })) ∧
    (let n := value bs 0
    let address := value bs 1
    let zone := value bs 2
    let isSkipped := n = 0 ∨ 16 < n ∨ address = 0 ∨ 31 < address ∨ zone = 0 ∨ 4 < zone ∨ (∃ b ∈ before, value b 0 = n ∨ value b 1 = address) ∨
      ∃ z : ZoneId, zone = z.val + 1 ∧ (l.state.zone z).breakpoints = []
    (isSkipped → loadReceptor before l bs = skipped) ∧
    ∀ (r : ReceptorId) (z : ZoneId), ¬isSkipped → n = r.val + 1 → zone = z.val + 1 → loadReceptor before l bs =
      { l with
        state := l.state.setReceptor r (some
          { address := address, zone := z, floor := min 1400 (word bs 3), station := .new, misses := 0, accumulator := none, ring := [],
            level15 := none, lastLevel := none, residual := { sum := 0, count := 0 }, correction := 0, exceedance := none })
        clamped := l.clamped + one (1400 < word bs 3) }) ∧
    (let n := value bs 0
    let identity (b : List Byte) := (b.drop 1).take 6
    let isSkipped := n = 0 ∨ 8 < n ∨ ∃ b ∈ before, value b 0 = n ∨ identity b = identity bs
    (∀ b ∈ bs :: before, b.length = 10) →
    (isSkipped → loadStage before l bs = skipped) ∧
    ∀ (i : SlotId) (id : Identity), ¬isSkipped → n = i.val + 1 → identityBytes id = identity bs → loadStage before l bs =
      { l with
        state := l.state.setSlot i { slotDefault with
          kind := .fixed, state := .quiet, identity := some id, weight := max 1 (min 4 (value bs 7)), stageMax := min 1400 (word bs 8) }
        clamped := l.clamped + one (value bs 7 = 0 ∨ 4 < value bs 7) + one (1400 < word bs 8) }) ∧
    let n := value bs 0
    let m := value bs 1
    let isSkipped := n = 0 ∨ 8 < n ∨ m = 0 ∨ 16 < m ∨ (∃ b ∈ before, value b 0 = n ∧ value b 1 = m) ∨
      (∃ i : SlotId, n = i.val + 1 ∧ (l.state.slot i).kind ≠ .fixed) ∨ ∃ r : ReceptorId, m = r.val + 1 ∧ l.state.receptor r = none
    (isSkipped → loadPath before l bs = skipped) ∧
    ∀ (i : SlotId) (r : ReceptorId) (p : PathPos), ¬isSkipped → n = i.val + 1 → m = r.val + 1 →
      l.state.path p = none → (∀ q, q < p → l.state.path q ≠ none) → loadPath before l bs =
        { l with
          state := l.state.setPath p (some { slot := i, receptor := r, loss := min 1200 (word bs 2) })
          clamped := l.clamped + one (1200 < word bs 2) }) ∧
  (∀ (l : Loading) (before : List (List Byte)) (entry : List Byte),
    let contents (es : List (List Byte)) : List Byte := u8 es.length ++ es.flatten
    let takesLast (sec : Section) (take : List (List Byte) → Loading → List Byte → Loading) :=
      loadContents sec l (contents (before ++ [entry])) = take before (loadContents sec l (contents before)) entry
    (before.length < 4 → (∀ e ∈ before ++ [entry], 4 ≤ e.length ∧ e.length = 4 + 5 * (e.getD 3 0).toNat) → takesLast .zones loadZone) ∧
    (before.length < 16 → (∀ e ∈ before ++ [entry], e.length = 5) → takesLast .receptors loadReceptor) ∧
    (before.length < 8 → (∀ e ∈ before ++ [entry], e.length = 10) → takesLast .stages loadStage) ∧
    (before.length < 64 → (∀ e ∈ before ++ [entry], e.length = 4) → takesLast .paths loadPath))
end

