-- ==== Sys2Proof/Laws/State.lean ====
section
/-! SUPPORT. One lemma per field of State per update, and the reads of each store after its writes. -/

namespace Sys2Proof.Machine

/-! ### Reads after writes -/

@[simp] theorem State.slot_setSlot_same (s : State) (i : SlotId) (x : Slot) : (s.setSlot i x).slot i = x := by
  simp [State.slot, State.setSlot, Vector.get_eq_getElem]
@[simp] theorem State.slot_setSlot_ne (s : State) (i j : SlotId) (x : Slot) (h : j ≠ i) : (s.setSlot i x).slot j = s.slot j := by
  have h' : i.val ≠ j.val := fun e => h (Fin.ext e.symm)
  simp [State.slot, State.setSlot, Vector.get_eq_getElem, h']

@[simp] theorem State.zone_setZone_same (s : State) (i : ZoneId) (x : Zone) : (s.setZone i x).zone i = x := by
  simp [State.zone, State.setZone, Vector.get_eq_getElem]
@[simp] theorem State.zone_setZone_ne (s : State) (i j : ZoneId) (x : Zone) (h : j ≠ i) : (s.setZone i x).zone j = s.zone j := by
  have h' : i.val ≠ j.val := fun e => h (Fin.ext e.symm)
  simp [State.zone, State.setZone, Vector.get_eq_getElem, h']

@[simp] theorem State.receptor_setReceptor_same (s : State) (i : ReceptorId) (x : Option Receptor) : (s.setReceptor i x).receptor i = x := by
  simp [State.receptor, State.setReceptor, Vector.get_eq_getElem]
@[simp] theorem State.receptor_setReceptor_ne (s : State) (i j : ReceptorId) (x : Option Receptor) (h : j ≠ i) : (s.setReceptor i x).receptor j = s.receptor j := by
  have h' : i.val ≠ j.val := fun e => h (Fin.ext e.symm)
  simp [State.receptor, State.setReceptor, Vector.get_eq_getElem, h']

@[simp] theorem State.path_setPath_same (s : State) (i : PathPos) (x : Option PathEntry) : (s.setPath i x).path i = x := by
  simp [State.path, State.setPath, Vector.get_eq_getElem]
@[simp] theorem State.path_setPath_ne (s : State) (i j : PathPos) (x : Option PathEntry) (h : j ≠ i) : (s.setPath i x).path j = s.path j := by
  have h' : i.val ≠ j.val := fun e => h (Fin.ext e.symm)
  simp [State.path, State.setPath, Vector.get_eq_getElem, h']

@[simp] theorem State.excRecord_setExcRecord_same (s : State) (i : ExcPos) (x : Option ExcRecord) : (s.setExcRecord i x).excRecord i = x := by
  simp [State.excRecord, State.setExcRecord, Vector.get_eq_getElem]
@[simp] theorem State.excRecord_setExcRecord_ne (s : State) (i j : ExcPos) (x : Option ExcRecord) (h : j ≠ i) : (s.setExcRecord i x).excRecord j = s.excRecord j := by
  have h' : i.val ≠ j.val := fun e => h (Fin.ext e.symm)
  simp [State.excRecord, State.setExcRecord, Vector.get_eq_getElem, h']

@[simp] theorem State.link_setLink_same (s : State) (i : Port) (x : Link) : (s.setLink i x).link i = x := by
  simp [State.link, State.setLink, Vector.get_eq_getElem]
@[simp] theorem State.link_setLink_ne (s : State) (i j : Port) (x : Link) (h : j ≠ i) : (s.setLink i x).link j = s.link j := by
  have h' : i.val ≠ j.val := fun e => h (Fin.ext e.symm)
  simp [State.link, State.setLink, Vector.get_eq_getElem, h']

@[simp] theorem State.slot_updSlot_same (s : State) (i : SlotId) (f : Slot → Slot) : (s.updSlot i f).slot i = f (s.slot i) := by
  simp [State.updSlot]
@[simp] theorem State.slot_updSlot_ne (s : State) (i j : SlotId) (f : Slot → Slot) (h : j ≠ i) : (s.updSlot i f).slot j = s.slot j := by
  simp [State.updSlot, h]

@[simp] theorem State.zone_updZone_same (s : State) (i : ZoneId) (f : Zone → Zone) : (s.updZone i f).zone i = f (s.zone i) := by
  simp [State.updZone]
@[simp] theorem State.zone_updZone_ne (s : State) (i j : ZoneId) (f : Zone → Zone) (h : j ≠ i) : (s.updZone i f).zone j = s.zone j := by
  simp [State.updZone, h]

@[simp] theorem State.receptor_updReceptor_same (s : State) (i : ReceptorId) (f : Receptor → Receptor) : (s.updReceptor i f).receptor i = (s.receptor i).map f := by
  simp [State.updReceptor]
@[simp] theorem State.receptor_updReceptor_ne (s : State) (i j : ReceptorId) (f : Receptor → Receptor) (h : j ≠ i) : (s.updReceptor i f).receptor j = s.receptor j := by
  simp [State.updReceptor, h]

@[simp] theorem State.excRecord_updExcRecord_same (s : State) (i : ExcPos) (f : ExcRecord → ExcRecord) : (s.updExcRecord i f).excRecord i = (s.excRecord i).map f := by
  simp [State.updExcRecord]
@[simp] theorem State.excRecord_updExcRecord_ne (s : State) (i j : ExcPos) (f : ExcRecord → ExcRecord) (h : j ≠ i) : (s.updExcRecord i f).excRecord j = s.excRecord j := by
  simp [State.updExcRecord, h]

@[simp] theorem State.slot_updSlots (s : State) (f : Slot → Slot) (i : SlotId) : (s.updSlots f).slot i = f (s.slot i) := by
  simp [State.slot, State.updSlots, Vector.get_eq_getElem]
@[simp] theorem State.slot_clearDebts (s : State) (i : SlotId) : s.clearDebts.slot i = { s.slot i with debt := false } := by
  simp [State.clearDebts]

/-! ### Fields that an update leaves as they were -/

section setSlot
variable (s : State) (i : SlotId) (x : Slot)

@[simp] theorem State.setSlot_clock : (s.setSlot i x).clock = s.clock := rfl
@[simp] theorem State.setSlot_mode : (s.setSlot i x).mode = s.mode := rfl
@[simp] theorem State.setSlot_startKind : (s.setSlot i x).startKind = s.startKind := rfl
@[simp] theorem State.setSlot_loader : (s.setSlot i x).loader = s.loader := rfl
@[simp] theorem State.setSlot_site : (s.setSlot i x).site = s.site := rfl
@[simp] theorem State.setSlot_zones : (s.setSlot i x).zones = s.zones := rfl
@[simp] theorem State.setSlot_receptors : (s.setSlot i x).receptors = s.receptors := rfl
@[simp] theorem State.setSlot_poller : (s.setSlot i x).poller = s.poller := rfl
@[simp] theorem State.setSlot_exceedances : (s.setSlot i x).exceedances = s.exceedances := rfl
@[simp] theorem State.setSlot_paths : (s.setSlot i x).paths = s.paths := rfl
@[simp] theorem State.setSlot_engine : (s.setSlot i x).engine = s.engine := rfl
@[simp] theorem State.setSlot_arbiter : (s.setSlot i x).arbiter = s.arbiter := rfl
@[simp] theorem State.setSlot_latch : (s.setSlot i x).latch = s.latch := rfl
@[simp] theorem State.setSlot_links : (s.setSlot i x).links = s.links := rfl
@[simp] theorem State.setSlot_table : (s.setSlot i x).table = s.table := rfl
@[simp] theorem State.setSlot_notices : (s.setSlot i x).notices = s.notices := rfl
@[simp] theorem State.setSlot_witness : (s.setSlot i x).witness = s.witness := rfl
@[simp] theorem State.setSlot_settings : (s.setSlot i x).settings = s.settings := rfl
@[simp] theorem State.setSlot_freeIndex : (s.setSlot i x).freeIndex = s.freeIndex := rfl
@[simp] theorem State.setSlot_pending : (s.setSlot i x).pending = s.pending := rfl
@[simp] theorem State.setSlot_zone (k : ZoneId) : (s.setSlot i x).zone k = s.zone k := rfl
@[simp] theorem State.setSlot_receptor (k : ReceptorId) : (s.setSlot i x).receptor k = s.receptor k := rfl
@[simp] theorem State.setSlot_path (k : PathPos) : (s.setSlot i x).path k = s.path k := rfl
@[simp] theorem State.setSlot_excRecord (k : ExcPos) : (s.setSlot i x).excRecord k = s.excRecord k := rfl
@[simp] theorem State.setSlot_link (k : Port) : (s.setSlot i x).link k = s.link k := rfl

end setSlot

section updSlot
variable (s : State) (i : SlotId) (f : Slot → Slot)

@[simp] theorem State.updSlot_clock : (s.updSlot i f).clock = s.clock := rfl
@[simp] theorem State.updSlot_mode : (s.updSlot i f).mode = s.mode := rfl
@[simp] theorem State.updSlot_startKind : (s.updSlot i f).startKind = s.startKind := rfl
@[simp] theorem State.updSlot_loader : (s.updSlot i f).loader = s.loader := rfl
@[simp] theorem State.updSlot_site : (s.updSlot i f).site = s.site := rfl
@[simp] theorem State.updSlot_zones : (s.updSlot i f).zones = s.zones := rfl
@[simp] theorem State.updSlot_receptors : (s.updSlot i f).receptors = s.receptors := rfl
@[simp] theorem State.updSlot_poller : (s.updSlot i f).poller = s.poller := rfl
@[simp] theorem State.updSlot_exceedances : (s.updSlot i f).exceedances = s.exceedances := rfl
@[simp] theorem State.updSlot_paths : (s.updSlot i f).paths = s.paths := rfl
@[simp] theorem State.updSlot_engine : (s.updSlot i f).engine = s.engine := rfl
@[simp] theorem State.updSlot_arbiter : (s.updSlot i f).arbiter = s.arbiter := rfl
@[simp] theorem State.updSlot_latch : (s.updSlot i f).latch = s.latch := rfl
@[simp] theorem State.updSlot_links : (s.updSlot i f).links = s.links := rfl
@[simp] theorem State.updSlot_table : (s.updSlot i f).table = s.table := rfl
@[simp] theorem State.updSlot_notices : (s.updSlot i f).notices = s.notices := rfl
@[simp] theorem State.updSlot_witness : (s.updSlot i f).witness = s.witness := rfl
@[simp] theorem State.updSlot_settings : (s.updSlot i f).settings = s.settings := rfl
@[simp] theorem State.updSlot_freeIndex : (s.updSlot i f).freeIndex = s.freeIndex := rfl
@[simp] theorem State.updSlot_pending : (s.updSlot i f).pending = s.pending := rfl
@[simp] theorem State.updSlot_zone (k : ZoneId) : (s.updSlot i f).zone k = s.zone k := rfl
@[simp] theorem State.updSlot_receptor (k : ReceptorId) : (s.updSlot i f).receptor k = s.receptor k := rfl
@[simp] theorem State.updSlot_path (k : PathPos) : (s.updSlot i f).path k = s.path k := rfl
@[simp] theorem State.updSlot_excRecord (k : ExcPos) : (s.updSlot i f).excRecord k = s.excRecord k := rfl
@[simp] theorem State.updSlot_link (k : Port) : (s.updSlot i f).link k = s.link k := rfl

end updSlot

section updSlots
variable (s : State) (f : Slot → Slot)

@[simp] theorem State.updSlots_clock : (s.updSlots f).clock = s.clock := rfl
@[simp] theorem State.updSlots_mode : (s.updSlots f).mode = s.mode := rfl
@[simp] theorem State.updSlots_startKind : (s.updSlots f).startKind = s.startKind := rfl
@[simp] theorem State.updSlots_loader : (s.updSlots f).loader = s.loader := rfl
@[simp] theorem State.updSlots_site : (s.updSlots f).site = s.site := rfl
@[simp] theorem State.updSlots_zones : (s.updSlots f).zones = s.zones := rfl
@[simp] theorem State.updSlots_receptors : (s.updSlots f).receptors = s.receptors := rfl
@[simp] theorem State.updSlots_poller : (s.updSlots f).poller = s.poller := rfl
@[simp] theorem State.updSlots_exceedances : (s.updSlots f).exceedances = s.exceedances := rfl
@[simp] theorem State.updSlots_paths : (s.updSlots f).paths = s.paths := rfl
@[simp] theorem State.updSlots_engine : (s.updSlots f).engine = s.engine := rfl
@[simp] theorem State.updSlots_arbiter : (s.updSlots f).arbiter = s.arbiter := rfl
@[simp] theorem State.updSlots_latch : (s.updSlots f).latch = s.latch := rfl
@[simp] theorem State.updSlots_links : (s.updSlots f).links = s.links := rfl
@[simp] theorem State.updSlots_table : (s.updSlots f).table = s.table := rfl
@[simp] theorem State.updSlots_notices : (s.updSlots f).notices = s.notices := rfl
@[simp] theorem State.updSlots_witness : (s.updSlots f).witness = s.witness := rfl
@[simp] theorem State.updSlots_settings : (s.updSlots f).settings = s.settings := rfl
@[simp] theorem State.updSlots_freeIndex : (s.updSlots f).freeIndex = s.freeIndex := rfl
@[simp] theorem State.updSlots_pending : (s.updSlots f).pending = s.pending := rfl
@[simp] theorem State.updSlots_zone (k : ZoneId) : (s.updSlots f).zone k = s.zone k := rfl
@[simp] theorem State.updSlots_receptor (k : ReceptorId) : (s.updSlots f).receptor k = s.receptor k := rfl
@[simp] theorem State.updSlots_path (k : PathPos) : (s.updSlots f).path k = s.path k := rfl
@[simp] theorem State.updSlots_excRecord (k : ExcPos) : (s.updSlots f).excRecord k = s.excRecord k := rfl
@[simp] theorem State.updSlots_link (k : Port) : (s.updSlots f).link k = s.link k := rfl

end updSlots

section setZone
variable (s : State) (z : ZoneId) (x : Zone)

@[simp] theorem State.setZone_clock : (s.setZone z x).clock = s.clock := rfl
@[simp] theorem State.setZone_mode : (s.setZone z x).mode = s.mode := rfl
@[simp] theorem State.setZone_startKind : (s.setZone z x).startKind = s.startKind := rfl
@[simp] theorem State.setZone_loader : (s.setZone z x).loader = s.loader := rfl
@[simp] theorem State.setZone_site : (s.setZone z x).site = s.site := rfl
@[simp] theorem State.setZone_receptors : (s.setZone z x).receptors = s.receptors := rfl
@[simp] theorem State.setZone_poller : (s.setZone z x).poller = s.poller := rfl
@[simp] theorem State.setZone_exceedances : (s.setZone z x).exceedances = s.exceedances := rfl
@[simp] theorem State.setZone_slots : (s.setZone z x).slots = s.slots := rfl
@[simp] theorem State.setZone_paths : (s.setZone z x).paths = s.paths := rfl
@[simp] theorem State.setZone_engine : (s.setZone z x).engine = s.engine := rfl
@[simp] theorem State.setZone_arbiter : (s.setZone z x).arbiter = s.arbiter := rfl
@[simp] theorem State.setZone_latch : (s.setZone z x).latch = s.latch := rfl
@[simp] theorem State.setZone_links : (s.setZone z x).links = s.links := rfl
@[simp] theorem State.setZone_table : (s.setZone z x).table = s.table := rfl
@[simp] theorem State.setZone_notices : (s.setZone z x).notices = s.notices := rfl
@[simp] theorem State.setZone_witness : (s.setZone z x).witness = s.witness := rfl
@[simp] theorem State.setZone_settings : (s.setZone z x).settings = s.settings := rfl
@[simp] theorem State.setZone_freeIndex : (s.setZone z x).freeIndex = s.freeIndex := rfl
@[simp] theorem State.setZone_pending : (s.setZone z x).pending = s.pending := rfl
@[simp] theorem State.setZone_slot (k : SlotId) : (s.setZone z x).slot k = s.slot k := rfl
@[simp] theorem State.setZone_receptor (k : ReceptorId) : (s.setZone z x).receptor k = s.receptor k := rfl
@[simp] theorem State.setZone_path (k : PathPos) : (s.setZone z x).path k = s.path k := rfl
@[simp] theorem State.setZone_excRecord (k : ExcPos) : (s.setZone z x).excRecord k = s.excRecord k := rfl
@[simp] theorem State.setZone_link (k : Port) : (s.setZone z x).link k = s.link k := rfl

end setZone

section updZone
variable (s : State) (z : ZoneId) (f : Zone → Zone)

@[simp] theorem State.updZone_clock : (s.updZone z f).clock = s.clock := rfl
@[simp] theorem State.updZone_mode : (s.updZone z f).mode = s.mode := rfl
@[simp] theorem State.updZone_startKind : (s.updZone z f).startKind = s.startKind := rfl
@[simp] theorem State.updZone_loader : (s.updZone z f).loader = s.loader := rfl
@[simp] theorem State.updZone_site : (s.updZone z f).site = s.site := rfl
@[simp] theorem State.updZone_receptors : (s.updZone z f).receptors = s.receptors := rfl
@[simp] theorem State.updZone_poller : (s.updZone z f).poller = s.poller := rfl
@[simp] theorem State.updZone_exceedances : (s.updZone z f).exceedances = s.exceedances := rfl
@[simp] theorem State.updZone_slots : (s.updZone z f).slots = s.slots := rfl
@[simp] theorem State.updZone_paths : (s.updZone z f).paths = s.paths := rfl
@[simp] theorem State.updZone_engine : (s.updZone z f).engine = s.engine := rfl
@[simp] theorem State.updZone_arbiter : (s.updZone z f).arbiter = s.arbiter := rfl
@[simp] theorem State.updZone_latch : (s.updZone z f).latch = s.latch := rfl
@[simp] theorem State.updZone_links : (s.updZone z f).links = s.links := rfl
@[simp] theorem State.updZone_table : (s.updZone z f).table = s.table := rfl
@[simp] theorem State.updZone_notices : (s.updZone z f).notices = s.notices := rfl
@[simp] theorem State.updZone_witness : (s.updZone z f).witness = s.witness := rfl
@[simp] theorem State.updZone_settings : (s.updZone z f).settings = s.settings := rfl
@[simp] theorem State.updZone_freeIndex : (s.updZone z f).freeIndex = s.freeIndex := rfl
@[simp] theorem State.updZone_pending : (s.updZone z f).pending = s.pending := rfl
@[simp] theorem State.updZone_slot (k : SlotId) : (s.updZone z f).slot k = s.slot k := rfl
@[simp] theorem State.updZone_receptor (k : ReceptorId) : (s.updZone z f).receptor k = s.receptor k := rfl
@[simp] theorem State.updZone_path (k : PathPos) : (s.updZone z f).path k = s.path k := rfl
@[simp] theorem State.updZone_excRecord (k : ExcPos) : (s.updZone z f).excRecord k = s.excRecord k := rfl
@[simp] theorem State.updZone_link (k : Port) : (s.updZone z f).link k = s.link k := rfl

end updZone

section setReceptor
variable (s : State) (r : ReceptorId) (x : Option Receptor)

@[simp] theorem State.setReceptor_clock : (s.setReceptor r x).clock = s.clock := rfl
@[simp] theorem State.setReceptor_mode : (s.setReceptor r x).mode = s.mode := rfl
@[simp] theorem State.setReceptor_startKind : (s.setReceptor r x).startKind = s.startKind := rfl
@[simp] theorem State.setReceptor_loader : (s.setReceptor r x).loader = s.loader := rfl
@[simp] theorem State.setReceptor_site : (s.setReceptor r x).site = s.site := rfl
@[simp] theorem State.setReceptor_zones : (s.setReceptor r x).zones = s.zones := rfl
@[simp] theorem State.setReceptor_poller : (s.setReceptor r x).poller = s.poller := rfl
@[simp] theorem State.setReceptor_exceedances : (s.setReceptor r x).exceedances = s.exceedances := rfl
@[simp] theorem State.setReceptor_slots : (s.setReceptor r x).slots = s.slots := rfl
@[simp] theorem State.setReceptor_paths : (s.setReceptor r x).paths = s.paths := rfl
@[simp] theorem State.setReceptor_engine : (s.setReceptor r x).engine = s.engine := rfl
@[simp] theorem State.setReceptor_arbiter : (s.setReceptor r x).arbiter = s.arbiter := rfl
@[simp] theorem State.setReceptor_latch : (s.setReceptor r x).latch = s.latch := rfl
@[simp] theorem State.setReceptor_links : (s.setReceptor r x).links = s.links := rfl
@[simp] theorem State.setReceptor_table : (s.setReceptor r x).table = s.table := rfl
@[simp] theorem State.setReceptor_notices : (s.setReceptor r x).notices = s.notices := rfl
@[simp] theorem State.setReceptor_witness : (s.setReceptor r x).witness = s.witness := rfl
@[simp] theorem State.setReceptor_settings : (s.setReceptor r x).settings = s.settings := rfl
@[simp] theorem State.setReceptor_freeIndex : (s.setReceptor r x).freeIndex = s.freeIndex := rfl
@[simp] theorem State.setReceptor_pending : (s.setReceptor r x).pending = s.pending := rfl
@[simp] theorem State.setReceptor_slot (k : SlotId) : (s.setReceptor r x).slot k = s.slot k := rfl
@[simp] theorem State.setReceptor_zone (k : ZoneId) : (s.setReceptor r x).zone k = s.zone k := rfl
@[simp] theorem State.setReceptor_path (k : PathPos) : (s.setReceptor r x).path k = s.path k := rfl
@[simp] theorem State.setReceptor_excRecord (k : ExcPos) : (s.setReceptor r x).excRecord k = s.excRecord k := rfl
@[simp] theorem State.setReceptor_link (k : Port) : (s.setReceptor r x).link k = s.link k := rfl

end setReceptor

section updReceptor
variable (s : State) (r : ReceptorId) (f : Receptor → Receptor)

@[simp] theorem State.updReceptor_clock : (s.updReceptor r f).clock = s.clock := rfl
@[simp] theorem State.updReceptor_mode : (s.updReceptor r f).mode = s.mode := rfl
@[simp] theorem State.updReceptor_startKind : (s.updReceptor r f).startKind = s.startKind := rfl
@[simp] theorem State.updReceptor_loader : (s.updReceptor r f).loader = s.loader := rfl
@[simp] theorem State.updReceptor_site : (s.updReceptor r f).site = s.site := rfl
@[simp] theorem State.updReceptor_zones : (s.updReceptor r f).zones = s.zones := rfl
@[simp] theorem State.updReceptor_poller : (s.updReceptor r f).poller = s.poller := rfl
@[simp] theorem State.updReceptor_exceedances : (s.updReceptor r f).exceedances = s.exceedances := rfl
@[simp] theorem State.updReceptor_slots : (s.updReceptor r f).slots = s.slots := rfl
@[simp] theorem State.updReceptor_paths : (s.updReceptor r f).paths = s.paths := rfl
@[simp] theorem State.updReceptor_engine : (s.updReceptor r f).engine = s.engine := rfl
@[simp] theorem State.updReceptor_arbiter : (s.updReceptor r f).arbiter = s.arbiter := rfl
@[simp] theorem State.updReceptor_latch : (s.updReceptor r f).latch = s.latch := rfl
@[simp] theorem State.updReceptor_links : (s.updReceptor r f).links = s.links := rfl
@[simp] theorem State.updReceptor_table : (s.updReceptor r f).table = s.table := rfl
@[simp] theorem State.updReceptor_notices : (s.updReceptor r f).notices = s.notices := rfl
@[simp] theorem State.updReceptor_witness : (s.updReceptor r f).witness = s.witness := rfl
@[simp] theorem State.updReceptor_settings : (s.updReceptor r f).settings = s.settings := rfl
@[simp] theorem State.updReceptor_freeIndex : (s.updReceptor r f).freeIndex = s.freeIndex := rfl
@[simp] theorem State.updReceptor_pending : (s.updReceptor r f).pending = s.pending := rfl
@[simp] theorem State.updReceptor_slot (k : SlotId) : (s.updReceptor r f).slot k = s.slot k := rfl
@[simp] theorem State.updReceptor_zone (k : ZoneId) : (s.updReceptor r f).zone k = s.zone k := rfl
@[simp] theorem State.updReceptor_path (k : PathPos) : (s.updReceptor r f).path k = s.path k := rfl
@[simp] theorem State.updReceptor_excRecord (k : ExcPos) : (s.updReceptor r f).excRecord k = s.excRecord k := rfl
@[simp] theorem State.updReceptor_link (k : Port) : (s.updReceptor r f).link k = s.link k := rfl

end updReceptor

section setPath
variable (s : State) (p : PathPos) (e : Option PathEntry)

@[simp] theorem State.setPath_clock : (s.setPath p e).clock = s.clock := rfl
@[simp] theorem State.setPath_mode : (s.setPath p e).mode = s.mode := rfl
@[simp] theorem State.setPath_startKind : (s.setPath p e).startKind = s.startKind := rfl
@[simp] theorem State.setPath_loader : (s.setPath p e).loader = s.loader := rfl
@[simp] theorem State.setPath_site : (s.setPath p e).site = s.site := rfl
@[simp] theorem State.setPath_zones : (s.setPath p e).zones = s.zones := rfl
@[simp] theorem State.setPath_receptors : (s.setPath p e).receptors = s.receptors := rfl
@[simp] theorem State.setPath_poller : (s.setPath p e).poller = s.poller := rfl
@[simp] theorem State.setPath_exceedances : (s.setPath p e).exceedances = s.exceedances := rfl
@[simp] theorem State.setPath_slots : (s.setPath p e).slots = s.slots := rfl
@[simp] theorem State.setPath_engine : (s.setPath p e).engine = s.engine := rfl
@[simp] theorem State.setPath_arbiter : (s.setPath p e).arbiter = s.arbiter := rfl
@[simp] theorem State.setPath_latch : (s.setPath p e).latch = s.latch := rfl
@[simp] theorem State.setPath_links : (s.setPath p e).links = s.links := rfl
@[simp] theorem State.setPath_table : (s.setPath p e).table = s.table := rfl
@[simp] theorem State.setPath_notices : (s.setPath p e).notices = s.notices := rfl
@[simp] theorem State.setPath_witness : (s.setPath p e).witness = s.witness := rfl
@[simp] theorem State.setPath_settings : (s.setPath p e).settings = s.settings := rfl
@[simp] theorem State.setPath_freeIndex : (s.setPath p e).freeIndex = s.freeIndex := rfl
@[simp] theorem State.setPath_pending : (s.setPath p e).pending = s.pending := rfl
@[simp] theorem State.setPath_slot (k : SlotId) : (s.setPath p e).slot k = s.slot k := rfl
@[simp] theorem State.setPath_zone (k : ZoneId) : (s.setPath p e).zone k = s.zone k := rfl
@[simp] theorem State.setPath_receptor (k : ReceptorId) : (s.setPath p e).receptor k = s.receptor k := rfl
@[simp] theorem State.setPath_excRecord (k : ExcPos) : (s.setPath p e).excRecord k = s.excRecord k := rfl
@[simp] theorem State.setPath_link (k : Port) : (s.setPath p e).link k = s.link k := rfl

end setPath

section setExcRecord
variable (s : State) (p : ExcPos) (x : Option ExcRecord)

@[simp] theorem State.setExcRecord_clock : (s.setExcRecord p x).clock = s.clock := rfl
@[simp] theorem State.setExcRecord_mode : (s.setExcRecord p x).mode = s.mode := rfl
@[simp] theorem State.setExcRecord_startKind : (s.setExcRecord p x).startKind = s.startKind := rfl
@[simp] theorem State.setExcRecord_loader : (s.setExcRecord p x).loader = s.loader := rfl
@[simp] theorem State.setExcRecord_site : (s.setExcRecord p x).site = s.site := rfl
@[simp] theorem State.setExcRecord_zones : (s.setExcRecord p x).zones = s.zones := rfl
@[simp] theorem State.setExcRecord_receptors : (s.setExcRecord p x).receptors = s.receptors := rfl
@[simp] theorem State.setExcRecord_poller : (s.setExcRecord p x).poller = s.poller := rfl
@[simp] theorem State.setExcRecord_slots : (s.setExcRecord p x).slots = s.slots := rfl
@[simp] theorem State.setExcRecord_paths : (s.setExcRecord p x).paths = s.paths := rfl
@[simp] theorem State.setExcRecord_engine : (s.setExcRecord p x).engine = s.engine := rfl
@[simp] theorem State.setExcRecord_arbiter : (s.setExcRecord p x).arbiter = s.arbiter := rfl
@[simp] theorem State.setExcRecord_latch : (s.setExcRecord p x).latch = s.latch := rfl
@[simp] theorem State.setExcRecord_links : (s.setExcRecord p x).links = s.links := rfl
@[simp] theorem State.setExcRecord_table : (s.setExcRecord p x).table = s.table := rfl
@[simp] theorem State.setExcRecord_notices : (s.setExcRecord p x).notices = s.notices := rfl
@[simp] theorem State.setExcRecord_witness : (s.setExcRecord p x).witness = s.witness := rfl
@[simp] theorem State.setExcRecord_settings : (s.setExcRecord p x).settings = s.settings := rfl
@[simp] theorem State.setExcRecord_freeIndex : (s.setExcRecord p x).freeIndex = s.freeIndex := rfl
@[simp] theorem State.setExcRecord_pending : (s.setExcRecord p x).pending = s.pending := rfl
@[simp] theorem State.setExcRecord_slot (k : SlotId) : (s.setExcRecord p x).slot k = s.slot k := rfl
@[simp] theorem State.setExcRecord_zone (k : ZoneId) : (s.setExcRecord p x).zone k = s.zone k := rfl
@[simp] theorem State.setExcRecord_receptor (k : ReceptorId) : (s.setExcRecord p x).receptor k = s.receptor k := rfl
@[simp] theorem State.setExcRecord_path (k : PathPos) : (s.setExcRecord p x).path k = s.path k := rfl
@[simp] theorem State.setExcRecord_link (k : Port) : (s.setExcRecord p x).link k = s.link k := rfl

end setExcRecord

section updExcRecord
variable (s : State) (p : ExcPos) (f : ExcRecord → ExcRecord)

@[simp] theorem State.updExcRecord_clock : (s.updExcRecord p f).clock = s.clock := rfl
@[simp] theorem State.updExcRecord_mode : (s.updExcRecord p f).mode = s.mode := rfl
@[simp] theorem State.updExcRecord_startKind : (s.updExcRecord p f).startKind = s.startKind := rfl
@[simp] theorem State.updExcRecord_loader : (s.updExcRecord p f).loader = s.loader := rfl
@[simp] theorem State.updExcRecord_site : (s.updExcRecord p f).site = s.site := rfl
@[simp] theorem State.updExcRecord_zones : (s.updExcRecord p f).zones = s.zones := rfl
@[simp] theorem State.updExcRecord_receptors : (s.updExcRecord p f).receptors = s.receptors := rfl
@[simp] theorem State.updExcRecord_poller : (s.updExcRecord p f).poller = s.poller := rfl
@[simp] theorem State.updExcRecord_slots : (s.updExcRecord p f).slots = s.slots := rfl
@[simp] theorem State.updExcRecord_paths : (s.updExcRecord p f).paths = s.paths := rfl
@[simp] theorem State.updExcRecord_engine : (s.updExcRecord p f).engine = s.engine := rfl
@[simp] theorem State.updExcRecord_arbiter : (s.updExcRecord p f).arbiter = s.arbiter := rfl
@[simp] theorem State.updExcRecord_latch : (s.updExcRecord p f).latch = s.latch := rfl
@[simp] theorem State.updExcRecord_links : (s.updExcRecord p f).links = s.links := rfl
@[simp] theorem State.updExcRecord_table : (s.updExcRecord p f).table = s.table := rfl
@[simp] theorem State.updExcRecord_notices : (s.updExcRecord p f).notices = s.notices := rfl
@[simp] theorem State.updExcRecord_witness : (s.updExcRecord p f).witness = s.witness := rfl
@[simp] theorem State.updExcRecord_settings : (s.updExcRecord p f).settings = s.settings := rfl
@[simp] theorem State.updExcRecord_freeIndex : (s.updExcRecord p f).freeIndex = s.freeIndex := rfl
@[simp] theorem State.updExcRecord_pending : (s.updExcRecord p f).pending = s.pending := rfl
@[simp] theorem State.updExcRecord_slot (k : SlotId) : (s.updExcRecord p f).slot k = s.slot k := rfl
@[simp] theorem State.updExcRecord_zone (k : ZoneId) : (s.updExcRecord p f).zone k = s.zone k := rfl
@[simp] theorem State.updExcRecord_receptor (k : ReceptorId) : (s.updExcRecord p f).receptor k = s.receptor k := rfl
@[simp] theorem State.updExcRecord_path (k : PathPos) : (s.updExcRecord p f).path k = s.path k := rfl
@[simp] theorem State.updExcRecord_link (k : Port) : (s.updExcRecord p f).link k = s.link k := rfl

end updExcRecord

section setLink
variable (s : State) (p : Port) (x : Link)

@[simp] theorem State.setLink_clock : (s.setLink p x).clock = s.clock := rfl
@[simp] theorem State.setLink_mode : (s.setLink p x).mode = s.mode := rfl
@[simp] theorem State.setLink_startKind : (s.setLink p x).startKind = s.startKind := rfl
@[simp] theorem State.setLink_loader : (s.setLink p x).loader = s.loader := rfl
@[simp] theorem State.setLink_site : (s.setLink p x).site = s.site := rfl
@[simp] theorem State.setLink_zones : (s.setLink p x).zones = s.zones := rfl
@[simp] theorem State.setLink_receptors : (s.setLink p x).receptors = s.receptors := rfl
@[simp] theorem State.setLink_poller : (s.setLink p x).poller = s.poller := rfl
@[simp] theorem State.setLink_exceedances : (s.setLink p x).exceedances = s.exceedances := rfl
@[simp] theorem State.setLink_slots : (s.setLink p x).slots = s.slots := rfl
@[simp] theorem State.setLink_paths : (s.setLink p x).paths = s.paths := rfl
@[simp] theorem State.setLink_engine : (s.setLink p x).engine = s.engine := rfl
@[simp] theorem State.setLink_arbiter : (s.setLink p x).arbiter = s.arbiter := rfl
@[simp] theorem State.setLink_latch : (s.setLink p x).latch = s.latch := rfl
@[simp] theorem State.setLink_table : (s.setLink p x).table = s.table := rfl
@[simp] theorem State.setLink_notices : (s.setLink p x).notices = s.notices := rfl
@[simp] theorem State.setLink_witness : (s.setLink p x).witness = s.witness := rfl
@[simp] theorem State.setLink_settings : (s.setLink p x).settings = s.settings := rfl
@[simp] theorem State.setLink_freeIndex : (s.setLink p x).freeIndex = s.freeIndex := rfl
@[simp] theorem State.setLink_pending : (s.setLink p x).pending = s.pending := rfl
@[simp] theorem State.setLink_slot (k : SlotId) : (s.setLink p x).slot k = s.slot k := rfl
@[simp] theorem State.setLink_zone (k : ZoneId) : (s.setLink p x).zone k = s.zone k := rfl
@[simp] theorem State.setLink_receptor (k : ReceptorId) : (s.setLink p x).receptor k = s.receptor k := rfl
@[simp] theorem State.setLink_path (k : PathPos) : (s.setLink p x).path k = s.path k := rfl
@[simp] theorem State.setLink_excRecord (k : ExcPos) : (s.setLink p x).excRecord k = s.excRecord k := rfl

end setLink

section hunt
variable (s : State) (p : Port)

@[simp] theorem State.hunt_clock : (s.hunt p).clock = s.clock := rfl
@[simp] theorem State.hunt_mode : (s.hunt p).mode = s.mode := rfl
@[simp] theorem State.hunt_startKind : (s.hunt p).startKind = s.startKind := rfl
@[simp] theorem State.hunt_loader : (s.hunt p).loader = s.loader := rfl
@[simp] theorem State.hunt_site : (s.hunt p).site = s.site := rfl
@[simp] theorem State.hunt_zones : (s.hunt p).zones = s.zones := rfl
@[simp] theorem State.hunt_receptors : (s.hunt p).receptors = s.receptors := rfl
@[simp] theorem State.hunt_poller : (s.hunt p).poller = s.poller := rfl
@[simp] theorem State.hunt_exceedances : (s.hunt p).exceedances = s.exceedances := rfl
@[simp] theorem State.hunt_slots : (s.hunt p).slots = s.slots := rfl
@[simp] theorem State.hunt_paths : (s.hunt p).paths = s.paths := rfl
@[simp] theorem State.hunt_engine : (s.hunt p).engine = s.engine := rfl
@[simp] theorem State.hunt_arbiter : (s.hunt p).arbiter = s.arbiter := rfl
@[simp] theorem State.hunt_latch : (s.hunt p).latch = s.latch := rfl
@[simp] theorem State.hunt_table : (s.hunt p).table = s.table := rfl
@[simp] theorem State.hunt_notices : (s.hunt p).notices = s.notices := rfl
@[simp] theorem State.hunt_witness : (s.hunt p).witness = s.witness := rfl
@[simp] theorem State.hunt_settings : (s.hunt p).settings = s.settings := rfl
@[simp] theorem State.hunt_freeIndex : (s.hunt p).freeIndex = s.freeIndex := rfl
@[simp] theorem State.hunt_pending : (s.hunt p).pending = s.pending := rfl
@[simp] theorem State.hunt_slot (k : SlotId) : (s.hunt p).slot k = s.slot k := rfl
@[simp] theorem State.hunt_zone (k : ZoneId) : (s.hunt p).zone k = s.zone k := rfl
@[simp] theorem State.hunt_receptor (k : ReceptorId) : (s.hunt p).receptor k = s.receptor k := rfl
@[simp] theorem State.hunt_path (k : PathPos) : (s.hunt p).path k = s.path k := rfl
@[simp] theorem State.hunt_excRecord (k : ExcPos) : (s.hunt p).excRecord k = s.excRecord k := rfl

end hunt

section hold
variable (s : State) (p : Port) (r : Reply)

@[simp] theorem State.hold_clock : (s.hold p r).clock = s.clock := rfl
@[simp] theorem State.hold_mode : (s.hold p r).mode = s.mode := rfl
@[simp] theorem State.hold_startKind : (s.hold p r).startKind = s.startKind := rfl
@[simp] theorem State.hold_loader : (s.hold p r).loader = s.loader := rfl
@[simp] theorem State.hold_site : (s.hold p r).site = s.site := rfl
@[simp] theorem State.hold_zones : (s.hold p r).zones = s.zones := rfl
@[simp] theorem State.hold_receptors : (s.hold p r).receptors = s.receptors := rfl
@[simp] theorem State.hold_poller : (s.hold p r).poller = s.poller := rfl
@[simp] theorem State.hold_exceedances : (s.hold p r).exceedances = s.exceedances := rfl
@[simp] theorem State.hold_slots : (s.hold p r).slots = s.slots := rfl
@[simp] theorem State.hold_paths : (s.hold p r).paths = s.paths := rfl
@[simp] theorem State.hold_engine : (s.hold p r).engine = s.engine := rfl
@[simp] theorem State.hold_arbiter : (s.hold p r).arbiter = s.arbiter := rfl
@[simp] theorem State.hold_latch : (s.hold p r).latch = s.latch := rfl
@[simp] theorem State.hold_table : (s.hold p r).table = s.table := rfl
@[simp] theorem State.hold_notices : (s.hold p r).notices = s.notices := rfl
@[simp] theorem State.hold_witness : (s.hold p r).witness = s.witness := rfl
@[simp] theorem State.hold_settings : (s.hold p r).settings = s.settings := rfl
@[simp] theorem State.hold_freeIndex : (s.hold p r).freeIndex = s.freeIndex := rfl
@[simp] theorem State.hold_pending : (s.hold p r).pending = s.pending := rfl
@[simp] theorem State.hold_slot (k : SlotId) : (s.hold p r).slot k = s.slot k := rfl
@[simp] theorem State.hold_zone (k : ZoneId) : (s.hold p r).zone k = s.zone k := rfl
@[simp] theorem State.hold_receptor (k : ReceptorId) : (s.hold p r).receptor k = s.receptor k := rfl
@[simp] theorem State.hold_path (k : PathPos) : (s.hold p r).path k = s.path k := rfl
@[simp] theorem State.hold_excRecord (k : ExcPos) : (s.hold p r).excRecord k = s.excRecord k := rfl

end hold

section post
variable (s : State) (n : Notice)

@[simp] theorem State.post_clock : (s.post n).clock = s.clock := rfl
@[simp] theorem State.post_mode : (s.post n).mode = s.mode := rfl
@[simp] theorem State.post_startKind : (s.post n).startKind = s.startKind := rfl
@[simp] theorem State.post_loader : (s.post n).loader = s.loader := rfl
@[simp] theorem State.post_site : (s.post n).site = s.site := rfl
@[simp] theorem State.post_zones : (s.post n).zones = s.zones := rfl
@[simp] theorem State.post_receptors : (s.post n).receptors = s.receptors := rfl
@[simp] theorem State.post_poller : (s.post n).poller = s.poller := rfl
@[simp] theorem State.post_exceedances : (s.post n).exceedances = s.exceedances := rfl
@[simp] theorem State.post_slots : (s.post n).slots = s.slots := rfl
@[simp] theorem State.post_paths : (s.post n).paths = s.paths := rfl
@[simp] theorem State.post_engine : (s.post n).engine = s.engine := rfl
@[simp] theorem State.post_arbiter : (s.post n).arbiter = s.arbiter := rfl
@[simp] theorem State.post_latch : (s.post n).latch = s.latch := rfl
@[simp] theorem State.post_links : (s.post n).links = s.links := rfl
@[simp] theorem State.post_table : (s.post n).table = s.table := rfl
@[simp] theorem State.post_witness : (s.post n).witness = s.witness := rfl
@[simp] theorem State.post_settings : (s.post n).settings = s.settings := rfl
@[simp] theorem State.post_freeIndex : (s.post n).freeIndex = s.freeIndex := rfl
@[simp] theorem State.post_pending : (s.post n).pending = s.pending := rfl
@[simp] theorem State.post_slot (k : SlotId) : (s.post n).slot k = s.slot k := rfl
@[simp] theorem State.post_zone (k : ZoneId) : (s.post n).zone k = s.zone k := rfl
@[simp] theorem State.post_receptor (k : ReceptorId) : (s.post n).receptor k = s.receptor k := rfl
@[simp] theorem State.post_path (k : PathPos) : (s.post n).path k = s.path k := rfl
@[simp] theorem State.post_excRecord (k : ExcPos) : (s.post n).excRecord k = s.excRecord k := rfl
@[simp] theorem State.post_link (k : Port) : (s.post n).link k = s.link k := rfl

end post

section setPoll
variable (s : State) (p : Option Poll)

@[simp] theorem State.setPoll_clock : (s.setPoll p).clock = s.clock := rfl
@[simp] theorem State.setPoll_mode : (s.setPoll p).mode = s.mode := rfl
@[simp] theorem State.setPoll_startKind : (s.setPoll p).startKind = s.startKind := rfl
@[simp] theorem State.setPoll_loader : (s.setPoll p).loader = s.loader := rfl
@[simp] theorem State.setPoll_site : (s.setPoll p).site = s.site := rfl
@[simp] theorem State.setPoll_zones : (s.setPoll p).zones = s.zones := rfl
@[simp] theorem State.setPoll_receptors : (s.setPoll p).receptors = s.receptors := rfl
@[simp] theorem State.setPoll_exceedances : (s.setPoll p).exceedances = s.exceedances := rfl
@[simp] theorem State.setPoll_slots : (s.setPoll p).slots = s.slots := rfl
@[simp] theorem State.setPoll_paths : (s.setPoll p).paths = s.paths := rfl
@[simp] theorem State.setPoll_engine : (s.setPoll p).engine = s.engine := rfl
@[simp] theorem State.setPoll_arbiter : (s.setPoll p).arbiter = s.arbiter := rfl
@[simp] theorem State.setPoll_latch : (s.setPoll p).latch = s.latch := rfl
@[simp] theorem State.setPoll_links : (s.setPoll p).links = s.links := rfl
@[simp] theorem State.setPoll_table : (s.setPoll p).table = s.table := rfl
@[simp] theorem State.setPoll_notices : (s.setPoll p).notices = s.notices := rfl
@[simp] theorem State.setPoll_witness : (s.setPoll p).witness = s.witness := rfl
@[simp] theorem State.setPoll_settings : (s.setPoll p).settings = s.settings := rfl
@[simp] theorem State.setPoll_freeIndex : (s.setPoll p).freeIndex = s.freeIndex := rfl
@[simp] theorem State.setPoll_pending : (s.setPoll p).pending = s.pending := rfl
@[simp] theorem State.setPoll_slot (k : SlotId) : (s.setPoll p).slot k = s.slot k := rfl
@[simp] theorem State.setPoll_zone (k : ZoneId) : (s.setPoll p).zone k = s.zone k := rfl
@[simp] theorem State.setPoll_receptor (k : ReceptorId) : (s.setPoll p).receptor k = s.receptor k := rfl
@[simp] theorem State.setPoll_path (k : PathPos) : (s.setPoll p).path k = s.path k := rfl
@[simp] theorem State.setPoll_excRecord (k : ExcPos) : (s.setPoll p).excRecord k = s.excRecord k := rfl
@[simp] theorem State.setPoll_link (k : Port) : (s.setPoll p).link k = s.link k := rfl

end setPoll

section setQueue
variable (s : State) (q : List SlotId)

@[simp] theorem State.setQueue_clock : (s.setQueue q).clock = s.clock := rfl
@[simp] theorem State.setQueue_mode : (s.setQueue q).mode = s.mode := rfl
@[simp] theorem State.setQueue_startKind : (s.setQueue q).startKind = s.startKind := rfl
@[simp] theorem State.setQueue_loader : (s.setQueue q).loader = s.loader := rfl
@[simp] theorem State.setQueue_site : (s.setQueue q).site = s.site := rfl
@[simp] theorem State.setQueue_zones : (s.setQueue q).zones = s.zones := rfl
@[simp] theorem State.setQueue_receptors : (s.setQueue q).receptors = s.receptors := rfl
@[simp] theorem State.setQueue_poller : (s.setQueue q).poller = s.poller := rfl
@[simp] theorem State.setQueue_exceedances : (s.setQueue q).exceedances = s.exceedances := rfl
@[simp] theorem State.setQueue_slots : (s.setQueue q).slots = s.slots := rfl
@[simp] theorem State.setQueue_paths : (s.setQueue q).paths = s.paths := rfl
@[simp] theorem State.setQueue_engine : (s.setQueue q).engine = s.engine := rfl
@[simp] theorem State.setQueue_latch : (s.setQueue q).latch = s.latch := rfl
@[simp] theorem State.setQueue_links : (s.setQueue q).links = s.links := rfl
@[simp] theorem State.setQueue_table : (s.setQueue q).table = s.table := rfl
@[simp] theorem State.setQueue_notices : (s.setQueue q).notices = s.notices := rfl
@[simp] theorem State.setQueue_witness : (s.setQueue q).witness = s.witness := rfl
@[simp] theorem State.setQueue_settings : (s.setQueue q).settings = s.settings := rfl
@[simp] theorem State.setQueue_freeIndex : (s.setQueue q).freeIndex = s.freeIndex := rfl
@[simp] theorem State.setQueue_pending : (s.setQueue q).pending = s.pending := rfl
@[simp] theorem State.setQueue_slot (k : SlotId) : (s.setQueue q).slot k = s.slot k := rfl
@[simp] theorem State.setQueue_zone (k : ZoneId) : (s.setQueue q).zone k = s.zone k := rfl
@[simp] theorem State.setQueue_receptor (k : ReceptorId) : (s.setQueue q).receptor k = s.receptor k := rfl
@[simp] theorem State.setQueue_path (k : PathPos) : (s.setQueue q).path k = s.path k := rfl
@[simp] theorem State.setQueue_excRecord (k : ExcPos) : (s.setQueue q).excRecord k = s.excRecord k := rfl
@[simp] theorem State.setQueue_link (k : Port) : (s.setQueue q).link k = s.link k := rfl

end setQueue

section setPhase
variable (s : State) (p : Option Phase)

@[simp] theorem State.setPhase_clock : (s.setPhase p).clock = s.clock := rfl
@[simp] theorem State.setPhase_mode : (s.setPhase p).mode = s.mode := rfl
@[simp] theorem State.setPhase_startKind : (s.setPhase p).startKind = s.startKind := rfl
@[simp] theorem State.setPhase_loader : (s.setPhase p).loader = s.loader := rfl
@[simp] theorem State.setPhase_site : (s.setPhase p).site = s.site := rfl
@[simp] theorem State.setPhase_zones : (s.setPhase p).zones = s.zones := rfl
@[simp] theorem State.setPhase_receptors : (s.setPhase p).receptors = s.receptors := rfl
@[simp] theorem State.setPhase_poller : (s.setPhase p).poller = s.poller := rfl
@[simp] theorem State.setPhase_exceedances : (s.setPhase p).exceedances = s.exceedances := rfl
@[simp] theorem State.setPhase_slots : (s.setPhase p).slots = s.slots := rfl
@[simp] theorem State.setPhase_paths : (s.setPhase p).paths = s.paths := rfl
@[simp] theorem State.setPhase_engine : (s.setPhase p).engine = s.engine := rfl
@[simp] theorem State.setPhase_latch : (s.setPhase p).latch = s.latch := rfl
@[simp] theorem State.setPhase_links : (s.setPhase p).links = s.links := rfl
@[simp] theorem State.setPhase_table : (s.setPhase p).table = s.table := rfl
@[simp] theorem State.setPhase_notices : (s.setPhase p).notices = s.notices := rfl
@[simp] theorem State.setPhase_witness : (s.setPhase p).witness = s.witness := rfl
@[simp] theorem State.setPhase_settings : (s.setPhase p).settings = s.settings := rfl
@[simp] theorem State.setPhase_freeIndex : (s.setPhase p).freeIndex = s.freeIndex := rfl
@[simp] theorem State.setPhase_pending : (s.setPhase p).pending = s.pending := rfl
@[simp] theorem State.setPhase_slot (k : SlotId) : (s.setPhase p).slot k = s.slot k := rfl
@[simp] theorem State.setPhase_zone (k : ZoneId) : (s.setPhase p).zone k = s.zone k := rfl
@[simp] theorem State.setPhase_receptor (k : ReceptorId) : (s.setPhase p).receptor k = s.receptor k := rfl
@[simp] theorem State.setPhase_path (k : PathPos) : (s.setPhase p).path k = s.path k := rfl
@[simp] theorem State.setPhase_excRecord (k : ExcPos) : (s.setPhase p).excRecord k = s.excRecord k := rfl
@[simp] theorem State.setPhase_link (k : Port) : (s.setPhase p).link k = s.link k := rfl

end setPhase

section stopTimer
variable (s : State) 

@[simp] theorem State.stopTimer_clock : s.stopTimer.clock = s.clock := rfl
@[simp] theorem State.stopTimer_mode : s.stopTimer.mode = s.mode := rfl
@[simp] theorem State.stopTimer_startKind : s.stopTimer.startKind = s.startKind := rfl
@[simp] theorem State.stopTimer_loader : s.stopTimer.loader = s.loader := rfl
@[simp] theorem State.stopTimer_site : s.stopTimer.site = s.site := rfl
@[simp] theorem State.stopTimer_zones : s.stopTimer.zones = s.zones := rfl
@[simp] theorem State.stopTimer_receptors : s.stopTimer.receptors = s.receptors := rfl
@[simp] theorem State.stopTimer_poller : s.stopTimer.poller = s.poller := rfl
@[simp] theorem State.stopTimer_exceedances : s.stopTimer.exceedances = s.exceedances := rfl
@[simp] theorem State.stopTimer_slots : s.stopTimer.slots = s.slots := rfl
@[simp] theorem State.stopTimer_paths : s.stopTimer.paths = s.paths := rfl
@[simp] theorem State.stopTimer_engine : s.stopTimer.engine = s.engine := rfl
@[simp] theorem State.stopTimer_latch : s.stopTimer.latch = s.latch := rfl
@[simp] theorem State.stopTimer_links : s.stopTimer.links = s.links := rfl
@[simp] theorem State.stopTimer_table : s.stopTimer.table = s.table := rfl
@[simp] theorem State.stopTimer_notices : s.stopTimer.notices = s.notices := rfl
@[simp] theorem State.stopTimer_witness : s.stopTimer.witness = s.witness := rfl
@[simp] theorem State.stopTimer_settings : s.stopTimer.settings = s.settings := rfl
@[simp] theorem State.stopTimer_freeIndex : s.stopTimer.freeIndex = s.freeIndex := rfl
@[simp] theorem State.stopTimer_pending : s.stopTimer.pending = s.pending := rfl
@[simp] theorem State.stopTimer_slot (k : SlotId) : s.stopTimer.slot k = s.slot k := rfl
@[simp] theorem State.stopTimer_zone (k : ZoneId) : s.stopTimer.zone k = s.zone k := rfl
@[simp] theorem State.stopTimer_receptor (k : ReceptorId) : s.stopTimer.receptor k = s.receptor k := rfl
@[simp] theorem State.stopTimer_path (k : PathPos) : s.stopTimer.path k = s.path k := rfl
@[simp] theorem State.stopTimer_excRecord (k : ExcPos) : s.stopTimer.excRecord k = s.excRecord k := rfl
@[simp] theorem State.stopTimer_link (k : Port) : s.stopTimer.link k = s.link k := rfl

end stopTimer

section clearDebts
variable (s : State) 

@[simp] theorem State.clearDebts_clock : s.clearDebts.clock = s.clock := rfl
@[simp] theorem State.clearDebts_mode : s.clearDebts.mode = s.mode := rfl
@[simp] theorem State.clearDebts_startKind : s.clearDebts.startKind = s.startKind := rfl
@[simp] theorem State.clearDebts_loader : s.clearDebts.loader = s.loader := rfl
@[simp] theorem State.clearDebts_site : s.clearDebts.site = s.site := rfl
@[simp] theorem State.clearDebts_zones : s.clearDebts.zones = s.zones := rfl
@[simp] theorem State.clearDebts_receptors : s.clearDebts.receptors = s.receptors := rfl
@[simp] theorem State.clearDebts_poller : s.clearDebts.poller = s.poller := rfl
@[simp] theorem State.clearDebts_exceedances : s.clearDebts.exceedances = s.exceedances := rfl
@[simp] theorem State.clearDebts_paths : s.clearDebts.paths = s.paths := rfl
@[simp] theorem State.clearDebts_engine : s.clearDebts.engine = s.engine := rfl
@[simp] theorem State.clearDebts_arbiter : s.clearDebts.arbiter = s.arbiter := rfl
@[simp] theorem State.clearDebts_latch : s.clearDebts.latch = s.latch := rfl
@[simp] theorem State.clearDebts_links : s.clearDebts.links = s.links := rfl
@[simp] theorem State.clearDebts_table : s.clearDebts.table = s.table := rfl
@[simp] theorem State.clearDebts_notices : s.clearDebts.notices = s.notices := rfl
@[simp] theorem State.clearDebts_witness : s.clearDebts.witness = s.witness := rfl
@[simp] theorem State.clearDebts_settings : s.clearDebts.settings = s.settings := rfl
@[simp] theorem State.clearDebts_freeIndex : s.clearDebts.freeIndex = s.freeIndex := rfl
@[simp] theorem State.clearDebts_pending : s.clearDebts.pending = s.pending := rfl
@[simp] theorem State.clearDebts_zone (k : ZoneId) : s.clearDebts.zone k = s.zone k := rfl
@[simp] theorem State.clearDebts_receptor (k : ReceptorId) : s.clearDebts.receptor k = s.receptor k := rfl
@[simp] theorem State.clearDebts_path (k : PathPos) : s.clearDebts.path k = s.path k := rfl
@[simp] theorem State.clearDebts_excRecord (k : ExcPos) : s.clearDebts.excRecord k = s.excRecord k := rfl
@[simp] theorem State.clearDebts_link (k : Port) : s.clearDebts.link k = s.link k := rfl

end clearDebts

end Sys2Proof.Machine
end

