-- ==== Sys2Proof/Laws/Ops.lean ====
section
/-! SUPPORT. What each shared operation can change, said once: the operation's result is its argument with the fields named here replaced. -/

namespace Sys2Proof.Machine

/-! ### The settings memory -/

theorem Memory.wfFrom_mono (m : Memory) (low high : Nat) (h : low ≤ high) (hw : Memory.wfFrom high m = true) : Memory.wfFrom low m = true := by
  cases m with
  | nil => rfl
  | cons c rest =>
    simp only [Memory.wfFrom, Bool.and_eq_true, decide_eq_true_eq] at hw ⊢
    exact ⟨⟨by omega, hw.1.2⟩, hw.2⟩

/-- A write at or above `low` keeps the canonical form from `low` on. -/
theorem Memory.wfFrom_write (m : Memory) (low a : Nat) (b : Byte) (h : low ≤ a) (hw : Memory.wfFrom low m = true) :
    Memory.wfFrom low (m.write a b) = true := by
  induction m generalizing low with
  | nil =>
    simp only [Memory.write]
    split
    · rfl
    · simp_all [Memory.wfFrom]
  | cons c rest ih =>
    simp only [Memory.wfFrom, Bool.and_eq_true, decide_eq_true_eq] at hw
    obtain ⟨⟨hlow, hne⟩, hrest⟩ := hw
    simp only [Memory.write]
    split
    · rename_i hlt
      split
      · simp [Memory.wfFrom, hlow, hne, hrest]
      · rename_i hb
        simp [Memory.wfFrom, h, hb, hne, hrest, Nat.succ_le_of_lt hlt]
    · split
      · rename_i _ heq
        split
        · exact Memory.wfFrom_mono rest low (c.1 + 1) (by omega) hrest
        · rename_i hb
          simp [Memory.wfFrom, hlow, hb, heq, hrest]
      · rename_i hge hne'
        have hrec := ih (c.1 + 1) (by omega) hrest
        simp [Memory.wfFrom, hlow, hne, hrec]

/-- One byte written keeps the canonical form. -/
theorem Memory.wf_write (m : Memory) (a : Nat) (b : Byte) (hw : m.wf = true) : (m.write a b).wf = true :=
  Memory.wfFrom_write m 0 a b (Nat.zero_le a) hw

/-- A run of bytes written keeps the canonical form. -/
theorem Memory.wf_writeAll (m : Memory) (ws : List Host.Cell) (hw : m.wf = true) : (m.writeAll ws).wf = true := by
  induction ws generalizing m with
  | nil => exact hw
  | cons w ws ih => exact ih (m.write w.1 w.2) (Memory.wf_write m w.1 w.2 hw)

/-- The memory of the state after reset has the canonical form. -/
theorem reset_settings_wf : State.reset.settings.wf = true := rfl

/-- An address below every listed one reads as what an unlisted address reads as. -/
theorem Memory.read_below (m : Memory) (low a : Nat) (h : a < low) (hw : Memory.wfFrom low m = true) : m.read a = unlistedByte := by
  induction m generalizing low with
  | nil => rfl
  | cons c rest ih =>
    simp only [Memory.wfFrom, Bool.and_eq_true, decide_eq_true_eq] at hw
    have hne : c.1 ≠ a := by omega
    simp only [Memory.read, if_neg hne]
    exact ih (c.1 + 1) (by omega) hw.2

/-- A byte written is the byte read there; every other address reads as before. -/
theorem Memory.read_write (m : Memory) (low a a' : Nat) (b : Byte) (hw : Memory.wfFrom low m = true) :
    (m.write a b).read a' = if a' = a then b else m.read a' := by
  induction m generalizing low with
  | nil =>
    simp only [Memory.write]
    split <;> rename_i hb
    · subst hb; simp [Memory.read]
    · simp [Memory.read, eq_comm]
  | cons c rest ih =>
    simp only [Memory.wfFrom, Bool.and_eq_true, decide_eq_true_eq] at hw
    obtain ⟨⟨hlow, hne⟩, hrest⟩ := hw
    simp only [Memory.write]
    split
    · rename_i hlt
      split <;> rename_i hb
      · subst hb
        split
        · rename_i heq
          subst heq
          exact Memory.read_below (c :: rest) c.1 a' hlt (by simp [Memory.wfFrom, hne, hrest])
        · rfl
      · simp only [Memory.read, eq_comm]
    · split
      · rename_i _ heq
        subst heq
        split <;> rename_i hb
        · subst hb
          simp only [Memory.read]
          split
          · rename_i heq'
            subst heq'
            exact Memory.read_below rest (c.1 + 1) c.1 (by omega) hrest
          · rename_i hne'
            simp [Ne.symm hne']
        · simp only [Memory.read, eq_comm]
          split <;> simp_all
      · rename_i hge hne'
        simp only [Memory.read, ih (c.1 + 1) hrest]
        split
        · rename_i heq
          subst heq
          simp [Ne.symm hne']
        · rfl

/-! ### Notices and witness copies -/

/-- Posting changes the notice queue alone. -/
theorem State.post_eq (s : State) (n : Notice) : s.post n = { s with notices := s.notices.post n } := rfl

/-- Sending a copy changes the witness transmitter alone. -/
theorem State.send_eq (s : State) (c : Copy) : s.send c = { s with witness := (s.send c).witness } := by
  unfold State.send; split <;> rfl

/-- Reporting a change of clamp causes changes the notice queue and the witness transmitter alone. -/
theorem State.reportClamp_eq (s : State) (i : SlotId) (before : Slot) (event : ClampEvent) (report : Option (Level × Nat × Level)) :
    s.reportClamp i before event report =
      { s with
        notices := (s.reportClamp i before event report).notices
        witness := (s.reportClamp i before event report).witness } := by
  unfold State.reportClamp State.send
  dsimp only
  split
  · rfl
  · split <;> rfl

/-- Changing a slot with the report of its clamp causes changes that slot, the notice queue and the witness transmitter alone. -/
theorem State.updClamped_eq (s : State) (i : SlotId) (f : Slot → Slot) (event : ClampEvent) (report : Option (Level × Nat × Level)) :
    s.updClamped i f event report =
      { s with
        slots := s.slots.set i.val (f (s.slot i)) i.isLt
        notices := (s.updClamped i f event report).notices
        witness := (s.updClamped i f event report).witness } := by
  unfold State.updClamped
  rw [State.reportClamp_eq]
  rfl

/-! ### Triggers and passes -/

/-- A trigger changes the engine and the arbiter's note of a pass begun since the head alone. -/
theorem State.trigger_eq (s : State) :
    s.trigger =
      { s with engine := s.trigger.engine, arbiter := { s.arbiter with passSinceHead := s.trigger.arbiter.passSinceHead } } := by
  unfold State.trigger State.beginRecalculation
  split
  · rfl
  · split <;> rfl

theorem State.triggerIf_eq (s : State) (changed : Bool) :
    s.triggerIf changed =
      { s with
        engine := (s.triggerIf changed).engine
        arbiter := { s.arbiter with passSinceHead := (s.triggerIf changed).arbiter.passSinceHead } } := by
  unfold State.triggerIf
  split
  · exact State.trigger_eq s
  · rfl

/-- The engine's choice changes the engine, the latch and the arbiter's note of a pass begun since the head alone. -/
theorem State.chooseNext_eq (s : State) :
    s.chooseNext =
      { s with
        engine := s.chooseNext.engine
        latch := s.chooseNext.latch
        arbiter := { s.arbiter with passSinceHead := s.chooseNext.arbiter.passSinceHead } } := by
  unfold State.chooseNext State.beginRecalculation State.beginForecast
  split
  · rfl
  · split
    · split <;> rfl
    · rfl

/-- Time passing changes the report ages, the handover timer, the latch and the poller alone. -/
theorem State.elapse_eq (n : Nat) (s : State) :
    s.elapse n =
      { s with
        slots := (s.elapse n).slots
        arbiter := { s.arbiter with timer := s.arbiter.timer.map fun t => t - n }
        latch := s.latch.elapse n
        poller := s.poller.elapse n } := rfl

/-! ### Binding, unbinding, emptying -/

theorem State.bindSlot_eq (s : State) (i : SlotId) (p : Port) (id : Identity) :
    s.bindSlot i p id =
      { s with
        slots := s.slots.set i.val ((s.slot i).bound p id) i.isLt
        notices := (s.bindSlot i p id).notices
        witness := (s.bindSlot i p id).witness } := by
  unfold State.bindSlot
  rw [State.reportClamp_eq]
  rfl

theorem State.unbindSlot_eq (s : State) (i : SlotId) :
    s.unbindSlot i =
      { s with
        slots := s.slots.set i.val (s.slot i).unbound i.isLt
        notices := (s.unbindSlot i).notices
        witness := (s.unbindSlot i).witness } := by
  unfold State.unbindSlot
  rw [State.reportClamp_eq]
  rfl

/-- Emptying a slot changes its record and its path entries, raises one trigger, and reports. -/
theorem State.emptySlot_eq (s : State) (i : SlotId) :
    s.emptySlot i =
      { s with
        slots := s.slots.set i.val (s.slot i).emptied i.isLt
        paths := (s.deletePathsOf i).paths
        engine := (s.emptySlot i).engine
        arbiter := { s.arbiter with passSinceHead := (s.emptySlot i).arbiter.passSinceHead }
        notices := (s.emptySlot i).notices
        witness := (s.emptySlot i).witness } := by
  unfold State.emptySlot
  dsimp only
  rw [State.reportClamp_eq, State.trigger_eq]
  rfl

/-- A stale event is a becoming stale where the conditions of R94 hold, and nothing elsewhere. -/
theorem State.staleSlot_eq (s : State) (i : SlotId) :
    s.staleSlot i = s ∧ s.staleDue i = false ∨ s.staleSlot i = s.becomeStale i ∧ s.staleDue i = true := by
  cases h : s.staleDue i <;> simp [State.staleSlot, h]

/-- An age-out is an emptying where the three conditions of R81 hold, and nothing elsewhere. -/
theorem State.ageSlot_eq (s : State) (i : SlotId) : s.ageSlot i = s ∧ s.ageDue i = false ∨ s.ageSlot i = s.emptySlot i ∧ s.ageDue i = true := by
  cases h : s.ageDue i <;> simp [State.ageSlot, h]

/-! ### The arbiter -/

/-- Becoming the head changes the slots, the engine, the arbiter and the notice queue alone. -/
theorem State.becomeHead_eq (s : State) (i : SlotId) :
    s.becomeHead i =
      { s with
        slots := s.slots.set i.val { s.slot i with state := .entering } i.isLt
        engine := (s.becomeHead i).engine
        arbiter := (s.becomeHead i).arbiter
        notices := (s.becomeHead i).notices } := by
  unfold State.becomeHead State.postAdmission State.postStageState State.post
  dsimp only
  rw [State.trigger_eq]
  rfl

theorem State.promote_eq (s : State) :
    s.promote =
      { s with slots := s.promote.slots, engine := s.promote.engine, arbiter := s.promote.arbiter, notices := s.promote.notices } := by
  unfold State.promote
  split
  · rfl
  · rw [State.becomeHead_eq]

/-! ### A receiver in a stream of bytes -/

/-- A run of bytes in two parts: the second part is taken from where the first left the receiver, and what is told follows on. -/
theorem Reception.takeAll_append (judge : List Byte → Received) (r : Reception) (xs ys : List Byte) :
    r.takeAll judge (xs ++ ys) =
      (((r.takeAll judge xs).1.takeAll judge ys).1, (r.takeAll judge xs).2 ++ ((r.takeAll judge xs).1.takeAll judge ys).2) := by
  induction xs generalizing r with
  | nil => simp [Reception.takeAll]
  | cons b xs ih => simp [Reception.takeAll, ih]

/-- Bytes that leave the frame incomplete, each of them, only join it. -/
theorem Reception.takeAll_incomplete (judge : List Byte → Received) (taken bs : List Byte)
    (h : ∀ n, n < bs.length → judge (taken ++ bs.take (n + 1)) = .incomplete) :
    (Reception.receiving taken).takeAll judge bs = (.receiving (taken ++ bs), []) := by
  induction bs generalizing taken with
  | nil => simp [Reception.takeAll]
  | cons b bs ih =>
    have h0 := h 0 (by simp)
    have hs := ih (taken ++ [b]) fun n hn => by simpa using h (n + 1) (by simpa using hn)
    simp only [List.take_succ_cons, List.take_zero] at h0
    simp [Reception.takeAll, Reception.take, h0, hs]

end Sys2Proof.Machine
end

