-- ==== Sys2Proof/Laws/Frames.lean ====
section
/-! SUPPORT. The fields that the operations of the arbiter, the schedule unit, the poller and the compliance unit leave as they were. -/

namespace Sys2Proof.Machine

/-! ### The arbiter -/

/-- `t` differs from `s` in the slots, the engine, the arbiter, the notice queue and the witness transmitter alone. -/
structure ArbiterFrame (s t : State) : Prop where
  clock_eq : t.clock = s.clock
  mode_eq : t.mode = s.mode
  startKind_eq : t.startKind = s.startKind
  loader_eq : t.loader = s.loader
  site_eq : t.site = s.site
  zones_eq : t.zones = s.zones
  receptors_eq : t.receptors = s.receptors
  poller_eq : t.poller = s.poller
  exceedances_eq : t.exceedances = s.exceedances
  paths_eq : t.paths = s.paths
  latch_eq : t.latch = s.latch
  links_eq : t.links = s.links
  table_eq : t.table = s.table
  settings_eq : t.settings = s.settings
  freeIndex_eq : t.freeIndex = s.freeIndex
  pending_eq : t.pending = s.pending

theorem ArbiterFrame.refl (s : State) : ArbiterFrame s s := by constructor <;> rfl

theorem ArbiterFrame.trans {s t u : State} (h : ArbiterFrame s t) (k : ArbiterFrame t u) : ArbiterFrame s u :=
  ⟨k.clock_eq.trans h.clock_eq, k.mode_eq.trans h.mode_eq, k.startKind_eq.trans h.startKind_eq, k.loader_eq.trans h.loader_eq,
   k.site_eq.trans h.site_eq, k.zones_eq.trans h.zones_eq, k.receptors_eq.trans h.receptors_eq, k.poller_eq.trans h.poller_eq,
   k.exceedances_eq.trans h.exceedances_eq, k.paths_eq.trans h.paths_eq, k.latch_eq.trans h.latch_eq, k.links_eq.trans h.links_eq,
   k.table_eq.trans h.table_eq, k.settings_eq.trans h.settings_eq, k.freeIndex_eq.trans h.freeIndex_eq, k.pending_eq.trans h.pending_eq⟩

theorem ArbiterFrame.foldl {α : Type} (f : State → α → State) (h : ∀ s a, ArbiterFrame s (f s a)) (l : List α) (s : State) :
    ArbiterFrame s (l.foldl f s) := by
  induction l generalizing s with
  | nil => exact ArbiterFrame.refl s
  | cons a l ih => exact (h s a).trans (ih (f s a))

theorem ArbiterFrame.of_post (s : State) (n : Notice) : ArbiterFrame s (s.post n) := by constructor <;> rfl
theorem ArbiterFrame.of_updSlot (s : State) (i : SlotId) (f : Slot → Slot) : ArbiterFrame s (s.updSlot i f) := by constructor <;> rfl
theorem ArbiterFrame.of_updSlots (s : State) (f : Slot → Slot) : ArbiterFrame s (s.updSlots f) := by constructor <;> rfl
theorem ArbiterFrame.of_setQueue (s : State) (q : List SlotId) : ArbiterFrame s (s.setQueue q) := by constructor <;> rfl
theorem ArbiterFrame.of_setPhase (s : State) (p : Option Phase) : ArbiterFrame s (s.setPhase p) := by constructor <;> rfl
theorem ArbiterFrame.of_stopTimer (s : State) : ArbiterFrame s s.stopTimer := by constructor <;> rfl
theorem ArbiterFrame.of_clearDebts (s : State) : ArbiterFrame s s.clearDebts := by constructor <;> rfl

theorem ArbiterFrame.of_trigger (s : State) : ArbiterFrame s s.trigger := by
  rw [State.trigger_eq]; constructor <;> rfl

theorem ArbiterFrame.of_triggerIf (s : State) (c : Bool) : ArbiterFrame s (s.triggerIf c) := by
  rw [State.triggerIf_eq]; constructor <;> rfl

theorem ArbiterFrame.of_updClamped (s : State) (i : SlotId) (f : Slot → Slot) (event : ClampEvent)
    (report : Option (Level × Nat × Level)) : ArbiterFrame s (s.updClamped i f event report) := by
  rw [State.updClamped_eq]; constructor <;> rfl

theorem ArbiterFrame.of_bindSlot (s : State) (i : SlotId) (p : Port) (id : Identity) : ArbiterFrame s (s.bindSlot i p id) := by
  rw [State.bindSlot_eq]; constructor <;> rfl

theorem ArbiterFrame.of_unbindSlot (s : State) (i : SlotId) : ArbiterFrame s (s.unbindSlot i) := by
  rw [State.unbindSlot_eq]; constructor <;> rfl

theorem ArbiterFrame.of_postAdmission (s : State) (i : SlotId) (m : Option Manner) : ArbiterFrame s (s.postAdmission i m) :=
  ArbiterFrame.of_post s _

theorem ArbiterFrame.of_postStageState (s : State) (i : SlotId) : ArbiterFrame s (s.postStageState i) := ArbiterFrame.of_post s _

theorem ArbiterFrame.of_promote (s : State) : ArbiterFrame s s.promote := by
  rw [State.promote_eq]; constructor <;> rfl

theorem ArbiterFrame.of_settleDebtor (s : State) (i : SlotId) : ArbiterFrame s (s.settleDebtor i) := by
  unfold State.settleDebtor
  split
  · exact ArbiterFrame.of_updClamped ..
  · exact ArbiterFrame.refl s

/-- A grant changes the slots, the engine, the arbiter, the notice queue and the witness transmitter alone. -/
theorem ArbiterFrame.of_grant (s : State) (m : Manner) : ArbiterFrame s (s.grant m) := by
  unfold State.grant
  split
  · exact ArbiterFrame.refl s
  · exact (ArbiterFrame.foldl _ ArbiterFrame.of_settleDebtor _ s).trans <| (ArbiterFrame.of_stopTimer _).trans <|
      (ArbiterFrame.of_setQueue ..).trans <| (ArbiterFrame.of_updSlot ..).trans <| (ArbiterFrame.of_postAdmission ..).trans <|
      (ArbiterFrame.of_postStageState ..).trans <| (ArbiterFrame.of_trigger _).trans <| ArbiterFrame.of_promote _

theorem ArbiterFrame.of_debtCleared (s : State) : ArbiterFrame s s.debtCleared := by
  unfold State.debtCleared
  split
  · split
    · exact ArbiterFrame.of_grant ..
    · split
      · exact ArbiterFrame.of_postAdmission ..
      · exact ArbiterFrame.refl s
  · exact ArbiterFrame.refl s

theorem ArbiterFrame.of_ite {s t u : State} (c : Prop) [Decidable c] (h : ArbiterFrame s t) (k : ArbiterFrame s u) :
    ArbiterFrame s (if c then t else u) := by
  split
  · exact h
  · exact k

theorem ArbiterFrame.of_leaveLive (s : State) (i : SlotId) (forced : Bool) : ArbiterFrame s (s.leaveLive i forced) := by
  have h (f : Slot → Slot) : ArbiterFrame s (((s.updClamped i f .leaveLive none).trigger).postStageState i) :=
    (ArbiterFrame.of_updClamped ..).trans ((ArbiterFrame.of_trigger _).trans (ArbiterFrame.of_postStageState ..))
  exact .of_ite _ ((ArbiterFrame.of_ite _ ((h _).trans (.of_postAdmission ..)) (h _)).trans (.of_debtCleared _))
    (.of_ite _ ((h _).trans (.of_postAdmission ..)) (h _))

/-- GO QUIET and FORCE QUIET change the slots, the engine, the arbiter, the notice queue and the witness transmitter alone. -/
theorem ArbiterFrame.of_quietSlot (s : State) (i : SlotId) (forced : Bool) : ArbiterFrame s (s.quietSlot i forced) := by
  unfold State.quietSlot
  dsimp only
  split
  · exact ArbiterFrame.of_leaveLive ..
  · exact (ArbiterFrame.of_setQueue s _).trans <| (ArbiterFrame.of_updSlot ..).trans <| (ArbiterFrame.of_postStageState ..).trans <|
      ArbiterFrame.of_postAdmission ..
  · exact (ArbiterFrame.of_stopTimer s).trans <| (ArbiterFrame.of_clearDebts _).trans <| (ArbiterFrame.of_setQueue ..).trans <|
      (ArbiterFrame.of_updSlot ..).trans <| (ArbiterFrame.of_postStageState ..).trans <| (ArbiterFrame.of_postAdmission ..).trans <|
      (ArbiterFrame.of_trigger _).trans <| ArbiterFrame.of_promote _
  · exact ArbiterFrame.refl s

theorem ArbiterFrame.of_refuseCurfew (s : State) (i : SlotId) : ArbiterFrame s (s.refuseCurfew i) :=
  (ArbiterFrame.of_updSlot s ..).trans <| (ArbiterFrame.of_postStageState ..).trans <| ArbiterFrame.of_postAdmission ..

theorem ArbiterFrame.of_removeAtCurfew (s : State) (removed : SlotId → Bool) : ArbiterFrame s (s.removeAtCurfew removed) := by
  have h (b : State) (l : List SlotId) := ArbiterFrame.foldl State.refuseCurfew ArbiterFrame.of_refuseCurfew l b
  have k (q : List SlotId) : ArbiterFrame s (s.setQueue q) := .of_setQueue ..
  exact .of_ite _
    ((ArbiterFrame.of_ite _ ((k _).trans ((ArbiterFrame.of_stopTimer _).trans (.of_clearDebts _))) (k _)).trans
      ((h _ _).trans ((ArbiterFrame.of_trigger _).trans (.of_promote _))))
    ((ArbiterFrame.of_ite _ ((k _).trans ((ArbiterFrame.of_stopTimer _).trans (.of_clearDebts _))) (k _)).trans (h _ _))

theorem ArbiterFrame.of_setDebt (s : State) (i : SlotId) : ArbiterFrame s (s.setDebt i) := by
  unfold State.setDebt
  split
  · exact ArbiterFrame.of_updSlot ..
  · exact ArbiterFrame.refl s

/-- The report of a pass changes the slots, the engine, the arbiter, the notice queue and the witness transmitter alone. -/
theorem ArbiterFrame.of_takePassReport (s : State) (entering : Option SlotId) (fallen : List SlotId) :
    ArbiterFrame s (s.takePassReport entering fallen) := by
  have h (l : List SlotId) := ArbiterFrame.foldl State.setDebt ArbiterFrame.of_setDebt l s
  unfold State.takePassReport
  split
  · exact ArbiterFrame.refl s
  · split
    · dsimp only
      split
      · exact (h fallen).trans (ArbiterFrame.of_grant ..)
      · exact (h fallen).trans (by constructor <;> rfl)
    · exact ArbiterFrame.refl s

/-! ### The schedule unit -/

/-- `t` differs from `s` in the zones, the slots, the path table, the engine, the arbiter, the notice queue and the witness transmitter alone. -/
structure ZoneFrame (s t : State) : Prop where
  clock_eq : t.clock = s.clock
  mode_eq : t.mode = s.mode
  startKind_eq : t.startKind = s.startKind
  loader_eq : t.loader = s.loader
  site_eq : t.site = s.site
  receptors_eq : t.receptors = s.receptors
  poller_eq : t.poller = s.poller
  exceedances_eq : t.exceedances = s.exceedances
  latch_eq : t.latch = s.latch
  links_eq : t.links = s.links
  table_eq : t.table = s.table
  settings_eq : t.settings = s.settings
  freeIndex_eq : t.freeIndex = s.freeIndex
  pending_eq : t.pending = s.pending

theorem ZoneFrame.refl (s : State) : ZoneFrame s s := by constructor <;> rfl

theorem ZoneFrame.trans {s t u : State} (h : ZoneFrame s t) (k : ZoneFrame t u) : ZoneFrame s u :=
  ⟨k.clock_eq.trans h.clock_eq, k.mode_eq.trans h.mode_eq, k.startKind_eq.trans h.startKind_eq, k.loader_eq.trans h.loader_eq,
   k.site_eq.trans h.site_eq, k.receptors_eq.trans h.receptors_eq, k.poller_eq.trans h.poller_eq, k.exceedances_eq.trans h.exceedances_eq,
   k.latch_eq.trans h.latch_eq, k.links_eq.trans h.links_eq, k.table_eq.trans h.table_eq,
   k.settings_eq.trans h.settings_eq, k.freeIndex_eq.trans h.freeIndex_eq, k.pending_eq.trans h.pending_eq⟩

theorem ZoneFrame.foldl {α : Type} (f : State → α → State) (h : ∀ s a, ZoneFrame s (f s a)) (l : List α) (s : State) :
    ZoneFrame s (l.foldl f s) := by
  induction l generalizing s with
  | nil => exact ZoneFrame.refl s
  | cons a l ih => exact (h s a).trans (ih (f s a))

theorem ZoneFrame.of_arbiter {s t : State} (h : ArbiterFrame s t) : ZoneFrame s t :=
  ⟨h.clock_eq, h.mode_eq, h.startKind_eq, h.loader_eq, h.site_eq, h.receptors_eq, h.poller_eq, h.exceedances_eq, h.latch_eq,
   h.links_eq, h.table_eq, h.settings_eq, h.freeIndex_eq, h.pending_eq⟩

/-- An age-out changes the slots, the path table, the engine, the arbiter, the notice queue and the witness transmitter alone. -/
theorem ZoneFrame.of_ageSlot (s : State) (i : SlotId) : ZoneFrame s (s.ageSlot i) := by
  unfold State.ageSlot
  split
  · rw [State.emptySlot_eq]; constructor <;> rfl
  · exact ZoneFrame.refl s

theorem ZoneFrame.of_curfewRemoval (s : State) (removed : SlotId → Bool) : ZoneFrame s (s.curfewRemoval removed) :=
  (ZoneFrame.of_arbiter (ArbiterFrame.of_removeAtCurfew s removed)).trans (ZoneFrame.foldl _ ZoneFrame.of_ageSlot _ _)

theorem ZoneFrame.of_curfewZone (s : State) (z : ZoneId) : ZoneFrame s (s.curfewZone z) := ZoneFrame.of_curfewRemoval ..

theorem ZoneFrame.of_updZone (s : State) (z : ZoneId) (f : Zone → Zone) : ZoneFrame s (s.updZone z f) := by constructor <;> rfl

theorem ZoneFrame.of_postZone (s : State) (z : ZoneId) : ZoneFrame s (s.postZone z) := by constructor <;> rfl

theorem ZoneFrame.of_setEffective (s : State) (z : ZoneId) (v : Level) : ZoneFrame s (s.setEffective z v) := by
  unfold State.setEffective
  split
  · exact ZoneFrame.refl s
  · exact (ZoneFrame.of_updZone s z _).trans (.of_arbiter (ArbiterFrame.of_trigger _))

theorem ZoneFrame.of_setCurfew (s : State) (z : ZoneId) (st : ZoneState) (fade : Nat) : ZoneFrame s (s.setCurfew z st fade) := by
  unfold State.setCurfew
  dsimp only
  have h := (ZoneFrame.of_updZone s z fun x => { x with state := st, fade := fade }).trans
    ((ZoneFrame.of_arbiter (ArbiterFrame.of_triggerIf _ ((s.zone z).state != st))).trans
      (.of_arbiter (ArbiterFrame.of_triggerIf _ ((s.zone z).fade != fade))))
  split
  · exact h.trans (ZoneFrame.of_curfewZone ..)
  · exact h

theorem ZoneFrame.of_enterBreakpoint (s : State) (z : ZoneId) (n : Nat) (limit : Level) : ZoneFrame s (s.enterBreakpoint z n limit) := by
  unfold State.enterBreakpoint
  dsimp only
  split
  · exact (ZoneFrame.of_updZone s z _).trans (ZoneFrame.of_setEffective ..)
  · exact ZoneFrame.of_updZone ..

theorem ZoneFrame.of_curfewBreakpoint (s : State) (z : ZoneId) : ZoneFrame s (s.curfewBreakpoint z) := by
  unfold State.curfewBreakpoint
  split
  · split
    · exact (ZoneFrame.of_updZone s z _).trans (ZoneFrame.of_setCurfew ..)
    · exact ZoneFrame.refl s
    · exact ZoneFrame.of_setCurfew ..
  · exact ZoneFrame.of_setCurfew ..

theorem ZoneFrame.of_postZoneIfChanged (s : State) (z : ZoneId) (before : Zone) : ZoneFrame s (s.postZoneIfChanged z before) := by
  unfold State.postZoneIfChanged
  split
  · exact ZoneFrame.of_postZone ..
  · exact ZoneFrame.refl s

/-- The evaluation of a zone changes the zones, the slots, the paths, the engine, the arbiter, the notice queue and the witness transmitter alone. -/
theorem ZoneFrame.of_evaluateZone (s : State) (z : ZoneId) : ZoneFrame s (s.evaluateZone z) := by
  unfold State.evaluateZone
  dsimp only
  refine ZoneFrame.trans ?_ (ZoneFrame.of_postZoneIfChanged ..)
  split
  · exact (ZoneFrame.of_updZone s z _).trans ((ZoneFrame.of_setEffective ..).trans (ZoneFrame.of_setCurfew ..))
  · split
    · exact ZoneFrame.refl s
    · split
      · split
        · exact ZoneFrame.of_updZone ..
        · exact ZoneFrame.refl s
      · split
        · exact (ZoneFrame.of_enterBreakpoint ..).trans (ZoneFrame.of_curfewBreakpoint ..)
        · exact (ZoneFrame.of_enterBreakpoint ..).trans (ZoneFrame.of_setCurfew ..)

theorem ZoneFrame.of_evaluateZones (s : State) : ZoneFrame s s.evaluateZones :=
  ZoneFrame.foldl State.evaluateZone ZoneFrame.of_evaluateZone _ s

/-- The second-boundary work of a zone changes the zones, the slots, the paths, the engine, the arbiter, the notice queue and the witness transmitter alone. -/
theorem ZoneFrame.of_zoneSecond (s : State) (z : ZoneId) : ZoneFrame s (s.zoneSecond z) := by
  unfold State.zoneSecond
  dsimp only
  have ha : ZoneFrame s (if (s.zone z).licence < (s.zone z).effective then
      s.setEffective z (limitedStep (s.zone z).effective (s.zone z).licence 0 (s.zone z).rampRate) else s) := by
    split
    · exact ZoneFrame.of_setEffective ..
    · exact ZoneFrame.refl s
  generalize (if (s.zone z).licence < (s.zone z).effective then
      s.setEffective z (limitedStep (s.zone z).effective (s.zone z).licence 0 (s.zone z).rampRate) else s) = a at ha ⊢
  have hb : ZoneFrame s (if (s.zone z).state = .fading then
      a.setCurfew z (if limitedStep (s.zone z).fade 600 (s.zone z).rampRate 0 = 600 then .silenced else .fading)
        (limitedStep (s.zone z).fade 600 (s.zone z).rampRate 0) else a) := by
    split
    · exact ha.trans (ZoneFrame.of_setCurfew ..)
    · exact ha
  generalize (if (s.zone z).state = .fading then
      a.setCurfew z (if limitedStep (s.zone z).fade 600 (s.zone z).rampRate 0 = 600 then .silenced else .fading)
        (limitedStep (s.zone z).fade 600 (s.zone z).rampRate 0) else a) = b at hb ⊢
  split
  · exact hb.trans (ZoneFrame.of_postZone ..)
  · exact hb

/-! ### The poller -/

/-- Choosing the next receptor to poll changes the poller alone. -/
theorem State.pollFrom_eq (s : State) (low second : Nat) : s.pollFrom low second = { s with poller := (s.pollFrom low second).poller } := by
  unfold State.pollFrom State.setPoll
  split
  · rfl
  · split <;> rfl

theorem State.abandonPoll_eq (s : State) (r : ReceptorId) : s.abandonPoll r = { s with poller := (s.abandonPoll r).poller } := by
  unfold State.abandonPoll State.continueCycle
  split
  · split
    · exact State.pollFrom_eq ..
    · rfl
  · rfl

/-! ### The compliance unit -/

/-- `t` differs from `s` in the receptors, the exceedance table, the engine, the arbiter, the notice queue and the witness transmitter alone. -/
structure CloseFrame (s t : State) : Prop where
  clock_eq : t.clock = s.clock
  mode_eq : t.mode = s.mode
  startKind_eq : t.startKind = s.startKind
  loader_eq : t.loader = s.loader
  site_eq : t.site = s.site
  zones_eq : t.zones = s.zones
  poller_eq : t.poller = s.poller
  slots_eq : t.slots = s.slots
  paths_eq : t.paths = s.paths
  latch_eq : t.latch = s.latch
  links_eq : t.links = s.links
  table_eq : t.table = s.table
  settings_eq : t.settings = s.settings
  freeIndex_eq : t.freeIndex = s.freeIndex
  pending_eq : t.pending = s.pending

theorem CloseFrame.refl (s : State) : CloseFrame s s := by constructor <;> rfl

theorem CloseFrame.trans {s t u : State} (h : CloseFrame s t) (k : CloseFrame t u) : CloseFrame s u :=
  ⟨k.clock_eq.trans h.clock_eq, k.mode_eq.trans h.mode_eq, k.startKind_eq.trans h.startKind_eq, k.loader_eq.trans h.loader_eq,
   k.site_eq.trans h.site_eq, k.zones_eq.trans h.zones_eq, k.poller_eq.trans h.poller_eq, k.slots_eq.trans h.slots_eq, k.paths_eq.trans h.paths_eq,
   k.latch_eq.trans h.latch_eq, k.links_eq.trans h.links_eq, k.table_eq.trans h.table_eq, k.settings_eq.trans h.settings_eq,
   k.freeIndex_eq.trans h.freeIndex_eq, k.pending_eq.trans h.pending_eq⟩

theorem CloseFrame.foldl {α : Type} (f : State → α → State) (h : ∀ s a, CloseFrame s (f s a)) (l : List α) (s : State) :
    CloseFrame s (l.foldl f s) := by
  induction l generalizing s with
  | nil => exact CloseFrame.refl s
  | cons a l ih => exact (h s a).trans (ih (f s a))

theorem CloseFrame.of_updReceptor (s : State) (r : ReceptorId) (f : Receptor → Receptor) : CloseFrame s (s.updReceptor r f) := by
  constructor <;> rfl
theorem CloseFrame.of_setReceptor (s : State) (r : ReceptorId) (x : Option Receptor) : CloseFrame s (s.setReceptor r x) := by
  constructor <;> rfl
theorem CloseFrame.of_updExcRecord (s : State) (p : ExcPos) (f : ExcRecord → ExcRecord) : CloseFrame s (s.updExcRecord p f) := by
  constructor <;> rfl
theorem CloseFrame.of_post (s : State) (n : Notice) : CloseFrame s (s.post n) := by constructor <;> rfl
theorem CloseFrame.of_send (s : State) (c : Copy) : CloseFrame s (s.send c) := by rw [State.send_eq]; constructor <;> rfl
theorem CloseFrame.of_trigger (s : State) : CloseFrame s s.trigger := by rw [State.trigger_eq]; constructor <;> rfl
theorem CloseFrame.of_triggerIf (s : State) (c : Bool) : CloseFrame s (s.triggerIf c) := by
  rw [State.triggerIf_eq]; constructor <;> rfl

/-- Opening a record changes the receptors, the exceedance table, the engine, the arbiter, the notice queue and the witness transmitter alone. -/
theorem CloseFrame.of_openExceedance (s : State) (r : ReceptorId) (x : Receptor) (minute : Nat) (limit level : Level) :
    CloseFrame s (s.openExceedance r x minute limit level) := by
  unfold State.openExceedance
  split
  · exact CloseFrame.refl s
  · refine CloseFrame.trans ?_ (CloseFrame.of_send ..)
    refine CloseFrame.trans ?_ (CloseFrame.of_post ..)
    refine CloseFrame.trans ?_ (CloseFrame.of_trigger _)
    constructor <;> rfl

/-- Closing a record changes the same fields alone. -/
theorem CloseFrame.of_closeExceedance (s : State) (r : ReceptorId) (minute : Nat) (cause : ClosingCause) (t : Bool) :
    CloseFrame s (s.closeExceedance r minute cause t) := by
  unfold State.closeExceedance
  split
  · exact CloseFrame.refl s
  · dsimp only
    split
    · refine CloseFrame.trans ?_ (CloseFrame.of_send ..)
      refine CloseFrame.trans ?_ (CloseFrame.of_post ..)
      exact (CloseFrame.of_updExcRecord s _ _).trans ((CloseFrame.of_updReceptor ..).trans (CloseFrame.of_triggerIf ..))
    · exact (CloseFrame.of_updExcRecord s _ _).trans ((CloseFrame.of_updReceptor ..).trans (CloseFrame.of_triggerIf ..))

theorem CloseFrame.of_updateStagesOver (s : State) (r : ReceptorId) : CloseFrame s (s.updateStagesOver r) := by
  unfold State.updateStagesOver
  split
  · exact CloseFrame.refl s
  · exact CloseFrame.of_updExcRecord ..

/-- The judgement of a receptor changes the same fields alone. -/
theorem CloseFrame.of_judge (s : State) (r : ReceptorId) (limit grace minute : Nat) : CloseFrame s (s.judge r limit grace minute) := by
  have h := CloseFrame.of_updateStagesOver s r
  unfold State.judge
  dsimp only
  split
  · exact h
  · split
    · exact h
    · split
      · exact h
      · split
        · split
          · exact h.trans (CloseFrame.of_openExceedance ..)
          · exact h
        · split
          · exact h.trans (CloseFrame.of_updExcRecord ..)
          · exact h.trans (CloseFrame.of_closeExceedance ..)

theorem CloseFrame.of_correct (s : State) (r : ReceptorId) : CloseFrame s (s.correct r) := by
  unfold State.correct
  split
  · exact CloseFrame.refl s
  · exact (CloseFrame.of_updReceptor s r _).trans ((CloseFrame.of_triggerIf ..).trans (CloseFrame.of_updReceptor ..))

/-- The close of a receptor changes the receptors, the exceedance table, the engine, the arbiter, the notice queue and the witness transmitter
alone. -/
theorem CloseFrame.of_closeReceptor (handed : List (Level × Nat)) (minute : Nat) (s : State) (r : ReceptorId) :
    CloseFrame s (s.closeReceptor handed minute r) := by
  unfold State.closeReceptor
  split
  · exact CloseFrame.refl s
  · exact (CloseFrame.of_setReceptor s r _).trans <| (CloseFrame.of_send ..).trans <| (CloseFrame.of_correct ..).trans <|
      CloseFrame.of_judge ..

theorem CloseFrame.of_residualHandOff (s : State) (r : ReceptorId) (level : Level) : CloseFrame s (s.residualHandOff r level) := by
  unfold State.residualHandOff
  split
  · split
    · exact CloseFrame.of_updReceptor ..
    · exact CloseFrame.refl s
  · exact CloseFrame.refl s

end Sys2Proof.Machine
end

