-- ==== Sys2Proof/Tests/Slice0.lean ====
section
/-! SUPPORT. Tests: the refusals of WellFormed, the manual's worked examples, and for each statement a state that meets its hypotheses. -/

namespace Sys2Proof.Tests

open Sys2Proof.Machine

set_option Elab.async false

/-- A ZONE write of zone 1 with the default ramp rate and margin. -/
def zoneOne (bps : List (Nat × Nat × Nat)) : ZoneArgs :=
  { zone := 1, rampRate := 10, recoveryMargin := 30, breakpoints := bps.map fun b => { minute := b.1, limit := b.2.1, curfew := b.2.2 } }

/-- A SITE write of the default values but for the age time and the CLAMP enable. -/
def siteArgs (age clamp : Nat) : SiteArgs :=
  { blindMargin := 30
    correctionRise := 10
    correctionFall := 5
    tolerance := 10
    overLimit := 8
    releaseCount := 20
    staleTime := 3
    ageTime := age
    handoverTime := 8
    discardTime := 8
    stationReply := 1
    minute := 1
    exceedance := 1
    ceiling := 1
    clamp := clamp }

/-! ### WellFormed: one ill-formed term for each check -/

theorem test_wf_station_address_0 : (Instr.stationReply 0 500 0).wellFormed = false := by decide
theorem test_wf_station_address_32 : (Instr.stationReply 32 500 0).wellFormed = false := by decide
theorem test_wf_station_level : (Instr.stationReply 1 65536 0).wellFormed = false := by decide
theorem test_wf_station_flags : (Instr.stationReply 1 500 256).wellFormed = false := by decide
theorem test_wf_link_has_no_address : (Instr.frameDiscarded (.link 1) .address).wellFormed = false := by decide
theorem test_wf_unknown_kind_listed : (Instr.unknownKind 0 1 0x10).wellFormed = false := by decide
theorem test_wf_unknown_kind_byte : (Instr.unknownKind 0 1 256).wellFormed = false := by decide
theorem test_wf_tag : (Instr.identify 0 256).wellFormed = false := by decide
theorem test_wf_enrol_check : (Instr.enrol 1 0 (.whole { identity := 0, check := 256 })).wellFormed = false := by decide
theorem test_wf_report_level : (Instr.report 1 0 (.whole { level := 65536, serial := 0 })).wellFormed = false := by decide
theorem test_wf_report_serial : (Instr.report 1 0 (.whole { level := 0, serial := 65536 })).wellFormed = false := by decide
theorem test_wf_forecast_entry : (Instr.forecast 1 0 (.whole [1, 256])).wellFormed = false := by decide
theorem test_wf_forecast_length : (Instr.forecast 1 0 (.whole (List.replicate 58 1))).wellFormed = false := by decide
theorem test_wf_clock_minute : (Instr.setClock 0 0 (.whole { minute := 65536, second := 0 })).wellFormed = false := by decide
theorem test_wf_clock_second : (Instr.setClock 0 0 (.whole { minute := 0, second := 256 })).wellFormed = false := by decide
theorem test_wf_zone_breakpoint_limit : (Instr.tableWriteZone 0 0 (.whole (zoneOne [(0, 65536, 0)]))).wellFormed = false := by decide
theorem test_wf_zone_breakpoint_count : (Instr.tableWriteZone 0 0 (.whole (zoneOne (List.replicate 11 (0, 0, 0))))).wellFormed = false := by
  decide
theorem test_wf_site_age : (Instr.tableWriteSite 0 0 (.whole (siteArgs 65536 1))).wellFormed = false := by decide
theorem test_wf_site_enable : (Instr.tableWriteSite 0 0 (.whole (siteArgs 60 256))).wellFormed = false := by decide
theorem test_wf_receptor_floor :
    (Instr.tableWriteReceptor 0 0 (.whole { receptor := 1, address := 1, zone := 1, floor := 65536 })).wellFormed = false := by decide
theorem test_wf_stage_kind :
    (Instr.tableWriteStage 0 0 (.whole { slot := 1, kind := 256, identity := .absent, weight := 1, stageMax := 0 })).wellFormed = false := by
  decide
theorem test_wf_path_loss : (Instr.tableWritePath 0 0 (.whole { slot := 1, receptor := 1, loss := 65536 })).wellFormed = false := by decide
theorem test_wf_path_key : (Instr.tableFindPath 0 0 (.whole { slot := 256, receptor := 1 })).wellFormed = false := by decide
theorem test_wf_ring_part : (Instr.tableReadRing 0 0 (.whole { receptor := 1, part := 256 })).wellFormed = false := by decide
theorem test_wf_cap : (Instr.pushCap 0 0 (.whole { slot := 1, cap := 65536 })).wellFormed = false := by decide
theorem test_wf_mask : (Instr.setAttentionMask 0 0 (.whole (Vector.replicate 10 256))).wellFormed = false := by decide
theorem test_wf_one_byte : (Instr.evict 0 0 (.whole 256)).wellFormed = false := by decide
theorem test_wf_no_table_elsewhere : (Instr.tableFindZone 0 0 .noTable).wellFormed = false := by decide
theorem test_wf_no_table_of_site : (Instr.tableFindSite 0 0 .noTable).wellFormed = true := by decide
theorem test_wf_accepts_limits : (Instr.report 8 255 (.whole { level := 65535, serial := 65535 })).wellFormed = true := by decide

/-- No row of the table has bits, so a word spells no command. -/
theorem test_decode_no_words : decodeTableWord 8 0 = none ∧ (State.reset.withFetchWord 8 0) = State.reset := by decide +kernel

/-! ### Bytes (R153, R154, R163, R165) -/

/-- The CRC over the digits 1 to 9. PRESUMED: 0x29B1 is the known check value of the CRC that R154 describes; the manual gives none. -/
theorem test_crc_check_value :
    crc16 [0x31#8, 0x32#8, 0x33#8, 0x34#8, 0x35#8, 0x36#8, 0x37#8, 0x38#8, 0x39#8] = 0x29B1#16 := by decide +kernel
theorem test_body_report : requestBody (.report 5 7 (.whole { level := 940, serial := 4 })) = some [0x02#8, 0x07#8, 0x03#8, 0xAC#8, 0x00#8, 0x04#8] := by
  decide +kernel
theorem test_body_push_cap : requestBody (.pushCap 0 1 (.whole { slot := 2, cap := 900 })) = some [0x20#8, 0x01#8, 0x02#8, 0x03#8, 0x84#8] := by
  decide +kernel
theorem test_body_enrol :
    requestOf 3 [0x01#8, 0x09#8, 0x00#8, 0x00#8, 0x00#8, 0x00#8, 0x01#8, 0x02#8, 0x55#8] =
      some (.enrol 3 9 (.whole { identity := 258, check := 0x55 })) := by decide +kernel
theorem test_body_forecast :
    requestOf 3 [0x05#8, 0x09#8, 0x02#8, 0x01#8, 0x08#8] = some (.forecast 3 9 (.whole [1, 8])) := by decide +kernel
theorem test_body_set_clock :
    requestOf 0 [0x12#8, 0x01#8, 0x05#8, 0x9F#8, 0x3B#8] = some (.setClock 0 1 (.whole { minute := 1439, second := 59 })) := by decide +kernel
theorem test_body_read_path : requestOf 0 [0x1B#8, 0x01#8, 0x05#8, 0x3F#8] = some (.tableReadPath 0 1 (.whole 63)) := by decide +kernel
theorem test_body_write_stage :
    requestOf 0 [0x18#8, 0x01#8, 0x04#8, 0x03#8, 0x00#8, 0x00#8, 0x02#8, 0x04#8, 0x1A#8] =
      some (.tableWriteStage 0 1 (.whole { slot := 3, kind := 0, identity := .absent, weight := 2, stageMax := 1050 })) := by decide +kernel
/-- R155: a bad LENGTH ends its frame at that byte, and the search goes on at the byte after it. -/
theorem test_stream :
    (Reception.takeAll judgeLink .hunting ([0x00#8, 0xC5#8, 0x01#8] ++ frame [0x10#8, 0x07#8])).2 =
      [.begun, .discarded 0, .begun, .accepted [0x10#8, 0x07#8]] ∧
    (Reception.takeAll judgeBus .hunting [0xC5#8, 0x04#8, 0x20#8]).2 = [.begun, .discarded 1] := by decide +kernel
theorem test_body_too_short : requestOf 5 [0x02#8, 0x07#8, 0x03#8, 0xAC#8, 0x00#8] = some (.report 5 7 .short) := by decide +kernel
theorem test_body_unknown : requestOf 5 [0x7E#8, 0x07#8] = some (.unknownKind 5 7 0x7E) := by decide +kernel

/-! ### Level arithmetic: Tables 1-3, 1-5, 1-6, R10, R12, 3.8, 4.2.1 -/

theorem test_power_sum_equal : powerSum 600 600 = 630 := by decide
theorem test_power_sum_195 : powerSum 700 505 = 701 ∧ powerSum 700 500 = 700 := by decide
theorem test_fold_order : foldLevels [600, 620, 590] = some 653 ∧ foldLevels [590, 620, 600] = some 656 := by decide
theorem test_mean_toward_zero : meanTowardZero (-70) 12 = -5 ∧ meanTowardZero 240 15 = 16 ∧ meanTowardZero (-11) 12 = 0 := by decide
theorem test_limited_steps : limitedStep 0 16 10 5 = 10 ∧ limitedStep 10 12 10 5 = 12 ∧ limitedStep 12 0 10 5 = 7 := by decide
theorem test_minute_level : foldLevels (List.replicate 26 500) = some 646 ∧ averageOfFold 646 26 = 505 := by decide +kernel
theorem test_level_15 : foldLevels (List.replicate 10 505) = some 608 ∧ averageOfFold 608 10 = 508 := by decide

/-! ### States -/

/-- The state a command leaves. -/
def after (c : Instr) (s : State) : State :=
  match exec c s with
  | .next t => t
  | _ => s

/-- The answer a request leaves in the buffer of its link. -/
def answer (c : Instr) (s : State) : Option Answer := ((after c s).link (requestPort c)).buffer.map (·.answer)

/-- The same state with every buffer FREE. -/
def freed (s : State) : State := { s with links := Vector.replicate 9 linkAtReset }

/-- In SETUP, nothing loaded. -/
def bare : State := { State.reset with mode := .setup, loader := .ended }

/-- In BOOT, the load running. -/
def loading : State := { State.reset with loader := .loading }

/-- A bound OPEN slot. -/
def bound (id : Identity) (p : Port) : Slot := { slotDefault with identity := some id, port := some p, state := .quiet, reportAge := some 900 }

/-- The street of section 7.7 at its start: Tables 7-3 to 7-5. Slot 5 is an unbound FIXED slot; receptor 3 is no one's. -/
def street : State :=
  { bare with
    mode := .enforce
    clock := { ms := 0, minute := 1320, second := 10, isSet := true }
    zones := ((Vector.replicate 4 zoneDefault).set 0
      { zoneDefault with breakpoints := [{ minute := 480, limit := 650, curfew := false }], licence := 650, effective := 650, inForce := some 1 }).set 1
      { zoneDefault with
        breakpoints := [{ minute := 480, limit := 550, curfew := false }, { minute := 1380, limit := 450, curfew := true }]
        licence := 550
        effective := 550
        inForce := some 1 }
    receptors := (((Vector.replicate 16 none).set 0
      (some { receptorCreated 11 0 400 with station := .active, correction := 20, accumulator := some { level := 646, count := 26 } })).set 1
      (some { receptorCreated 12 1 400 with station := .active })).set 2 (some (receptorCreated 31 0 400))
    slots := ((((Vector.replicate 8 slotDefault).set 0
      { bound 1 1 with state := .live, weight := 2, published := 1012, previous := 1030, serial := 40, lastLevel := some 1000 }).set 1
      { bound 2 2 with state := .live, published := 962, previous := 975, serial := 11, lastLevel := some 960 }).set 2
      { bound 3 3 with serial := 3 }).set 4 { slotDefault with kind := .fixed, identity := some 9, state := .quiet }
    paths := ((((Vector.replicate 64 none).set 0 (some { slot := 0, receptor := 0, loss := 400 })).set 1
      (some { slot := 0, receptor := 1, loss := 470 })).set 2 (some { slot := 1, receptor := 0, loss := 380 })).set 3
      (some { slot := 2, receptor := 1, loss := 450 }) }

/-- The street with slot 3 settled QUIET at its age time. -/
def aged : State := street.updSlot 2 fun x => { x with reportAge := some 60000 }

/-- Pass A of section 7.7 in flight. -/
def passA : State := freed (after (.goLive 3 7) street)

/-- The head in CONFIRMING, pass A published. -/
def confirming : State := after .recalculationPassEnd passA

/-- The same tables in SETUP, every slot QUIET. -/
def planned : State :=
  { street with
    mode := .setup
    slots := (street.slots.set 0 { bound 1 1 with weight := 2 }).set 1 (bound 2 2) }

/-- The street with a poll of receptor 1 awaiting its reply. -/
def polled : State := { street with poller := { poll := some { receptor := 0, address := 11, second := 10, wait := some 40 }, receiver := .hunting } }

/-- The street with an open exceedance of receptor 1. -/
def exceeded : State :=
  { street with
    receptors := street.receptors.set 0 (some { receptorCreated 11 0 400 with station := .active, level15 := some 651, exceedance := some 0 })
    exceedances :=
      { records := (Vector.replicate 32 none).set 0
          (some { state := .opened, receptor := 0, zone := 0, openedAt := 1300, closedAt := none, cause := none, limit := 650, peak := 660,
                  minutesAbove := 20, liveAtOpening := [0], stagesOver := [] })
        created := [0] } }

theorem street_boot : street.BootSound := by decide +kernel
theorem street_bindings : street.BindingsSound := by decide +kernel
theorem street_queue : street.QueueSound := by decide +kernel
theorem street_handover : street.HandoverSound := by decide +kernel
theorem street_admission : street.AdmissionSound := ⟨street_boot, street_bindings, street_queue, street_handover⟩
theorem passA_admission : passA.AdmissionSound := by
  and_intros <;> decide +kernel
theorem confirming_admission : confirming.AdmissionSound := by
  and_intros <;> decide +kernel
theorem street_stages : street.StagesSound := by
  refine ⟨street_admission, ?_, ?_, ?_⟩ <;> decide +kernel
theorem passA_stages : passA.StagesSound := by
  refine ⟨passA_admission, ?_, ?_, ?_⟩ <;> decide +kernel
theorem planned_stages : planned.StagesSound :=
  by and_intros <;> decide +kernel

/-! ### Worked examples and small cases, one step each -/

/-- Section 7.7.1: slot 3 becomes ENTERING; pass A publishes 1002 for slot 1, keeps 962, and gives a prospective ceiling of 952. -/
theorem test_pass_a :
    (confirming.slot 0).published = 1002 ∧ (confirming.slot 0).previous = 1012 ∧ (confirming.slot 0).serial = 41 ∧
    (confirming.slot 1).published = 962 ∧ (confirming.slot 1).serial = 11 ∧ (confirming.slot 2).published = 0 ∧
    (confirming.slot 2).prospective = some 952 ∧ (confirming.slot 0).debt = true ∧ (confirming.slot 1).debt = false ∧
    confirming.arbiter.phase = some .confirming ∧ confirming.arbiter.timer = some 8000 := by decide +kernel
/-- Section 7.7.1: the limit source of slot 1 is receptor 2, with a budget of 550, a counted weight of 3 and a loss of 470. -/
theorem test_pass_a_source :
    passA.capture.limitTerm passA.capture.recalculationSet 0 = some { receptor := 1, q := 1002, budget := 550, weight := 3, loss := 470 } := by
  decide +kernel
/-- Section 7.7.3: slot 1 confirms with serial 41 at 1000, and slot 3 is admitted. -/
theorem test_confirmation :
    let t := after (.report 1 9 (.whole { level := 1000, serial := 41 })) confirming
    (t.slot 0).debt = false ∧ (t.slot 2).state = .live ∧ (t.slot 2).prospective = none ∧ t.arbiter.queue = [] ∧
    t.arbiter.timer = none ∧ t.arbiter.phase = none := by decide +kernel
theorem test_handover_expiry :
    let t := after .handoverTimerExpiry confirming
    (t.slot 0).causes.hasHandover = true ∧ (t.slot 0).debt = false ∧ (t.slot 0).lineAsserted = true ∧ (t.slot 2).outcome = .granted := by
  decide +kernel
/-- Table 7-9: at an effective limit of 450 and a fade offset of 250, the Q values of slots 1 and 3 at receptor 2 are 652 and 602. -/
theorem test_curfew_q_values :
    let s := passA.setZone 1 { passA.zone 1 with licence := 450, effective := 450, state := .fading, fade := 250 }
    let c := s.capture
    let x : ReceptorCapture := { receptor := 1, zone := 1, correction := 0, exceeded := false, blind := false }
    c.qValue [0, 2] 0 x 470 = 652 ∧ c.qValue [0, 2] 2 x 450 = 602 := by decide +kernel
/-- Section 4.2.1: the predicted level is 621; with slot 2 stale it is 625. -/
theorem test_predicted_level :
    street.predictedLevel 0 = some 621 ∧
    (street.setSlot 1 { street.slot 1 with stale := true }).predictedLevel 0 = some 625 := by decide +kernel
/-- Section 4.2.1: a reply of 640 adds a residual of 19. -/
theorem test_station_reply_residual :
    ((after (.stationReply 11 640 0) polled).receptor 0).map (·.residual) = some { sum := 19, count := 1 } := by decide +kernel
theorem test_station_reply_takes_1400 :
    ((after (.stationReply 11 2000 1) polled).receptor 0).map (·.lastLevel) = some (some 1400) := by decide +kernel
theorem test_station_fault_before_wind : ((after (.stationReply 11 640 5) polled).receptor 0).map (·.misses) = some 1 := by decide +kernel
theorem test_station_other_address : ((after (.stationReply 12 640 0) polled).receptor 0).map (·.misses) = some 1 := by decide +kernel
theorem test_timeout_goes_on : (after .stationReplyTimeout polled).poller.poll =
    some { receptor := 1, address := 12, second := 10, wait := none } := by decide +kernel
/-- Section 2.6.4: at minute 1380 zone 2 becomes FADING; its first ramp and fade steps fall at the same boundary. -/
theorem test_curfew_minute :
    let t := after .minuteBoundary { street with clock := { ms := 0, minute := 1379, second := 59, isSet := true } }
    (t.zone 1).state = .fading ∧ (t.zone 1).fade = 10 ∧ (t.zone 1).effective = 540 ∧ (t.zone 1).licence = 450 ∧ (t.zone 1).grace = 14 := by
  decide +kernel
/-- Section 2.6.4: the fade ends at 600 and the zone is SILENCED. -/
theorem test_fade_ends :
    let t := after .secondBoundary (street.setZone 1 { street.zone 1 with licence := 450, effective := 450, state := .fading, fade := 590 })
    (t.zone 1).state = .silenced ∧ (t.zone 1).fade = 600 := by decide +kernel
/-- Section 3.8: 26 levels of 500 close as a minute level of 505. -/
theorem test_minute_close :
    ((after .minuteBoundary street).receptor 0).map (·.ring) = some [{ minute := 1320, level := some 505, count := 26 }] := by decide +kernel
/-- Table 6-3, reports 1 and 2: an old serial is judged against the higher ceiling. -/
theorem test_report_old_serial :
    let s := street.setSlot 1 { street.slot 1 with published := 900, previous := 962, serial := 15 }
    ((after (.report 2 1 (.whole { level := 955, serial := 14 })) s).slot 1).goodCount = 1 ∧
    ((after (.report 2 1 (.whole { level := 955, serial := 15 })) s).slot 1).overCount = 1 := by decide +kernel
/-- Table 6-3, report 9: the eighth over report adds OVER and asserts the line. -/
theorem test_report_over_limit :
    let s := street.setSlot 1 { street.slot 1 with published := 900, previous := 962, serial := 15, overCount := 7 }
    ((after (.report 2 1 (.whole { level := 955, serial := 15 })) s).slot 1).causes.hasOver = true ∧
    (after (.report 2 1 (.whole { level := 955, serial := 15 })) s).clampLineOfPort 2 = true := by decide +kernel
theorem test_push_cap_top : answer (.pushCap 0 1 (.whole { slot := 2, cap := 1401 })) street =
    some (.doneAdjusted true (.capPushed 1 1400)) := by decide +kernel
theorem test_pop_cap_empty : answer (.popCap 0 1 (.whole 2)) street = some (.refused .stackEmpty) := by decide +kernel
theorem test_go_live_pending : answer (.goLive 3 7) street = some (.withStatus .pending (.position 1)) := by decide +kernel
theorem test_go_live_granted : answer (.goLive 2 7) street = some (.withStatus .granted (.granted 962 11)) := by decide +kernel
theorem test_go_quiet_live : answer (.goQuiet 2 7) street = some (.done (.slotState .quiet)) := by decide +kernel
theorem test_force_quiet_outcome : ((after (.forceQuiet 0 7 (.whole 2)) street).slot 1).outcome = .forcedQuiet := by decide +kernel
theorem test_evict_live : answer (.evict 0 7 (.whole 2)) street = some (.refused .notQuiet) := by decide +kernel
theorem test_evict_paths : (after (.evict 0 7 (.whole 3)) street).path 3 = none := by decide +kernel
/-- R81: at an age time of 60 s the slot ages out at 60000 ms and not before. -/
theorem test_age_out :
    ((after (.ageOut 2) aged).slot 2).state = .empty ∧ (after (.ageOut 2) aged).path 3 = none ∧ after (.ageOut 2) street = street := by decide +kernel
/-- R81, R135: a withdrawn slot past its age time ages out, one settled QUIET before is left alone, and one removed at curfew ages out too. -/
theorem test_age_out_after_leaving :
    let s := freed (after (.goLive 3 7) aged)
    answer (.goQuiet 3 8) s = some (.done (.slotState .quiet)) ∧ ((after (.goQuiet 3 8) s).slot 2).state = .empty ∧
    ((after (.goQuiet 3 8) aged).slot 2).state = .quiet ∧ ((s.curfewZone 1).slot 2).state = .empty := by decide +kernel
/-- R94: at a stale time of 3 s a slot is stale at 3000 ms and not before; R88: a REPORT taken first leaves it current. -/
theorem test_stale :
    let s := street.setSlot 2 { street.slot 2 with reportAge := some 3000 }
    let t := after (.report 3 7 (.whole { level := 900, serial := 11 })) s
    ((after (.staleTimeExpiry 2) s).slot 2).causes.hasStale = true ∧ ((after (.staleTimeExpiry 2) s).slot 2).reportAge = some 3000 ∧
    after (.staleTimeExpiry 2) street = street ∧ (t.slot 2).reportAge = some 0 ∧ after (.staleTimeExpiry 2) t = t := by decide +kernel
theorem test_enrol_fixed : answer (.enrol 4 1 (.whole { identity := 9, check := 7 })) street = some (.done (.enrolled 4 1 1050 7)) := by decide +kernel
theorem test_enrol_lowest : answer (.enrol 4 1 (.whole { identity := 77, check := 7 })) street = some (.done (.enrolled 3 1 1050 7)) := by decide +kernel
theorem test_enrol_duplicate : answer (.enrol 4 1 (.whole { identity := 1, check := 7 })) street =
    some (.refusedWith .duplicate (.enrolCheck 7)) := by decide +kernel
theorem test_forecast_computing : answer (.forecast 0 1 (.whole [3, 1, 3])) street = some (.withStatus .defer (.defer 2 true)) := by decide +kernel
theorem test_forecast_result :
    (after .forecastPassEnd (after (.forecast 0 1 (.whole [3, 1, 2])) street)).latch =
      .ready 0 [0, 1, 2] [(0, 1002), (1, 962), (2, 952)] 1320 10 8000 := by decide +kernel
theorem test_discard : (after .discardTimerExpiry { street with latch := .ready 3 [2] [] 1 2 0 }).latch = .empty := by decide +kernel
theorem test_identify : answer (.identify 0 1) street = some (.done (.identify 816 1 .enforce true .powerOn)) := by decide +kernel
theorem test_site_status_part_4 : answer (.siteStatus 0 1 (.whole 4)) street = some (.refused .noSuch) := by decide +kernel
theorem test_set_clock_clamps : (after (.setClock 0 1 (.whole { minute := 2000, second := 99 })) planned).clock =
    { ms := 0, minute := 1439, second := 59, isSet := true } := by decide +kernel
theorem test_enforce_needs_clock : answer (.enterEnforce 0 1) bare = some (.refused .clockUnset) := by decide +kernel
theorem test_enforce : (after (.enterEnforce 0 1) planned).mode = .enforce := by decide +kernel
theorem test_setup_needs_quiet : answer (.returnToSetup 0 1) street = some (.refused .notQuiet) := by decide +kernel
theorem test_warm_restart : answer (.warmRestart 0 1) planned = some (.done .none) := by decide +kernel
theorem test_warm_restart_reply_sent : (after (.replySent 0) (after (.warmRestart 0 1) planned)).startKind = .warmRestart := by decide +kernel
theorem test_warm_restart_taken : (after .warmRestartTaken (after (.warmRestart 0 1) planned)).clock = planned.clock := by decide +kernel
theorem test_site_loosens : answer (.tableDeleteSite 0 1 (.whole ())) street = some (.refused .isProtected) := by decide +kernel
theorem test_site_read : answer (.tableReadSite 0 1 (.whole ())) street = some (.done (.site siteDefault)) := by decide +kernel
theorem test_site_find : answer (.tableFindSite 0 1 .noTable) street = some (.refused .noSuch) := by decide +kernel
/-- Section 2.6.5: a lowered limit is taken in ENFORCE with a grace count of 15, and a raised one is refused. -/
theorem test_zone_lowered :
    let w (limit : Nat) : Instr := .tableWriteZone 0 1 (.whole (zoneOne [(480, limit, 0)]))
    ((after (w 620) street).zone 0).licence = 620 ∧ ((after (w 620) street).zone 0).grace = 15 ∧
    answer (w 660) street = some (.refused .isProtected) := by decide +kernel
theorem test_zone_duplicate : answer (.tableWriteZone 0 1 (.whole (zoneOne [(1, 5, 0), (1, 5, 0)]))) planned =
    some (.refused .duplicate) := by decide +kernel
theorem test_zone_delete_used : answer (.tableDeleteZone 0 1 (.whole 1)) planned = some (.refused .notEmpty) := by decide +kernel
theorem test_zone_find : answer (.tableFindZone 0 1 (.whole 4)) street = some (.done (.zone zoneDefault)) := by decide +kernel
theorem test_zone_read_5 : answer (.tableReadZone 0 1 (.whole 5)) street = some (.refused .noSuch) := by decide +kernel
theorem test_receptor_write_duplicate : answer (.tableWriteReceptor 0 1 (.whole { receptor := 4, address := 11, zone := 1, floor := 0 })) street =
    some (.refused .duplicate) := by decide +kernel
theorem test_receptor_write_new : (after (.tableWriteReceptor 0 1 (.whole { receptor := 16, address := 1, zone := 2, floor := 9999 })) street).receptor 15 =
    some (receptorCreated 1 1 1400) := by decide +kernel
theorem test_receptor_delete_named : answer (.tableDeleteReceptor 0 1 (.whole 1)) planned = some (.refused .notEmpty) := by decide +kernel
theorem test_receptor_delete : (after (.tableDeleteReceptor 0 1 (.whole 3)) planned).receptor 2 = none := by decide +kernel
theorem test_receptor_find : answer (.tableFindReceptor 0 1 (.whole 4)) street = some (.refused .noSuch) := by decide +kernel
theorem test_receptor_read : answer (.tableReadReceptor 0 1 (.whole 3)) street = some (.done (.receptor (receptorCreated 31 0 400))) := by decide +kernel
theorem test_stage_write_bound_kind :
    answer (.tableWriteStage 0 1 (.whole { slot := 3, kind := 1, identity := .present 3, weight := 1, stageMax := 1050 })) planned =
      some (.refused .portBusy) := by decide +kernel
theorem test_stage_write_fixed :
    ((after (.tableWriteStage 0 1 (.whole { slot := 8, kind := 1, identity := .present 44, weight := 9, stageMax := 1050 })) planned).slot 7).weight = 4 := by
  decide +kernel
theorem test_stage_delete : ((after (.tableDeleteStage 0 1 (.whole 5)) planned).slot 4) = slotDefault := by decide +kernel
theorem test_stage_find : answer (.tableFindStage 0 1 (.whole 9)) street = some (.done (.slotNumber 4)) := by decide +kernel
theorem test_stage_read : answer (.tableReadStage 0 1 (.whole 8)) street = some (.done (.stage 7 slotDefault)) := by decide +kernel
theorem test_path_write_raise : answer (.tableWritePath 0 1 (.whole { slot := 1, receptor := 1, loss := 401 })) street = some (.refused .isProtected) := by
  decide +kernel
theorem test_path_write_new : answer (.tableWritePath 0 1 (.whole { slot := 3, receptor := 1, loss := 1201 })) street =
    some (.doneAdjusted true (.pathPosition 4)) := by decide +kernel
theorem test_path_delete : (after (.tableDeletePath 0 1 (.whole { slot := 1, receptor := 2 })) planned).path 1 = none := by decide +kernel
theorem test_path_find : answer (.tableFindPath 0 1 (.whole { slot := 3, receptor := 2 })) street = some (.done (.pathFound 3 450)) := by decide +kernel
theorem test_path_read_free : answer (.tableReadPath 0 1 (.whole 63)) street = some (.refused .noSuch) := by decide +kernel
theorem test_exceedance_write : answer (.tableWriteExceedance 0 1 (.whole 0)) planned = some (.refused .isProtected) := by decide +kernel
theorem test_exceedance_delete : answer (.tableDeleteExceedance 0 1 (.whole 0)) planned = some (.refused .isProtected) := by decide +kernel
theorem test_exceedance_find : answer (.tableFindExceedance 0 1 (.whole 1)) exceeded = some (.done (.excPosition 0)) := by decide +kernel
theorem test_exceedance_read_32 : answer (.tableReadExceedance 0 1 (.whole 32)) exceeded = some (.refused .noSuch) := by decide +kernel
theorem test_ring_write : answer (.tableWriteRing 0 1 (.whole 1)) planned = some (.refused .isProtected) := by decide +kernel
theorem test_ring_delete : answer (.tableDeleteRing 0 1 (.whole 1)) planned = some (.refused .isProtected) := by decide +kernel
theorem test_ring_find : answer (.tableFindRing 0 1 (.whole 1)) street = some (.done .none) := by decide +kernel
theorem test_ring_part_3 : answer (.tableReadRing 0 1 (.whole { receptor := 1, part := 3 })) street = some (.refused .noSuch) := by decide +kernel
theorem test_clear_ring : answer (.tableClear 0 1 (.whole 7)) planned = some (.refused .isProtected) := by decide +kernel
theorem test_clear_path : (after .tableClearCompletion (after (.tableClear 0 1 (.whole 5)) planned)).path 0 = none := by decide +kernel
theorem test_force_clamp : answer (.forceClamp 0 1 (.whole 5)) street = some (.done (.causes { causesNone with hasConsole := true })) := by decide +kernel
theorem test_release_clamp : answer (.releaseClamp 0 1 (.whole 5)) street = some (.done (.causes causesNone)) := by decide +kernel
theorem test_read_notices_empty : answer (.readNotices 0 1 (.whole 9)) street = some (.doneAdjusted true (.notices [] 0 false)) := by decide +kernel
theorem test_mask : answer (.setAttentionMask 0 1 (.whole (Vector.replicate 10 2))) street = some (.refused .noSuch) := by decide +kernel
theorem test_save : (after .saveEnd (after (.saveSettings 0 1) bare)).settings.read 0x0001 = 30#8 := by decide +kernel
theorem test_save_marker :
    (after (.saveWriteTimeout .site 14 false) (after (.saveSettings 0 1) bare)).settings.read 0 = 0x00#8 ∧
    (after (.saveWriteTimeout .site 14 true) (after (.saveSettings 0 1) bare)).settings.read 0 = 0x5A#8 := by decide +kernel
theorem test_load_empty : (after .settingsLoadEnd loading).mode = .setup := by decide +kernel
theorem test_memory_absent : (after .memoryNotAnswering loading).notices.notices = [.site .memoryAbsent] := by decide +kernel
theorem test_reset_release : (after .resetRelease State.reset).loader = .loading := by decide +kernel
theorem test_power_on : (after .powerOnReset street).clock = clockAtReset := by decide +kernel
theorem test_pin : (after .pinReset street).startKind = .pin := by decide +kernel
theorem test_frame_begun : ((after (.frameBegun (.link 8)) street).link 8).receiver = .receiving := by decide +kernel
theorem test_gap_on_bus : (after (.interByteGap .bus) polled).poller = polled.poller := by decide +kernel
theorem test_frame_discarded_on_bus : ((after (.frameDiscarded .bus .address) polled).receptor 0).map (·.misses) = some 1 := by decide +kernel
theorem test_bad_frame_without_poll : after .badFrame street = street := by decide +kernel
theorem test_poll_sent :
    (after .pollSent { polled with poller := { poll := some { receptor := 0, address := 11, second := 10, wait := none }, receiver := .hunting } }).poller =
      polled.poller := by decide +kernel
theorem test_witness_entry_sent : (after .witnessEntrySent { street with witness := { fifo := [.gap 1 2 3], gapPending := true, drops := 4, firstDrop := some (5, 6) } }).witness =
    { fifo := [.gap 4 5 6], gapPending := false, drops := 0, firstDrop := none } := by decide +kernel
/-- Table 10-5, event 5: a frame that finds the buffer HELD is discarded. -/
theorem test_frame_while_held :
    let s := after (.goLive 2 10) street
    after (.report 2 11 (.whole { level := 940, serial := 11 })) s = s ∧ after (.frameWhileHeld 2) s = s := by decide +kernel
theorem test_unknown_kind : answer (.unknownKind 3 1 0x7E) street = some (.withStatus .unknownKind (.kindReceived 0x7E)) := by decide +kernel
theorem test_idle_step : (match step bare with
    | .next t => t.clock.ms
    | _ => 0) = 1 := by decide +kernel

/-! ### Witnesses: for each statement with hypotheses, states and operands that meet them together -/

/-- The street with a command waiting: a step answers a next state. -/
theorem witness_step : ∃ t, step { street with pending := [.goLive 3 7] } = .next t := ⟨_, rfl⟩
theorem witness_StepRunsTheFrontCommand :
    ({ bare with pending := [.identify 0 1, .secondBoundary] } : State).pending = .identify 0 1 :: [.secondBoundary] := rfl
theorem witness_IdleStepIsOneMillisecond :
    State.reset.pending = [] ∧ State.reset.loader = .held ∧ bare.pending = [] ∧ bare.loader ≠ .held ∧ bare.poller.poll = none ∧
    (∀ i, (bare.slot i).port = none) ∧ bare.arbiter.timer = none ∧ bare.latch = .empty ∧ bare.engine.activity = .idle ∧ bare.table = .idle ∧
    bare.clock.ms < 999 := by decide +kernel
theorem witness_FramesArriveAsSent :
    (List.replicate 2 (0#8)).length = 2 ∧ (List.replicate 60 (0xC5#8)).length = 60 ∧ 65535 < 65536 ∧ 255 < 256 ∧ (0#8) ≠ sync ∧
    [0#8, 0#8] ≠ crcBytes (u8 2 ++ [0#8, 0#8]) ∧ [0#8, 0#8] ≠ crcBytes (u8 2 ++ u8 31 ++ [0#8, 0#8]) ∧ (61#8).toNat = 61 ∧ (32#8).toNat = 32 := by
  decide +kernel
theorem witness_RequestsDecodeAsEncoded :
    (Instr.tableReadPath 0 255 (.whole 63)).wellFormed = true ∧
    requestBody (.tableReadPath 0 255 (.whole 63)) = some [0x1B#8, 0xFF#8, 0x05#8, 0x3F#8] := by decide +kernel
theorem witness_StepKeepsClockAndModeSound : street.clock.InRange ∧ street.BootSound ∧ State.reset.BootSound := by
  exact ⟨by decide +kernel, street_boot, by decide +kernel⟩
theorem witness_StepKeepsZonesAndSlotsInRange : street.ZonesSound ∧ passA.SlotsInRange ∧ street.site.InRange := by
  and_intros <;> decide +kernel
theorem witness_StepKeepsReceptorsAndRecordsSound : exceeded.BootSound ∧ exceeded.ReceptorsSound ∧ exceeded.ExceedancesSound ∧
    exceeded.clock.InRange ∧ exceeded.SlotsInRange := by
  and_intros <;> decide +kernel
theorem witness_StepKeepsAdmissionSound : confirming.AdmissionSound := confirming_admission
theorem witness_StepKeepsStagesSound : passA.StagesSound := passA_stages
theorem witness_StepKeepsEngineQueuesAndMemorySound :
    passA.EngineSound ∧ passA.notices.Sound ∧ passA.witness.Sound ∧ Memory.wf [(0, 0x5A#8), (65535, 1#8)] = true := by
  and_intros <;> decide +kernel
theorem witness_RepliesFitSixtyBytes : street.ZonesSound ∧ street.ReceptorsSound ∧ street.SlotsInRange ∧ street.AdmissionSound ∧ street.RepliesFit := by
  refine ⟨?_, ?_, ?_, street_admission, ?_⟩ <;> decide +kernel
theorem witness_HardResets : bare.table ≠ .saving [] ∧ (after (.saveSettings 0 1) bare).table = .saving bare.captureSettings := by decide +kernel
theorem witness_StartWithoutSettings :
    loading.loader = .loading ∧ loading.BootSound ∧ ∀ sec ∈ allSections, loading.settings.read (sectionOffset sec) ≠ 0x5A#8 :=
  ⟨rfl, by decide +kernel, by decide +kernel⟩
/-- A SITE section of eleven zeros with a CRC of zero, and a RECEPTORS section with a count of 17, are BAD. -/
theorem witness_StartWithBadSection :
    (∀ n ∈ sectionLength [(0, 0x5A#8)] .site, Memory.bytes [(0, 0x5A#8)] (1 + n) 2 ≠ crcBytes (Memory.bytes [(0, 0x5A#8)] 1 n)) ∧
    sectionLength [(0x200, 0x5A#8), (0x201, 17#8)] .receptors = none := by decide +kernel
theorem witness_SavedSettingsComeBack :
    Memory.wf [] = true ∧ Memory.wf [(0, 0x5A#8), (65535, 1#8)] = true ∧ planned.ZonesSound ∧ planned.site.InRange ∧ planned.ReceptorsSound ∧
    planned.SlotsInRange ∧ planned.BindingsSound ∧ planned.PathsSound ∧ (planned.slot 4).kind = .fixed ∧ planned.receptor 2 ≠ none ∧
    loading.loader = .loading ∧ ({ loading with settings := Memory.writeAll [] (saveWrites planned.captureSettings) } : State).BootSound := by
  refine ⟨?_, ?_, ?_, ?_, ?_, ?_, planned_stages.1.2.1, planned_stages.2.1, ?_, ?_, rfl, ?_⟩ <;> decide +kernel
/-- The last write of the SITE section is number 14; there is no number 15. -/
theorem witness_SaveWrites :
    bare.settings.wf = true ∧ ((after (.saveSettings 0 1) bare).table = .saving bare.captureSettings ∧
      (after (.saveSettings 0 1) bare).settings.wf = true) ∧ hasWrite bare.captureSettings .site 0 = true ∧ hasWrite bare.captureSettings .site 14 = true ∧ hasWrite bare.captureSettings .site 15 = false := by
  decide +kernel
theorem witness_WarmRestart :
    (planned.link 0).buffer = none ∧ ((after (.identify 0 1) planned).link 0).buffer.map (·.kind) = some 0x90 ∧
    ((after (.warmRestart 0 1) planned).link 0).buffer = some { kind := 0x95, tag := 1, answer := .done .none } := by decide +kernel
theorem witness_SecondBoundary :
    State.reset.loader = .held ∧ street.loader ≠ .held ∧ street.clock.second < 59 ∧ (∀ z, (street.zone z).FadeSound) ∧ street.mode ≠ .boot ∧
    loading.loader ≠ .held ∧ loading.mode = .boot ∧ (street.clock.second + 1) % 2 = 1 ∧
    (({ street with clock := { street.clock with second := 57 } } : State).clock.second + 1) % 2 = 0 ∧
    (∀ r, bare.receptor r = none) ∧ street.receptor 0 ≠ none := by decide +kernel
theorem witness_MinuteBoundary :
    street.loader ≠ .held ∧ street.mode ≠ .boot ∧ street.ZonesSound ∧ (∀ r, bare.receptor r = none) ∧ street.receptor 0 ≠ none ∧
    exceeded.ZonesSound ∧ exceeded.ExceedancesSound ∧ (exceeded.receptor 0).map (·.exceedance) = some (some 0) ∧ street.ExceedancesSound := by
  and_intros <;> decide +kernel
theorem witness_Evaluation :
    BreakpointsSound (street.zone 1).breakpoints ∧ (street.zone 3).breakpoints = [] ∧ inForceAt (street.zone 1).breakpoints 1320 = some 1 ∧
    (street.zone 1).inForce = some 1 ∧ inForceAt (street.zone 1).breakpoints 1380 = some 2 ∧ inForceAt (street.zone 1).breakpoints 479 = some 2 ∧
    (street.zone 1).inForce ≠ some 2 := by decide +kernel
/-- Slot 3 at the head is audible in zone 2 and not in zone 1; past its age time it ages out. -/
theorem witness_CurfewRemoves :
    passA.AdmissionSound ∧ passA.audibleInZone 2 1 = true ∧ passA.audibleInZone 2 0 = false ∧ passA.arbiter.queue = [2] ∧
    ((freed (after (.goLive 3 7) aged)).slot 2).reportAge = some 60000 := by
  refine ⟨passA_admission, ?_, ?_, ?_, ?_⟩ <;> decide +kernel
theorem witness_Judgement :
    street.ExceedancesSound ∧ exceeded.ExceedancesSound ∧ (street.receptor 0).map (·.exceedance) = some none ∧
    (exceeded.receptor 0).map (fun x => (x.exceedance, x.level15)) = some (some 0, some 651) ∧ exceeded.excRecord 0 ≠ none := by
  and_intros <;> decide +kernel
theorem witness_StationReply :
    polled.poller.poll = some { receptor := 0, address := 11, second := 10, wait := some 40 } ∧ (polled.receptor 0).isSome ∧
    (4 : Nat) / 4 % 2 = 1 ∧ (3 : Nat) / 4 % 2 = 0 ∧ (2 : Nat) / 2 % 2 = 1 ∧ (1 : Nat) / 2 % 2 = 0 ∧ (polled.receptor 1).isSome := by decide +kernel
theorem witness_EveryOtherPollEnd :
    polled.poller.poll = some { receptor := 0, address := 11, second := 10, wait := some 40 } ∧ (11 : Nat) ≠ 12 ∧ street.poller.poll = none ∧
    polled.poller.receiver = .hunting ∧
    ({ polled with poller := { polled.poller with receiver := .receiving } } : State).poller.receiver = .receiving := by decide +kernel
theorem witness_Triggers :
    State.reset.mode = .boot ∧ street.mode ≠ .boot ∧ street.engine.activity = .idle ∧ passA.engine.activity ≠ .idle ∧ street.engine.pending = false ∧
    ({ street with latch := .queued 0 [1] } : State).latch = .queued 0 [1] := by decide +kernel
theorem witness_Ceiling :
    passA.capture.loss 0 1 = some 470 ∧ (passA.capture.receptors.any fun x => x.receptor == 1) = true ∧
    ((street.setSlot 0 { street.slot 0 with caps := [900] }).capture.slots.get 0).topCap = some 900 ∧
    passA.capture.receptors.Pairwise (fun a b => a.receptor < b.receptor) ∧ passA.capture.source [0, 1, 2] 0 = .receptor 1 ∧
    passA.capture.source [0, 1, 2] 3 = .maximum := by decide +kernel
theorem witness_PassEnd :
    street.engine.activity = .idle ∧ passA.AdmissionSound ∧ passA.engine.activity = .recalculating passA.capture ∧
    (passA.capture.slots.get 2).state = .entering ∧ (confirming.slot 0).published ≠ (passA.slot 0).published ∧ (passA.slot 2).state = .entering ∧ (confirming.slot 2).state = .entering := by
  refine ⟨rfl, passA_admission, ?_, ?_, ?_, ?_, ?_⟩ <;> decide +kernel
theorem witness_ForecastEnd :
    let s := after (.forecast 0 1 (.whole [3, 1])) street
    s.engine.activity = .forecasting street.capture [0, 2] 1320 10 ∧ s.latch = .computing 0 [0, 2] := by decide +kernel
theorem witness_PassReport :
    passA.AdmissionSound ∧ (passA.arbiter.queue ≠ [] ∧ passA.arbiter.phase = some .counting ∧ some 2 = passA.arbiter.queue.head? ∧
      passA.arbiter.passSinceHead = true) ∧ (passA.slot 0).state = .live ∧ street.arbiter.queue = [] :=
  ⟨passA_admission, by decide +kernel, by decide +kernel, rfl⟩
theorem witness_HandoverExpiry :
    street.arbiter.timer = none ∧ confirming.AdmissionSound ∧ confirming.arbiter.timer = some 8000 ∧ confirming.arbiter.queue = 2 :: [] :=
  ⟨rfl, confirming_admission, by decide +kernel, by decide +kernel⟩
theorem witness_Timers :
    (street.slot 4).port = none ∧ (street.slot 2).reportAge = some 900 ∧
    ((street.setSlot 2 { street.slot 2 with reportAge := some 3000 }).slot 2 = { street.slot 2 with reportAge := some (1000 * street.site.staleTime) } ∧
      (street.slot 2).port ≠ none ∧ (street.slot 2).stale = false ∧ (street.slot 2).causes.hasStale = false) ∧
    ((aged.slot 2).kind = .openKind ∧ (aged.slot 2).state = .quiet ∧ (aged.slot 2).published = 0 ∧ (aged.slot 2).port ≠ none ∧
      (aged.slot 2).reportAge = some (1000 * aged.site.ageTime)) ∧ (street.slot 0).state ≠ .quiet ∧
    ({ street with latch := .ready 8 [2] [] 1439 59 0 } : State).latch = .ready 8 [2] [] 1439 59 0 := by decide +kernel
theorem witness_ClearCompletion (k : Table) (h : k ≠ .receptor) (h' : k ≠ .zone) :
    let s : State := { planned with table := .clearing k }
    s.table = .clearing k ∧ s.StagesSound ∧ s.ExceedancesSound := by
  cases k
  all_goals first | exact absurd rfl h | exact absurd rfl h' | skip
  all_goals
    and_intros <;> decide +kernel
theorem witness_ClearCompletionOfReceptors :
    let s : State := { planned with table := .clearing .receptor, paths := Vector.replicate 64 none }
    s.table = .clearing .receptor ∧ s.receptor 0 ≠ none ∧ s.StagesSound ∧ s.ExceedancesSound := by
  and_intros <;> decide +kernel
theorem witness_ClearCompletionOfZones :
    let s : State := { planned with
      table := .clearing .zone, paths := Vector.replicate 64 none, receptors := Vector.replicate 16 none, exceedances := bare.exceedances }
    s.table = .clearing .zone ∧ s.zone 0 ≠ zoneDefault ∧ s.StagesSound ∧ s.ExceedancesSound := by
  and_intros <;> decide +kernel
theorem witness_ReceiversAndBuffers :
    State.reset.loader = .held ∧ street.loader ≠ .held ∧ ((after (.goLive 2 10) street).link 2).buffer ≠ none ∧ (street.link 8).buffer = none ∧
    polled.poller.poll.bind (·.wait) = some 40 ∧ street.poller.poll = none := by decide +kernel
theorem witness_NoticesAndWitnessQueues :
    let c : Copy := .clamp 0 none causesNone causesNone false .report none 0 0 none
    c.enabled enablesDefault = true ∧ c.enabled { enablesDefault with clamp := false } = false ∧ street.witness.fifo = [] ∧
    ({ fifo := List.replicate 16 (.copy c), gapPending := true, drops := 65535, firstDrop := some (1439, 59) } : WitnessTx).Sound ∧
    ({ notices := [.engine .saved, .station 0 .new 0 none 1], lost := false, mask := Vector.replicate 10 true } : NoticeQueue).Sound ∧
    (Notice.engine .saved).kindIndex = (Notice.engine (.cleared .path 3)).kindIndex := by decide +kernel
theorem witness_RequestChecks :
    (requestHead (.pushCap 3 1 .short) = some ⟨0x20, 3, 1, .console, true⟩) ∧ (requestHead (.enrol 0 1 .short) = some ⟨0x01, 0, 1, .stages, true⟩) ∧
    State.reset.loader = .held ∧ street.Ready 3 ∧ loading.mode = .boot ∧ loading.loader ≠ .held ∧ (loading.link 0).buffer = none ∧
    ((after (.goLive 2 10) street).link 2).buffer ≠ none ∧ (after (.saveSettings 0 1) planned).table ≠ .idle := by decide +kernel
theorem witness_UnknownKinds : 0x10 ∈ requestKinds ∧ 0x7F ∉ requestKinds ∧ 0xFF ∉ requestKinds ∧ street.Ready 8 ∧ (0x7F : Nat) < 128 := by decide +kernel
theorem witness_RequestsWithoutASlot : street.Ready 8 ∧ (∀ i, (street.slot i).port ≠ some 8) ∧ (street.slot 7).state = .empty := by decide +kernel
theorem witness_EnrolChecks :
    street.Ready 1 ∧ street.Ready 4 ∧ street.BindingsSound ∧ (street.slot 0).port = some 1 ∧ (street.slot 0).identity = some 1 ∧
    (street.slot 1).identity = some 2 ∧ (street.slot 0).state ≠ .quiet := by
  refine ⟨?_, ?_, street_bindings, ?_, ?_, ?_, ?_⟩ <;> decide +kernel
/-- No slot is an EMPTY OPEN one, and none holds the identity 77. -/
theorem witness_EnrolFull :
    let s : State := { bare with slots := Vector.ofFn fun i => { slotDefault with kind := .fixed, state := .quiet, identity := some (BitVec.ofNat 48 i.val) } }
    s.BindingsSound ∧ (∀ i, (s.slot i).kind = .openKind → (s.slot i).state ≠ .empty) ∧ ∀ i, (s.slot i).identity ≠ some 77 := by
  and_intros <;> decide +kernel
theorem witness_EnrolBinds :
    street.Ready 4 ∧ street.BindingsSound ∧ (∀ j, (street.slot j).port ≠ some 4) ∧
    ((street.slot 4).kind = .fixed ∧ (street.slot 4).identity = some 9 ∧ (street.slot 4).port = none) ∧
    ((street.slot 3).kind = .openKind ∧ (street.slot 3).state = .empty ∧ ∀ j, j < 3 → (street.slot j).state ≠ .empty) ∧
    ((street.slot 2).port = some 3 ∧ (street.slot 2).state = .quiet ∧ (street.slot 2).published = 0 ∧ (street.slot 2).kind = .openKind) ∧
    ∀ j, (street.slot j).identity ≠ some 77 := by
  refine ⟨?_, street_bindings, ?_, ?_, ?_, ?_, ?_⟩ <;> decide +kernel
/-- No slot is an EMPTY OPEN one, and the port's own is a settled QUIET FIXED one. -/
theorem witness_EnrolFullOnABoundPort :
    let s : State := { bare with slots := Vector.ofFn fun i =>
      { slotDefault with
        kind := .fixed, state := .quiet, identity := some (BitVec.ofNat 48 i.val), port := if i = 0 then some 4 else none
        reportAge := if i = 0 then some 0 else none } }
    s.Ready 4 ∧ s.BindingsSound ∧ (s.slot 0).port = some 4 ∧ (∀ i, (s.slot i).port = some 4 → (s.slot i).state = .quiet ∧ (s.slot i).published = 0) ∧
    ∀ i, (s.slot i).identity ≠ some 77 := by
  and_intros <;> decide +kernel
/-- An OPEN slot is left with no EMPTY OPEN slot below it (it is chosen again), or with one (that one is chosen). -/
theorem witness_EnrolEmptiesAnOpenSlot :
    (street.Ready 3 ∧ ∀ j, j < 2 → (street.slot j).state ≠ .empty) ∧
    let s := street.setSlot 1 slotDefault
    s.Ready 3 ∧ s.BindingsSound ∧ (s.slot 2).port = some 3 ∧ (s.slot 2).state = .quiet ∧ (s.slot 2).published = 0 ∧ (s.slot 2).kind = .openKind ∧
    (s.slot 1).kind = .openKind ∧ (s.slot 1).state = .empty ∧ (s.slot 0).state ≠ .empty ∧ ∀ j, (s.slot j).identity ≠ some 77 := by
  and_intros <;> decide +kernel
theorem witness_EnrolUnbindsAFixedSlot :
    let s := freed (after (.enrol 4 1 (.whole { identity := 9, check := 7 })) street)
    s.Ready 4 ∧ s.BindingsSound ∧ (s.slot 4).port = some 4 ∧ (s.slot 4).state = .quiet ∧ (s.slot 4).published = 0 ∧ (s.slot 4).kind = .fixed ∧
    (s.slot 3).kind = .openKind ∧ (s.slot 3).state = .empty := by
  and_intros <;> decide +kernel
theorem witness_Report :
    street.Ready 8 ∧ (∀ i, (street.slot i).port ≠ some 8) ∧ confirming.Ready 1 ∧ confirming.AdmissionSound ∧ (confirming.slot 0).port = some 1 ∧
    (confirming.slot 0).debt = true ∧ (∀ j, j ≠ 0 → (confirming.slot j).debt = false) ∧ (confirming.slot 0).serial = 41 ∧
    confirming.arbiter.queue = 2 :: [] := by
  refine ⟨?_, ?_, ?_, confirming_admission, ?_, ?_, ?_, ?_, ?_⟩ <;> decide +kernel
theorem witness_GoLive :
    planned.mode = .setup ∧ planned.Ready 3 ∧ street.Ready 3 ∧ street.mode = .enforce ∧ (∀ i, (street.slot i).port ≠ some 8) ∧
    (street.slot 0).state = .live ∧ ((street.slot 2).state = .quiet ∧ street.mapped 2 = true ∧ street.underCurfew 2 = false ∧ 2 ∉ street.arbiter.queue) ∧
    ((passA.slot 2).state = .entering ∧ passA.arbiter.queue = [] ++ 2 :: []) := by decide +kernel
theorem witness_GoLiveRefused :
    let unmapped : State := { street with paths := Vector.replicate 64 none }
    let curfew := street.setZone 1 { street.zone 1 with state := .fading }
    (∀ q, ∀ e ∈ unmapped.path q, e.slot ≠ 2) ∧ (unmapped.slot 2).port = some 3 ∧
    curfew.path 3 = some { slot := 2, receptor := 1, loss := 450 } ∧ (curfew.zone 1).state ≠ .opened ∧ (street.receptor 1).map (·.zone) = some 1 := by
  decide +kernel
theorem witness_Quiet :
    confirming.Ready 0 ∧ confirming.Ready 3 ∧ confirming.AdmissionSound ∧ (confirming.slot 3).state = .empty ∧ (confirming.slot 4).state = .quiet ∧
    (confirming.slot 2).port = some 3 ∧ (confirming.slot 2).state = .entering ∧ (confirming.slot 0).state = .live ∧ (confirming.slot 0).debt = true ∧
    (confirming.slot 1).state = .live ∧ (confirming.slot 1).debt = false := by
  refine ⟨by decide +kernel, by decide +kernel, confirming_admission, by decide +kernel⟩
theorem witness_QuietWaiting :
    let s := freed (after (.goLive 4 1) ((passA.setSlot 3 (bound 4 4)).setPath 4 (some { slot := 3, receptor := 0, loss := 500 })))
    s.AdmissionSound ∧ (s.slot 3).state = .waiting ∧ s.arbiter.queue = [2, 3] :=
  by and_intros <;> decide +kernel
/-- Two debtors in CONFIRMING, the first with a HANDOVER cause already and past its age time at a ceiling of 0. -/
def indebted : State :=
  (confirming.updSlot 0 fun x =>
    { x with published := 0, reportAge := some 60000, causes := { causesNone with hasHandover := true } }).updSlot 1 fun x => { x with debt := true }
theorem witness_DebtsRemain :
    indebted.AdmissionSound ∧ indebted.Ready 0 ∧ indebted.Ready 1 ∧ (indebted.slot 0).port = some 1 ∧ (indebted.slot 0).state = .live ∧
    (indebted.slot 0).kind = .openKind ∧ (indebted.slot 0).debt = true ∧ (indebted.slot 1).debt = true ∧ indebted.arbiter.queue = [2] := by
  and_intros <;> decide +kernel
theorem witness_Forecast :
    planned.Ready 3 ∧ planned.mode = .setup ∧ street.Ready 3 ∧ street.mode = .enforce ∧ street.latch = .empty ∧ street.engine.activity = .idle ∧
    passA.latch = .empty ∧ passA.engine.activity ≠ .idle ∧ (∀ n ∈ [1, 8, 1], 1 ≤ n ∧ n ≤ 8) ∧ (∃ n ∈ [0], n = 0 ∨ 8 < n) := by decide +kernel
theorem witness_SetClockAndModes :
    street.Ready 0 ∧ street.mode = .enforce ∧ planned.Ready 0 ∧ planned.mode = .setup ∧ planned.table = .idle ∧ planned.clock.isSet = true ∧
    (∃ r, planned.receptor r ≠ none) ∧ bare.clock.isSet = false ∧ (∀ r, bare.receptor r = none) ∧ (street.slot 0).state ≠ .quiet ∧
    (∀ i, (({ planned with mode := .enforce } : State).slot i).state = .empty ∨ (({ planned with mode := .enforce } : State).slot i).state = .quiet) ∧
    planned.arbiter.queue = [] := by decide +kernel
theorem witness_SetClockSlots : planned.AdmissionSound ∧ planned.PlaySound := ⟨planned_stages.1, planned_stages.2.2.1⟩
theorem witness_LongOperations :
    planned.Ready 0 ∧ planned.mode = .setup ∧ planned.table = .idle ∧ (∃ p, planned.path p ≠ none) ∧ (∃ r, planned.receptor r ≠ none) ∧
    (∀ p, bare.path p = none) ∧ (∀ r, bare.receptor r = none) ∧ tableOf 6 = some .exceedance ∧ street.mode = .enforce := by decide +kernel
theorem witness_CapsAndClamps :
    street.Ready 0 ∧ (street.slot 0).state ≠ .empty ∧ (street.slot 0).caps = [] ∧ (street.slot 3).state = .empty ∧
    (street.slot 0).causes.hasConsole = false ∧ street.site.enables.clamp = true ∧ street.witness.fifo.length < 16 ∧
    ((street.setSlot 0 { street.slot 0 with caps := [1400, 0, 3, 4], causes := { causesNone with hasConsole := true } }).slot 0).caps.length = 4 := by
  decide +kernel
theorem witness_Evict :
    street.Ready 0 ∧ (street.slot 0).state ≠ .quiet ∧ ((street.slot 4).state = .quiet ∧ (street.slot 4).published = 0 ∧ (street.slot 4).port = none) ∧
    ((street.slot 2).state = .quiet ∧ (street.slot 2).published = 0 ∧ (street.slot 2).kind = .openKind) := by decide +kernel
theorem witness_Notices :
    confirming.Ready 0 ∧ confirming.notices.notices ≠ [] ∧ (∃ k, 1 < (Vector.replicate 10 2).get k) ∧ ∀ k, (Vector.replicate 10 1).get k ≤ 1 := by
  decide +kernel
theorem witness_SiteWrites : street.TableReady ∧ street.mode = .enforce ∧ planned.TableReady ∧ planned.mode = .setup ∧ bare.TableReady ∧
    ∀ i, (bare.slot i).port = none := by decide +kernel
theorem witness_ZoneWrites :
    street.TableReady ∧ (9 : Nat) > 8 ∧ ([1439, 0].map fun n : Nat => n).Nodup ∧ (street.receptor 0).map (·.zone) = some 0 ∧
    (∀ r, ∀ x ∈ street.receptor r, x.zone ≠ 3) := by decide +kernel
theorem witness_ZoneAndReceptorDeletes :
    planned.TableReady ∧ planned.mode = .setup ∧ (planned.receptor 0).map (·.zone) = some 0 ∧ (∀ r, ∀ x ∈ planned.receptor r, x.zone ≠ 3) ∧
    planned.receptor 3 = none ∧ planned.path 0 = some { slot := 0, receptor := 0, loss := 400 } ∧ planned.receptor 2 ≠ none ∧
    ∀ p, ∀ e ∈ planned.path p, e.receptor ≠ 2 := by decide +kernel
theorem witness_ReceptorWrites :
    planned.TableReady ∧ (planned.zone 3).breakpoints = [] ∧ (planned.zone 0).breakpoints ≠ [] ∧ planned.receptor 15 = none ∧
    (planned.receptor 2).map (·.address) = some 31 ∧ ∀ q, q ≠ 2 → ∀ y ∈ planned.receptor q, y.address ≠ 31 := by decide +kernel
/-- A receptor with an open record, an ACTIVE station, a correction and a poll outstanding, in SETUP, with another zone and a free address to move to. -/
theorem witness_ReceptorEdits :
    let x := ((exceeded.receptor 0).getD (receptorCreated 1 0 0))
    let s : State := { exceeded.setReceptor 0 (some { x with correction := 12 }) with
      mode := .setup, poller := { poll := some { receptor := 0, address := x.address, second := 4, wait := some 7 }, receiver := .receiving } }
    s.TableReady ∧ (s.zone 1).breakpoints ≠ [] ∧ (∀ q, ∀ y ∈ s.receptor q, y.address ≠ 21) ∧ (s.receptor 1).isSome ∧
    (s.receptor 0).map (fun y => (y.zone, y.station, y.exceedance.isSome)) = some (0, .active, true) ∧ (s.excRecord 0).isSome := by
  decide +kernel
theorem witness_StageWrites :
    planned.TableReady ∧ planned.BindingsSound ∧ (planned.slot 7).port = none ∧ (planned.slot 0).port ≠ none ∧ (planned.slot 4).kind = .fixed ∧
    (∀ j, (planned.slot j).identity ≠ some 44) ∧ (street.slot 0).state = .live ∧ street.mode = .enforce ∧ (street.slot 0).stageMax < 1400 := by
  refine ⟨?_, planned_stages.1.2.1, ?_, ?_, ?_, ?_, ?_, ?_, ?_⟩ <;> decide +kernel
theorem witness_PathWrites :
    planned.TableReady ∧ planned.StagesSound ∧ passA.TableReady = (passA.Ready 0 ∧ passA.table = .idle) ∧ (planned.slot 7).state = .empty ∧
    planned.receptor 15 = none ∧ planned.path 0 = some { slot := 0, receptor := 0, loss := 400 } ∧ planned.path 4 = none ∧
    (∀ q, q < 4 → planned.path q ≠ none) ∧ (∀ p, ∀ e ∈ planned.path p, ¬(e.slot = 2 ∧ e.receptor = 0)) := by
  refine ⟨?_, planned_stages, rfl, ?_, ?_, ?_, ?_, ?_, ?_⟩ <;> decide +kernel
/-- Slot 3 at the head, and slot 4 behind it, in a street where zone 3 fades and one receptor of it is heard by neither. -/
theorem witness_PathUnderCurfew :
    let t := (street.setZone 2 { street.zone 0 with state := .fading }).setReceptor 3 (some (receptorCreated 5 2 400))
    let s := freed (after (.goLive 3 7) t)
    let u := freed (after (.goLive 4 1) ((s.setSlot 3 (bound 4 4)).setPath 4 (some { slot := 3, receptor := 0, loss := 500 })))
    u.TableReady ∧ u.StagesSound ∧ u.arbiter.queue = [2, 3] ∧ (u.receptor 3).map (·.zone) = some 2 ∧ (u.zone 2).state ≠ .opened ∧ u.path 5 = none ∧
    (∀ q, q < 5 → u.path q ≠ none) ∧ ∀ p, ∀ e ∈ u.path p, e.receptor ≠ 3 := by
  and_intros <;> decide +kernel
theorem witness_FindsAndReads :
    exceeded.TableReady ∧ (exceeded.receptor 0).map (·.exceedance) = some (some 0) ∧ exceeded.receptor 15 = none ∧ exceeded.path 63 = none ∧
    exceeded.excRecord 31 = none ∧ exceeded.exceedances.created = [] ++ 0 :: [] ∧ (exceeded.slot 0).identity = some 1 ∧
    (∀ i, (exceeded.slot i).identity ≠ some 77) ∧ exceeded.path 3 = some { slot := 2, receptor := 1, loss := 450 } := by decide +kernel
/-- A loaded zone with a breakpoint, a receptor entry of it, a FIXED slot entry and a path between them; a receptor 17 is skipped. -/
theorem witness_Load :
    let l : Loading := { state := planned, clamped := 0, skipped := 0 }
    (planned.zone 0).breakpoints ≠ [] ∧ planned.path 4 = none ∧ (∀ q, q < 4 → planned.path q ≠ none) ∧ (planned.slot 4).kind = .fixed ∧
    (loadReceptor [] l [16#8, 3#8, 1#8, 0xFF#8, 0#8]).state.receptor 15 = some (receptorCreated 3 0 1400) ∧
    (loadReceptor [] l [17#8, 3#8, 1#8, 0#8, 0#8]).skipped = 1 ∧ identityBytes 9 = ([8#8, 0#8, 0#8, 0#8, 0#8, 0#8, 9#8, 1#8, 0#8, 0#8].drop 1).take 6 ∧
    (loadPath [] l [5#8, 3#8, 0xFF#8, 0#8]).state.path 4 = some { slot := 4, receptor := 2, loss := 1200 } ∧
    (loadZone [] l [2#8, 0#8, 0#8, 1#8, 0x05#8, 0xA0#8, 0#8, 0#8, 0#8]).skipped = 1 := by decide +kernel
theorem witness_FindsAndReadsSound : exceeded.BindingsSound ∧ exceeded.PathsSound := ⟨by decide +kernel, by decide +kernel⟩

end Sys2Proof.Tests
end

section
/-! SUPPORT. The evaluation of the zones in SETUP: what it writes, when it raises a trigger, which notices it leaves waiting (R24 to R26, R29). In
SETUP no zone becomes FADING (Table 2-3), so nothing is handed to the arbiter and no slot changes. -/

namespace Sys2Proof.Machine

/-! ### Posting (R169) -/

theorem NoticeQueue.lost_of_lost_post {q : NoticeQueue} {n : Notice} (h : (q.post n).lost = false) : q.lost = false := by
  unfold NoticeQueue.post at h
  split at h
  · exact h
  · split at h
    · exact h
    · cases h

theorem NoticeQueue.mem_post {q : NoticeQueue} {n : Notice} (h : (q.post n).lost = false) : n ∈ (q.post n).notices := by
  unfold NoticeQueue.post at h ⊢
  split at h
  next hany =>
    obtain ⟨m, hm, hs⟩ := List.any_eq_true.1 hany
    rw [if_pos hany]
    exact List.mem_map.2 ⟨m, hm, if_pos hs⟩
  next hany =>
    split at h
    next hlen => simp [hany, hlen]
    next => cases h

theorem NoticeQueue.mem_post_of_mem {q : NoticeQueue} {m n : Notice} (hm : m ∈ q.notices) (hne : m.sameSubject n = false) :
    m ∈ (q.post n).notices := by
  unfold NoticeQueue.post
  split
  · exact List.mem_map.2 ⟨m, hm, by simp [hne]⟩
  · split
    · exact List.mem_append_left _ hm
    · exact hm

theorem State.zoneNotice_sameSubject_of_ne (s t : State) {w z : ZoneId} (h : w ≠ z) :
    (s.zoneNotice w).sameSubject (t.zoneNotice z) = false := by
  have hval : w.val ≠ z.val := fun e => h (Fin.ext e)
  simp [Notice.sameSubject, Notice.kindIndex, Notice.subject, State.zoneNotice, hval]

theorem State.zoneNotice_congr {s t : State} {z : ZoneId} (h : t.zone z = s.zone z) : t.zoneNotice z = s.zoneNotice z := by
  simp only [State.zoneNotice, h]

/-! ### Triggers (R108) -/

theorem State.AnyTrigger.of_engine_eq {s t u : State} (h : s.AnyTrigger t) (e : u.engine = t.engine) : s.AnyTrigger u := by
  simpa only [State.AnyTrigger, e] using h

theorem State.AnyTrigger.trans {s t u : State} (h : s.AnyTrigger t) (k : t.AnyTrigger u) : s.AnyTrigger u := by
  unfold State.AnyTrigger at h k ⊢
  by_cases hs : s.engine.activity = .idle
  · rw [if_pos hs] at h ⊢
    have ht : t.engine.activity ≠ .idle := by
      intro hidle
      rw [hidle] at h
      cases h
    rw [if_neg ht] at k
    rw [k]
    exact h
  · rw [if_neg hs] at h ⊢
    rw [h, if_neg hs] at k
    exact k

/-- `t` comes after `s` with a trigger where something the engine reads has changed, and with the engine as it was where nothing has (R29). -/
def State.Raised (s t : State) (changed : Prop) : Prop := (changed → s.AnyTrigger t) ∧ (¬changed → t.engine = s.engine)

theorem State.Raised.of_engine_eq {s t : State} (e : t.engine = s.engine) : s.Raised t False := ⟨False.elim, fun _ => e⟩

theorem State.Raised.congr {s t u : State} {p q : Prop} (h : s.Raised t p) (hu : u.engine = t.engine) (hpq : p ↔ q) : s.Raised u q :=
  ⟨fun hq => (h.1 (hpq.2 hq)).of_engine_eq hu, fun hq => hu.trans (h.2 (hq ∘ hpq.1))⟩

theorem State.Raised.trans {s t u : State} {p q : Prop} (h : s.Raised t p) (k : t.Raised u q) : s.Raised u (p ∨ q) := by
  obtain ⟨htrig, hsame⟩ := h
  obtain ⟨ktrig, ksame⟩ := k
  refine ⟨fun hpq => ?_, fun hpq => ?_⟩
  · by_cases hq : q
    · by_cases hp : p
      · exact (htrig hp).trans (ktrig hq)
      · have kt := ktrig hq
        rwa [State.AnyTrigger, hsame hp] at kt
    · exact (htrig (hpq.resolve_right hq)).of_engine_eq (ksame hq)
  · obtain ⟨hp, hq⟩ := not_or.1 hpq
    exact (ksame hq).trans (hsame hp)

theorem State.trigger_raised {s : State} (h : s.mode ≠ .boot) : s.Raised s.trigger True := by
  refine ⟨fun _ => ?_, fun hfalse => absurd trivial hfalse⟩
  unfold State.AnyTrigger State.trigger
  rw [if_neg h]
  cases hactivity : s.engine.activity
  case idle => rfl
  case recalculating => simp [hactivity]
  case forecasting => simp [hactivity]

/-! ### One zone's record and the triggers of its changes -/

/-- `t` is `s` with the record `x` in zone `z`, and with a trigger where `changed` holds. -/
structure State.ZoneWritten (s t : State) (z : ZoneId) (x : Zone) (changed : Prop) : Prop where
  written : ∃ e p, t = { s.setZone z x with engine := e, arbiter := { s.arbiter with passSinceHead := p } }
  raised : s.Raised t changed

theorem State.setZone_setZone (s : State) (z : ZoneId) (x y : Zone) : (s.setZone z x).setZone z y = s.setZone z y := by
  simp [State.setZone]

theorem State.setZone_zone (s : State) (z : ZoneId) : s.setZone z (s.zone z) = s := by
  simp [State.setZone, State.zone, Vector.get_eq_getElem]

namespace State.ZoneWritten

variable {s t u : State} {z : ZoneId} {x y : Zone} {p q : Prop}

theorem zone_same (h : s.ZoneWritten t z x p) : t.zone z = x := by
  obtain ⟨_, _, rfl⟩ := h.written
  exact State.zone_setZone_same s z x

theorem zone_ne (h : s.ZoneWritten t z x p) {w : ZoneId} (hw : w ≠ z) : t.zone w = s.zone w := by
  obtain ⟨_, _, rfl⟩ := h.written
  exact State.zone_setZone_ne s z w x hw

theorem mode_eq (h : s.ZoneWritten t z x p) : t.mode = s.mode := by
  obtain ⟨_, _, rfl⟩ := h.written
  rfl

theorem notices_eq (h : s.ZoneWritten t z x p) : t.notices = s.notices := by
  obtain ⟨_, _, rfl⟩ := h.written
  rfl

theorem congr (h : s.ZoneWritten t z x p) (hx : x = y) (hpq : p ↔ q) : s.ZoneWritten t z y q := by
  rwa [← hx, ← propext hpq]

theorem refl (s : State) (z : ZoneId) : s.ZoneWritten s z (s.zone z) False :=
  ⟨⟨s.engine, s.arbiter.passSinceHead, by rw [State.setZone_zone]⟩, .of_engine_eq rfl⟩

theorem trans (h : s.ZoneWritten t z x p) (k : t.ZoneWritten u z y q) : s.ZoneWritten u z y (p ∨ q) := by
  refine ⟨?_, h.raised.trans k.raised⟩
  obtain ⟨_, _, rfl⟩ := h.written
  obtain ⟨e, b, rfl⟩ := k.written
  refine ⟨e, b, ?_⟩
  rw [← State.setZone_setZone s z x y]
  rfl

theorem of_updZone (s : State) (z : ZoneId) (f : Zone → Zone) : s.ZoneWritten (s.updZone z f) z (f (s.zone z)) False :=
  ⟨⟨s.engine, s.arbiter.passSinceHead, rfl⟩, .of_engine_eq rfl⟩

theorem of_trigger (h : s.mode ≠ .boot) (z : ZoneId) : s.ZoneWritten s.trigger z (s.zone z) True := by
  refine ⟨⟨s.trigger.engine, s.trigger.arbiter.passSinceHead, ?_⟩, State.trigger_raised h⟩
  rw [State.setZone_zone]
  exact State.trigger_eq s

theorem of_triggerIf (h : s.mode ≠ .boot) (z : ZoneId) (changed : Bool) :
    s.ZoneWritten (s.triggerIf changed) z (s.zone z) (changed = true) := by
  cases changed
  · exact (refl s z).congr rfl (by simp)
  · exact (of_trigger h z).congr rfl (by simp)

theorem of_setEffective (h : s.mode ≠ .boot) (z : ZoneId) (v : Level) :
    s.ZoneWritten (s.setEffective z v) z { s.zone z with effective := v } ((s.zone z).effective ≠ v) := by
  unfold State.setEffective
  split
  next heq => exact (refl s z).congr (by rw [← heq]) (by simp [heq])
  next hne =>
    have hupd := of_updZone s z fun x => { x with effective := v }
    exact (hupd.trans (of_trigger (s := s.updZone z _) h z)).congr hupd.zone_same (by simp [hne])

/-- A zone that does not become FADING is not handed to the arbiter (R29). -/
theorem of_setCurfew (h : s.mode ≠ .boot) (z : ZoneId) {st : ZoneState} (fade : Nat) (hst : st ≠ .fading) :
    s.ZoneWritten (s.setCurfew z st fade) z { s.zone z with state := st, fade := fade }
      ((s.zone z).state ≠ st ∨ (s.zone z).fade ≠ fade) := by
  unfold State.setCurfew
  dsimp only
  rw [if_neg (fun hfading => hst hfading.2)]
  have hupd := of_updZone s z fun x => { x with state := st, fade := fade }
  have hstate := hupd.trans (of_triggerIf (s := s.updZone z _) h z ((s.zone z).state != st))
  have hfade := hstate.trans (of_triggerIf (hstate.mode_eq ▸ h) z ((s.zone z).fade != fade))
  exact hfade.congr (hstate.zone_same.trans hupd.zone_same) (by simp)

/-! ### The evaluation of one zone in SETUP -/

theorem of_noBreakpoint (h : s.mode ≠ .boot) (z : ZoneId) :
    s.ZoneWritten (s.noBreakpoint z) z { s.zone z with inForce := none, licence := 0, effective := 0, state := .opened, fade := 0 }
      ((s.zone z).effective ≠ 0 ∨ (s.zone z).state ≠ .opened ∨ (s.zone z).fade ≠ 0) := by
  have hupd := of_updZone s z fun x => { x with inForce := none, licence := 0 }
  have heff := hupd.trans (of_setEffective (hupd.mode_eq ▸ h) z 0)
  have hcurfew := heff.trans (of_setCurfew (heff.mode_eq ▸ h) z 0 (st := .opened) (by decide))
  exact hcurfew.congr (by simp [heff.zone_same]) (by simp [heff.zone_same])

theorem of_enterBreakpoint (h : s.mode = .setup) (z : ZoneId) (number : Nat) (limit : Level) :
    s.ZoneWritten (s.enterBreakpoint z number limit) z
      { s.zone z with inForce := some number, licence := limit, effective := max (s.zone z).effective limit }
      ((s.zone z).effective < limit) := by
  unfold State.enterBreakpoint
  dsimp only
  have hupd := (of_updZone s z fun x =>
    { x with inForce := some number, licence := limit, grace := graceAfter s.mode (s.zone z).licence limit x.grace }).congr
      (y := { s.zone z with inForce := some number, licence := limit }) (by simp [graceAfter, h]) Iff.rfl
  split
  next hle =>
    have heff := hupd.trans (of_setEffective (by simp [h]) z limit)
    exact heff.congr (by simp [hupd.zone_same, hle]) (by simp [hupd.zone_same, hle.lt_iff_ne])
  next hlt => exact hupd.congr (by simp [le_of_not_ge hlt]) (by simp [le_of_not_ge hlt])

/-- Outside ENFORCE the curfew flag of the breakpoint that comes into force gives the zone state and the fade offset (R25, R26, Table 2-3). -/
theorem of_curfewFlag (h : s.mode = .setup) (z : ZoneId) (curfew : Bool) :
    s.ZoneWritten (if curfew then s.curfewBreakpoint z else s.openZone z) z
      { s.zone z with state := if curfew then .silenced else .opened, fade := if curfew then 600 else 0 }
      ((s.zone z).state ≠ (if curfew then .silenced else .opened) ∨ (s.zone z).fade ≠ if curfew then 600 else 0) := by
  cases curfew
  · exact of_setCurfew (by simp [h]) z 0 (by decide)
  · simpa [State.curfewBreakpoint, h] using of_setCurfew (s := s) (by simp [h]) z 600 (st := .silenced) (by decide)

end State.ZoneWritten

/-- The record of a zone after its evaluation by the SETUP rules at a minute of the day (R24 to R26). -/
def Zone.evaluatedInSetup (minute : Nat) (x : Zone) : Zone :=
  match inForceAt x.breakpoints minute with
  | none => { x with inForce := none, licence := 0, effective := 0, state := .opened, fade := 0 }
  | some k =>
    match x.breakpoints[k - 1]? with
    | none => x
    | some bp =>
      if x.inForce = some k then (if bp.limit < x.licence then { x with licence := bp.limit } else x)
      else
        { x with
          inForce := some k
          licence := bp.limit
          effective := max x.effective bp.limit
          state := if bp.curfew then .silenced else .opened
          fade := if bp.curfew then 600 else 0 }

theorem Zone.evaluatedInSetup_grace (minute : Nat) (x : Zone) : (x.evaluatedInSetup minute).grace = x.grace := by
  unfold Zone.evaluatedInSetup
  split
  · rfl
  · split
    · rfl
    · split
      · split <;> rfl
      · rfl

/-- What the engine reads of a zone that an evaluation writes: the effective limit, the fade offset, the zone state (R29). -/
def Zone.TriggersFrom (y x : Zone) : Prop := y.effective ≠ x.effective ∨ y.fade ≠ x.fade ∨ y.state ≠ x.state

/-- A zone whose state or licence limit has changed is reported (R29). -/
def Zone.ReportedFrom (y x : Zone) : Prop := y.state ≠ x.state ∨ y.licence ≠ x.licence

theorem Zone.not_triggersFrom_self (x : Zone) : ¬x.TriggersFrom x := by simp [Zone.TriggersFrom]

theorem Zone.not_reportedFrom_self (x : Zone) : ¬x.ReportedFrom x := by simp [Zone.ReportedFrom]

/-- In SETUP the evaluation of a zone writes its record, raises the triggers of its changes, and then posts its notice where one is due. -/
theorem State.evaluateZone_of_setup {s : State} (h : s.mode = .setup) (z : ZoneId) :
    ∃ a, s.ZoneWritten a z ((s.zone z).evaluatedInSetup s.clock.minute)
        (((s.zone z).evaluatedInSetup s.clock.minute).TriggersFrom (s.zone z)) ∧
      s.evaluateZone z = a.postZoneIfChanged z (s.zone z) := by
  refine ⟨_, ?_, rfl⟩
  unfold Zone.evaluatedInSetup Zone.TriggersFrom
  cases inForceAt (s.zone z).breakpoints s.clock.minute with
  | none => exact (State.ZoneWritten.of_noBreakpoint (by simp [h]) z).congr rfl (by dsimp only; tauto)
  | some k =>
    dsimp only
    cases (s.zone z).breakpoints[k - 1]? with
    | none => exact (State.ZoneWritten.refl s z).congr rfl (by simp)
    | some bp =>
      dsimp only
      by_cases hk : (s.zone z).inForce = some k
      · simp only [if_pos hk]
        by_cases hlow : bp.limit < (s.zone z).licence
        · simp only [if_pos hlow]
          exact (State.ZoneWritten.of_updZone s z _).congr (by simp [h]) (by simp)
        · simp only [if_neg hlow]
          exact (State.ZoneWritten.refl s z).congr rfl (by simp)
      · simp only [if_neg hk]
        have henter := State.ZoneWritten.of_enterBreakpoint h z k bp.limit
        have hflag := henter.trans (State.ZoneWritten.of_curfewFlag (henter.mode_eq.trans h) z bp.curfew)
        refine hflag.congr (by rw [henter.zone_same]) ?_
        rw [henter.zone_same]
        simp only [ne_eq, max_eq_left_iff, not_le]
        tauto

/-! ### The ZONE notice of an evaluation (R29) -/

theorem State.postZoneIfChanged_eq (s : State) (z : ZoneId) (before : Zone) :
    s.postZoneIfChanged z before = { s with notices := (s.postZoneIfChanged z before).notices } := by
  unfold State.postZoneIfChanged
  split <;> rfl

theorem State.postZoneIfChanged_of_reported {s : State} {z : ZoneId} {before : Zone} (h : (s.zone z).ReportedFrom before) :
    s.postZoneIfChanged z before = s.post (s.zoneNotice z) := if_pos h

theorem State.postZoneIfChanged_of_not_reported {s : State} {z : ZoneId} {before : Zone} (h : ¬(s.zone z).ReportedFrom before) :
    s.postZoneIfChanged z before = s := if_neg h

theorem State.postZoneIfChanged_zone (s : State) (z w : ZoneId) (before : Zone) : (s.postZoneIfChanged z before).zone w = s.zone w := by
  rw [State.postZoneIfChanged_eq]
  rfl

theorem State.postZoneIfChanged_engine (s : State) (z : ZoneId) (before : Zone) : (s.postZoneIfChanged z before).engine = s.engine := by
  rw [State.postZoneIfChanged_eq]

theorem State.lost_of_lost_postZoneIfChanged {s : State} {z : ZoneId} {before : Zone}
    (h : (s.postZoneIfChanged z before).notices.lost = false) : s.notices.lost = false := by
  by_cases hdue : (s.zone z).ReportedFrom before
  · rw [State.postZoneIfChanged_of_reported hdue] at h
    exact NoticeQueue.lost_of_lost_post h
  · rwa [State.postZoneIfChanged_of_not_reported hdue] at h

theorem State.zoneNotice_mem_postZoneIfChanged {s : State} {z : ZoneId} {before : Zone}
    (h : (s.postZoneIfChanged z before).notices.lost = false) (hdue : (s.zone z).ReportedFrom before) :
    s.zoneNotice z ∈ (s.postZoneIfChanged z before).notices.notices := by
  rw [State.postZoneIfChanged_of_reported hdue] at h ⊢
  exact NoticeQueue.mem_post h

theorem State.zoneNotice_mem_postZoneIfChanged_of_ne {s t : State} {w z : ZoneId} (before : Zone) (hw : w ≠ z)
    (h : t.zoneNotice w ∈ s.notices.notices) : t.zoneNotice w ∈ (s.postZoneIfChanged z before).notices.notices := by
  by_cases hdue : (s.zone z).ReportedFrom before
  · rw [State.postZoneIfChanged_of_reported hdue]
    exact NoticeQueue.mem_post_of_mem h (State.zoneNotice_sameSubject_of_ne t s hw)
  · rwa [State.postZoneIfChanged_of_not_reported hdue]

/-! ### The evaluation of several zones in SETUP -/

/-- `t` is `s` after the evaluation by the SETUP rules of the zones listed. -/
structure State.EvaluatedInSetup (s t : State) (zones : List ZoneId) : Prop where
  framed : ∃ zs e p n, t = { s with zones := zs, engine := e, arbiter := { s.arbiter with passSinceHead := p }, notices := n }
  evaluated : ∀ z ∈ zones, t.zone z = (s.zone z).evaluatedInSetup s.clock.minute
  untouched : ∀ z, z ∉ zones → t.zone z = s.zone z
  raised : s.Raised t (∃ z, (t.zone z).TriggersFrom (s.zone z))
  reported : t.notices.lost = false → ∀ z, (t.zone z).ReportedFrom (s.zone z) → t.zoneNotice z ∈ t.notices.notices

namespace State.EvaluatedInSetup

variable {s t : State} {zones : List ZoneId}

theorem clock_eq (h : s.EvaluatedInSetup t zones) : t.clock = s.clock := by
  obtain ⟨_, _, _, _, rfl⟩ := h.framed
  rfl

theorem mode_eq (h : s.EvaluatedInSetup t zones) : t.mode = s.mode := by
  obtain ⟨_, _, _, _, rfl⟩ := h.framed
  rfl

theorem refl (s : State) : s.EvaluatedInSetup s [] where
  framed := ⟨s.zones, s.engine, s.arbiter.passSinceHead, s.notices, rfl⟩
  evaluated _ h := nomatch h
  untouched _ _ := rfl
  raised := (Raised.of_engine_eq rfl).congr rfl (by simp [Zone.not_triggersFrom_self])
  reported _ z h := absurd h (Zone.not_reportedFrom_self _)

/-- A zone not yet evaluated is evaluated after the others: it is then as it was at first, so its triggers and its notice are those of its own
changes. -/
theorem snoc (h : s.EvaluatedInSetup t zones) (hmode : s.mode = .setup) {z : ZoneId} (hz : z ∉ zones) :
    s.EvaluatedInSetup (t.evaluateZone z) (zones ++ [z]) := by
  obtain ⟨a, hwritten, heq⟩ := State.evaluateZone_of_setup (h.mode_eq.trans hmode) z
  rw [h.clock_eq, h.untouched z hz] at hwritten
  rw [heq, h.untouched z hz]
  have hzone (w : ZoneId) : (a.postZoneIfChanged z (s.zone z)).zone w = a.zone w := State.postZoneIfChanged_zone ..
  have hself : a.zone z = (s.zone z).evaluatedInSetup s.clock.minute := hwritten.zone_same
  have hother (w : ZoneId) (hw : w ≠ z) : a.zone w = t.zone w := hwritten.zone_ne hw
  refine { framed := ?_, evaluated := ?_, untouched := ?_, raised := ?_, reported := ?_ }
  · obtain ⟨_, _, _, _, rfl⟩ := h.framed
    obtain ⟨_, _, rfl⟩ := hwritten.written
    rw [State.postZoneIfChanged_eq]
    exact ⟨_, _, _, _, rfl⟩
  · intro w hw
    rw [hzone]
    by_cases hwz : w = z
    · rw [hwz, hself]
    · rw [hother w hwz]
      exact h.evaluated w (by simpa [hwz] using hw)
  · intro w hw
    obtain ⟨hwzones, hwz⟩ : w ∉ zones ∧ w ≠ z := by simpa using hw
    rw [hzone, hother w hwz, h.untouched w hwzones]
  · refine (h.raised.trans hwritten.raised).congr (State.postZoneIfChanged_engine ..) ⟨?_, ?_⟩
    · rintro (⟨w, hw⟩ | hnew)
      · have hwz : w ≠ z := by
          rintro rfl
          rw [h.untouched w hz] at hw
          exact Zone.not_triggersFrom_self _ hw
        exact ⟨w, by rwa [hzone, hother w hwz]⟩
      · exact ⟨z, by rwa [hzone, hself]⟩
    · rintro ⟨w, hw⟩
      rw [hzone] at hw
      by_cases hwz : w = z
      · exact .inr (by rwa [hwz, hself] at hw)
      · exact .inl ⟨w, by rwa [hother w hwz] at hw⟩
  · intro hlost w hw
    rw [State.zoneNotice_congr (hzone w)]
    rw [hzone] at hw
    by_cases hwz : w = z
    · subst hwz
      exact State.zoneNotice_mem_postZoneIfChanged hlost hw
    · rw [hother w hwz] at hw
      rw [State.zoneNotice_congr (hother w hwz)]
      refine State.zoneNotice_mem_postZoneIfChanged_of_ne _ hwz ?_
      have hlost' := State.lost_of_lost_postZoneIfChanged hlost
      rw [hwritten.notices_eq] at hlost' ⊢
      exact h.reported hlost' w hw

theorem of_foldl (hmode : s.mode = .setup) (hnodup : zones.Nodup) : s.EvaluatedInSetup (zones.foldl State.evaluateZone s) zones := by
  induction zones using List.reverseRecOn with
  | nil => exact refl s
  | append_singleton zones z ih =>
    obtain ⟨hinit, -, hne⟩ := List.nodup_append.1 hnodup
    rw [List.foldl_concat]
    exact (ih hinit).snoc hmode fun hz => hne z hz z (List.mem_singleton_self z) rfl

theorem of_evaluateZone (hmode : s.mode = .setup) (z : ZoneId) : s.EvaluatedInSetup (s.evaluateZone z) [z] :=
  (refl s).snoc hmode List.not_mem_nil

theorem of_evaluateZones (hmode : s.mode = .setup) : s.EvaluatedInSetup s.evaluateZones allZones :=
  of_foldl hmode (List.nodup_finRange 4)

/-- No zone's evaluation reads another's record: each zone ends with the record that its own evaluation gives it. -/
theorem zone_eq_evaluateZone (h : s.EvaluatedInSetup t zones) (hmode : s.mode = .setup) {z : ZoneId} (hz : z ∈ zones) :
    t.zone z = (s.evaluateZone z).zone z :=
  (h.evaluated z hz).trans ((of_evaluateZone hmode z).evaluated z (List.mem_singleton_self z)).symm

theorem grace_eq (h : s.EvaluatedInSetup t zones) {z : ZoneId} (hz : z ∈ zones) : (t.zone z).grace = (s.zone z).grace := by
  rw [h.evaluated z hz, Zone.evaluatedInSetup_grace]

end State.EvaluatedInSetup

end Sys2Proof.Machine
end

section
/-! SUPPORT. SET CLOCK, ENTER ENFORCE and RETURN TO SETUP: what each answers in each case, and the two statements about them (R17, R19, R21). -/

namespace Sys2Proof.Machine

/-! ### A console request that reaches its owner (R156, R158) -/

theorem State.serve_of_ready {s : State} (h : s.Ready 0) (kind tag : Nat) (owner : Handler) :
    s.serve 0 kind tag .console (some owner) =
      (owner s).1.hold 0 { kind := kind + 128, tag := tag, answer := (owner s).2 } := by
  obtain ⟨hloader, hmode, hbuffer⟩ := h
  simp [State.serve, State.accept, hloader, hbuffer, hmode, State.checked, Served.on, replyKind]

theorem answered_of_ready {c : Instr} {s t : State} {kind tag : Nat} {owner : Handler} {a : Answer} (h : s.Ready 0)
    (hexec : exec c s = .next (s.serve 0 kind tag .console (some owner))) (howner : owner s = (t, a)) :
    Answered c s t 0 kind tag a := by
  rw [Answered, hexec, State.serve_of_ready h, howner]

/-! ### What the owner answers, case by case -/

theorem clampSetting_zero_adjusted (high v : Nat) : (clampSetting 0 high v).adjusted = decide (high < v) := by
  simp [clampSetting, ← decide_not]

theorem clampSetting_zero_value (high v : Nat) : (clampSetting 0 high v).value = min high v := by
  simp [clampSetting, clampNat]

/-- The clock that SET CLOCK leaves: the time of day clamped, the second begun anew, the flag SET (R17). -/
def clockSetTo (minute second : Nat) : Clock := { ms := 0, minute := min 1439 minute, second := min 59 second, isSet := true }

theorem takeSetClock_of_enforce {s : State} (h : s.mode = .enforce) (a : ClockArgs) :
    takeSetClock a s = (s, .refused .wrongMode) := by
  simp [takeSetClock, h, State.refuse]

theorem State.tableBusy_eq_true_iff (s : State) : s.tableBusy = true ↔ s.table ≠ .idle := by simp [State.tableBusy]

theorem State.anyReceptor_eq_true_iff (s : State) : s.anyReceptor = true ↔ ∃ r, s.receptor r ≠ none := by
  simp [State.anyReceptor, Option.isSome_iff_ne_none]

theorem takeEnterEnforce_of_enforce {s : State} (h : s.mode = .enforce) : takeEnterEnforce s = (s, .done .none) := if_pos h

theorem takeEnterEnforce_of_busy {s : State} (h : s.mode = .setup) (htable : s.table ≠ .idle) :
    takeEnterEnforce s = (s, .withStatus .busy .none) := by
  simp [takeEnterEnforce, h, s.tableBusy_eq_true_iff.2 htable, Answer.busy]

/-- With the table engine IDLE the checks go on to the clock and the receptors (R19). -/
theorem takeEnterEnforce_of_idle {s : State} (h : s.mode = .setup) (htable : s.table = .idle) :
    takeEnterEnforce s =
      if s.clock.isSet = false then (s, .refused .clockUnset)
      else if s.anyReceptor then (s.beginEnforce, .done .none) else (s, .refused .noSuch) := by
  simp [takeEnterEnforce, h, State.tableBusy, htable, State.refuse]

theorem State.allQuiet_eq_true_iff (s : State) :
    s.allQuiet = true ↔ (∀ i, (s.slot i).state = .empty ∨ (s.slot i).state = .quiet) ∧ s.arbiter.queue = [] := by
  have hoccupied (x : SlotState) : x.occupied = false ↔ x = .empty := by cases x <;> decide
  simp [State.allQuiet, hoccupied]

theorem takeReturnToSetup_of_setup {s : State} (h : s.mode = .setup) : takeReturnToSetup s = (s, .done .none) := by
  simp [takeReturnToSetup, h]

theorem takeReturnToSetup_of_enforce {s : State} (h : s.mode = .enforce) :
    takeReturnToSetup s = if s.allQuiet then ({ s with mode := .setup }, .done .none) else (s, .refused .notQuiet) := by
  simp [takeReturnToSetup, h, State.refuse]

/-- In SETUP, ENTER ENFORCE evaluates every zone and then changes the mode, with a trigger besides those of the evaluation (R19). -/
theorem State.beginEnforce_of_setup {s : State} (h : s.mode = .setup) :
    ∃ t e p, s.EvaluatedInSetup t allZones ∧ s.AnyTrigger s.beginEnforce ∧
      s.beginEnforce = { t with mode := .enforce, engine := e, arbiter := { t.arbiter with passSinceHead := p } } := by
  have heval := State.EvaluatedInSetup.of_evaluateZones h
  unfold State.beginEnforce
  generalize s.evaluateZones = t at heval ⊢
  have htrigger : ({ t with mode := .enforce } : State).Raised _ True := State.trigger_raised (by simp)
  exact ⟨t, _, _, heval, (heval.raised.trans (t := t) htrigger).1 (.inr trivial), State.trigger_eq _⟩

/-- In SETUP, SET CLOCK sets the clock and then evaluates every zone (R17). -/
theorem takeSetClock_of_setup {s : State} (h : s.mode = .setup) (minute second : Nat) :
    ∃ t, ({ s with clock := clockSetTo minute second } : State).EvaluatedInSetup t allZones ∧
      takeSetClock { minute := minute, second := second } s =
        (t, { status := .done, reason := none, adjusted := decide (1439 < minute ∨ 59 < second), items := .none }) := by
  refine ⟨_, State.EvaluatedInSetup.of_evaluateZones h, ?_⟩
  simp [takeSetClock, h, Answer.doneAdjusted, clampSetting_zero_adjusted, clampSetting_zero_value, clockSetTo]

/-! ### The statements -/

/-- Settles O44: the state after SET CLOCK is the evaluation of every zone, by the SETUP rules, at the clock just set. -/
theorem setClockSetsTheTimeInSetup : Obligations.SetClockSetsTheTimeInSetup := by
  intro s tag minute second hready
  refine ⟨fun henforce => answered_of_ready hready rfl (takeSetClock_of_enforce henforce _), fun hsetup => ?_⟩
  obtain ⟨t, heval, htake⟩ := takeSetClock_of_setup hsetup minute second
  refine ⟨t, answered_of_ready hready rfl htake, ?_, fun z => ⟨?_, ?_⟩, ⟨?_, ?_⟩, fun _ _ => ?_⟩
  · obtain ⟨_, _, _, _, rfl⟩ := heval.framed
    rfl
  · exact heval.zone_eq_evaluateZone hsetup (List.mem_finRange z)
  · exact fun hz hlost => heval.reported hlost z hz
  · exact heval.raised.1
  · exact fun hsame => heval.raised.2 (not_exists.2 hsame)
  · obtain ⟨_, _, _, _, rfl⟩ := heval.framed
    exact ⟨rfl, rfl⟩

/-- Settles O45, request by request along the checks of R19 and R21. -/
theorem modesChangeByTheirRequests : Obligations.ModesChangeByTheirRequests := by
  intro s tag hready
  have hbegin {t : State} {a : Answer} (h : takeEnterEnforce s = (t, a)) : Answered (.enterEnforce 0 tag) s t 0 0x13 tag a :=
    answered_of_ready hready rfl h
  have hreturn {t : State} {a : Answer} (h : takeReturnToSetup s = (t, a)) : Answered (.returnToSetup 0 tag) s t 0 0x14 tag a :=
    answered_of_ready hready rfl h
  refine ⟨fun henforce => hbegin (takeEnterEnforce_of_enforce henforce), fun hsetup => ⟨?_, ?_, ?_, ?_, ?_⟩, fun henforce => ⟨?_, ?_⟩⟩
  · exact hreturn (takeReturnToSetup_of_setup hsetup)
  · exact fun htable => hbegin (takeEnterEnforce_of_busy hsetup htable)
  · intro htable hunset
    exact hbegin (by rw [takeEnterEnforce_of_idle hsetup htable, if_pos hunset])
  · intro htable hset hnone
    have hreceptor : ¬s.anyReceptor = true := by simpa [State.anyReceptor_eq_true_iff] using hnone
    exact hbegin (by rw [takeEnterEnforce_of_idle hsetup htable, if_neg (by simp [hset]), if_neg hreceptor])
  · intro htable hset hsome
    have hreceptor := s.anyReceptor_eq_true_iff.2 hsome
    obtain ⟨t, e, p, heval, htrigger, hbegun⟩ := State.beginEnforce_of_setup hsetup
    have hzone (z : ZoneId) : s.beginEnforce.zone z = t.zone z := by
      rw [hbegun]
      rfl
    have hnotices : s.beginEnforce.notices = t.notices := by rw [hbegun]
    refine ⟨s.beginEnforce, hbegin ?_, ?_, fun z => ?_, fun z => ?_, htrigger, fun hlost z hz => ?_⟩
    · rw [takeEnterEnforce_of_idle hsetup htable, if_neg (by simp [hset]), if_pos hreceptor]
    · obtain ⟨_, _, _, _, rfl⟩ := heval.framed
      rw [hbegun]
    · rw [hzone]
      exact heval.zone_eq_evaluateZone hsetup (List.mem_finRange z)
    · rw [hzone]
      exact heval.grace_eq (List.mem_finRange z)
    · rw [hzone] at hz
      rw [hnotices] at hlost ⊢
      rw [State.zoneNotice_congr (hzone z)]
      exact heval.reported hlost z hz
  · intro hbusy
    have hquiet : ¬s.allQuiet = true := by
      rw [State.allQuiet_eq_true_iff]
      rintro ⟨hslots, hqueue⟩
      obtain ⟨i, hempty, hquiet⟩ | hqueued := hbusy
      · exact (hslots i).elim hempty hquiet
      · exact hqueued hqueue
    exact hreturn (by rw [takeReturnToSetup_of_enforce henforce, if_neg hquiet])
  · intro hslots hqueue
    have hquiet := s.allQuiet_eq_true_iff.2 ⟨hslots, hqueue⟩
    exact hreturn (by rw [takeReturnToSetup_of_enforce henforce, if_pos hquiet])

end Sys2Proof.Machine
end

section
/-! SUPPORT. PUSH CAP, POP CAP, FORCE CLAMP and RELEASE CLAMP: how a request that names an occupied slot is refused or reaches it, what each does to
the slot, and the three statements about them (R98, R99, R101, R102). -/

namespace Sys2Proof.Machine

/-! ### A console request on another link (R158 step 3) -/

theorem State.serve_of_not_console {s : State} {p : Port} (h : s.Ready p) (hp : p ≠ 0) (kind tag : Nat) (body : Option Handler) :
    s.serve p kind tag .console body = s.hold p { kind := kind + 128, tag := tag, answer := .refused .noSuch } := by
  obtain ⟨hloader, hmode, hbuffer⟩ := h
  simp [State.serve, State.accept, hloader, hbuffer, hmode, State.checked, Served.on, hp, State.refuse, replyKind]

/-! ### Naming a slot (R160) -/

theorem slotOf_eq_none {n : Nat} (h : n = 0 ∨ 8 < n) : slotOf n = none := by
  unfold slotOf keyFromOne
  split
  next => exact if_neg (by omega)
  next => rfl

theorem slotOf_succ (i : SlotId) : slotOf (i.val + 1) = some i := by simp [slotOf, keyFromOne]

theorem SlotState.occupied_of_ne_empty {x : SlotState} (h : x ≠ .empty) : x.occupied = true := by
  cases x
  case empty => exact absurd rfl h
  all_goals rfl

theorem forOccupied_of_out_of_range {n : Nat} (h : n = 0 ∨ 8 < n) (owner : SlotId → Handler) (s : State) :
    forOccupied n owner s = (s, .refused .noSuch) := by
  simp [forOccupied, slotOf_eq_none h, State.refuse]

theorem forOccupied_of_empty {s : State} {i : SlotId} (h : (s.slot i).state = .empty) (owner : SlotId → Handler) :
    forOccupied (i.val + 1) owner s = (s, .refused .noSuch) := by
  simp [forOccupied, slotOf_succ, h, SlotState.occupied, State.refuse]

theorem forOccupied_of_ne_empty {s : State} {i : SlotId} (h : (s.slot i).state ≠ .empty) (owner : SlotId → Handler) :
    forOccupied (i.val + 1) owner s = owner i s := by
  simp [forOccupied, slotOf_succ, SlotState.occupied_of_ne_empty h]

/-- The request names no occupied slot. -/
theorem forOccupied_refused {s : State} {n : Nat} (h : n = 0 ∨ 8 < n ∨ ∃ i : SlotId, n = i.val + 1 ∧ (s.slot i).state = .empty)
    (owner : SlotId → Handler) : forOccupied n owner s = (s, .refused .noSuch) := by
  obtain hzero | hhigh | ⟨i, rfl, hempty⟩ := h
  · exact forOccupied_of_out_of_range (.inl hzero) owner s
  · exact forOccupied_of_out_of_range (.inr hhigh) owner s
  · exact forOccupied_of_empty hempty owner

/-- The link comes before the slot number in the order of the checks (R158). -/
theorem answered_noSuch {c : Instr} {s : State} {p : Port} {kind tag n : Nat} {owner : SlotId → Handler} (h : s.Ready p)
    (hexec : exec c s = .next (s.serve p kind tag .console (some (forOccupied n owner)))) (hno : p ≠ 0 ∨ n = 0 ∨ 8 < n) :
    Answered c s s p kind tag (.refused .noSuch) := by
  by_cases hp : p = 0
  · subst hp
    exact answered_of_ready h hexec (forOccupied_of_out_of_range (hno.resolve_left fun hne => hne rfl) owner s)
  · rw [Answered, hexec, State.serve_of_not_console h hp]

/-- A console request that names an occupied slot is answered by that slot's owner. -/
theorem answered_of_occupied {c : Instr} {s t : State} {kind tag : Nat} {i : SlotId} {owner : SlotId → Handler} {a : Answer} (h : s.Ready 0)
    (hexec : exec c s = .next (s.serve 0 kind tag .console (some (forOccupied (i.val + 1) owner)))) (hslot : (s.slot i).state ≠ .empty)
    (howner : owner i s = (t, a)) : Answered c s t 0 kind tag a :=
  answered_of_ready h hexec ((forOccupied_of_ne_empty hslot owner).trans howner)

/-! ### One slot's record changes, with a trigger (R101, R102, R108) -/

theorem State.trigger_engineTriggered {s : State} (h : s.mode ≠ .boot) : s.EngineTriggered s.trigger := by
  unfold State.EngineTriggered State.trigger
  rw [if_neg h]
  cases hactivity : s.engine.activity
  case idle => exact ⟨rfl, rfl⟩
  case recalculating => exact ⟨rfl, rfl⟩
  case forecasting => exact ⟨rfl, rfl⟩

theorem State.trigger_slots (s : State) : s.trigger.slots = s.slots := by rw [State.trigger_eq]

theorem State.trigger_slot (s : State) (i : SlotId) : s.trigger.slot i = s.slot i := by simp only [State.slot, State.trigger_slots]

theorem State.updSlot_trigger {s : State} (h : s.mode ≠ .boot) (i : SlotId) (f : Slot → Slot) :
    let t := (s.updSlot i f).trigger
    t = { s with slots := t.slots, engine := t.engine, arbiter := t.arbiter } ∧
      t.slot i = f (s.slot i) ∧ (∀ j, j ≠ i → t.slot j = s.slot j) ∧ s.EngineTriggered t := by
  refine ⟨?_, ?_, fun j hj => ?_, ?_⟩
  · rw [State.trigger_eq]
    rfl
  · rw [State.trigger_slot, State.slot_updSlot_same]
  · rw [State.trigger_slot, State.slot_updSlot_ne s i j f hj]
  · exact State.trigger_engineTriggered (s := s.updSlot i f) h

/-! ### The override stack (R101, R102) -/

theorem takePushCap_of_full {s : State} {i : SlotId} (h : 4 ≤ (s.slot i).caps.length) (cap : Nat) :
    takePushCap cap i s = (s, .refused .stackFull) := by
  simp [takePushCap, h, State.refuse]

theorem takePushCap_of_room {s : State} {i : SlotId} (h : (s.slot i).caps.length < 4) (cap : Nat) :
    takePushCap cap i s =
      ((s.updSlot i fun x => { x with caps := min cap 1400 :: x.caps }).trigger,
        .doneAdjusted (decide (1400 < cap)) (.capPushed ((s.slot i).caps.length + 1) (min cap 1400))) := by
  simp [takePushCap, h, clampSetting_zero_adjusted, clampSetting_zero_value, Nat.min_comm]

theorem takePopCap_of_nil {s : State} {i : SlotId} (h : (s.slot i).caps = []) : takePopCap i s = (s, .refused .stackEmpty) := by
  simp [takePopCap, h, State.refuse]

theorem takePopCap_of_cons {s : State} {i : SlotId} {top : Level} {rest : List Level} (h : (s.slot i).caps = top :: rest) :
    takePopCap i s =
      ((s.updSlot i fun x => { x with caps := rest }).trigger, .done (.capStack rest.length rest.head?)) := by
  simp [takePopCap, h]

/-! ### A change of a slot's clamp causes (R96, R97) -/

theorem State.setSlot_slot (s : State) (i : SlotId) : s.setSlot i (s.slot i) = s := by
  simp [State.setSlot, State.slot, Vector.get_eq_getElem]

theorem State.updSlot_of_eq {s : State} {i : SlotId} {f : Slot → Slot} (h : f (s.slot i) = s.slot i) : s.updSlot i f = s := by
  rw [State.updSlot, h, State.setSlot_slot]

theorem State.updClamped_of_eq {s : State} {i : SlotId} {f : Slot → Slot} (h : f (s.slot i) = s.slot i) (event : ClampEvent)
    (report : Option (Level × Nat × Level)) : s.updClamped i f event report = s := by
  simp [State.updClamped, State.updSlot_of_eq h, State.reportClamp]

theorem State.updClamped_slot (s : State) (i j : SlotId) (f : Slot → Slot) (event : ClampEvent) (report : Option (Level × Nat × Level)) :
    (s.updClamped i f event report).slot j = (s.updSlot i f).slot j := by
  rw [State.updClamped_eq]
  rfl

theorem State.clampNotice_congr {s t : State} {i : SlotId} (h : t.slot i = s.slot i) : t.clampNotice i = s.clampNotice i := by
  simp only [State.clampNotice, h]

theorem State.send_notices (s : State) (c : Copy) : (s.send c).notices = s.notices := by rw [State.send_eq]

theorem State.send_witness (s : State) (c : Copy) :
    (s.send c).witness = if c.enabled s.site.enables then s.witness.take c s.clock.minute s.clock.second else s.witness := by
  unfold State.send
  split
  · rfl
  · rfl

theorem State.send_post_witness (s : State) (n : Notice) (c : Copy) : ((s.post n).send c).witness = (s.send c).witness := by
  rw [State.send_witness, State.send_witness]
  rfl

theorem State.send_updSlot_witness (s : State) (i : SlotId) (f : Slot → Slot) (c : Copy) :
    ((s.updSlot i f).send c).witness = (s.send c).witness := by
  rw [State.send_witness, State.send_witness]
  rfl

/-- A change of the causes posts the CLAMP notice and sends the CLAMP copy of the record after it (R96). -/
theorem State.reportClamp_of_causes_ne {s : State} {i : SlotId} {before : Slot} (h : (s.slot i).causes ≠ before.causes) (event : ClampEvent)
    (report : Option (Level × Nat × Level)) :
    (s.reportClamp i before event report).notices = s.notices.post (s.clampNotice i) ∧
      (s.reportClamp i before event report).witness =
        (s.send (.clamp i (s.slot i).port before.causes (s.slot i).causes (s.slot i).lineAsserted event (s.slot i).lastLevel s.clock.minute
          s.clock.second report)).witness := by
  have hposted : s.reportClamp i before event report = (s.post (s.clampNotice i)).send _ := if_neg fun hsame => h hsame.1
  rw [hposted]
  exact ⟨State.send_notices _ _, State.send_post_witness _ _ _⟩

theorem State.updClamped_of_causes_ne {s : State} {i : SlotId} {f : Slot → Slot} (h : (f (s.slot i)).causes ≠ (s.slot i).causes)
    (event : ClampEvent) (report : Option (Level × Nat × Level)) :
    let t := s.updClamped i f event report
    t.notices = s.notices.post (t.clampNotice i) ∧
      t.witness =
        (s.send (.clamp i (t.slot i).port (s.slot i).causes (t.slot i).causes (t.slot i).lineAsserted event (t.slot i).lastLevel
          s.clock.minute s.clock.second report)).witness := by
  intro t
  have hslot : t.slot i = (s.updSlot i f).slot i := State.updClamped_slot s i i f event report
  have hcauses : ((s.updSlot i f).slot i).causes ≠ (s.slot i).causes := by rwa [State.slot_updSlot_same]
  obtain ⟨hnotices, hwitness⟩ := State.reportClamp_of_causes_ne hcauses event report
  rw [State.clampNotice_congr hslot, hslot]
  exact ⟨hnotices, hwitness.trans (State.send_updSlot_witness _ _ _ _)⟩

/-! ### The CONSOLE cause (R98, R99) -/

/-- The record with its CONSOLE cause added or removed. -/
def Slot.withConsole (present : Bool) (x : Slot) : Slot := { x with causes := { x.causes with hasConsole := present } }

theorem Slot.withConsole_of_eq {x : Slot} {present : Bool} (h : x.causes.hasConsole = present) : x.withConsole present = x := by
  subst h
  rfl

theorem Slot.withConsole_causes_ne {x : Slot} {present : Bool} (h : x.causes.hasConsole ≠ present) :
    (x.withConsole present).causes ≠ x.causes :=
  fun hsame => h (congrArg Causes.hasConsole hsame).symm

/-- CONSOLE alone keeps the line of the bound port asserted (R97). -/
theorem Slot.withConsole_true_lineAsserted (x : Slot) : (x.withConsole true).lineAsserted = x.port.isSome := by
  simp [Slot.lineAsserted, Slot.withConsole, Causes.any]

theorem Slot.withConsole_false_lineAsserted (x : Slot) :
    (x.withConsole false).lineAsserted = (x.port.isSome && (x.causes.hasOver || x.causes.hasStale || x.causes.hasHandover)) := by
  simp [Slot.lineAsserted, Slot.withConsole, Causes.any]

theorem State.setConsole_eq (s : State) (i : SlotId) (present : Bool) (event : ClampEvent) :
    s.setConsole i present event =
      (s.updClamped i (Slot.withConsole present) event none, .done (.causes ((s.slot i).withConsole present).causes)) := by
  have hslot := State.updClamped_slot s i i (Slot.withConsole present) event none
  rw [State.slot_updSlot_same] at hslot
  rw [← hslot]
  rfl

theorem State.setConsole_of_eq {s : State} {i : SlotId} {present : Bool} (h : (s.slot i).causes.hasConsole = present) (event : ClampEvent) :
    s.setConsole i present event = (s, .done (.causes ((s.slot i).withConsole present).causes)) := by
  rw [State.setConsole_eq, State.updClamped_of_eq (Slot.withConsole_of_eq h)]

/-- A change of the CONSOLE cause is reported once and touches no other field of the slot. -/
theorem State.setConsole_of_ne {s : State} {i : SlotId} {present : Bool} (h : (s.slot i).causes.hasConsole ≠ present) (event : ClampEvent) :
    let y := (s.slot i).withConsole present
    ∃ t, s.setConsole i present event = (t, .done (.causes y.causes)) ∧
      t = { s with slots := t.slots, notices := s.notices.post (t.clampNotice i), witness := t.witness } ∧
      t.slot i = y ∧ (∀ j, j ≠ i → t.slot j = s.slot j) ∧
      t.witness = (s.send (.clamp i (s.slot i).port (s.slot i).causes y.causes (t.slot i).lineAsserted event (s.slot i).lastLevel
        s.clock.minute s.clock.second none)).witness := by
  intro y
  have hslot (j : SlotId) := State.updClamped_slot s i j (Slot.withConsole present) event none
  have hrecord : (s.updClamped i (Slot.withConsole present) event none).slot i = y := (hslot i).trans (State.slot_updSlot_same s i _)
  obtain ⟨hnotices, hwitness⟩ := State.updClamped_of_causes_ne (Slot.withConsole_causes_ne h) event none
  refine ⟨_, State.setConsole_eq s i present event, ?_, hrecord, fun j hj => ?_, ?_⟩
  · rw [← hnotices, State.updClamped_eq]
  · rw [hslot, State.slot_updSlot_ne s i j _ hj]
  · rw [hrecord] at hwitness ⊢
    exact hwitness

/-! ### The statements -/

/-- Settles O47, by the height of the override stack. -/
theorem capsArePushedAndPopped : Obligations.CapsArePushedAndPopped := by
  refine ⟨fun s tag n cap hready hno => ⟨?_, ?_⟩, fun s tag cap i hready hslot => ?_⟩
  · exact answered_of_ready hready rfl (forOccupied_refused hno (takePushCap cap))
  · exact answered_of_ready hready rfl (forOccupied_refused hno takePopCap)
  · have hpush {t : State} {a : Answer} (h : takePushCap cap i s = (t, a)) :
        Answered (.pushCap 0 tag (.whole { slot := i.val + 1, cap := cap })) s t 0 0x20 tag a :=
      answered_of_occupied hready rfl hslot h
    have hpop {t : State} {a : Answer} (h : takePopCap i s = (t, a)) : Answered (.popCap 0 tag (.whole (i.val + 1))) s t 0 0x21 tag a :=
      answered_of_occupied hready rfl hslot h
    obtain ⟨_, hmode, _⟩ := hready
    refine ⟨fun hfull => ?_, fun hroom => ?_, fun hnil => ?_, fun top rest hcons => ?_⟩
    · exact hpush (takePushCap_of_full hfull cap)
    · exact ⟨_, hpush (takePushCap_of_room hroom cap), State.updSlot_trigger hmode i _⟩
    · exact hpop (takePopCap_of_nil hnil)
    · exact ⟨_, hpop (takePopCap_of_cons hcons), State.updSlot_trigger hmode i _⟩

/-- Settles O48: CONSOLE present is the unchanged case, CONSOLE absent the changed one. -/
theorem forceClampAddsTheConsoleCause : Obligations.ForceClampAddsTheConsoleCause := by
  refine ⟨fun s p tag n hready hno => answered_noSuch hready rfl hno, fun s tag i hready => ⟨?_, ?_, ?_⟩⟩
  · exact fun hempty => answered_of_ready hready rfl (forOccupied_of_empty hempty _)
  · exact fun hslot hpresent => answered_of_occupied hready rfl hslot (State.setConsole_of_eq hpresent .forceClamp)
  · intro hslot habsent
    obtain ⟨t, hset, hframe, hrecord, hothers, hwitness⟩ := State.setConsole_of_ne (ne_true_of_eq_false habsent) .forceClamp
    refine ⟨t, answered_of_occupied hready rfl hslot hset, hframe, hrecord, hothers, fun hport => ?_, hwitness⟩
    rw [hrecord, Slot.withConsole_true_lineAsserted]
    exact Option.isSome_iff_ne_none.2 hport

/-- Settles O49: CONSOLE absent is the unchanged case, CONSOLE present the changed one. -/
theorem releaseClampRemovesTheConsoleCause : Obligations.ReleaseClampRemovesTheConsoleCause := by
  refine ⟨fun s p tag n hready hno => answered_noSuch hready rfl hno, fun s tag i hready => ⟨?_, ?_, ?_⟩⟩
  · exact fun hempty => answered_of_ready hready rfl (forOccupied_of_empty hempty _)
  · exact fun hslot habsent => answered_of_occupied hready rfl hslot (State.setConsole_of_eq habsent .releaseClamp)
  · intro hslot hpresent
    obtain ⟨t, hset, hframe, hrecord, hothers, hwitness⟩ := State.setConsole_of_ne (ne_false_of_eq_true hpresent) .releaseClamp
    refine ⟨t, answered_of_occupied hready rfl hslot hset, hframe, hrecord, hothers, ?_, hwitness⟩
    rw [hrecord]
    exact Slot.withConsole_false_lineAsserted _

end Sys2Proof.Machine
end

section
/-! SUPPORT. FORECAST: which lists of slot numbers name a query, what the latch does with the query in each of its states, and the statement about
them (R145 to R147). -/

namespace Sys2Proof.Machine

/-! ### A request that every link serves (R158 step 3) -/

theorem State.serve_both_of_ready {s : State} {p : Port} (h : s.Ready p) (kind tag : Nat) (owner : Handler) :
    s.serve p kind tag .both (some owner) = (owner s).1.hold p { kind := kind + 128, tag := tag, answer := (owner s).2 } := by
  obtain ⟨hloader, hmode, hbuffer⟩ := h
  simp [State.serve, State.accept, hloader, hbuffer, hmode, State.checked, Served.on, replyKind]

theorem answered_forecast {s t : State} {p : Port} {tag : Nat} {numbers : List Nat} {a : Answer} (h : s.Ready p)
    (htake : State.takeForecastRequest p numbers s = (t, a)) : Answered (.forecast p tag (.whole numbers)) s t p 0x05 tag a := by
  have hexec : exec (.forecast p tag (.whole numbers)) s = .next (s.serve p 0x05 tag .both (some (State.takeForecastRequest p numbers))) := rfl
  rw [Answered, hexec, State.serve_both_of_ready h, htake]

/-! ### The query that a list of slot numbers names (R145) -/

theorem slotOf_isSome {n : Nat} (h : 1 ≤ n ∧ n ≤ 8) : (slotOf n).isSome = true := by
  obtain ⟨k, rfl⟩ := Nat.exists_eq_add_of_le' h.1
  rw [slotOf_succ ⟨k, by omega⟩]
  rfl

theorem queryOf_eq_none {numbers : List Nat} (h : ∃ n ∈ numbers, n = 0 ∨ 8 < n) : queryOf numbers = none := by
  obtain ⟨n, hmem, hrange⟩ := h
  refine if_neg fun hall => ?_
  have hsome := List.all_eq_true.1 hall n hmem
  simp [slotOf_eq_none hrange] at hsome

theorem queryOf_eq_some {numbers : List Nat} (h : ∀ n ∈ numbers, 1 ≤ n ∧ n ≤ 8) :
    queryOf numbers = some (allSlots.filter fun i => numbers.contains (i.val + 1)) :=
  if_pos (List.all_eq_true.2 fun n hmem => slotOf_isSome (h n hmem))

/-! ### The checks before the latch (R145) -/

theorem takeForecastRequest_of_setup {s : State} {p : Port} (hmode : s.mode = .setup) (hp : p ≠ 0) (numbers : List Nat) :
    State.takeForecastRequest p numbers s = (s, .notReady) := if_pos ⟨hmode, hp⟩

theorem not_setup_stage {s : State} {p : Port} (h : s.mode = .enforce ∨ p = 0) : ¬(s.mode = .setup ∧ p ≠ 0) := by
  rintro ⟨hsetup, hp⟩
  obtain henforce | hzero := h
  · cases henforce.symm.trans hsetup
  · exact hp hzero

theorem takeForecastRequest_of_not_query {s : State} {p : Port} {numbers : List Nat} (hserved : s.mode = .enforce ∨ p = 0)
    (h : numbers = [] ∨ 8 < numbers.length ∨ ∃ n ∈ numbers, n = 0 ∨ 8 < n) :
    State.takeForecastRequest p numbers s = (s, .refused .noSuch) := by
  unfold State.takeForecastRequest
  rw [if_neg (not_setup_stage hserved)]
  split
  next => rfl
  next hlength =>
    obtain ⟨hnonempty, hshort⟩ := not_or.1 hlength
    obtain hnil | hlong | hrange := h
    · exact absurd (List.isEmpty_iff.2 hnil) hnonempty
    · exact absurd hlong hshort
    · rw [queryOf_eq_none hrange]
      rfl

theorem takeForecastRequest_of_query {s : State} {p : Port} {numbers : List Nat} (hserved : s.mode = .enforce ∨ p = 0) (hne : numbers ≠ [])
    (hlength : numbers.length ≤ 8) (hrange : ∀ n ∈ numbers, 1 ≤ n ∧ n ≤ 8) :
    State.takeForecastRequest p numbers s = s.meetLatch p (allSlots.filter fun i => numbers.contains (i.val + 1)) := by
  have hcount : ¬(numbers.isEmpty ∨ 8 < numbers.length) := not_or.2 ⟨fun hnil => hne (List.isEmpty_iff.1 hnil), not_lt.2 hlength⟩
  unfold State.takeForecastRequest
  rw [if_neg (not_setup_stage hserved), if_neg hcount, queryOf_eq_some hrange]

/-! ### A query meets the latch (R146, R147) -/

section meetLatch

variable {s : State} (p : Port) (query : List SlotId)

theorem State.takeQuery_of_busy (h : s.engine.activity ≠ .idle) : s.takeQuery p query = { s with latch := .queued p query } := by
  unfold State.takeQuery
  cases hactivity : s.engine.activity
  case idle => exact absurd hactivity h
  case recalculating => rfl
  case forecasting => rfl

theorem State.takeQuery_of_idle (h : s.engine.activity = .idle) :
    s.takeQuery p query =
      { s with
        latch := .computing p query
        engine := { s.engine with activity := .forecasting s.capture query s.clock.minute s.clock.second } } := by
  unfold State.takeQuery
  rw [h]
  rfl

theorem State.meetLatch_of_empty (h : s.latch = .empty) :
    s.meetLatch p query = (s.takeQuery p query, (s.takeQuery p query).deferAnswer true) := by
  unfold State.meetLatch
  rw [h]

/-- A latch that still waits for its result defers every query, and tells the owner of the same query that it matches. -/
theorem State.meetLatch_of_unfinished {o : Port} {q : List SlotId} (h : s.latch = .queued o q ∨ s.latch = .computing o q) :
    s.meetLatch p query = (s, s.deferAnswer (decide (o = p ∧ q = query))) := by
  obtain hqueued | hcomputing := h
  · simp [State.meetLatch, hqueued, Latch.held, beq_eq_decide]
  · simp [State.meetLatch, hcomputing, Latch.held, beq_eq_decide]

theorem State.meetLatch_of_ready {o : Port} {q : List SlotId} {result : List (SlotId × Level)} {m sec left : Nat}
    (h : s.latch = .ready o q result m sec left) :
    s.meetLatch p query =
      if o = p ∧ q = query then ({ s with latch := .empty }, .done (.forecast result m sec))
      else (s, .withStatus .defer (.defer 3 false)) := by
  simp [State.meetLatch, h, State.deferAnswer, Latch.code]

end meetLatch

/-! ### The statement -/

/-- Settles O41, by the checks in their order and then by the state of the latch. -/
theorem forecastMeetsTheLatch : Obligations.ForecastMeetsTheLatch := by
  refine fun s p tag numbers hready => ⟨fun hsetup hp => ?_, fun hserved => ⟨fun hbad => ?_, fun hne hlength hrange => ?_⟩⟩
  · exact answered_forecast hready (takeForecastRequest_of_setup hsetup hp numbers)
  · exact answered_forecast hready (takeForecastRequest_of_not_query hserved hbad)
  · intro query
    have hmeet {t : State} {a : Answer} (h : s.meetLatch p query = (t, a)) : Answered (.forecast p tag (.whole numbers)) s t p 0x05 tag a :=
      answered_forecast hready ((takeForecastRequest_of_query hserved hne hlength hrange).trans h)
    refine ⟨fun hempty hbusy => ?_, fun hempty hidle => ?_, fun o q hqueued => ?_, fun o q hcomputing => ?_,
      fun o q result m sec left hlatch => ⟨fun hsame => ?_, fun hother => ?_⟩⟩
    · exact hmeet (by rw [State.meetLatch_of_empty p query hempty, State.takeQuery_of_busy p query hbusy]; rfl)
    · exact hmeet (by rw [State.meetLatch_of_empty p query hempty, State.takeQuery_of_idle p query hidle]; rfl)
    · exact hmeet (by rw [State.meetLatch_of_unfinished p query (.inl hqueued), State.deferAnswer, hqueued]; rfl)
    · exact hmeet (by rw [State.meetLatch_of_unfinished p query (.inr hcomputing), State.deferAnswer, hcomputing]; rfl)
    · exact hmeet (by rw [State.meetLatch_of_ready p query hlatch, if_pos hsame])
    · exact hmeet (by rw [State.meetLatch_of_ready p query hlatch, if_neg hother])

end Sys2Proof.Machine
end

section
/-! SUPPORT. What a step can do, said once: what the owner of a request makes of the state (`OwnerStep`), and what any command, or the idle step, makes of it
(`StepCase`). -/

namespace Sys2Proof.Machine

/-! ### Values read from a request -/

theorem clampNat_bounds {low high : Nat} (h : low ≤ high) (v : Nat) : low ≤ clampNat low high v ∧ clampNat low high v ≤ high := by
  unfold clampNat; omega

theorem clampSetting_value (low high v : Nat) : (clampSetting low high v).value = clampNat low high v := rfl

theorem keyFromOne_eq_some {n v : Nat} {i : Fin n} : keyFromOne n v = some i ↔ v = i.val + 1 := by
  obtain ⟨i, hi⟩ := i
  unfold keyFromOne
  split
  · split <;> simp <;> omega
  · simp; omega

theorem siteInRange_clampSite (blind rise fall tolerance overLimit release stale age handover discard : Nat) (e : WitnessEnables) :
    (clampSite blind rise fall tolerance overLimit release stale age handover discard e).1.InRange := by
  simp only [Site.InRange, clampSite]
  refine ⟨?_, ?_, ?_, ?_, ?_, ?_, ?_, ?_, ?_, ?_, ?_, ?_, ?_, ?_, ?_, ?_, ?_, ?_⟩ <;> (unfold clampNat; omega)

theorem mem_insertBreakpoint {b x : Breakpoint} {l : List Breakpoint} : x ∈ insertBreakpoint b l ↔ x = b ∨ x ∈ l := by
  induction l with
  | nil => simp [insertBreakpoint]
  | cons y ys ih =>
    unfold insertBreakpoint
    split
    · simp
    · simp only [List.mem_cons, ih]; tauto

theorem length_insertBreakpoint (b : Breakpoint) (l : List Breakpoint) : (insertBreakpoint b l).length = l.length + 1 := by
  induction l with
  | nil => rfl
  | cons y ys ih => unfold insertBreakpoint; split <;> simp [ih]

/-- Inserting a breakpoint at a new minute keeps a list in strictly ascending order. -/
theorem insertBreakpoint_pairwise {b : Breakpoint} {l : List Breakpoint} (hl : l.Pairwise fun a b => a.minute < b.minute)
    (hb : ∀ x ∈ l, x.minute ≠ b.minute) : (insertBreakpoint b l).Pairwise fun a b => a.minute < b.minute := by
  induction l with
  | nil => simp [insertBreakpoint]
  | cons y ys ih =>
    obtain ⟨hy, hys⟩ := List.pairwise_cons.1 hl
    unfold insertBreakpoint
    split
    · rename_i hlt
      refine List.pairwise_cons.2 ⟨fun x hx => ?_, hl⟩
      rcases List.mem_cons.1 hx with rfl | hx
      · exact hlt
      · exact hlt.trans (hy x hx)
    · rename_i hge
      have hne := hb y List.mem_cons_self
      refine List.pairwise_cons.2 ⟨fun x hx => ?_, ih hys fun x hx => hb x (List.mem_cons_of_mem y hx)⟩
      rcases mem_insertBreakpoint.1 hx with rfl | hx
      · omega
      · exact hy x hx

theorem sortBreakpoints_foldl (acc l : List Breakpoint) (hacc : acc.Pairwise fun a b => a.minute < b.minute)
    (hl : l.Pairwise fun a b => a.minute ≠ b.minute) (hne : ∀ a ∈ acc, ∀ b ∈ l, a.minute ≠ b.minute) :
    (l.foldl (fun acc b => insertBreakpoint b acc) acc).Pairwise (fun a b => a.minute < b.minute) ∧
      (l.foldl (fun acc b => insertBreakpoint b acc) acc).length = acc.length + l.length ∧
      ∀ x, x ∈ l.foldl (fun acc b => insertBreakpoint b acc) acc ↔ x ∈ acc ∨ x ∈ l := by
  induction l generalizing acc with
  | nil => simp [hacc]
  | cons y ys ih =>
    obtain ⟨hy, hys⟩ := List.pairwise_cons.1 hl
    have hins : (insertBreakpoint y acc).Pairwise fun a b => a.minute < b.minute :=
      insertBreakpoint_pairwise hacc fun x hx => hne x hx y List.mem_cons_self
    have hne' : ∀ a ∈ insertBreakpoint y acc, ∀ b ∈ ys, a.minute ≠ b.minute := by
      intro a ha b hb
      rcases mem_insertBreakpoint.1 ha with rfl | ha
      · exact hy b hb
      · exact hne a ha b (List.mem_cons_of_mem y hb)
    obtain ⟨hp, hlen, hmem⟩ := ih _ hins hys hne'
    refine ⟨hp, ?_, fun x => ?_⟩
    · simp only [List.foldl_cons, hlen, length_insertBreakpoint, List.length_cons]; omega
    · simp only [List.foldl_cons, hmem, mem_insertBreakpoint, List.mem_cons]; tauto

/-- Breakpoints at different minutes are put in strictly ascending order, none lost and none added. -/
theorem sortBreakpoints_spec {l : List Breakpoint} (hl : l.Pairwise fun a b => a.minute ≠ b.minute) :
    (sortBreakpoints l).Pairwise (fun a b => a.minute < b.minute) ∧ (sortBreakpoints l).length = l.length ∧
      ∀ x, x ∈ sortBreakpoints l ↔ x ∈ l := by
  simpa [sortBreakpoints] using sortBreakpoints_foldl [] l List.Pairwise.nil hl (by simp)

theorem pairwise_of_repeatsMinute {l : List BreakpointArgs} (h : repeatsMinute l = false) :
    l.Pairwise fun a b => a.minute ≠ b.minute := by
  induction l with
  | nil => exact List.Pairwise.nil
  | cons b bs ih =>
    simp only [repeatsMinute, Bool.or_eq_false_iff, List.any_eq_false, beq_iff_eq] at h
    exact List.pairwise_cons.2 ⟨fun c hc he => h.1 c hc he.symm, ih h.2⟩

/-- The breakpoints a write spells stand at the minutes it gives, their limits clamped. -/
theorem minutes_of_mapM {l : List BreakpointArgs} {xs : List Breakpoint}
    (h : (l.mapM fun b => (flagOf b.curfew).map fun c =>
      ({ minute := b.minute, limit := clampNat 0 1400 b.limit, curfew := c } : Breakpoint)) = some xs) :
    xs.map (·.minute) = l.map (·.minute) ∧ ∀ x ∈ xs, x.limit ≤ 1400 := by
  induction l generalizing xs with
  | nil => simp only [List.mapM_nil] at h; cases h; simp
  | cons b bs ih =>
    rw [List.mapM_cons] at h
    obtain ⟨x, hx, h⟩ := Option.bind_eq_some_iff.1 h
    obtain ⟨ys, hys, h⟩ := Option.bind_eq_some_iff.1 h
    obtain ⟨c, -, rfl⟩ := Option.map_eq_some_iff.1 hx
    cases h
    obtain ⟨hminutes, hlimits⟩ := ih hys
    exact ⟨by simp [hminutes], List.forall_mem_cons.2 ⟨(clampNat_bounds (by omega) _).2, hlimits⟩⟩

/-- The breakpoints of a ZONE write that passes the checks of R30 make a sound list. -/
theorem breakpointsSound_of_write {l : List BreakpointArgs} {bps : List Breakpoint} (hlen : l.length ≤ 8)
    (hminute : ∀ b ∈ l, b.minute ≤ 1439) (hbps : clampBreakpoints l = some bps) (hrep : repeatsMinute l = false) :
    BreakpointsSound bps ∧ (bps = [] ↔ l = []) := by
  obtain ⟨xs, hxs, rfl⟩ := Option.map_eq_some_iff.1 hbps
  obtain ⟨hminutes, hlimits⟩ := minutes_of_mapM hxs
  have hdistinct : (xs.map (·.minute)).Pairwise (· ≠ ·) := by
    rw [hminutes]; exact List.pairwise_map.2 (pairwise_of_repeatsMinute hrep)
  obtain ⟨hp, hl, hmem⟩ := sortBreakpoints_spec (List.pairwise_map.1 hdistinct)
  have hxl : xs.length = l.length := by simpa using congrArg List.length hminutes
  refine ⟨⟨by omega, hp, fun x hx => ⟨?_, hlimits x ((hmem x).1 hx)⟩⟩, ?_⟩
  · have hx' : x.minute ∈ l.map (·.minute) := hminutes ▸ List.mem_map_of_mem ((hmem x).1 hx)
    obtain ⟨b, hb, hbx⟩ := List.mem_map.1 hx'
    exact hbx ▸ hminute b hb
  · rw [← List.length_eq_zero_iff, ← List.length_eq_zero_iff, hl, hxl]

end Sys2Proof.Machine
end

section
/-! SUPPORT. What a step can do, said once: what the owner of a request makes of the state (`OwnerStep`), and what any command, or the idle step, makes of it
(`StepCase`). -/

namespace Sys2Proof.Machine

/-! ### The owner of each request row -/

/-- The owner that answers a request row once the link interface has made its own checks; absent where the body is too short (R158). -/
def ownerOf : Instr → Option Handler
  | .enrol p _ a => handled a (State.takeEnrol p)
  | .report p _ a => handled a fun a => forBoundSlot p (State.takeReport a)
  | .goLive p _ => some (notInSetup (forBoundSlot p State.takeGoLive))
  | .goQuiet p _ => some (forBoundSlot p (State.takeQuiet false))
  | .forecast p _ a => handled a (State.takeForecastRequest p)
  | .identify _ _ => some takeIdentify
  | .siteStatus _ _ a => handled a takeSiteStatus
  | .setClock _ _ a => handled a takeSetClock
  | .enterEnforce _ _ => some takeEnterEnforce
  | .returnToSetup _ _ => some takeReturnToSetup
  | .warmRestart _ _ => some takeWarmRestart
  | .tableWriteSite _ _ a => (handled a writeSite).map whenIdle
  | .tableDeleteSite _ _ a => (handled a fun _ => deleteSite).map whenIdle
  | .tableFindSite _ _ a => (handled a fun _ s => (s, .done .none)).map whenIdle
  | .tableReadSite _ _ a => (handled a fun _ s => (s, .done (.site s.site))).map whenIdle
  | .tableWriteZone _ _ a => (handled a writeZone).map whenIdle
  | .tableDeleteZone _ _ a => (handled a deleteZone).map whenIdle
  | .tableFindZone _ _ a => (handled a readZone).map whenIdle
  | .tableReadZone _ _ a => (handled a readZone).map whenIdle
  | .tableWriteReceptor _ _ a => (handled a writeReceptor).map whenIdle
  | .tableDeleteReceptor _ _ a => (handled a fun n => forReceptor n deleteReceptor).map whenIdle
  | .tableFindReceptor _ _ a => (handled a findReceptor).map whenIdle
  | .tableReadReceptor _ _ a => (handled a readReceptor).map whenIdle
  | .tableWriteStage _ _ a => (handled a writeStage).map whenIdle
  | .tableDeleteStage _ _ a => (handled a deleteStage).map whenIdle
  | .tableFindStage _ _ a => (handled a findStage).map whenIdle
  | .tableReadStage _ _ a => (handled a readStage).map whenIdle
  | .tableWritePath _ _ a => (handled a fun a => forPathKey a.slot a.receptor (writePath a.loss)).map whenIdle
  | .tableDeletePath _ _ a => (handled a fun k => forPathKey k.slot k.receptor deletePath).map whenIdle
  | .tableFindPath _ _ a => (handled a fun k => forPathKey k.slot k.receptor findPath).map whenIdle
  | .tableReadPath _ _ a => (handled a readPath).map whenIdle
  | .tableWriteExceedance _ _ a => (handled a fun _ s => s.refuse .isProtected).map whenIdle
  | .tableDeleteExceedance _ _ a => (handled a fun _ s => s.refuse .isProtected).map whenIdle
  | .tableFindExceedance _ _ a => (handled a findExceedance).map whenIdle
  | .tableReadExceedance _ _ a => (handled a readExceedance).map whenIdle
  | .tableWriteRing _ _ a => (handled a fun _ s => s.refuse .isProtected).map whenIdle
  | .tableDeleteRing _ _ a => (handled a fun _ s => s.refuse .isProtected).map whenIdle
  | .tableFindRing _ _ a => (handled a findReceptor).map whenIdle
  | .tableReadRing _ _ a => (handled a readRing).map whenIdle
  | .tableClear _ _ a => (handled a takeClear).map whenIdle
  | .pushCap _ _ a => handled a fun a => forOccupied a.slot (takePushCap a.cap)
  | .popCap _ _ a => handled a fun n => forOccupied n takePopCap
  | .forceClamp _ _ a => handled a fun n => forOccupied n fun i s => s.setConsole i true .forceClamp
  | .releaseClamp _ _ a => handled a fun n => forOccupied n fun i s => s.setConsole i false .releaseClamp
  | .forceQuiet _ _ a => handled a fun n => forOccupied n (State.takeQuiet true)
  | .evict _ _ a => handled a takeEvict
  | .readNotices _ _ a => handled a takeReadNotices
  | .setAttentionMask _ _ a => handled a takeSetMask
  | .saveSettings _ _ => some takeSaveSettings
  | _ => none

/-- Every request row is served with its owner behind the checks of the link interface (R158). -/
theorem exec_request {c : Instr} {h : RequestHead} (hc : requestHead c = some h) (s : State) :
    exec c s = .next (s.serve h.port h.kind h.tag h.served (ownerOf c)) := by
  cases c <;> cases hc <;> rfl

/-! ### What an owner makes of the state -/

/-- What the owner of a request that arrived on port `p` makes of the state `s`, with what its checks have found. -/
inductive OwnerStep (p : Port) (s : State) : State → Prop
  | unchanged : OwnerStep p s s
  | enrols (bound : Option SlotId) (i : SlotId) (id : Identity) (hport : p ≠ 0) (hbound : s.boundSlot p = bound)
      (hsettled : ∀ j ∈ bound, (s.slot j).settledQuiet = true ∧ (s.slot j).identity ≠ some id) (helsewhere : s.boundElsewhere p id = false)
      (hchosen : s.chosenSlot bound id = some i) : OwnerStep p s ((s.releaseSlot bound).bindSlot i p id)
  | reports (a : ReportArgs) (i : SlotId) (hbound : s.boundSlot p = some i) : OwnerStep p s (s.takeReport a i).1
  | joins (i : SlotId) (hbound : s.boundSlot p = some i) (hmode : s.mode = .enforce) (hquiet : (s.slot i).state = .quiet)
      (hmapped : s.mapped i = true) (hcurfew : s.underCurfew i = false) : OwnerStep p s (s.joinQueue i)
  | quiets (forced : Bool) (i : SlotId) (hnamed : s.boundSlot p = some i ∨ (s.slot i).state.occupied = true) :
      OwnerStep p s (s.takeQuiet forced i).1
  | takesQuery (q : List SlotId) (hlatch : s.latch = .empty) (hquery : q.length ≤ 8) : OwnerStep p s (s.takeQuery p q)
  | handsForecast (o : Port) (q : List SlotId) (result : List (SlotId × Level)) (m sec left : Nat)
      (hlatch : s.latch = .ready o q result m sec left) : OwnerStep p s { s with latch := .empty }
  | setsClock (minute second : Nat) (hmode : s.mode ≠ .enforce) (hminute : minute < 1440) (hsecond : second < 60) :
      OwnerStep p s ({ s with clock := { ms := 0, minute := minute, second := second, isSet := true } } : State).evaluateZones
  | entersEnforce (hmode : s.mode ≠ .enforce) (htable : s.table = .idle) : OwnerStep p s s.beginEnforce
  | returnsToSetup (hmode : s.mode = .enforce) (hquiet : s.allQuiet = true) : OwnerStep p s { s with mode := .setup }
  | pushesCap (i : SlotId) (cap : Level) (hcap : cap ≤ 1400) (hroom : (s.slot i).caps.length < 4) :
      OwnerStep p s (s.updSlot i fun x => { x with caps := cap :: x.caps }).trigger
  | popsCap (i : SlotId) (top : Level) (rest : List Level) (hcaps : (s.slot i).caps = top :: rest) :
      OwnerStep p s (s.updSlot i fun x => { x with caps := rest }).trigger
  | setsConsole (i : SlotId) (present : Bool) (event : ClampEvent) : OwnerStep p s (s.setConsole i present event).1
  | evicts (i : SlotId) (hsettled : (s.slot i).settledQuiet = true) : OwnerStep p s (s.evictSlot i)
  | readsNotices (n : Nat) : OwnerStep p s { s with notices := { s.notices with notices := s.notices.notices.drop n, lost := false } }
  | setsMask (mask : Vector Bool 10) : OwnerStep p s { s with notices := { s.notices with mask := mask } }
  | savesSettings (hmode : s.mode ≠ .enforce) (htable : s.table = .idle) : OwnerStep p s { s with table := .saving s.captureSettings }
  | replacesSite (x : Site) (htable : s.table = .idle) (hx : x.InRange) : OwnerStep p s (s.replaceSite x)
  | replacesZone (z : ZoneId) (bps : List Breakpoint) (ramp margin : Nat) (htable : s.table = .idle) (hbps : BreakpointsSound bps)
      (hramp : 1 ≤ ramp ∧ ramp ≤ 50) (hmargin : margin ≤ 60) (hused : bps = [] → s.zoneUsed z = false) :
      OwnerStep p s (s.replaceZone z bps ramp margin)
  | unloadsZone (z : ZoneId) (htable : s.table = .idle) (hmode : s.mode ≠ .enforce) (hused : s.zoneUsed z = false) :
      OwnerStep p s (s.unloadZone z)
  | createsReceptor (r : ReceptorId) (address : Nat) (z : ZoneId) (floor : Level) (htable : s.table = .idle)
      (haddress : 1 ≤ address ∧ address ≤ 31) (hzone : (s.zone z).breakpoints ≠ []) (htaken : s.addressTaken r address = false)
      (hfloor : floor ≤ 1400) (hnone : s.receptor r = none) : OwnerStep p s (s.setReceptor r (some (receptorCreated address z floor)))
  | editsReceptor (r : ReceptorId) (x : Receptor) (address : Nat) (z : ZoneId) (floor : Level) (htable : s.table = .idle)
      (haddress : 1 ≤ address ∧ address ≤ 31) (hzone : (s.zone z).breakpoints ≠ []) (htaken : s.addressTaken r address = false)
      (hfloor : floor ≤ 1400) (hsome : s.receptor r = some x)
      (hprotected : s.mode = .enforce → x.address = address ∧ x.zone = z) : OwnerStep p s (s.editReceptor r x address z floor)
  | removesReceptor (r : ReceptorId) (x : Receptor) (htable : s.table = .idle) (hmode : s.mode ≠ .enforce)
      (hnamed : s.receptorNamed r = false) (hsome : s.receptor r = some x) : OwnerStep p s (s.removeReceptor r)
  | replacesStage (i : SlotId) (k : StageKind) (weight : Nat) (stageMax : Level) (htable : s.table = .idle)
      (hkind : s.kindTaken i k = false) (hport : (s.slot i).rekindedBy k = true → (s.slot i).port = none)
      (hweight : 1 ≤ weight ∧ weight ≤ 4) (hmax : stageMax ≤ 1400) : OwnerStep p s (s.replaceStage i k weight stageMax)
  | returnsStage (i : SlotId) (htable : s.table = .idle) (hmode : s.mode ≠ .enforce) (hport : (s.slot i).port = none) :
      OwnerStep p s (s.returnStage i)
  | createsPath (q : PathPos) (i : SlotId) (r : ReceptorId) (loss : Nat) (htable : s.table = .idle) (hslot : (s.slot i).state ≠ .empty)
      (hreceptor : (s.receptor r).isSome = true) (hloss : loss ≤ 1200) (hposition : s.pathPosition i r = none)
      (hfree : s.freePathPosition = some q) : OwnerStep p s (s.createPath q i r loss)
  | changesLoss (q : PathPos) (i : SlotId) (r : ReceptorId) (old loss : Nat) (htable : s.table = .idle) (hslot : (s.slot i).state ≠ .empty)
      (hreceptor : (s.receptor r).isSome = true) (hloss : loss ≤ 1200) (hposition : s.pathPosition i r = some q) :
      OwnerStep p s (s.changeLoss q i r old loss)
  | deletesPath (q : PathPos) (i : SlotId) (r : ReceptorId) (htable : s.table = .idle) (hmode : s.mode ≠ .enforce)
      (hposition : s.pathPosition i r = some q) : OwnerStep p s (s.setPath q none).trigger
  | ordersClear (k : Table) (htable : s.table = .idle) (hrefusal : s.clearRefusal k = none) : OwnerStep p s { s with table := .clearing k }

/-- An owner that leaves the state to every request it gets. -/
theorem OwnerStep.of_eq {p : Port} {s t : State} (h : t = s) : OwnerStep p s t := h ▸ .unchanged

/-- A table request reaches its owner over an IDLE table engine alone (R166). -/
theorem ownerStep_whenIdle {p : Port} {s : State} {owner : Handler} (h : s.table = .idle → OwnerStep p s (owner s).1) :
    OwnerStep p s (whenIdle owner s).1 := by
  unfold whenIdle
  split
  · exact .unchanged
  · rename_i hbusy
    exact h (by simpa [State.tableBusy] using hbusy)

theorem ownerStep_forBoundSlot {p : Port} {s : State} {owner : SlotId → Handler}
    (h : ∀ i, s.boundSlot p = some i → OwnerStep p s (owner i s).1) : OwnerStep p s (forBoundSlot p owner s).1 := by
  unfold forBoundSlot
  split
  · exact h _ ‹_›
  · exact .unchanged

theorem ownerStep_forOccupied {p : Port} {s : State} {n : Nat} {owner : SlotId → Handler}
    (h : ∀ i, (s.slot i).state.occupied = true → OwnerStep p s (owner i s).1) : OwnerStep p s (forOccupied n owner s).1 := by
  unfold forOccupied
  split
  · exact .unchanged
  · split
    · exact h _ ‹_›
    · exact .unchanged

theorem ownerStep_forReceptor {p : Port} {s : State} {n : Nat} {owner : ReceptorId → Receptor → Handler}
    (h : ∀ r x, s.receptor r = some x → OwnerStep p s (owner r x s).1) : OwnerStep p s (forReceptor n owner s).1 := by
  unfold forReceptor
  split
  · exact .unchanged
  · split
    · exact .unchanged
    · exact h _ _ ‹_›

theorem ownerStep_forPathKey {p : Port} {s : State} {slot receptor : Nat} {owner : SlotId → ReceptorId → Handler}
    (h : ∀ i r, OwnerStep p s (owner i r s).1) : OwnerStep p s (forPathKey slot receptor owner s).1 := by
  unfold forPathKey
  split
  · exact h _ _
  · exact .unchanged

theorem boundSlot_eq_some {s : State} {p : Port} {i : SlotId} (h : s.boundSlot p = some i) : p ≠ 0 ∧ (s.slot i).port = some p := by
  unfold State.boundSlot at h
  split at h
  · cases h
  · exact ⟨‹_›, by simpa using List.find?_some h⟩

/-! ### The stage link's owners -/

theorem ownerStep_enrolSlot {p : Port} {s : State} {bound : Option SlotId} {a : EnrolArgs} (hport : p ≠ 0) (hbound : s.boundSlot p = bound)
    (hidentity : ∀ j ∈ bound, (s.slot j).identity ≠ some a.identity) (helsewhere : s.boundElsewhere p a.identity = false) :
    OwnerStep p s (s.enrolSlot p bound a).1 := by
  unfold State.enrolSlot
  split
  · exact .unchanged
  · rename_i hsettled
    split
    · exact .unchanged
    · rename_i i hchosen
      refine .enrols bound i a.identity hport hbound (fun j hj => ⟨?_, hidentity j hj⟩) helsewhere hchosen
      cases hj
      simpa using hsettled

theorem ownerStep_takeEnrol {p : Port} (s : State) (a : EnrolArgs) (hport : p ≠ 0) : OwnerStep p s (s.takeEnrol p a).1 := by
  unfold State.takeEnrol
  split
  · rename_i i hbound
    split
    · exact .unchanged
    · rename_i hidentity
      split
      · exact .unchanged
      · exact ownerStep_enrolSlot hport hbound (fun j hj => by cases hj; exact hidentity) (eq_false_of_ne_true ‹_›)
  · rename_i hbound
    split
    · exact .unchanged
    · exact ownerStep_enrolSlot hport hbound (by simp) (eq_false_of_ne_true ‹_›)

theorem ownerStep_takeGoLive {p : Port} {s : State} {i : SlotId} (hmode : s.mode = .enforce) (hbound : s.boundSlot p = some i) :
    OwnerStep p s (s.takeGoLive i).1 := by
  unfold State.takeGoLive
  split
  · rename_i hquiet
    split
    · rename_i hmapped
      split
      · exact .unchanged
      · exact .joins i hbound hmode hquiet hmapped (eq_false_of_ne_true ‹_›)
    · exact .unchanged
  all_goals exact .unchanged

theorem length_queryOf {ns : List Nat} {q : List SlotId} (h : queryOf ns = some q) : q.length ≤ 8 := by
  unfold queryOf at h
  split at h
  · cases h
    exact (List.length_filter_le _ _).trans (by simp)
  · cases h

theorem ownerStep_takeForecastRequest {p : Port} (s : State) (ns : List Nat) : OwnerStep p s (s.takeForecastRequest p ns).1 := by
  unfold State.takeForecastRequest
  split
  · exact .unchanged
  · split
    · exact .unchanged
    · split
      · exact .unchanged
      · rename_i q hq
        unfold State.meetLatch
        split
        · exact .takesQuery q ‹_› (length_queryOf hq)
        · split
          · exact .handsForecast _ _ _ _ _ _ ‹_›
          · exact .unchanged
        · exact .unchanged

/-! ### The console's owners -/

theorem ownerStep_takeSetClock {p : Port} (s : State) (a : ClockArgs) : OwnerStep p s (takeSetClock a s).1 := by
  unfold takeSetClock
  split
  · exact .unchanged
  · have hm := (clampNat_bounds (show 0 ≤ 1439 by omega) a.minute).2
    have hs := (clampNat_bounds (show 0 ≤ 59 by omega) a.second).2
    dsimp only [clampSetting_value]
    exact .setsClock (clampNat 0 1439 a.minute) (clampNat 0 59 a.second) ‹_› (by omega) (by omega)

theorem ownerStep_takeEnterEnforce {p : Port} (s : State) : OwnerStep p s (takeEnterEnforce s).1 := by
  unfold takeEnterEnforce
  split
  · exact .unchanged
  · split
    · exact .unchanged
    · rename_i hbusy
      split
      · exact .unchanged
      · split
        · dsimp only
          exact .entersEnforce ‹_› (by simpa [State.tableBusy] using hbusy)
        · exact .unchanged

theorem ownerStep_takeReturnToSetup {p : Port} (s : State) : OwnerStep p s (takeReturnToSetup s).1 := by
  unfold takeReturnToSetup
  split
  · split
    · exact .returnsToSetup ‹_› ‹_›
    · exact .unchanged
  · exact .unchanged

theorem ownerStep_takePushCap {p : Port} (s : State) (cap : Nat) (i : SlotId) : OwnerStep p s (takePushCap cap i s).1 := by
  unfold takePushCap
  dsimp only
  split
  · exact .unchanged
  · exact .pushesCap i (clampNat 0 1400 cap) (clampNat_bounds (by omega) cap).2 (by omega)

theorem ownerStep_takePopCap {p : Port} (s : State) (i : SlotId) : OwnerStep p s (takePopCap i s).1 := by
  unfold takePopCap
  split
  · exact .unchanged
  · exact .popsCap i _ _ ‹_›

theorem ownerStep_takeEvict {p : Port} (s : State) (n : Nat) : OwnerStep p s (takeEvict n s).1 := by
  unfold takeEvict
  split
  · exact .unchanged
  · split
    · exact .evicts _ ‹_›
    · exact .unchanged

theorem ownerStep_takeSetMask {p : Port} (s : State) (e : Vector Nat 10) : OwnerStep p s (takeSetMask e s).1 := by
  unfold takeSetMask
  split
  · exact .setsMask _
  · exact .unchanged

theorem ownerStep_takeSaveSettings {p : Port} (s : State) : OwnerStep p s (takeSaveSettings s).1 := by
  unfold takeSaveSettings
  split
  · exact .unchanged
  · split
    · exact .unchanged
    · rename_i hbusy
      exact .savesSettings ‹_› (by simpa [State.tableBusy] using hbusy)

/-! ### The tables' owners -/

theorem ownerStep_writeSite {p : Port} {s : State} (htable : s.table = .idle) (a : SiteArgs) : OwnerStep p s (writeSite a s).1 := by
  unfold writeSite
  split
  · exact .unchanged
  · dsimp only
    split
    · exact .unchanged
    · dsimp only
      exact .replacesSite _ htable (siteInRange_clampSite ..)

theorem siteDefault_inRange : siteDefault.InRange := by decide

theorem ownerStep_deleteSite {p : Port} {s : State} (htable : s.table = .idle) : OwnerStep p s (deleteSite s).1 := by
  unfold deleteSite
  split
  · exact .unchanged
  · dsimp only
    exact .replacesSite _ htable siteDefault_inRange

theorem ownerStep_writeZone {p : Port} {s : State} (htable : s.table = .idle) (a : ZoneArgs) : OwnerStep p s (writeZone a s).1 := by
  unfold writeZone
  split
  · exact .unchanged
  · split
    · exact .unchanged
    · split
      · exact .unchanged
      · rename_i hlen hminute
        split
        · exact .unchanged
        · rename_i bps hbps
          split
          · exact .unchanged
          · rename_i hrep
            split
            · exact .unchanged
            · rename_i hused
              dsimp only
              split
              · exact .unchanged
              · obtain ⟨hsound, hnil⟩ := breakpointsSound_of_write (l := a.breakpoints) (by omega) (by simpa using hminute) hbps (by simpa using hrep)
                refine .replacesZone _ bps _ _ htable hsound (clampNat_bounds (by omega) _) (clampNat_bounds (by omega) _).2 fun h => ?_
                simpa [hnil.1 h] using hused

theorem ownerStep_deleteZone {p : Port} {s : State} (htable : s.table = .idle) (n : Nat) : OwnerStep p s (deleteZone n s).1 := by
  unfold deleteZone
  split
  · exact .unchanged
  · split
    · exact .unchanged
    · split
      · exact .unchanged
      · exact .unloadsZone _ htable ‹_› (eq_false_of_ne_true ‹_›)

theorem ownerStep_writeReceptor {p : Port} {s : State} (htable : s.table = .idle) (a : ReceptorArgs) :
    OwnerStep p s (writeReceptor a s).1 := by
  unfold writeReceptor
  split
  · exact .unchanged
  · split
    · exact .unchanged
    · rename_i haddress
      split
      · exact .unchanged
      · rename_i z hz
        split
        · exact .unchanged
        · rename_i hzone
          split
          · exact .unchanged
          · rename_i htaken
            have haddress' : 1 ≤ a.address ∧ a.address ≤ 31 := by omega
            have hfloor := (clampNat_bounds (show 0 ≤ 1400 by omega) a.floor).2
            have hzone' : (s.zone z).breakpoints ≠ [] := by simpa using hzone
            dsimp only
            split
            · exact .createsReceptor _ _ _ _ htable haddress' hzone' (by simpa using htaken) hfloor ‹_›
            · split
              · exact .unchanged
              · rename_i hprotected
                exact .editsReceptor _ _ _ _ _ htable haddress' hzone' (by simpa using htaken) hfloor ‹_› fun h => by
                  simpa [h] using hprotected

theorem ownerStep_deleteReceptor {p : Port} {s : State} (htable : s.table = .idle) {r : ReceptorId} {x : Receptor} (hsome : s.receptor r = some x) :
    OwnerStep p s (deleteReceptor r x s).1 := by
  unfold deleteReceptor
  split
  · exact .unchanged
  · split
    · exact .unchanged
    · exact .removesReceptor r x htable ‹_› (eq_false_of_ne_true ‹_›) hsome

theorem ownerStep_writeStage {p : Port} {s : State} (htable : s.table = .idle) (a : StageArgs) : OwnerStep p s (writeStage a s).1 := by
  unfold writeStage
  split
  · exact .unchanged
  · split
    · exact .unchanged
    · dsimp only
      split
      · exact .unchanged
      · rename_i hkind
        split
        · exact .unchanged
        · rename_i hport
          split
          · exact .unchanged
          · split
            · exact .unchanged
            · refine .replacesStage _ _ _ _ htable (by simpa using hkind) (fun h => ?_) (clampNat_bounds (by omega) _)
                (clampNat_bounds (by omega) _).2
              simpa [h] using hport

theorem ownerStep_deleteStage {p : Port} {s : State} (htable : s.table = .idle) (n : Nat) : OwnerStep p s (deleteStage n s).1 := by
  unfold deleteStage
  split
  · exact .unchanged
  · split
    · exact .unchanged
    · split
      · exact .unchanged
      · exact .returnsStage _ htable ‹_› (by simpa using ‹¬(s.slot _).port.isSome = true›)

theorem ownerStep_writePath {p : Port} {s : State} (htable : s.table = .idle) (loss : Nat) (i : SlotId) (r : ReceptorId) :
    OwnerStep p s (writePath loss i r s).1 := by
  have hloss := (clampNat_bounds (show 0 ≤ 1200 by omega) loss).2
  unfold writePath
  split
  · exact .unchanged
  · split
    · exact .unchanged
    · rename_i hslot hreceptor
      have hreceptor' : (s.receptor r).isSome = true := by simpa [Option.isSome_iff_ne_none] using hreceptor
      dsimp only
      split
      · split
        · exact .unchanged
        · exact .changesLoss _ i r _ _ htable hslot hreceptor' hloss ‹_›
      · split
        · exact .unchanged
        · exact .createsPath _ i r _ htable hslot hreceptor' hloss ‹_› ‹_›

theorem ownerStep_deletePath {p : Port} {s : State} (htable : s.table = .idle) (i : SlotId) (r : ReceptorId) :
    OwnerStep p s (deletePath i r s).1 := by
  unfold deletePath
  split
  · exact .unchanged
  · split
    · exact .unchanged
    · exact .deletesPath _ i r htable ‹_› ‹_›

theorem ownerStep_takeClear {p : Port} {s : State} (htable : s.table = .idle) (n : Nat) : OwnerStep p s (takeClear n s).1 := by
  unfold takeClear
  split
  · exact .unchanged
  · split
    · exact .unchanged
    · exact .ordersClear _ htable ‹_›

/-- The owner behind the parameters of a body. -/
theorem ownerStep_handled {α : Type} {p : Port} {s : State} {params : Params α} {owner : α → Handler} {handler : Handler}
    (h : handled params owner = some handler) (howner : ∀ a, OwnerStep p s (owner a s).1) : OwnerStep p s (handler s).1 := by
  cases params <;> cases h
  · exact howner _
  · exact .unchanged

/-- The owner of a table request behind the parameters of a body. -/
theorem ownerStep_table {α : Type} {p : Port} {s : State} {params : Params α} {owner : α → Handler} {handler : Handler}
    (h : (handled params owner).map whenIdle = some handler) (howner : s.table = .idle → ∀ a, OwnerStep p s (owner a s).1) :
    OwnerStep p s (handler s).1 := by
  cases params <;> cases h
  · exact ownerStep_whenIdle fun htable => howner htable _
  · exact ownerStep_whenIdle fun _ => .unchanged

end Sys2Proof.Machine
end

section
/-! SUPPORT. The step, case by case: what a request row, an event row and the idle step make of the state. -/

namespace Sys2Proof.Machine

theorem forReceptor_fst {n : Nat} {owner : ReceptorId → Receptor → Handler} {s : State} (h : ∀ r x, (owner r x s).1 = s) :
    (forReceptor n owner s).1 = s := by
  unfold forReceptor
  split
  · rfl
  · split
    · rfl
    · exact h _ _

theorem forPathKey_fst {slot receptor : Nat} {owner : SlotId → ReceptorId → Handler} {s : State} (h : ∀ i r, (owner i r s).1 = s) :
    (forPathKey slot receptor owner s).1 = s := by
  unfold forPathKey
  split
  · exact h _ _
  · rfl

theorem takeSiteStatus_fst (n : Nat) (s : State) : (takeSiteStatus n s).1 = s := by
  unfold takeSiteStatus
  split <;> rfl

theorem readZone_fst (n : Nat) (s : State) : (readZone n s).1 = s := by
  unfold readZone
  split <;> rfl

theorem findReceptor_fst (n : Nat) (s : State) : (findReceptor n s).1 = s := forReceptor_fst fun _ _ => rfl

theorem readReceptor_fst (n : Nat) (s : State) : (readReceptor n s).1 = s := forReceptor_fst fun _ _ => rfl

theorem findStage_fst (id : Identity) (s : State) : (findStage id s).1 = s := by
  unfold findStage
  split <;> rfl

theorem readStage_fst (n : Nat) (s : State) : (readStage n s).1 = s := by
  unfold readStage
  split <;> rfl

theorem findPath_fst (i : SlotId) (r : ReceptorId) (s : State) : (findPath i r s).1 = s := by
  unfold findPath
  split <;> rfl

theorem readPath_fst (n : Nat) (s : State) : (readPath n s).1 = s := by
  unfold readPath
  split <;> rfl

theorem findExceedance_fst (n : Nat) (s : State) : (findExceedance n s).1 = s := forReceptor_fst fun _ x => by split <;> rfl

theorem readExceedance_fst (n : Nat) (s : State) : (readExceedance n s).1 = s := by
  unfold readExceedance
  split
  · rfl
  · split <;> rfl

theorem readRing_fst (a : RingArgs) (s : State) : (readRing a s).1 = s := forReceptor_fst fun _ _ => by split <;> rfl

theorem takeWarmRestart_fst (s : State) : (takeWarmRestart s).1 = s := by
  unfold takeWarmRestart
  split <;> rfl

/-- What the owner of a request row makes of the state, once the link serves the row and the mode is not BOOT. -/
theorem ownerStep_of_request {c : Instr} {h : RequestHead} {owner : Handler} {s : State} (hc : requestHead c = some h)
    (ho : ownerOf c = some owner) (hon : h.served.on h.port = true) (hmode : s.mode ≠ .boot) : OwnerStep h.port s (owner s).1 := by
  cases c <;> cases hc
  case enrol p tag a => exact ownerStep_handled ho fun a => ownerStep_takeEnrol s a (by simpa [Served.on] using hon)
  case report p tag a => exact ownerStep_handled ho fun a => ownerStep_forBoundSlot fun i hi => .reports a i hi
  case goLive p tag =>
    cases ho
    unfold notInSetup
    split
    · exact .unchanged
    · rename_i hsetup
      have henforce : s.mode = .enforce := by cases hm : s.mode <;> simp_all
      exact ownerStep_forBoundSlot fun i hi => ownerStep_takeGoLive henforce hi
  case goQuiet p tag => cases ho; exact ownerStep_forBoundSlot fun i hi => .quiets false i (.inl hi)
  case forecast p tag a => exact ownerStep_handled ho fun a => ownerStep_takeForecastRequest s a
  case identify p tag => cases ho; exact .unchanged
  case siteStatus p tag a => exact ownerStep_handled ho fun a => .of_eq (takeSiteStatus_fst a s)
  case setClock p tag a => exact ownerStep_handled ho fun a => ownerStep_takeSetClock s a
  case enterEnforce p tag => cases ho; exact ownerStep_takeEnterEnforce s
  case returnToSetup p tag => cases ho; exact ownerStep_takeReturnToSetup s
  case warmRestart p tag => cases ho; exact .of_eq (takeWarmRestart_fst s)
  case tableWriteSite p tag a => exact ownerStep_table ho fun htable a => ownerStep_writeSite htable a
  case tableDeleteSite p tag a => exact ownerStep_table ho fun htable a => ownerStep_deleteSite htable
  case tableFindSite p tag a => exact ownerStep_table ho fun _ _ => .unchanged
  case tableReadSite p tag a => exact ownerStep_table ho fun _ _ => .unchanged
  case tableWriteZone p tag a => exact ownerStep_table ho fun htable a => ownerStep_writeZone htable a
  case tableDeleteZone p tag a => exact ownerStep_table ho fun htable a => ownerStep_deleteZone htable a
  case tableFindZone p tag a => exact ownerStep_table ho fun _ a => .of_eq (readZone_fst a s)
  case tableReadZone p tag a => exact ownerStep_table ho fun _ a => .of_eq (readZone_fst a s)
  case tableWriteReceptor p tag a => exact ownerStep_table ho fun htable a => ownerStep_writeReceptor htable a
  case tableDeleteReceptor p tag a =>
    exact ownerStep_table ho fun htable a => ownerStep_forReceptor fun r x hx => ownerStep_deleteReceptor htable hx
  case tableFindReceptor p tag a => exact ownerStep_table ho fun _ a => .of_eq (findReceptor_fst a s)
  case tableReadReceptor p tag a => exact ownerStep_table ho fun _ a => .of_eq (readReceptor_fst a s)
  case tableWriteStage p tag a => exact ownerStep_table ho fun htable a => ownerStep_writeStage htable a
  case tableDeleteStage p tag a => exact ownerStep_table ho fun htable a => ownerStep_deleteStage htable a
  case tableFindStage p tag a => exact ownerStep_table ho fun _ a => .of_eq (findStage_fst a s)
  case tableReadStage p tag a => exact ownerStep_table ho fun _ a => .of_eq (readStage_fst a s)
  case tableWritePath p tag a =>
    exact ownerStep_table ho fun htable a => ownerStep_forPathKey fun i r => ownerStep_writePath htable a.loss i r
  case tableDeletePath p tag a => exact ownerStep_table ho fun htable a => ownerStep_forPathKey fun i r => ownerStep_deletePath htable i r
  case tableFindPath p tag a => exact ownerStep_table ho fun _ a => .of_eq (forPathKey_fst fun i r => findPath_fst i r s)
  case tableReadPath p tag a => exact ownerStep_table ho fun _ a => .of_eq (readPath_fst a s)
  case tableWriteExceedance p tag a => exact ownerStep_table ho fun _ _ => .unchanged
  case tableDeleteExceedance p tag a => exact ownerStep_table ho fun _ _ => .unchanged
  case tableFindExceedance p tag a => exact ownerStep_table ho fun _ a => .of_eq (findExceedance_fst a s)
  case tableReadExceedance p tag a => exact ownerStep_table ho fun _ a => .of_eq (readExceedance_fst a s)
  case tableWriteRing p tag a => exact ownerStep_table ho fun _ _ => .unchanged
  case tableDeleteRing p tag a => exact ownerStep_table ho fun _ _ => .unchanged
  case tableFindRing p tag a => exact ownerStep_table ho fun _ a => .of_eq (findReceptor_fst a s)
  case tableReadRing p tag a => exact ownerStep_table ho fun _ a => .of_eq (readRing_fst a s)
  case tableClear p tag a => exact ownerStep_table ho fun htable a => ownerStep_takeClear htable a
  case pushCap p tag a => exact ownerStep_handled ho fun a => ownerStep_forOccupied fun i _ => ownerStep_takePushCap s a.cap i
  case popCap p tag a => exact ownerStep_handled ho fun a => ownerStep_forOccupied fun i _ => ownerStep_takePopCap s i
  case forceClamp p tag a => exact ownerStep_handled ho fun a => ownerStep_forOccupied fun i _ => .setsConsole i true _
  case releaseClamp p tag a => exact ownerStep_handled ho fun a => ownerStep_forOccupied fun i _ => .setsConsole i false _
  case forceQuiet p tag a => exact ownerStep_handled ho fun a => ownerStep_forOccupied fun i hi => .quiets true i (.inr hi)
  case evict p tag a => exact ownerStep_handled ho fun a => ownerStep_takeEvict s a
  case readNotices p tag a => exact ownerStep_handled ho fun a => .readsNotices _
  case setAttentionMask p tag a => exact ownerStep_handled ho fun a => ownerStep_takeSetMask s a
  case saveSettings p tag => cases ho; exact ownerStep_takeSaveSettings s

/-! ### Any command, and the idle step -/

/-- What a command, or the idle step, makes of the state `s`, with what its conditions have found. -/
inductive StepCase (s : State) : State → Prop
  | unchanged : StepCase s s
  | hardReset (start : StartKind) : StepCase s (s.hardReset start)
  | warmRestart (hordered : s.restartOrdered = true) : StepCase s s.warmRestart
  | released (hheld : s.loader = .held) : StepCase s { s with loader := .loading }
  | loadEnds (hloading : s.loader = .loading) : StepCase s s.completeLoad
  | memoryAbsent (hloading : s.loader = .loading) : StepCase s (s.post (.site .memoryAbsent)).endLoad
  | secondBoundary : StepCase s s.secondBoundary
  | minuteBoundary : StepCase s s.minuteBoundary
  | pollSent (p : Poll) (hpoll : s.poller.poll = some p) (hwait : p.wait = none) : StepCase s (s.setPoll (some { p with wait := some 40 }))
  | pollEnds (cls : PollClass) (level : Level) (hlevel : level ≤ 1400) : StepCase s (s.pollEnds cls level)
  | recalculationEnds (c : Capture) (hactivity : s.engine.activity = .recalculating c) : StepCase s (s.endRecalculation c)
  | forecastEnds (c : Capture) (q : List SlotId) (m sec : Nat) (hactivity : s.engine.activity = .forecasting c q m sec) :
      StepCase s (s.endForecast c q m sec)
  | staleTime (i : SlotId) : StepCase s (s.staleSlot i)
  | ageOut (i : SlotId) : StepCase s (s.ageSlot i)
  | handoverExpires (htimer : s.arbiter.timer.isSome = true) : StepCase s (s.grant .byTimeout)
  | discards : StepCase s s.discardForecast
  | clearEnds (k : Table) (htable : s.table = .clearing k) : StepCase s ((s.clearTable k).1.engineDone (.cleared k (s.clearTable k).2))
  | saveEnds (image : List SectionImage) (htable : s.table = .saving image) (ws : List Host.Cell) (result : EngineResult)
      (hresult : result = .saved ∨ ∃ sec, result = .saveFailed sec) :
      StepCase s (({ s with settings := s.settings.writeAll ws } : State).engineDone result)
  | receiver (p : Port) (r : Receiver) : StepCase s (s.setLink p { s.link p with receiver := r })
  | replySent (p : Port) : StepCase s (s.setLink p { s.link p with buffer := none })
  | busReceiver (r : Receiver) (hawaiting : s.awaiting.isSome = true) : StepCase s { s with poller := { s.poller with receiver := r } }
  | entrySent : StepCase s { s with witness := s.witness.entrySent }
  | refuses (p : Port) (r : Reply) (hloader : s.loader ≠ .held) (hr : r.answer.adjusted = false ∧
      (r.answer = .notReady ∨ r.answer = .refused .noSuch ∨ ∃ k, r.answer = .withStatus .unknownKind (.kindReceived k))) :
      StepCase s (s.hold p r)
  | answers (c : Instr) (h : RequestHead) (owner : Handler) (hc : requestHead c = some h) (ho : ownerOf c = some owner)
      (hloader : s.loader ≠ .held) (hmode : s.mode ≠ .boot) (hstep : OwnerStep h.port s (owner s).1) :
      StepCase s ((owner s).1.hold h.port { kind := replyKind h.kind, tag := h.tag, answer := (owner s).2 })
  | millisecond (hms : s.clock.ms < 999) (hloader : s.loader ≠ .held) :
      StepCase s { s.elapse 1 with clock := { s.clock with ms := s.clock.ms + 1 } }

theorem stepCase_accept {s : State} (p : Port) (take : State → State × Reply)
    (h : s.loader ≠ .held → StepCase s ((take s).1.hold p (take s).2)) : StepCase s (s.accept p take) := by
  unfold State.accept
  split
  · exact .unchanged
  · split
    · exact .receiver p .hunting
    · exact h ‹_›

/-- A request row. -/
theorem stepCase_request {c : Instr} {h : RequestHead} (hc : requestHead c = some h) (s : State) :
    StepCase s (s.serve h.port h.kind h.tag h.served (ownerOf c)) := by
  unfold State.serve
  refine stepCase_accept _ _ fun hloader => ?_
  dsimp only
  split
  · exact .refuses _ _ hloader ⟨rfl, .inl rfl⟩
  · rename_i hmode
    unfold State.checked
    split
    · rename_i hon
      split
      · rename_i owner ho
        exact .answers c h owner hc ho hloader hmode (ownerStep_of_request hc ho hon hmode)
      · exact .refuses _ _ hloader ⟨rfl, .inr (.inl rfl)⟩
    · exact .refuses _ _ hloader ⟨rfl, .inr (.inl rfl)⟩

theorem stepCase_unknownKind (s : State) (p : Port) (tag kind : Nat) : StepCase s (s.accept p fun s => (s, s.unknownKindReply tag kind)) := by
  refine stepCase_accept _ _ fun hloader => .refuses _ _ hloader ?_
  dsimp only
  unfold State.unknownKindReply
  split
  · exact ⟨rfl, .inl rfl⟩
  · exact ⟨rfl, .inr (.inr ⟨kind, rfl⟩)⟩

theorem stepCase_stationReply (s : State) (address level flags : Nat) {t : State} (h : execStationReply address level flags s = .next t) :
    StepCase s t := by
  unfold execStationReply at h
  cases h
  split
  · exact .pollEnds _ (saturate level) (Nat.min_le_right ..)
  · exact .unchanged

/-- What an event row makes of the state. -/
theorem stepCase_event {c : Instr} {s t : State} (hc : requestHead c = none) (h : exec c s = .next t) : StepCase s t := by
  cases c <;> cases hc
  case powerOnReset => cases h; exact .hardReset _
  case pinReset => cases h; exact .hardReset _
  case resetRelease =>
    cases h
    split
    · exact .released ‹_›
    · exact .unchanged
  case memoryNotAnswering =>
    cases h
    split
    · exact .memoryAbsent ‹_›
    · exact .unchanged
  case settingsLoadEnd =>
    cases h
    split
    · exact .loadEnds ‹_›
    · exact .unchanged
  case secondBoundary => cases h; exact .secondBoundary
  case minuteBoundary => cases h; exact .minuteBoundary
  case pollSent =>
    cases h
    split
    · split
      · exact .pollSent _ ‹_› (Option.isNone_iff_eq_none.1 ‹_›)
      · exact .unchanged
    · exact .unchanged
  case stationReply address level flags => exact stepCase_stationReply s address level flags h
  case badFrame => cases h; exact .pollEnds _ _ (Nat.zero_le _)
  case stationReplyTimeout => cases h; exact .pollEnds _ _ (Nat.zero_le _)
  case recalculationPassEnd =>
    cases h
    split
    · exact .recalculationEnds _ ‹_›
    · exact .unchanged
  case forecastPassEnd =>
    cases h
    split
    · exact .forecastEnds _ _ _ _ ‹_›
    · exact .unchanged
  case staleTimeExpiry i => cases h; exact .staleTime i
  case ageOut i => cases h; exact .ageOut i
  case handoverTimerExpiry =>
    cases h
    split
    · exact .handoverExpires ‹_›
    · exact .unchanged
  case discardTimerExpiry => cases h; exact .discards
  case tableClearCompletion =>
    cases h
    split
    · exact .clearEnds _ ‹_›
    · exact .unchanged
  case saveEnd =>
    cases h
    split
    · exact .saveEnds _ ‹_› _ _ (.inl rfl)
    · exact .unchanged
  case saveWriteTimeout sec write landed =>
    cases h
    split
    · split
      · exact .saveEnds _ ‹_› _ _ (.inr ⟨sec, rfl⟩)
      · exact .unchanged
    · exact .unchanged
  case warmRestartTaken =>
    cases h
    split
    · exact .warmRestart ‹_›
    · exact .unchanged
  case frameDiscarded line cause =>
    cases line <;> cases h
    · exact .receiver _ .hunting
    · exact .pollEnds _ _ (Nat.zero_le _)
  case interByteGap line =>
    cases line <;> cases h
    · exact .receiver _ .hunting
    · dsimp only
      split
      · exact .pollEnds _ _ (Nat.zero_le _)
      · exact .unchanged
  case frameWhileHeld p =>
    cases h
    split
    · exact .receiver p .hunting
    · exact .unchanged
  case replySent p =>
    cases h
    split
    · exact .warmRestart (by rename_i h; exact h.2)
    · exact .replySent p
  case unknownKind p tag kind =>
    cases h
    split
    · exact .unchanged
    · exact stepCase_unknownKind s p tag kind
  case witnessEntrySent => cases h; exact .entrySent
  case frameBegun line =>
    cases line <;> cases h <;> dsimp only <;> split
    · exact .unchanged
    · exact .receiver _ .receiving
    · exact .busReceiver .receiving ‹_›
    · exact .unchanged

/-- What any command makes of the state. -/
theorem stepCase_exec {c : Instr} {s t : State} (h : exec c s = .next t) : StepCase s t := by
  cases hc : requestHead c with
  | some head =>
    rw [exec_request hc] at h
    cases h
    exact stepCase_request hc s
  | none => exact stepCase_event hc h

/-- What the idle step makes of the state. -/
theorem stepCase_idle {s t : State} (h : s.idle = .next t) : StepCase s t := by
  unfold State.idle State.tick at h
  split at h
  · cases h; exact .unchanged
  · rename_i hloader
    split at h
    · exact stepCase_exec (c := .stationReplyTimeout) h
    · split at h
      · exact stepCase_exec (c := .staleTimeExpiry _) h
      · exact stepCase_exec (c := .ageOut _) h
      · split at h
        · exact stepCase_exec (c := .handoverTimerExpiry) h
        · split at h
          · exact stepCase_exec (c := .discardTimerExpiry) h
          · split at h
            · exact stepCase_exec (c := .recalculationPassEnd) h
            · exact stepCase_exec (c := .forecastPassEnd) h
            · exact stepCase_exec (c := .tableClearCompletion) h
            · split at h
              · cases h; exact .millisecond ‹_› hloader
              · exact stepCase_exec (c := .secondBoundary) h

/-- What a step makes of the state: the commands that wait lose at most the front one, and on the rest it is a case of `StepCase`. -/
theorem stepCase_step {s t : State} (h : step s = .next t) : ∃ rest, StepCase { s with pending := rest } t := by
  unfold step at h
  split at h
  · exact ⟨s.pending, stepCase_idle h⟩
  · exact ⟨_, stepCase_exec h⟩

/-- A property that no waiting command bears on, and that every case of a step keeps, is kept by every step. -/
theorem kept_by_step {P : State → Prop} (hpending : ∀ s rest, P s → P { s with pending := rest }) (hcase : ∀ s t, StepCase s t → P s → P t)
    {s t : State} (hs : P s) (h : step s = .next t) : P t := by
  obtain ⟨rest, hrest⟩ := stepCase_step h
  exact hcase _ _ hrest (hpending s rest hs)

end Sys2Proof.Machine
end

section
/-! SUPPORT. The work that owners, boundaries and timers share (`State.Works`): records change, notices that fit a READ NOTICES reply are posted, copies are sent and
triggers raised, and the clock, the mode, the loader, the site parameters, the latch, the links, the table engine, the settings memory and the waiting commands
stay as they were. -/

namespace Sys2Proof.Machine

/-! ### Notices that fit (R161, R170) -/

@[simp] theorem length_u8 (n : Nat) : (u8 n).length = 1 := rfl
@[simp] theorem length_u16 (n : Nat) : (u16 n).length = 2 := rfl
@[simp] theorem length_u24 (n : Nat) : (u24 n).length = 3 := rfl
@[simp] theorem length_flagByte (b : Bool) : (flagByte b).length = 1 := rfl
@[simp] theorem length_timeBytes (m s : Nat) : (timeBytes m s).length = 3 := rfl
@[simp] theorem length_identityBytes (x : Identity) : (identityBytes x).length = 6 := rfl
@[simp] theorem length_slotSetByte (xs : List SlotId) : (slotSetByte xs).length = 1 := rfl
@[simp] theorem length_slotListBytes (xs : List SlotId) : (slotListBytes xs).length = 1 + xs.length := by
  simp [slotListBytes, List.length_flatMap]
@[simp] theorem length_siteBytes (x : Site) : (siteBytes x).length = 16 := rfl

/-- An optional value takes its presence byte and at most the bytes of the value. -/
theorem length_optional_le {α : Type} (f : α → List Byte) (k : Nat) (h : ∀ a, (f a).length ≤ k) (o : Option α) :
    (optional f o).length ≤ 1 + k := by
  cases o with
  | none => simp [optional]
  | some a => simpa [optional, Nat.add_comm 1] using h a

theorem length_optional_u8 (o : Option Nat) : (optional u8 o).length ≤ 2 := length_optional_le u8 1 (fun _ => le_rfl) o
theorem length_optional_u16 (o : Option Nat) : (optional u16 o).length ≤ 3 := length_optional_le u16 2 (fun _ => le_rfl) o
theorem length_optional_u24 (o : Option Nat) : (optional u24 o).length ≤ 4 := length_optional_le u24 3 (fun _ => le_rfl) o
theorem length_optional_identity (o : Option Identity) : (optional identityBytes o).length ≤ 7 :=
  length_optional_le identityBytes 6 (fun _ => le_rfl) o
theorem length_optional_code {α : Type} (f : α → Nat) (o : Option α) : (optional (fun a => u8 (f a)) o).length ≤ 2 :=
  length_optional_le _ 1 (fun _ => le_rfl) o

/-- A notice that a READ NOTICES reply has room for when it is the first (R170). -/
def Notice.Fits (n : Notice) : Prop := n.bytes.length ≤ 53

section fits
variable (i : SlotId) (p : Option Port)

theorem Notice.fits_stageState (st : SlotState) (k : SlotKind) (id : Option Identity) (w : Nat) (m : Level) (o : Admission) :
    (Notice.stageState i st k id p w m o).Fits := by
  have hid := length_optional_identity id
  have hp := length_optional_code (fun q : Port => q.val) p
  simp only [Notice.Fits, Notice.bytes, Notice.payload, List.length_append, length_u8, length_u16]
  omega

theorem Notice.fits_ceiling (pub prev ser : Nat) (st : SlotState) (src : LimitSource) : (Notice.ceiling i pub prev ser st src).Fits := by
  simp [Notice.Fits, Notice.bytes, Notice.payload]

theorem Notice.fits_clamp (c : Causes) (line : Bool) (overN goodN : Nat) (stale : Bool) (lvl : Option Level) :
    (Notice.clamp i c line p overN goodN stale lvl).Fits := by
  have hp := length_optional_code (fun q : Port => q.val) p
  have hl := length_optional_u16 lvl
  simp only [Notice.Fits, Notice.bytes, Notice.payload, List.length_append, length_u8, length_flagByte]
  omega

theorem Notice.fits_admission (st : SlotState) (o : Admission) (pos : Option Nat) (queued : Nat) (head : Option (Phase × Nat × Option Nat))
    (manner : Option Manner) : (Notice.admission i st o pos queued head manner).Fits := by
  have hpos := length_optional_u8 pos
  have h1 := length_optional_code (fun h : Phase × Nat × Option Nat => h.1.code) head
  have h2 := length_optional_code (fun h : Phase × Nat × Option Nat => h.2.1) head
  have h3 := length_optional_u16 (head.bind fun h => h.2.2)
  have hm := length_optional_code Manner.code manner
  simp only [Notice.Fits, Notice.bytes, Notice.payload, List.length_append, length_u8]
  omega

theorem Notice.fits_station (r : ReceptorId) (st : StationState) (misses : Nat) (lvl : Option Level) (address : Nat) :
    (Notice.station r st misses lvl address).Fits := by
  have hl := length_optional_u16 lvl
  simp only [Notice.Fits, Notice.bytes, Notice.payload, List.length_append, length_u8]
  omega

theorem fits_stationNotice (r : ReceptorId) (x : Receptor) : (stationNotice r x).Fits := Notice.fits_station ..

theorem Notice.fits_exceedance (r : ReceptorId) (q : ExcPos) (st : RecordState) (opened : Nat) (closed : Option Nat) (lim peak above : Nat)
    (cause : Option ClosingCause) : (Notice.exceedance r q st opened closed lim peak above cause).Fits := by
  have hc := length_optional_u16 closed
  have hcause := length_optional_code ClosingCause.code cause
  simp only [Notice.Fits, Notice.bytes, Notice.payload, List.length_append, length_u8, length_u16]
  omega

theorem Notice.fits_zone (z : ZoneId) (st : ZoneState) (lic eff : Level) (fade grace : Nat) (inForce : Option Nat) :
    (Notice.zone z st lic eff fade grace inForce).Fits := by
  have hf := length_optional_u8 inForce
  simp only [Notice.Fits, Notice.bytes, Notice.payload, List.length_append, length_u8, length_u16]
  omega

theorem Notice.fits_siteFields (x : Site) : (Notice.site (.fields x)).Fits := by simp [Notice.Fits, Notice.bytes, Notice.payload]

theorem Notice.fits_memoryAbsent : (Notice.site .memoryAbsent).Fits := by simp [Notice.Fits, Notice.bytes, Notice.payload]

theorem Notice.fits_load (adjusted : Bool) (s : State) (clamped skipped : Nat) :
    (Notice.site (.load adjusted s.sectionOutcomes clamped skipped)).Fits := by
  simp [Notice.Fits, Notice.bytes, Notice.payload, State.sectionOutcomes, allSections]

theorem Notice.fits_engine (result : EngineResult) : (Notice.engine result).Fits := by
  cases result <;> simp [Notice.Fits, Notice.bytes, Notice.payload]

theorem Notice.fits_forecastDiscarded (o : Port) (q : List SlotId) (h : q.length ≤ 8) (cm cs m sec : Nat) :
    (Notice.forecastDiscarded o q cm cs m sec).Fits := by
  simp only [Notice.Fits, Notice.bytes, Notice.payload, List.length_append, length_u8, length_slotListBytes, length_timeBytes]
  omega

end fits

/-! ### The relation -/

/-- `t` comes from `s` by changes of records, posts of notices that fit, copies sent and triggers raised, one after another. -/
inductive State.Works (s : State) : State → Prop
  | refl : State.Works s s
  | records {t : State} (h : State.Works s t) (zones : Vector Zone 4) (receptors : Vector (Option Receptor) 16) (poller : Poller)
      (exceedances : ExcTable) (slots : Vector Slot 8) (paths : Vector (Option PathEntry) 64) (arbiter : Arbiter) (freeIndex : Nat) :
      State.Works s { t with zones, receptors, poller, exceedances, slots, paths, arbiter, freeIndex }
  | post {t : State} (h : State.Works s t) {n : Notice} (hn : n.Fits) : State.Works s (t.post n)
  | send {t : State} (h : State.Works s t) (c : Copy) : State.Works s (t.send c)
  | trigger {t : State} (h : State.Works s t) : State.Works s t.trigger

namespace State.Works

variable {s t u : State}

theorem trans (h : s.Works t) (k : t.Works u) : s.Works u := by
  induction k with
  | refl => exact h
  | records _ zones receptors poller exceedances slots paths arbiter freeIndex ih =>
    exact ih.records zones receptors poller exceedances slots paths arbiter freeIndex
  | post _ hn ih => exact ih.post hn
  | send _ c ih => exact ih.send c
  | trigger _ ih => exact ih.trigger

theorem foldl {α : Type} {f : State → α → State} (h : s.Works t) (hf : ∀ (v : State) (a : α), v.Works (f v a)) (l : List α) : s.Works (l.foldl f t) := by
  induction l generalizing t with
  | nil => exact h
  | cons a l ih => exact ih (h.trans (hf t a))

/-- What the shared work leaves as it was. -/
structure Frame (s t : State) : Prop where
  clock_eq : t.clock = s.clock
  mode_eq : t.mode = s.mode
  startKind_eq : t.startKind = s.startKind
  loader_eq : t.loader = s.loader
  site_eq : t.site = s.site
  latch_eq : t.latch = s.latch
  links_eq : t.links = s.links
  table_eq : t.table = s.table
  settings_eq : t.settings = s.settings
  pending_eq : t.pending = s.pending

theorem frame (h : s.Works t) : Frame s t := by
  induction h with
  | refl => constructor <;> rfl
  | records _ zones receptors poller exceedances slots paths arbiter freeIndex ih =>
    obtain ⟨h1, h2, h3, h4, h5, h6, h7, h8, h9, h10⟩ := ih
    exact ⟨h1, h2, h3, h4, h5, h6, h7, h8, h9, h10⟩
  | post _ _ ih =>
    obtain ⟨h1, h2, h3, h4, h5, h6, h7, h8, h9, h10⟩ := ih
    exact ⟨h1, h2, h3, h4, h5, h6, h7, h8, h9, h10⟩
  | send _ c ih =>
    obtain ⟨h1, h2, h3, h4, h5, h6, h7, h8, h9, h10⟩ := ih
    rw [State.send_eq]
    exact ⟨h1, h2, h3, h4, h5, h6, h7, h8, h9, h10⟩
  | trigger _ ih =>
    obtain ⟨h1, h2, h3, h4, h5, h6, h7, h8, h9, h10⟩ := ih
    rw [State.trigger_eq]
    exact ⟨h1, h2, h3, h4, h5, h6, h7, h8, h9, h10⟩

/-! ### Record updates -/

theorem updSlot (h : s.Works t) (i : SlotId) (f : Slot → Slot) : s.Works (t.updSlot i f) := h.records _ _ _ _ _ _ _ _
theorem updSlots (h : s.Works t) (f : Slot → Slot) : s.Works (t.updSlots f) := h.records _ _ _ _ _ _ _ _
theorem updZone (h : s.Works t) (z : ZoneId) (f : Zone → Zone) : s.Works (t.updZone z f) := h.records _ _ _ _ _ _ _ _
theorem setZone (h : s.Works t) (z : ZoneId) (x : Zone) : s.Works (t.setZone z x) := h.records _ _ _ _ _ _ _ _
theorem updReceptor (h : s.Works t) (r : ReceptorId) (f : Receptor → Receptor) : s.Works (t.updReceptor r f) := h.records _ _ _ _ _ _ _ _
theorem setReceptor (h : s.Works t) (r : ReceptorId) (x : Option Receptor) : s.Works (t.setReceptor r x) := h.records _ _ _ _ _ _ _ _
theorem setPath (h : s.Works t) (p : PathPos) (e : Option PathEntry) : s.Works (t.setPath p e) := h.records _ _ _ _ _ _ _ _
theorem updExcRecord (h : s.Works t) (p : ExcPos) (f : ExcRecord → ExcRecord) : s.Works (t.updExcRecord p f) := h.records _ _ _ _ _ _ _ _
theorem deletePathsOf (h : s.Works t) (i : SlotId) : s.Works (t.deletePathsOf i) := h.records _ _ _ _ _ _ _ _
theorem setQueue (h : s.Works t) (q : List SlotId) : s.Works (t.setQueue q) := h.records _ _ _ _ _ _ _ _
theorem setPhase (h : s.Works t) (p : Option Phase) : s.Works (t.setPhase p) := h.records _ _ _ _ _ _ _ _
theorem stopTimer (h : s.Works t) : s.Works t.stopTimer := h.records _ _ _ _ _ _ _ _
theorem clearDebts (h : s.Works t) : s.Works t.clearDebts := h.updSlots _
theorem setPoll (h : s.Works t) (p : Option Poll) : s.Works (t.setPoll p) := h.records _ _ _ _ _ _ _ _

theorem ite {c : Prop} [Decidable c] (h : c → s.Works t) (k : ¬c → s.Works u) : s.Works (if c then t else u) := by
  split
  · exact h ‹_›
  · exact k ‹_›

/-! ### Notices, copies, triggers -/

theorem postStageState (h : s.Works t) (i : SlotId) : s.Works (t.postStageState i) := h.post (Notice.fits_stageState ..)
theorem postAdmission (h : s.Works t) (i : SlotId) (m : Option Manner) : s.Works (t.postAdmission i m) := h.post (Notice.fits_admission ..)
theorem postZone (h : s.Works t) (z : ZoneId) : s.Works (t.postZone z) := h.post (Notice.fits_zone ..)

theorem triggerIf (h : s.Works t) (c : Bool) : s.Works (t.triggerIf c) := .ite (fun _ => h.trigger) fun _ => h

theorem reportClamp (h : s.Works t) (i : SlotId) (before : Slot) (event : ClampEvent) (report : Option (Level × Nat × Level)) :
    s.Works (t.reportClamp i before event report) :=
  .ite (fun _ => h) fun _ => (h.post (Notice.fits_clamp ..)).send _

theorem updClamped (h : s.Works t) (i : SlotId) (f : Slot → Slot) (event : ClampEvent) (report : Option (Level × Nat × Level)) :
    s.Works (t.updClamped i f event report) :=
  (h.updSlot i f).reportClamp i _ event report

/-! ### The stage table -/

theorem bindSlot (h : s.Works t) (i : SlotId) (p : Port) (id : Identity) : s.Works (t.bindSlot i p id) :=
  ((h.updSlot i _).postStageState i).reportClamp ..

theorem unbindSlot (h : s.Works t) (i : SlotId) : s.Works (t.unbindSlot i) := ((h.updSlot i _).postStageState i).reportClamp ..

theorem emptySlot (h : s.Works t) (i : SlotId) : s.Works (t.emptySlot i) :=
  ((((h.updSlot i _).deletePathsOf i).trigger).postStageState i).reportClamp ..

theorem staleSlot (h : s.Works t) (i : SlotId) : s.Works (t.staleSlot i) := .ite (fun _ => h.updClamped ..) fun _ => h
theorem staleAll (h : s.Works t) : s.Works t.staleAll := h.foldl (fun _ i => refl.staleSlot i) _
theorem ageSlot (h : s.Works t) (i : SlotId) : s.Works (t.ageSlot i) := .ite (fun _ => h.emptySlot i) fun _ => h
theorem ageAll (h : s.Works t) : s.Works t.ageAll := h.foldl (fun _ i => refl.ageSlot i) _

theorem releaseSlot (h : s.Works t) (bound : Option SlotId) : s.Works (t.releaseSlot bound) := by
  unfold State.releaseSlot
  split
  · exact h
  · split
    · exact h.unbindSlot _
    · exact h.emptySlot _

theorem evictSlot (h : s.Works t) (i : SlotId) : s.Works (t.evictSlot i) := by
  unfold State.evictSlot
  split
  · exact .ite (fun _ => h.unbindSlot i) fun _ => h
  · exact h.emptySlot i

/-! ### The arbiter -/

theorem becomeHead (h : s.Works t) (i : SlotId) : s.Works (t.becomeHead i) := by
  have hentering := h.updSlot i fun x => { x with state := .entering }
  exact ((hentering.records _ _ _ _ _ _ { t.arbiter with phase := some .counting, passSinceHead := false } _).trigger.postStageState i).postAdmission i none

theorem promote (h : s.Works t) : s.Works t.promote := by
  unfold State.promote
  split
  · exact h.setPhase none
  · exact h.becomeHead _

theorem settleDebtor (h : s.Works t) (i : SlotId) : s.Works (t.settleDebtor i) := .ite (fun _ => h.updClamped ..) fun _ => h

theorem grant (h : s.Works t) (m : Manner) : s.Works (t.grant m) := by
  unfold State.grant
  split
  · exact h
  · have hsettled := h.foldl (fun _ i => refl.settleDebtor i) allSlots
    exact ((((hsettled.stopTimer.setQueue _).updSlot _ _).postAdmission _ _).postStageState _).trigger.promote

theorem debtCleared (h : s.Works t) : s.Works t.debtCleared := by
  unfold State.debtCleared
  refine .ite (fun _ => .ite (fun _ => h.grant _) fun _ => ?_) fun _ => h
  split
  · exact h.postAdmission ..
  · exact h

theorem quietSlot (h : s.Works t) (i : SlotId) (forced : Bool) : s.Works (t.quietSlot i forced) := by
  unfold State.quietSlot
  dsimp only
  split
  · have hleft := (h.updClamped i
      (fun x => { x with
        state := .quiet, debt := false, causes := { x.causes with hasHandover := false }, outcome := if forced then .forcedQuiet else x.outcome })
      .leaveLive none).trigger.postStageState i
    exact .ite (fun _ => debtCleared (.ite (fun _ => hleft.postAdmission i none) fun _ => hleft)) fun _ =>
      .ite (fun _ => hleft.postAdmission i none) fun _ => hleft
  · exact (((h.setQueue _).updSlot i _).postStageState i).postAdmission i none
  · exact ((((h.stopTimer.clearDebts.setQueue _).updSlot i _).postStageState i).postAdmission i none).trigger.promote
  · exact h

theorem removeAtCurfew (h : s.Works t) (removed : SlotId → Bool) : s.Works (t.removeAtCurfew removed) := by
  have hgone {u : State} (h : s.Works u) (l : List SlotId) : s.Works (l.foldl State.refuseCurfew u) :=
    h.foldl (fun _ i => ((refl.updSlot i _).postStageState i).postAdmission i none) l
  have hqueue := h.setQueue (t.arbiter.queue.filter fun i => !removed i)
  unfold State.removeAtCurfew
  refine .ite (fun _ => ((hgone ?_ _).trigger).promote) fun _ => hgone ?_ _
  all_goals exact .ite (fun _ => hqueue.stopTimer.clearDebts) fun _ => hqueue

theorem curfewRemoval (h : s.Works t) (removed : SlotId → Bool) : s.Works (t.curfewRemoval removed) :=
  (h.removeAtCurfew removed).foldl (fun _ i => refl.ageSlot i) _

theorem pathCreated (h : s.Works t) (i : SlotId) (r : ReceptorId) : s.Works (t.pathCreated i r) := by
  unfold State.pathCreated
  split
  · exact .ite (fun _ => h.curfewRemoval _) fun _ => h
  · exact h

theorem takePassReport (h : s.Works t) (entering : Option SlotId) (fallen : List SlotId) : s.Works (t.takePassReport entering fallen) := by
  unfold State.takePassReport
  split
  · exact h
  · have hdebts := h.foldl (f := State.setDebt) (fun s i => .ite (fun _ => refl.updSlot i _) fun _ => refl) fallen
    exact .ite (fun _ => .ite (fun _ => hdebts.grant _) fun _ => (hdebts.records _ _ _ _ _ _ _ _).postAdmission ..) fun _ => h

theorem joinQueue (h : s.Works t) (i : SlotId) : s.Works (t.joinQueue i) := by
  have hjoined := (h.updSlot i fun x => { x with outcome := .none }).setQueue (t.arbiter.queue ++ [i])
  exact .ite (fun _ => hjoined.becomeHead i) fun _ => ((hjoined.updSlot i _).postStageState i).postAdmission i none

theorem takeReport (h : s.Works t) (a : ReportArgs) (i : SlotId) : s.Works (t.takeReport a i).1 :=
  .ite (fun _ => (h.updClamped ..).debtCleared) fun _ => h.updClamped ..

theorem takeQuiet (h : s.Works t) (forced : Bool) (i : SlotId) : s.Works (t.takeQuiet forced i).1 :=
  .ite (fun _ => h.quietSlot i forced) fun _ => (h.quietSlot i forced).ageSlot i

/-! ### The schedule unit -/

theorem setEffective (h : s.Works t) (z : ZoneId) (v : Level) : s.Works (t.setEffective z v) := .ite (fun _ => h) fun _ => (h.updZone z _).trigger

theorem setCurfew (h : s.Works t) (z : ZoneId) (st : ZoneState) (fade : Nat) : s.Works (t.setCurfew z st fade) :=
  have htriggers := ((h.updZone z fun x => { x with state := st, fade := fade }).triggerIf ((t.zone z).state != st)).triggerIf ((t.zone z).fade != fade)
  .ite (fun _ => htriggers.curfewRemoval _) fun _ => htriggers

theorem enterBreakpoint (h : s.Works t) (z : ZoneId) (n : Nat) (limit : Level) : s.Works (t.enterBreakpoint z n limit) :=
  .ite (fun _ => (h.updZone z _).setEffective z limit) fun _ => h.updZone z _

theorem curfewBreakpoint (h : s.Works t) (z : ZoneId) : s.Works (t.curfewBreakpoint z) := by
  unfold State.curfewBreakpoint
  split
  · split
    · exact (h.updZone z _).setCurfew ..
    · exact h
    · exact h.setCurfew ..
  · exact h.setCurfew ..

theorem postZoneIfChanged (h : s.Works t) (z : ZoneId) (before : Zone) : s.Works (t.postZoneIfChanged z before) :=
  .ite (fun _ => h.postZone z) fun _ => h

theorem evaluateZone (h : s.Works t) (z : ZoneId) : s.Works (t.evaluateZone z) := by
  refine postZoneIfChanged ?_ z _
  split
  · exact ((h.updZone z _).setEffective z 0).setCurfew ..
  · split
    · exact h
    · refine .ite (fun _ => .ite (fun _ => h.updZone z _) fun _ => h) fun _ => .ite (fun _ => ?_) fun _ => ?_
      · exact (h.enterBreakpoint ..).curfewBreakpoint z
      · exact (h.enterBreakpoint ..).setCurfew ..

theorem evaluateZones (h : s.Works t) : s.Works t.evaluateZones := h.foldl (fun _ z => refl.evaluateZone z) _

theorem zoneSecond (h : s.Works t) (z : ZoneId) : s.Works (t.zoneSecond z) := by
  have hramped (v : Level) : s.Works (if (t.zone z).licence < (t.zone z).effective then t.setEffective z v else t) :=
    .ite (fun _ => h.setEffective z v) fun _ => h
  exact .ite (fun _ => (ite (fun _ => (hramped _).setCurfew ..) fun _ => hramped _).postZone z) fun _ =>
    .ite (fun _ => (hramped _).setCurfew ..) fun _ => hramped _

theorem zoneMinute (st : State × List (Level × Nat)) (z : ZoneId) : st.1.Works (State.zoneMinute st z).1 :=
  ((refl.evaluateZone z).updZone z _).zoneSecond z

theorem unloadZone (h : s.Works t) (z : ZoneId) : s.Works (t.unloadZone z) :=
  (((((h.setZone z zoneDefault).triggerIf _).triggerIf _).triggerIf _).triggerIf _).postZone z

theorem replaceZone (h : s.Works t) (z : ZoneId) (bps : List Breakpoint) (ramp margin : Nat) : s.Works (t.replaceZone z bps ramp margin) :=
  (((h.updZone z _).triggerIf _).evaluateZone z).postZone z

/-! ### Publication -/

theorem reportCeiling (h : s.Works t) (c : Capture) (i : SlotId) (computed : Bool) : s.Works (t.reportCeiling c i computed) :=
  have hfree : s.Works (if c.recalculationSet.contains i then t else { t with freeIndex := t.freeIndex + 1 }) :=
    .ite (fun _ => h) fun _ => h.records t.zones t.receptors t.poller t.exceedances t.slots t.paths t.arbiter _
  (hfree.post (Notice.fits_ceiling ..)).send _

theorem publishSlot (h : s.Works t) (c : Capture) (i : SlotId) : s.Works (State.publishSlot c t i) :=
  .ite (fun _ => h.updSlot i _) fun _ => ((h.updSlot i _).updSlot i _).reportCeiling ..

theorem publish (h : s.Works t) (c : Capture) : s.Works (t.publish c) := h.foldl (fun _ i => refl.publishSlot c i) _

/-! ### The poller and the compliance unit -/

theorem pollFrom (h : s.Works t) (low second : Nat) : s.Works (t.pollFrom low second) := by
  unfold State.pollFrom
  split
  · exact h.setPoll _
  · split <;> exact h.setPoll _

theorem abandonPoll (h : s.Works t) (r : ReceptorId) : s.Works (t.abandonPoll r) := by
  unfold State.abandonPoll
  split
  · exact .ite (fun _ => h.pollFrom ..) fun _ => h
  · exact h

theorem residualHandOff (h : s.Works t) (r : ReceptorId) (level : Level) : s.Works (t.residualHandOff r level) := by
  unfold State.residualHandOff
  split
  · exact .ite (fun _ => h.updReceptor r _) fun _ => h
  · exact h

theorem openExceedance (h : s.Works t) (r : ReceptorId) (x : Receptor) (minute : Nat) (limit level : Level) :
    s.Works (t.openExceedance r x minute limit level) := by
  unfold State.openExceedance
  split
  · exact h
  · refine ((updReceptor ?_ r _).trigger.post (Notice.fits_exceedance ..)).send _
    exact h.records ..

theorem closeExceedance (h : s.Works t) (r : ReceptorId) (minute : Nat) (cause : ClosingCause) (c : Bool) :
    s.Works (t.closeExceedance r minute cause c) := by
  unfold State.closeExceedance
  split
  · exact h
  · dsimp only
    split
    · exact ((((h.updExcRecord ..).updReceptor ..).triggerIf c).post (Notice.fits_exceedance ..)).send _
    · exact ((h.updExcRecord ..).updReceptor ..).triggerIf c

theorem updateStagesOver (h : s.Works t) (r : ReceptorId) : s.Works (t.updateStagesOver r) := by
  unfold State.updateStagesOver
  split
  · exact h
  · exact h.updExcRecord ..

theorem judge (h : s.Works t) (r : ReceptorId) (limit grace minute : Nat) : s.Works (t.judge r limit grace minute) := by
  have hover := h.updateStagesOver r
  unfold State.judge
  dsimp only
  split
  · exact hover
  · refine .ite (fun _ => hover) fun _ => ?_
    split
    · exact hover
    · split
      · exact .ite (fun _ => hover.openExceedance ..) fun _ => hover
      · exact .ite (fun _ => hover.updExcRecord ..) fun _ => hover.closeExceedance ..

theorem correct (h : s.Works t) (r : ReceptorId) : s.Works (t.correct r) := by
  unfold State.correct
  split
  · exact h
  · exact ((h.updReceptor ..).triggerIf _).updReceptor ..

theorem closeReceptor (h : s.Works t) (handed : List (Level × Nat)) (minute : Nat) (r : ReceptorId) :
    s.Works (t.closeReceptor handed minute r) := by
  unfold State.closeReceptor
  split
  · exact h
  · exact (((h.setReceptor ..).send _).correct r).judge ..

theorem pollOutcome (h : s.Works t) (p : Poll) (cls : PollClass) (level : Level) : s.Works (t.pollOutcome p cls level) := by
  unfold State.pollOutcome
  split
  · exact h.pollFrom ..
  · rename_i x _
    have ha := (h.setReceptor p.receptor (some (x.heardFrom cls level))).triggerIf (x.station.blind != (x.heardFrom cls level).station.blind)
    have hb : s.Works (if x.station = (x.heardFrom cls level).station then _ else _) :=
      .ite (fun _ => ha) fun _ => ha.post (fits_stationNotice p.receptor (x.heardFrom cls level))
    have hc : s.Works (if cls.taken = true then _ else _) :=
      .ite (fun _ => hb.updReceptor p.receptor fun z => { z with accumulator := takeIntoMinute z.accumulator level }) fun _ => hb
    have hd : s.Works (if cls = .reply then _ else _) := .ite (fun _ => hc.residualHandOff p.receptor level) fun _ => hc
    exact (hd.send _).pollFrom ..

theorem pollEnds (h : s.Works t) (cls : PollClass) (level : Level) : s.Works (t.pollEnds cls level) := by
  unfold State.pollEnds
  split
  · exact .ite (fun _ => h.pollOutcome ..) fun _ => h
  · exact h

theorem pollAtSecond (h : s.Works t) : s.Works t.pollAtSecond := .ite (fun _ => h.pollFrom ..) fun _ => h

/-! ### The boundaries -/

theorem secondWork (h : s.Works t) : s.Works t.secondWork :=
  .ite (fun _ => h) fun _ => (h.foldl (fun _ z => refl.zoneSecond z) _).pollAtSecond

theorem zonesAtMinute (zones : List ZoneId) (st : State × List (Level × Nat)) : st.1.Works (zones.foldl State.zoneMinute st).1 := by
  induction zones generalizing st with
  | nil => exact .refl
  | cons z zones ih => exact (zoneMinute st z).trans (ih _)

theorem minuteWork (h : s.Works t) (ended : Nat) : s.Works (t.minuteWork ended) :=
  .ite (fun _ => h) fun _ => ((h.trans (zonesAtMinute allZones (t, []))).foldl (fun _ r => refl.closeReceptor _ ended r) _).pollAtSecond

/-! ### The tables -/

/-- The SITE parameters written, the rest of a SITE edit is shared work. -/
theorem replaceSite (s : State) (x : Site) : ({ s with site := x } : State).Works (s.replaceSite x) :=
  ((((refl.triggerIf _).post (Notice.fits_siteFields x)).staleAll).ageAll)

theorem restation (h : s.Works t) (r : ReceptorId) (old : Receptor) (address : Nat) : s.Works (t.restation r old address) :=
  (((h.setReceptor ..).triggerIf _).post (Notice.fits_station ..)).abandonPoll r

theorem clearCompliance (h : s.Works t) (r : ReceptorId) : s.Works (t.clearCompliance r) := by
  unfold State.clearCompliance
  split
  · exact h
  · exact (h.setReceptor ..).triggerIf _

theorem editReceptor (h : s.Works t) (r : ReceptorId) (old : Receptor) (address : Nat) (z : ZoneId) (floor : Level) :
    s.Works (t.editReceptor r old address z floor) := by
  have ha := (h.setReceptor r (some { old with zone := z, floor := floor })).triggerIf (old.zone != z)
  have hb : s.Works (if (old.address != address) = true then _ else _) := .ite (fun _ => ha.restation r old address) fun _ => ha
  exact .ite (fun _ => clearCompliance (.ite (fun _ => hb.closeExceedance r _ .receptorEdited true) fun _ => hb) r) fun _ =>
    .ite (fun _ => hb.closeExceedance r _ .receptorEdited true) fun _ => hb

theorem removeReceptor (h : s.Works t) (r : ReceptorId) : s.Works (t.removeReceptor r) :=
  ((h.closeExceedance ..).setReceptor r none).abandonPoll r

theorem rekind (h : s.Works t) (i : SlotId) (k : StageKind) : s.Works (t.rekind i k) := by
  unfold State.rekind
  split
  · exact h.updSlot ..
  · exact h.emptySlot i
  · exact h.updSlot ..
  · exact h

theorem replaceStage (h : s.Works t) (i : SlotId) (k : StageKind) (weight : Nat) (stageMax : Level) :
    s.Works (t.replaceStage i k weight stageMax) := by
  have ha : s.Works (if (t.slot i).rekindedBy k = true then t.rekind i k else t) := .ite (fun _ => h.rekind i k) fun _ => h
  have hb := (ha.updSlot i fun y => { y with weight := weight, stageMax := stageMax }).triggerIf
    ((t.slot i).weight != weight || (t.slot i).stageMax != stageMax)
  exact .ite (fun _ => hb.postStageState i) fun _ => hb

theorem returnStage (h : s.Works t) (i : SlotId) : s.Works (t.returnStage i) := by
  unfold State.returnStage
  refine ((updSlot ?_ i _).trigger).postStageState i
  split
  · exact h.emptySlot i
  · exact h

theorem createPath (h : s.Works t) (p : PathPos) (i : SlotId) (r : ReceptorId) (loss : Nat) : s.Works (t.createPath p i r loss) :=
  (h.setPath ..).trigger.pathCreated i r

theorem changeLoss (h : s.Works t) (p : PathPos) (i : SlotId) (r : ReceptorId) (old loss : Nat) : s.Works (t.changeLoss p i r old loss) :=
  (h.setPath ..).triggerIf _

theorem clearExceedances (h : s.Works t) : s.Works t.clearExceedances :=
  foldl (f := State.unlinkExceedance) (h.records _ _ _ excTableAtReset _ _ _ _)
    (fun _ r => .ite (fun _ => (refl.updReceptor r _).trigger) fun _ => refl) _

theorem clearZones (h : s.Works t) : s.Works t.clearZones := h.foldl (f := State.unloadZone) (fun _ z => refl.unloadZone z) _
theorem clearReceptors (h : s.Works t) : s.Works t.clearReceptors := h.foldl (f := State.removeReceptor) (fun _ r => refl.removeReceptor r) _
theorem clearStages (h : s.Works t) : s.Works t.clearStages := h.foldl (f := State.returnStage) (fun _ i => refl.returnStage i) _
theorem clearPaths (h : s.Works t) : s.Works t.clearPaths :=
  (h.records t.zones t.receptors t.poller t.exceedances t.slots (Vector.replicate 64 none) t.arbiter t.freeIndex).triggerIf _

/-- The completion of a clear of any table but SITE is shared work. -/
theorem clearTable (s : State) {k : Table} (hk : k ≠ .site) : s.Works (s.clearTable k).1 := by
  cases k <;> dsimp only [State.clearTable]
  · exact absurd rfl hk
  · exact refl.clearZones
  · exact refl.clearReceptors
  · exact refl.clearStages
  · exact refl.clearPaths
  · exact refl.clearExceedances
  · exact refl

end State.Works

end Sys2Proof.Machine
end

section
/-! SUPPORT. The step as shared work: every case of a step is shared work (`State.Works`) but for the few fields that its own case names (`OwnerWork`, `StepWork`). -/

namespace Sys2Proof.Machine

/-! ### Owners -/

/-- What the owner of a request makes of the state: shared work, but for the fields that the case names. -/
inductive OwnerWork (p : Port) (s : State) : State → Prop
  | works {t : State} (h : s.Works t) : OwnerWork p s t
  | takesQuery (q : List SlotId) (hlatch : s.latch = .empty) (hquery : q.length ≤ 8) : OwnerWork p s (s.takeQuery p q)
  | handsForecast {o : Port} {q : List SlotId} {result : List (SlotId × Level)} {m sec left : Nat}
      (hlatch : s.latch = .ready o q result m sec left) : OwnerWork p s { s with latch := .empty }
  | setsClock {t : State} {clock : Clock} (hclock : clock.InRange) (hmode : s.mode ≠ .enforce) (h : ({ s with clock := clock } : State).Works t) :
      OwnerWork p s t
  | changesMode {t u : State} {mode : Mode} (h : s.Works u) (hmode : mode ≠ .boot) (hsetup : mode ≠ .setup → s.table = .idle)
      (k : ({ u with mode := mode } : State).Works t) : OwnerWork p s t
  | readsNotices (n : Nat) : OwnerWork p s { s with notices := { s.notices with notices := s.notices.notices.drop n, lost := false } }
  | setsMask (mask : Vector Bool 10) : OwnerWork p s { s with notices := { s.notices with mask := mask } }
  | replacesSite {t : State} {x : Site} (hx : x.InRange) (h : ({ s with site := x } : State).Works t) : OwnerWork p s t
  | ordersTable (x : TableEngine) (hmode : s.mode ≠ .enforce) (htable : s.table = .idle) : OwnerWork p s { s with table := x }

theorem State.clearRefusal_eq_none {s : State} {k : Table} (h : s.clearRefusal k = none) : s.mode ≠ .enforce := by
  intro hmode
  cases k <;> simp [State.clearRefusal, hmode] at h

theorem OwnerStep.work {p : Port} {s t : State} (h : OwnerStep p s t) : OwnerWork p s t := by
  cases h with
  | unchanged => exact .works .refl
  | enrols bound i id => exact .works ((State.Works.refl.releaseSlot bound).bindSlot i p id)
  | reports a i => exact .works (.takeReport .refl a i)
  | joins i => exact .works (.joinQueue .refl i)
  | quiets forced i => exact .works (.takeQuiet .refl forced i)
  | takesQuery q hlatch hquery => exact .takesQuery q hlatch hquery
  | handsForecast o q result m sec left hlatch => exact .handsForecast hlatch
  | setsClock minute second hmode hminute hsecond =>
    exact .setsClock (clock := { ms := 0, minute := minute, second := second, isSet := true }) ⟨Nat.succ_pos _, hsecond, hminute⟩ hmode
      (.evaluateZones .refl)
  | entersEnforce hmode htable => exact .changesMode (.evaluateZones .refl) (by decide) (fun _ => htable) (.trigger .refl)
  | returnsToSetup hmode hquiet => exact .changesMode (u := s) (mode := .setup) .refl (by decide) (fun h => absurd rfl h) .refl
  | pushesCap i cap => exact .works (State.Works.refl.updSlot i _).trigger
  | popsCap i top rest => exact .works (State.Works.refl.updSlot i _).trigger
  | setsConsole i present event => exact .works (.updClamped .refl ..)
  | evicts i => exact .works (.evictSlot .refl i)
  | readsNotices n => exact .readsNotices n
  | setsMask mask => exact .setsMask mask
  | savesSettings hmode htable => exact .ordersTable _ hmode htable
  | replacesSite x _ hx => exact .replacesSite hx (.replaceSite s x)
  | replacesZone z bps ramp margin => exact .works (.replaceZone .refl ..)
  | unloadsZone z => exact .works (.unloadZone .refl z)
  | createsReceptor r => exact .works (.setReceptor .refl r _)
  | editsReceptor r x address z floor => exact .works (.editReceptor .refl ..)
  | removesReceptor r x => exact .works (.removeReceptor .refl r)
  | replacesStage i k weight stageMax => exact .works (.replaceStage .refl ..)
  | returnsStage i => exact .works (.returnStage .refl i)
  | createsPath q i r loss => exact .works (.createPath .refl ..)
  | changesLoss q i r old loss => exact .works (.changeLoss .refl ..)
  | deletesPath q i r => exact .works (State.Works.refl.setPath q none).trigger
  | ordersClear k htable hrefusal => exact .ordersTable _ (State.clearRefusal_eq_none hrefusal) htable

/-! ### The load -/

/-- `t` is `s` with other site parameters, in range where those of `s` are, and other zones, receptors, slots and paths. -/
def State.LoadedFrom (s t : State) : Prop :=
  t = { s with site := t.site, zones := t.zones, receptors := t.receptors, slots := t.slots, paths := t.paths } ∧
    (s.site.InRange → t.site.InRange)

theorem State.LoadedFrom.refl (s : State) : s.LoadedFrom s := ⟨rfl, id⟩

theorem State.LoadedFrom.trans {s t u : State} (h : s.LoadedFrom t) (k : t.LoadedFrom u) : s.LoadedFrom u := by
  obtain ⟨ht, hsite⟩ := h
  obtain ⟨hu, hsite'⟩ := k
  exact ⟨by rw [hu, ht], hsite' ∘ hsite⟩

theorem loadedFrom_loadZone (before : List (List Byte)) (l : Loading) (bs : List Byte) : l.state.LoadedFrom (loadZone before l bs).state := by
  unfold loadZone
  split
  · exact .refl _
  · split
    · exact .refl _
    · exact ⟨rfl, id⟩

theorem loadedFrom_loadReceptor (before : List (List Byte)) (l : Loading) (bs : List Byte) :
    l.state.LoadedFrom (loadReceptor before l bs).state := by
  unfold loadReceptor
  dsimp only
  split
  · split
    · exact .refl _
    · split
      · exact .refl _
      · split
        · exact .refl _
        · exact ⟨rfl, id⟩
  · exact .refl _

theorem loadedFrom_loadStage (before : List (List Byte)) (l : Loading) (bs : List Byte) : l.state.LoadedFrom (loadStage before l bs).state := by
  unfold loadStage
  dsimp only
  split
  · exact .refl _
  · split
    · exact .refl _
    · exact ⟨rfl, id⟩

theorem loadedFrom_loadPath (before : List (List Byte)) (l : Loading) (bs : List Byte) : l.state.LoadedFrom (loadPath before l bs).state := by
  unfold loadPath
  dsimp only
  split
  · split
    · exact .refl _
    · split
      · exact .refl _
      · exact ⟨rfl, id⟩
  · exact .refl _

theorem loadedFrom_loadEntries {f : List (List Byte) → Loading → List Byte → Loading}
    (hf : ∀ before (l : Loading) bs, l.state.LoadedFrom (f before l bs).state) (before : List (List Byte)) (l : Loading) (es : List (List Byte)) :
    l.state.LoadedFrom (loadEntries f before l es).state := by
  induction es generalizing before l with
  | nil => exact .refl _
  | cons e es ih => exact (hf before l e).trans (ih _ _)

theorem loadedFrom_loadContents (sec : Section) (l : Loading) (bs : List Byte) : l.state.LoadedFrom (loadContents sec l bs).state := by
  cases sec
  · exact ⟨rfl, fun _ => siteInRange_clampSite ..⟩
  · exact loadedFrom_loadEntries loadedFrom_loadZone ..
  · exact loadedFrom_loadEntries loadedFrom_loadReceptor ..
  · exact loadedFrom_loadEntries loadedFrom_loadStage ..
  · exact loadedFrom_loadEntries loadedFrom_loadPath ..
  · exact ⟨rfl, id⟩

theorem loadedFrom_loadSection (l : Loading) (sec : Section) : l.state.LoadedFrom (loadSection l sec).state := by
  unfold loadSection
  dsimp only
  split
  · exact loadedFrom_loadContents ..
  · exact .refl _

/-- A load changes the site parameters, the zones, the receptors, the slots and the paths alone. -/
theorem State.loadedFrom_load (s : State) : s.LoadedFrom s.load.state := by
  have h (secs : List Section) (l : Loading) : l.state.LoadedFrom (secs.foldl loadSection l).state := by
    induction secs generalizing l with
    | nil => exact .refl _
    | cons sec secs ih => exact (loadedFrom_loadSection l sec).trans (ih _)
  exact h allSections { state := s, clamped := 0, skipped := 0 }

/-! ### Any step -/

/-- What a step makes of the state: shared work, but for the fields that the case names. -/
inductive StepWork (s : State) : State → Prop
  | works {t : State} (h : s.Works t) : StepWork s t
  | hardReset (start : StartKind) : StepWork s (s.hardReset start)
  | warmRestart : StepWork s s.warmRestart
  | released (hheld : s.loader = .held) : StepWork s { s with loader := .loading }
  | loadEnds {t u v : State} (hloading : s.loader = .loading) (h : s.LoadedFrom u) (hv : u.Works v)
      (k : ({ v with mode := .setup, loader := .ended } : State).Works t) : StepWork s t
  | passes {t : State} (n : Nat) (clock : Clock) (hclock : s.clock.InRange → clock.InRange) (hloader : s.loader ≠ .held)
      (h : ({ s.elapse n with clock := clock } : State).Works t) (hboot : s.mode = .boot → t = { s.elapse n with clock := clock }) : StepWork s t
  | recalculationEnds {u : State} (c : Capture) (hactivity : s.engine.activity = .recalculating c) (h : s.Works u) : StepWork s u.chooseNext
  | forecastEnds (c : Capture) (q : List SlotId) (m sec : Nat) (hactivity : s.engine.activity = .forecasting c q m sec) :
      StepWork s (s.endForecast c q m sec)
  | discards : StepWork s s.discardForecast
  | clearEnds {t : State} {k : Table} {x : Site} (result : EngineResult) (htable : s.table = .clearing k) (hx : s.site.InRange → x.InRange)
      (h : ({ s with site := x } : State).Works t) : StepWork s (t.engineDone result)
  | saveEnds (image : List SectionImage) (htable : s.table = .saving image) (ws : List Host.Cell) (result : EngineResult) :
      StepWork s (({ s with settings := s.settings.writeAll ws } : State).engineDone result)
  | receiver (p : Port) (r : Receiver) : StepWork s (s.setLink p { s.link p with receiver := r })
  | replySent (p : Port) : StepWork s (s.setLink p { s.link p with buffer := none })
  | busReceiver (r : Receiver) (hawaiting : s.awaiting.isSome = true) : StepWork s { s with poller := { s.poller with receiver := r } }
  | entrySent : StepWork s { s with witness := s.witness.entrySent }
  | refuses (p : Port) (r : Reply) (hloader : s.loader ≠ .held) (hr : r.answer.adjusted = false ∧
      (r.answer = .notReady ∨ r.answer = .refused .noSuch ∨ ∃ k, r.answer = .withStatus .unknownKind (.kindReceived k))) :
      StepWork s (s.hold p r)
  | answers {t : State} {c : Instr} {h : RequestHead} {owner : Handler} (hc : requestHead c = some h) (ho : ownerOf c = some owner)
      (hloader : s.loader ≠ .held) (hmode : s.mode ≠ .boot) (ht : t = (owner s).1) (hstep : OwnerStep h.port s t) (hwork : OwnerWork h.port s t) :
      StepWork s (t.hold h.port { kind := replyKind h.kind, tag := h.tag, answer := (owner s).2 })

theorem Clock.nextSecond_inRange {c : Clock} (h : c.InRange) : c.nextSecond.InRange := by
  obtain ⟨-, hsecond, hminute⟩ := h
  unfold Clock.nextSecond
  split
  · exact ⟨Nat.succ_pos _, by dsimp only; omega, hminute⟩
  · exact ⟨Nat.succ_pos _, Nat.succ_pos _, Nat.mod_lt _ (by decide)⟩

theorem Clock.nextMinute_inRange (c : Clock) : c.nextMinute.InRange := ⟨Nat.succ_pos _, Nat.succ_pos _, Nat.mod_lt _ (by decide)⟩

theorem State.secondWork_of_boot {s : State} (h : s.mode = .boot) : s.secondWork = s := if_pos h
theorem State.minuteWork_of_boot {s : State} (h : s.mode = .boot) (ended : Nat) : s.minuteWork ended = s := if_pos h

theorem StepCase.work {s t : State} (h : StepCase s t) : StepWork s t := by
  cases h with
  | unchanged => exact .works .refl
  | hardReset start => exact .hardReset start
  | warmRestart => exact .warmRestart
  | released hheld => exact .released hheld
  | loadEnds hloading =>
    unfold State.completeLoad State.endLoad
    dsimp only
    exact .loadEnds hloading s.loadedFrom_load (.ite (fun _ => .post .refl (Notice.fits_load ..)) fun _ => .refl) (.evaluateZones .refl)
  | memoryAbsent hloading =>
    unfold State.endLoad
    exact .loadEnds hloading (.refl s) (.post .refl Notice.fits_memoryAbsent) (.evaluateZones .refl)
  | secondBoundary =>
    unfold State.secondBoundary
    split
    · exact .works .refl
    · rename_i hloader
      dsimp only
      split
      · exact .passes (1000 - s.clock.ms) s.clock.nextSecond Clock.nextSecond_inRange hloader (.secondWork .refl)
          fun hboot => State.secondWork_of_boot (s := { s.elapse (1000 - s.clock.ms) with clock := s.clock.nextSecond }) hboot
      · exact .passes (1000 - s.clock.ms) s.clock.nextSecond Clock.nextSecond_inRange hloader (.minuteWork .refl s.clock.minute)
          fun hboot => State.minuteWork_of_boot (s := { s.elapse (1000 - s.clock.ms) with clock := s.clock.nextSecond }) hboot s.clock.minute
  | minuteBoundary =>
    unfold State.minuteBoundary
    split
    · exact .works .refl
    · rename_i hloader
      dsimp only
      exact .passes (60000 - (1000 * s.clock.second + s.clock.ms)) s.clock.nextMinute (fun _ => Clock.nextMinute_inRange _) hloader
        (.minuteWork .refl s.clock.minute) fun hboot => State.minuteWork_of_boot
          (s := { s.elapse (60000 - (1000 * s.clock.second + s.clock.ms)) with clock := s.clock.nextMinute }) hboot s.clock.minute
  | pollSent p => exact .works (.setPoll .refl _)
  | pollEnds cls level => exact .works (.pollEnds .refl ..)
  | recalculationEnds c hactivity => exact .recalculationEnds c hactivity ((State.Works.refl.publish c).ageAll.takePassReport _ _)
  | forecastEnds c q m sec hactivity => exact .forecastEnds c q m sec hactivity
  | staleTime i => exact .works (.staleSlot .refl i)
  | ageOut i => exact .works (.ageSlot .refl i)
  | handoverExpires => exact .works (.grant .refl _)
  | discards => exact .discards
  | clearEnds k htable =>
    by_cases hk : k = .site
    · subst hk
      have hwork : ({ s with site := siteDefault } : State).Works (s.clearTable .site).1 := by
        dsimp only [State.clearTable]
        exact .replaceSite s siteDefault
      exact .clearEnds (.cleared .site (s.clearTable .site).2) htable (fun _ => siteDefault_inRange) hwork
    · have hwork : ({ s with site := s.site } : State).Works (s.clearTable k).1 := .clearTable s hk
      exact .clearEnds (.cleared k (s.clearTable k).2) htable id hwork
  | saveEnds image htable ws result => exact .saveEnds image htable ws result
  | receiver p r => exact .receiver p r
  | replySent p => exact .replySent p
  | busReceiver r hawaiting => exact .busReceiver r hawaiting
  | entrySent => exact .entrySent
  | refuses p r hloader hr => exact .refuses p r hloader hr
  | answers c h owner hc ho hloader hmode hstep => exact .answers hc ho hloader hmode rfl hstep hstep.work
  | millisecond hms hloader =>
    exact .passes 1 { s.clock with ms := s.clock.ms + 1 } (fun h => ⟨by dsimp only; omega, h.2⟩) hloader .refl fun _ => rfl

/-- What a step makes of the state, the commands that wait having lost at most the front one. -/
theorem stepWork_step {s t : State} (h : step s = .next t) : ∃ rest, StepWork { s with pending := rest } t :=
  (stepCase_step h).imp fun _ hcase => hcase.work

end Sys2Proof.Machine
end

section
/-! SUPPORT. What every step keeps of the clock, the mode, the engine, the notice queue, the witness transmitter and the settings memory, and the statements about it,
about a step as such, and about the state after reset. -/

namespace Sys2Proof.Machine

/-! ### The blocks at their reset values (R18, R174) -/

theorem slot_reset (i : SlotId) : State.reset.slot i = slotDefault := by simp [State.slot, State.reset, Vector.get_eq_getElem]
theorem zone_reset (z : ZoneId) : State.reset.zone z = zoneDefault := by simp [State.zone, State.reset, Vector.get_eq_getElem]
theorem receptor_reset (r : ReceptorId) : State.reset.receptor r = none := by simp [State.receptor, State.reset, Vector.get_eq_getElem]
theorem path_reset (p : PathPos) : State.reset.path p = none := by simp [State.path, State.reset, Vector.get_eq_getElem]
theorem excRecord_reset (p : ExcPos) : State.reset.excRecord p = none := by
  simp [State.excRecord, State.reset, excTableAtReset, Vector.get_eq_getElem]
theorem link_reset (p : Port) : State.reset.link p = linkAtReset := by simp [State.link, State.reset, Vector.get_eq_getElem]

theorem blocksAtReset_reset : State.reset.BlocksAtReset :=
  ⟨rfl, zone_reset, receptor_reset, rfl, slot_reset, path_reset, rfl, rfl, rfl, rfl, rfl, rfl⟩

theorem bootSound_reset : State.reset.BootSound := ⟨by simp [State.reset], fun _ => blocksAtReset_reset⟩

theorem bootSound_hardReset (s : State) (start : StartKind) : (s.hardReset start).BootSound :=
  ⟨by simp [State.hardReset, State.reset], fun _ => blocksAtReset_reset⟩

theorem bootSound_warmRestart (s : State) : s.warmRestart.BootSound :=
  ⟨by simp [State.warmRestart, State.hardReset, State.reset], fun _ => blocksAtReset_reset⟩

theorem State.BootSound.of_ended {t : State} (hmode : t.mode ≠ .boot) (hloader : t.loader = .ended) : t.BootSound :=
  ⟨⟨fun h => absurd h hmode, fun h => absurd hloader h⟩, fun h => absurd h hmode⟩

theorem State.BootSound.loader_ended {s : State} (h : s.BootSound) (hmode : s.mode ≠ .boot) : s.loader = .ended := by
  by_contra hloader
  exact hmode (h.1.2 hloader)

theorem State.BootSound.boot_of_loading {s : State} (h : s.BootSound) (hloading : s.loader = .loading) : s.mode = .boot :=
  h.1.2 (by simp [hloading])

/-- In BOOT no slot is bound, so no report age counts: time passes over the reset values and leaves them (R18). -/
theorem State.BlocksAtReset.elapse {s : State} (h : s.BlocksAtReset) (n : Nat) (clock : Clock) :
    ({ s.elapse n with clock := clock } : State).BlocksAtReset := by
  obtain ⟨hsite, hzones, hreceptors, hpoll, hslots, hpaths, hengine, harbiter, hlatch, htable, hnotices, hwitness⟩ := h
  refine ⟨hsite, hzones, hreceptors, by simp [State.elapse, Poller.elapse, hpoll], fun i => ?_, hpaths, hengine, ?_, by simp [State.elapse, hlatch, Latch.elapse],
    htable, hnotices, hwitness⟩
  · have : ({ s.elapse n with clock := clock } : State).slot i = (s.slot i).grow n := State.slot_updSlots s (Slot.grow n) i
    rw [this, hslots i]
    rfl
  · simp [State.elapse, harbiter, arbiterAtReset]

/-! ### The mode and the loader -/

theorem State.chooseNext_mode_loader (s : State) : s.chooseNext.mode = s.mode ∧ s.chooseNext.loader = s.loader := by
  rw [State.chooseNext_eq]; exact ⟨rfl, rfl⟩

theorem State.takeQuery_eq (s : State) (p : Port) (q : List SlotId) :
    s.takeQuery p q = { s with latch := (s.takeQuery p q).latch, engine := (s.takeQuery p q).engine } := by
  unfold State.takeQuery State.beginForecast
  dsimp only
  split <;> rfl

theorem State.discardForecast_eq (s : State) :
    s.discardForecast = { s with latch := s.discardForecast.latch, notices := s.discardForecast.notices } := by
  unfold State.discardForecast
  split <;> rfl

theorem State.endForecast_eq (s : State) (c : Capture) (q : List SlotId) (m sec : Nat) :
    s.endForecast c q m sec = { s with
      engine := (s.endForecast c q m sec).engine
      latch := (s.endForecast c q m sec).latch
      arbiter := { s.arbiter with passSinceHead := (s.endForecast c q m sec).arbiter.passSinceHead } } := by
  unfold State.endForecast State.takeForecast
  rw [State.chooseNext_eq]
  split <;> rfl

/-- Outside BOOT an owner leaves the mode outside BOOT and the loader as it is. -/
theorem OwnerWork.mode_loader {p : Port} {s t : State} (h : OwnerWork p s t) (hmode : s.mode ≠ .boot) :
    t.mode ≠ .boot ∧ t.loader = s.loader := by
  cases h with
  | works h => exact ⟨h.frame.mode_eq ▸ hmode, h.frame.loader_eq⟩
  | takesQuery q => rw [State.takeQuery_eq]; exact ⟨hmode, rfl⟩
  | handsForecast => exact ⟨hmode, rfl⟩
  | setsClock _ _ h => exact ⟨h.frame.mode_eq ▸ hmode, h.frame.loader_eq⟩
  | changesMode h hnew _ k => exact ⟨k.frame.mode_eq ▸ hnew, k.frame.loader_eq.trans h.frame.loader_eq⟩
  | readsNotices n => exact ⟨hmode, rfl⟩
  | setsMask mask => exact ⟨hmode, rfl⟩
  | replacesSite _ h => exact ⟨h.frame.mode_eq ▸ hmode, h.frame.loader_eq⟩
  | ordersTable x => exact ⟨hmode, rfl⟩

/-- Once the load has ended, every step leaves the mode outside BOOT and the load ended, or is a reset. -/
theorem StepWork.bootSound_of_ended {s t : State} (h : StepWork s t) (hmode : s.mode ≠ .boot) (hloader : s.loader = .ended) : t.BootSound := by
  cases h with
  | works h => exact .of_ended (h.frame.mode_eq ▸ hmode) (h.frame.loader_eq.trans hloader)
  | hardReset start => exact bootSound_hardReset s start
  | warmRestart => exact bootSound_warmRestart s
  | released hheld => simp [hloader] at hheld
  | loadEnds hloading => simp [hloader] at hloading
  | passes n clock _ _ h => exact .of_ended (h.frame.mode_eq ▸ hmode) (h.frame.loader_eq.trans hloader)
  | recalculationEnds c _ h =>
    obtain ⟨hm, hl⟩ := State.chooseNext_mode_loader ‹_›
    exact .of_ended (by rw [hm, h.frame.mode_eq]; exact hmode) (by rw [hl, h.frame.loader_eq, hloader])
  | forecastEnds c q m sec => rw [State.endForecast_eq]; exact .of_ended hmode hloader
  | discards => rw [State.discardForecast_eq]; exact .of_ended hmode hloader
  | clearEnds _ _ _ h => exact .of_ended (show State.mode _ ≠ .boot from h.frame.mode_eq ▸ hmode) (h.frame.loader_eq.trans hloader)
  | saveEnds => exact .of_ended hmode hloader
  | receiver => exact .of_ended hmode hloader
  | replySent => exact .of_ended hmode hloader
  | busReceiver => exact .of_ended hmode hloader
  | entrySent => exact .of_ended hmode hloader
  | refuses => exact .of_ended hmode hloader
  | answers _ _ _ _ _ _ hwork =>
    obtain ⟨hm, hl⟩ := hwork.mode_loader hmode
    exact .of_ended hm (hl.trans hloader)

theorem bootSound_endLoad (s : State) : s.endLoad.BootSound := by
  have h : ({ s with mode := .setup, loader := .ended } : State).Works s.endLoad := .evaluateZones .refl
  exact .of_ended (by rw [h.frame.mode_eq]; simp) h.frame.loader_eq

/-- In BOOT a boundary lets time pass and moves the clock, and does no other work (R18). -/
theorem State.secondBoundary_of_boot {s : State} (h : s.mode = .boot) :
    s.secondBoundary = s ∨ ∃ n clock, s.secondBoundary = { s.elapse n with clock := clock } := by
  unfold State.secondBoundary
  split
  · exact .inl rfl
  · dsimp only
    split
    · exact .inr ⟨_, _, if_pos h⟩
    · exact .inr ⟨_, _, if_pos h⟩

theorem State.minuteBoundary_of_boot {s : State} (h : s.mode = .boot) :
    s.minuteBoundary = s ∨ ∃ n clock, s.minuteBoundary = { s.elapse n with clock := clock } := by
  unfold State.minuteBoundary
  split
  · exact .inl rfl
  · exact .inr ⟨_, _, if_pos h⟩

/-- In BOOT the blocks at their reset values leave most events nothing to act on. -/
theorem StepCase.bootSound_of_boot {s t : State} (h : StepCase s t) (hmode : s.mode = .boot) (hs : s.BootSound) : t.BootSound := by
  have hblocks := hs.2 hmode
  have hloader : s.loader ≠ .ended := hs.1.1 hmode
  have hsame := hblocks
  obtain ⟨hsite, hzones, hreceptors, hpoll, hslots, hpaths, hengine, harbiter, hlatch, htable, hnotices, hwitness⟩ := hsame
  have hpasses (n : Nat) (clock : Clock) : ({ s.elapse n with clock := clock } : State).BootSound :=
    ⟨by simp [State.elapse, hmode, hloader], fun _ => hblocks.elapse n clock⟩
  have hlinks (l : Vector Link 9) : ({ s with links := l } : State).BootSound := hs
  cases h with
  | unchanged => exact hs
  | hardReset start => exact bootSound_hardReset s start
  | warmRestart => exact bootSound_warmRestart s
  | released => exact ⟨by simp [hmode], fun _ => hblocks⟩
  | loadEnds =>
    unfold State.completeLoad
    dsimp only
    exact bootSound_endLoad _
  | memoryAbsent => exact bootSound_endLoad _
  | secondBoundary =>
    obtain hsame | ⟨n, clock, hsame⟩ := s.secondBoundary_of_boot hmode <;> rw [hsame]
    · exact hs
    · exact hpasses n clock
  | minuteBoundary =>
    obtain hsame | ⟨n, clock, hsame⟩ := s.minuteBoundary_of_boot hmode <;> rw [hsame]
    · exact hs
    · exact hpasses n clock
  | pollSent p hp => simp [hpoll] at hp
  | pollEnds cls level => simpa [State.pollEnds, hpoll] using hs
  | recalculationEnds c hactivity => simp [hengine, engineAtReset] at hactivity
  | forecastEnds c q m sec hactivity => simp [hengine, engineAtReset] at hactivity
  | staleTime i => simpa [State.staleSlot, State.staleDue, hslots, slotDefault] using hs
  | ageOut i => simpa [State.ageSlot, State.ageDue, State.mayAgeOut, hslots, slotDefault] using hs
  | handoverExpires htimer => simp [harbiter, arbiterAtReset] at htimer
  | discards => simpa [State.discardForecast, hlatch] using hs
  | clearEnds k hk => simp [htable] at hk
  | saveEnds image hk => simp [htable] at hk
  | receiver p r => exact hlinks _
  | replySent p => exact hlinks _
  | busReceiver r hawaiting => simp [State.awaiting, hpoll] at hawaiting
  | entrySent =>
    have hsame : s.witness.entrySent = s.witness := by rw [hwitness]; rfl
    rw [hsame]
    exact hs
  | refuses p r => exact hlinks _
  | answers c h owner hc ho _ hnot => exact absurd hmode hnot
  | millisecond => exact hpasses 1 _

theorem bootSound_kept {s t : State} (h : StepCase s t) (hs : s.BootSound) : t.BootSound := by
  by_cases hmode : s.mode = .boot
  · exact h.bootSound_of_boot hmode hs
  · exact h.work.bootSound_of_ended hmode (hs.loader_ended hmode)

/-! ### The clock -/

theorem OwnerWork.clock_inRange {p : Port} {s t : State} (h : OwnerWork p s t) (hs : s.clock.InRange) : t.clock.InRange := by
  cases h with
  | works h => exact h.frame.clock_eq ▸ hs
  | takesQuery q => rw [State.takeQuery_eq]; exact hs
  | handsForecast => exact hs
  | setsClock hclock _ h => exact h.frame.clock_eq ▸ hclock
  | changesMode h _ _ k =>
    rw [k.frame.clock_eq]
    exact h.frame.clock_eq ▸ hs
  | readsNotices n => exact hs
  | setsMask mask => exact hs
  | replacesSite _ h => exact h.frame.clock_eq ▸ hs
  | ordersTable x => exact hs

theorem clock_inRange_kept {s t : State} (h : StepWork s t) (hs : s.clock.InRange) : t.clock.InRange := by
  have hreset : clockAtReset.InRange := by decide
  cases h with
  | works h => exact h.frame.clock_eq ▸ hs
  | hardReset start => exact hreset
  | warmRestart => exact hs
  | released => exact hs
  | loadEnds _ h hv k =>
    rw [k.frame.clock_eq]
    rw [h.1] at hv
    exact hv.frame.clock_eq ▸ hs
  | passes n clock hclock _ h => exact h.frame.clock_eq ▸ hclock hs
  | recalculationEnds c _ h => rw [State.chooseNext_eq]; exact h.frame.clock_eq ▸ hs
  | forecastEnds c q m sec => rw [State.endForecast_eq]; exact hs
  | discards => rw [State.discardForecast_eq]; exact hs
  | clearEnds _ _ _ h => exact show (State.clock _).InRange from h.frame.clock_eq ▸ hs
  | saveEnds => exact hs
  | receiver => exact hs
  | replySent => exact hs
  | busReceiver => exact hs
  | entrySent => exact hs
  | refuses => exact hs
  | answers _ _ _ _ _ _ hwork => exact hwork.clock_inRange hs

/-- Settles O7: in BOOT hardly anything acts, and outside it the frames of the step's cases keep the mode and the loader. -/
theorem stepKeepsClockAndModeSound : Obligations.StepKeepsClockAndModeSound :=
  ⟨fun _ _ hs h => kept_by_step (P := fun s => s.clock.InRange) (fun _ _ hs => hs) (fun _ _ hcase => clock_inRange_kept hcase.work) hs h,
   fun _ _ hs h => kept_by_step (P := State.BootSound) (fun _ _ hs => hs) (fun _ _ hcase => bootSound_kept hcase) hs h⟩

end Sys2Proof.Machine
end

section
/-! SUPPORT. The statements about a step as such; the engine with the latch, the notice queue, the witness transmitter and the settings memory through a step; the
site parameters through a step. -/

namespace Sys2Proof.Machine

/-! ### Every command completes -/

/-- Settles O1. -/
theorem stepRunsTheFrontCommand : Obligations.StepRunsTheFrontCommand := by
  intro s c rest h
  simp only [step, h]

theorem exec_completes (c : Instr) (s : State) : ∃ t, exec c s = .next t := by
  cases hc : requestHead c with
  | some head => exact ⟨_, exec_request hc s⟩
  | none => cases c <;> cases hc <;> exact ⟨_, rfl⟩

theorem idle_completes (s : State) : ∃ t, s.idle = .next t := by
  unfold State.idle State.tick
  split
  · exact ⟨_, rfl⟩
  · split
    · exact exec_completes .stationReplyTimeout s
    · split
      · exact exec_completes (.staleTimeExpiry _) s
      · exact exec_completes (.ageOut _) s
      · split
        · exact exec_completes .handoverTimerExpiry s
        · split
          · exact exec_completes .discardTimerExpiry s
          · split
            · exact exec_completes .recalculationPassEnd s
            · exact exec_completes .forecastPassEnd s
            · exact exec_completes .tableClearCompletion s
            · split
              · exact ⟨_, rfl⟩
              · exact exec_completes .secondBoundary s

theorem OwnerWork.pending_eq {p : Port} {s t : State} (h : OwnerWork p s t) : t.pending = s.pending := by
  cases h with
  | works h => exact h.frame.pending_eq
  | takesQuery q => rw [State.takeQuery_eq]
  | handsForecast => rfl
  | setsClock _ _ h => exact h.frame.pending_eq
  | changesMode h _ _ k => exact k.frame.pending_eq.trans h.frame.pending_eq
  | readsNotices n => rfl
  | setsMask mask => rfl
  | replacesSite _ h => exact h.frame.pending_eq
  | ordersTable x => rfl

theorem StepWork.pending_eq {s t : State} (h : StepWork s t) : t.pending = s.pending := by
  cases h with
  | works h => exact h.frame.pending_eq
  | hardReset start => rfl
  | warmRestart => rfl
  | released => rfl
  | loadEnds _ h hv k =>
    rw [h.1] at hv
    exact k.frame.pending_eq.trans hv.frame.pending_eq
  | passes n clock _ _ h => exact h.frame.pending_eq
  | recalculationEnds c _ h => rw [State.chooseNext_eq]; exact h.frame.pending_eq
  | forecastEnds c q m sec => rw [State.endForecast_eq]
  | discards => rw [State.discardForecast_eq]
  | clearEnds _ _ _ h => exact h.frame.pending_eq
  | saveEnds => rfl
  | receiver => rfl
  | replySent => rfl
  | busReceiver => rfl
  | entrySent => rfl
  | refuses => rfl
  | answers _ _ _ _ _ _ hwork => exact hwork.pending_eq

/-- Settles O2: no command faults or is refused, and none touches the waiting commands. -/
theorem everyCommandCompletes : Obligations.EveryCommandCompletes := by
  refine ⟨fun c s => ?_, fun s => ?_⟩
  · obtain ⟨t, ht⟩ := exec_completes c s
    exact ⟨t, ht, (stepCase_exec ht).work.pending_eq⟩
  · unfold step
    split
    · rename_i hnil
      obtain ⟨t, ht⟩ := idle_completes s
      exact ⟨t, ht, by rw [(stepCase_idle ht).work.pending_eq, hnil]; rfl⟩
    · rename_i c rest hcons
      obtain ⟨t, ht⟩ := exec_completes c { s with pending := rest }
      exact ⟨t, ht, by rw [(stepCase_exec ht).work.pending_eq, hcons]; rfl⟩

/-! ### The step with no command waiting (log 1) -/

theorem State.staleDue_of_unbound {s : State} {i : SlotId} (h : (s.slot i).port = none) : s.staleDue i = false := by simp [State.staleDue, h]

theorem State.ageDue_of_unbound {s : State} {i : SlotId} (h : (s.slot i).port = none) : s.ageDue i = false := by
  simp [State.ageDue, State.mayAgeOut, h]

/-- Settles O3: with no timer running, no pass and no clear, the idle step lets a millisecond pass. -/
theorem idleStepIsOneMillisecond : Obligations.IdleStepIsOneMillisecond := by
  intro s hpending
  have hstep : step s = s.idle := by simp only [step, hpending]
  refine ⟨fun hheld => by rw [hstep]; exact if_pos hheld, fun hloader hpoll hports htimer hlatch hactivity htable => ?_⟩
  have hstale : allSlots.find? s.staleDue = none := List.find?_eq_none.2 fun i _ => by simp [State.staleDue_of_unbound (hports i)]
  have hage : allSlots.find? s.ageDue = none := List.find?_eq_none.2 fun i _ => by simp [State.ageDue_of_unbound (hports i)]
  have htick : step s = s.tick := by
    rw [hstep]
    simp [State.idle, hloader, State.pollDue, hpoll, hstale, hage, htimer, hlatch, Latch.due]
  refine ⟨fun hms => ?_, fun hms => ?_⟩
  · rw [htick]
    simp only [State.tick, hactivity, htable, hms, if_true]
    simp [State.elapse, State.updSlots, Slot.grow, htimer, hlatch, Latch.elapse, Poller.elapse, hpoll]
    cases hs : s.arbiter
    cases hp : s.poller
    simp_all
  · rw [htick]
    simp [State.tick, hactivity, htable, hms, exec]

/-! ### The engine with the latch (R107 to R110, R148) -/

theorem engineSound_trigger {s : State} (h : s.EngineSound) : s.trigger.EngineSound := by
  obtain ⟨hwork, hpending⟩ := h
  unfold State.trigger State.beginRecalculation
  split
  · exact ⟨hwork, hpending⟩
  · split
    · rename_i hidle
      refine ⟨?_, by simp⟩
      rw [hidle] at hwork
      cases hlatch : s.latch <;> simp_all [workSound]
    · rename_i hbusy
      exact ⟨hwork, fun h => absurd h hbusy⟩

theorem State.Works.engineSound {s t : State} (h : s.Works t) (hs : s.EngineSound) : t.EngineSound := by
  induction h with
  | refl => exact hs
  | records _ _ _ _ _ _ _ _ _ ih => exact ih
  | post _ _ ih => exact ih
  | send _ c ih => rw [State.send_eq]; exact ih
  | trigger _ ih => exact engineSound_trigger ih

/-- The choice of the next work leaves engine and latch together, whatever pass has ended, once no latch is left COMPUTING (R109). -/
theorem engineSound_chooseNext {s : State} (h : ∀ o q, s.latch ≠ .computing o q) : s.chooseNext.EngineSound := by
  unfold State.chooseNext State.beginRecalculation State.beginForecast
  split
  · refine ⟨?_, by simp⟩
    cases hlatch : s.latch <;> simp_all [workSound]
  · rename_i hpending
    split
    · rename_i o q hlatch
      simp [State.EngineSound, workSound]
    · rename_i hlatch
      refine ⟨?_, fun _ => by simpa using hpending⟩
      cases hl : s.latch <;> simp_all [workSound]

theorem workSound_elapse (a : Activity) (l : Latch) (n : Nat) : workSound a (l.elapse n) = workSound a l := by
  cases l <;> cases a <;> rfl

theorem engineSound_takeQuery {s : State} {p : Port} {q : List SlotId} (h : s.EngineSound) (hlatch : s.latch = .empty) :
    (s.takeQuery p q).EngineSound := by
  obtain ⟨hwork, hpending⟩ := h
  unfold State.takeQuery State.beginForecast
  dsimp only
  split
  · simp [State.EngineSound, workSound]
  · rename_i hbusy
    refine ⟨?_, hpending⟩
    rw [hlatch] at hwork
    cases ha : s.engine.activity <;> simp_all [workSound]

theorem OwnerWork.engineSound {p : Port} {s t : State} (h : OwnerWork p s t) (hs : s.EngineSound) : t.EngineSound := by
  cases h with
  | works h => exact h.engineSound hs
  | takesQuery q hlatch => exact engineSound_takeQuery hs hlatch
  | handsForecast hlatch =>
    obtain ⟨hwork, hpending⟩ := hs
    refine ⟨?_, hpending⟩
    rw [hlatch] at hwork
    cases ha : s.engine.activity <;> simp_all [workSound]
  | setsClock _ _ h => exact h.engineSound hs
  | changesMode h _ _ k => exact k.engineSound (h.engineSound hs)
  | readsNotices n => exact hs
  | setsMask mask => exact hs
  | replacesSite _ h => exact h.engineSound hs
  | ordersTable x => exact hs

theorem engineSound_kept {s t : State} (h : StepWork s t) (hs : s.EngineSound) : t.EngineSound := by
  have hreset : State.reset.EngineSound := ⟨rfl, fun _ => rfl⟩
  cases h with
  | works h => exact h.engineSound hs
  | hardReset start => exact hreset
  | warmRestart => exact hreset
  | released => exact hs
  | loadEnds _ h hv k =>
    rw [h.1] at hv
    exact k.engineSound (hv.engineSound hs)
  | passes n clock _ _ h => exact h.engineSound ⟨(workSound_elapse ..).trans hs.1, hs.2⟩
  | recalculationEnds c hactivity h =>
    refine engineSound_chooseNext fun o q hlatch => ?_
    obtain ⟨hwork, -⟩ := hs
    rw [hactivity, ← h.frame.latch_eq, hlatch] at hwork
    cases hwork
  | forecastEnds c q m sec hactivity =>
    refine engineSound_chooseNext fun o q => ?_
    obtain ⟨hwork, -⟩ := hs
    rw [hactivity] at hwork
    unfold State.takeForecast
    cases hlatch : s.latch <;> simp_all [workSound]
  | discards =>
    unfold State.discardForecast
    split
    · rename_i hlatch
      obtain ⟨hwork, hpending⟩ := hs
      refine ⟨?_, hpending⟩
      rw [hlatch] at hwork
      show workSound s.engine.activity .empty = true
      cases ha : s.engine.activity <;> simp_all [workSound]
    · exact hs
  | clearEnds _ _ _ h =>
    have ht := h.engineSound hs
    exact ht
  | saveEnds => exact hs
  | receiver => exact hs
  | replySent => exact hs
  | busReceiver => exact hs
  | entrySent => exact hs
  | refuses => exact hs
  | answers _ _ _ _ _ _ hwork => exact hwork.engineSound hs

/-! ### The notice queue and the witness transmitter (R169, R172) -/

theorem Notice.sameSubject_comm (a b : Notice) : a.sameSubject b = b.sameSubject a := by
  simp only [Notice.sameSubject, Bool.beq_comm]

theorem Notice.sameSubject_iff (a b : Notice) : a.sameSubject b = true ↔ a.kindIndex = b.kindIndex ∧ a.subject = b.subject := by
  simp [Notice.sameSubject]

theorem Notice.sameSubject_eq_false_iff (a b : Notice) : a.sameSubject b = false ↔ ¬(a.kindIndex = b.kindIndex ∧ a.subject = b.subject) := by
  rw [← Notice.sameSubject_iff, Bool.not_eq_true]

/-- Posting keeps at most 32 notices, no two of one kind and subject (R169). -/
theorem NoticeQueue.sound_post {q : NoticeQueue} (h : q.Sound) (n : Notice) : (q.post n).Sound := by
  obtain ⟨hlen, hpair⟩ := h
  unfold NoticeQueue.post
  split
  · refine ⟨by simpa using hlen, ?_⟩
    dsimp only
    rw [List.pairwise_map]
    refine hpair.imp fun {a b} hab => ?_
    simp only [Notice.sameSubject_eq_false_iff] at hab ⊢
    simp only [Notice.sameSubject_iff]
    split <;> split <;> grind
  · rename_i hnew
    split
    · refine ⟨by simp; omega, List.pairwise_append.2 ⟨hpair, List.pairwise_singleton .., fun a ha b hb => ?_⟩⟩
      rw [List.mem_singleton.1 hb]
      simp only [List.any_eq_true, not_exists, not_and, Bool.not_eq_true] at hnew
      exact hnew a ha
    · exact ⟨hlen, hpair⟩

/-- Taking a copy keeps the FIFO and the count of drops sound (R172). -/
theorem WitnessTx.sound_take {w : WitnessTx} (h : w.Sound) (c : Copy) (minute second : Nat) : (w.take c minute second).Sound := by
  obtain ⟨hlen, hfull, hdrops, hcounted, hdated⟩ := h
  unfold WitnessTx.take
  split
  · rename_i hroom
    have hgap : w.gapPending = false := by
      by_contra hgap
      simp_all
    refine ⟨by simp; omega, fun h => ?_, hdrops, hcounted, hdated⟩
    simp [hgap] at h
  · refine ⟨hlen, fun _ => by dsimp only; omega, by dsimp only; omega, by simp, ?_⟩
    by_cases hgap : w.gapPending = true <;> simp_all

/-- The head entry leaving keeps them sound, with the GAP entry that takes its place (R172). -/
theorem WitnessTx.sound_entrySent {w : WitnessTx} (h : w.Sound) : w.entrySent.Sound := by
  obtain ⟨hlen, hfull, hdrops, hcounted, hdated⟩ := h
  unfold WitnessTx.entrySent
  split
  · exact ⟨hlen, hfull, hdrops, hcounted, hdated⟩
  · rename_i rest hfifo
    rw [hfifo, List.length_cons] at hlen
    split
    · refine ⟨by simp; omega, by simp, by simp, by simp, by simp⟩
    · rename_i hgap
      refine ⟨by dsimp only; omega, fun h => absurd h hgap, hdrops, hcounted, hdated⟩

/-- The notice queue and the witness transmitter are sound. -/
def State.QueuesSound (s : State) : Prop := s.notices.Sound ∧ s.witness.Sound

theorem queuesSound_post {s : State} (h : s.QueuesSound) (n : Notice) : (s.post n).QueuesSound := ⟨NoticeQueue.sound_post h.1 n, h.2⟩

theorem State.Works.queuesSound {s t : State} (h : s.Works t) (hs : s.QueuesSound) : t.QueuesSound := by
  induction h with
  | refl => exact hs
  | records _ _ _ _ _ _ _ _ _ ih => exact ih
  | post _ _ ih => exact queuesSound_post ih _
  | send _ c ih =>
    unfold State.send
    split
    · exact ⟨ih.1, WitnessTx.sound_take ih.2 ..⟩
    · exact ih
  | trigger _ ih => rw [State.trigger_eq]; exact ih

theorem OwnerWork.queuesSound {p : Port} {s t : State} (h : OwnerWork p s t) (hs : s.QueuesSound) : t.QueuesSound := by
  cases h with
  | works h => exact h.queuesSound hs
  | takesQuery q => rw [State.takeQuery_eq]; exact hs
  | handsForecast => exact hs
  | setsClock _ _ h => exact h.queuesSound hs
  | changesMode h _ _ k => exact k.queuesSound (h.queuesSound hs)
  | readsNotices n =>
    obtain ⟨⟨hlen, hpair⟩, hwitness⟩ := hs
    exact ⟨⟨by simp; omega, hpair.sublist (List.drop_sublist n _)⟩, hwitness⟩
  | setsMask mask => exact hs
  | replacesSite _ h => exact h.queuesSound hs
  | ordersTable x => exact hs

theorem queuesSound_kept {s t : State} (h : StepWork s t) (hs : s.QueuesSound) : t.QueuesSound := by
  have hreset : State.reset.QueuesSound := ⟨⟨by decide, List.Pairwise.nil⟩, by decide⟩
  cases h with
  | works h => exact h.queuesSound hs
  | hardReset start => exact hreset
  | warmRestart => exact hreset
  | released => exact hs
  | loadEnds _ h hv k =>
    rw [h.1] at hv
    exact k.queuesSound (hv.queuesSound hs)
  | passes n clock _ _ h => exact h.queuesSound hs
  | recalculationEnds c _ h => rw [State.chooseNext_eq]; exact h.queuesSound hs
  | forecastEnds c q m sec => rw [State.endForecast_eq]; exact hs
  | discards =>
    unfold State.discardForecast
    split
    · exact queuesSound_post (s := { s with latch := .empty }) hs _
    · exact hs
  | clearEnds result _ _ h =>
    have ht := h.queuesSound hs
    exact ⟨NoticeQueue.sound_post ht.1 _, ht.2⟩
  | saveEnds image _ ws result => exact queuesSound_post (s := { s with settings := s.settings.writeAll ws, table := .idle }) hs (.engine result)
  | receiver => exact hs
  | replySent => exact hs
  | busReceiver => exact hs
  | entrySent => exact ⟨hs.1, WitnessTx.sound_entrySent hs.2⟩
  | refuses => exact hs
  | answers _ _ _ _ _ _ hwork => exact hwork.queuesSound hs

/-! ### The settings memory (12 section 12.2) -/

theorem OwnerWork.settings_eq {p : Port} {s t : State} (h : OwnerWork p s t) : t.settings = s.settings := by
  cases h with
  | works h => exact h.frame.settings_eq
  | takesQuery q => rw [State.takeQuery_eq]
  | handsForecast => rfl
  | setsClock _ _ h => exact h.frame.settings_eq
  | changesMode h _ _ k => exact k.frame.settings_eq.trans h.frame.settings_eq
  | readsNotices n => rfl
  | setsMask mask => rfl
  | replacesSite _ h => exact h.frame.settings_eq
  | ordersTable x => rfl

theorem wf_abandonSave {s : State} (hs : s.settings.wf = true) : s.abandonSave.settings.wf = true := by
  unfold State.abandonSave
  split
  · exact Memory.wf_writeAll _ _ hs
  · exact hs

theorem settings_wf_kept {s t : State} (h : StepWork s t) (hs : s.settings.wf = true) : t.settings.wf = true := by
  cases h with
  | works h => rw [h.frame.settings_eq]; exact hs
  | hardReset start => exact wf_abandonSave hs
  | warmRestart => exact wf_abandonSave hs
  | released => exact hs
  | loadEnds _ h hv k =>
    rw [h.1] at hv
    rw [k.frame.settings_eq]
    exact hv.frame.settings_eq ▸ hs
  | passes n clock _ _ h => rw [h.frame.settings_eq]; exact hs
  | recalculationEnds c _ h => rw [State.chooseNext_eq]; exact h.frame.settings_eq ▸ hs
  | forecastEnds c q m sec => rw [State.endForecast_eq]; exact hs
  | discards => rw [State.discardForecast_eq]; exact hs
  | clearEnds _ _ _ h => exact show (State.settings _).wf = true from h.frame.settings_eq ▸ hs
  | saveEnds image _ ws => exact Memory.wf_writeAll s.settings ws hs
  | receiver => exact hs
  | replySent => exact hs
  | busReceiver => exact hs
  | entrySent => exact hs
  | refuses => exact hs
  | answers _ _ _ _ _ _ hwork => exact show (State.settings _).wf = true from hwork.settings_eq ▸ hs

/-- Settles O12, invariant by invariant over the cases of a step. -/
theorem stepKeepsEngineQueuesAndMemorySound : Obligations.StepKeepsEngineQueuesAndMemorySound :=
  ⟨fun _ _ hs h => kept_by_step (P := State.EngineSound) (fun _ _ hs => hs) (fun _ _ hcase => engineSound_kept hcase.work) hs h,
   fun _ _ hn hw h => kept_by_step (P := State.QueuesSound) (fun _ _ hs => hs) (fun _ _ hcase => queuesSound_kept hcase.work) ⟨hn, hw⟩ h,
   fun _ _ hs h => kept_by_step (P := fun s => s.settings.wf = true) (fun _ _ hs => hs) (fun _ _ hcase => settings_wf_kept hcase.work) hs h⟩

/-! ### The state after reset -/

/-- Settles O6. -/
theorem resetIsSound : Obligations.ResetIsSound := by
  have hzone : zoneDefault.FadeSound ∧ zoneDefault.InRange ∧ BreakpointsSound zoneDefault.breakpoints := by decide
  have hslot : slotDefault.InRange := by decide
  have hbinding : slotDefault.BindingSound := by decide
  have hqueued (i : SlotId) : (State.reset.slot i).state = .empty := by rw [slot_reset]; rfl
  refine ⟨by decide, bootSound_reset, fun z => by rw [zone_reset]; exact hzone, ?_, ?_, ⟨fun i => by rw [slot_reset]; exact hslot, ?_⟩, ⟨?_, ?_, ?_, ?_⟩,
    ⟨rfl, fun _ => rfl⟩, ⟨by decide, List.Pairwise.nil⟩, by decide, ⟨?_, ?_, rfl⟩, rfl, siteDefault_inRange⟩
  · exact ⟨by simp [receptor_reset], by simp [receptor_reset]⟩
  · exact ⟨List.nodup_nil, fun p => by rw [excRecord_reset]; simp [State.reset, excTableAtReset], by simp [excRecord_reset], by simp [receptor_reset]⟩
  · simp [State.reset, engineAtReset, Activity.captured]
  · refine ⟨bootSound_reset, ⟨fun i => by rw [slot_reset]; exact hbinding, fun i j _ => by simp [slot_reset, slotDefault]⟩, ?_, ?_⟩
    · exact ⟨List.nodup_nil, fun i => by rw [hqueued]; simp [SlotState.queued, State.reset, arbiterAtReset],
        fun i => by rw [hqueued]; simp [State.reset, arbiterAtReset]⟩
    · have hdebt (i : SlotId) : (State.reset.slot i).debt = false := by rw [slot_reset]; rfl
      have hprospective (i : SlotId) : (State.reset.slot i).prospective = none := by rw [slot_reset]; rfl
      exact ⟨by simp [State.reset, arbiterAtReset], by simp [State.reset, arbiterAtReset],
        ⟨by simp [State.reset, arbiterAtReset], by simp [hdebt]⟩, by simp [hdebt], by simp [hprospective]⟩
  · exact ⟨by simp [path_reset], by simp [path_reset], by simp [receptor_reset], by simp [State.reset], by simp [State.reset]⟩
  · exact ⟨fun i => by simp [hqueued, SlotState.queued], by simp [State.reset, arbiterAtReset]⟩
  · simp [State.reset]
  · simp [link_reset, linkAtReset]
  · simp [State.reset, noticesAtReset]

end Sys2Proof.Machine
end


section
/-! SUPPORT. What the console reads and orders: resets, IDENTIFY, SITE STATUS, the long operations, triggers and forecasts. -/

namespace Sys2Proof.Machine

/-! ### Table requests (R166) -/

theorem whenIdle_of_idle {s : State} (h : s.table = .idle) (owner : Handler) : whenIdle owner s = owner s :=
  if_neg (by simp [State.tableBusy, h])

theorem whenIdle_of_busy {s : State} (h : s.table ≠ .idle) (owner : Handler) : whenIdle owner s = (s, .busy) :=
  if_pos (by simp [State.tableBusy, h])

/-- An IDLE table engine hands the request to the table's owner. -/
theorem answered_of_tableReady {c : Instr} {s t : State} {kind tag : Nat} {owner : Handler} {a : Answer} (h : s.TableReady)
    (hexec : exec c s = .next (s.serve 0 kind tag .console (some (whenIdle owner)))) (howner : owner s = (t, a)) :
    Answered c s t 0 kind tag a :=
  answered_of_ready h.1 hexec ((whenIdle_of_idle h.2 owner).trans howner)

/-! ### Resets (R174) -/

theorem State.abandonSave_of_not_saving {s : State} (h : ∀ image, s.table ≠ .saving image) : s.abandonSave = s := by
  unfold State.abandonSave
  split
  next image heq => exact absurd heq (h image)
  next => rfl

theorem State.abandonSave_of_saving {s : State} {image : List SectionImage} (h : s.table = .saving image) :
    ∃ n, s.abandonSave.settings = s.settings.writeAll ((saveWrites image).take n) := by
  unfold State.abandonSave
  rw [h]
  exact ⟨_, rfl⟩

theorem Vector.get_replicate_of {α : Type} (n : Nat) (a : α) (k : Fin n) : (Vector.replicate n a).get k = a := by
  simp [Vector.get_eq_getElem]

/-- Settles O14. -/
theorem hardResetsLeaveTheResetValues : Obligations.HardResetsLeaveTheResetValues := by
  intro s
  refine ⟨s.hardReset .powerOn, rfl, rfl, rfl, rfl, rfl, rfl, rfl, fun z => Vector.get_replicate_of 4 _ z,
    fun r => Vector.get_replicate_of 16 _ r, rfl, fun p => Vector.get_replicate_of 32 _ p, rfl, fun i => Vector.get_replicate_of 8 _ i,
    fun p => Vector.get_replicate_of 64 _ p, rfl, rfl, rfl, rfl, rfl, fun p => Vector.get_replicate_of 9 _ p, rfl, rfl, rfl,
    fun k => Vector.get_replicate_of 10 _ k, rfl, rfl, rfl, rfl, fun h => ?_, fun image h => ?_⟩
  · show s.abandonSave.settings = s.settings
    rw [State.abandonSave_of_not_saving h]
  · exact State.abandonSave_of_saving h

/-! ### IDENTIFY and SITE STATUS -/

/-- Settles O42. -/
theorem identifyTellsPartModeAndStart : Obligations.IdentifyTellsPartModeAndStart :=
  fun _ _ hready => answered_of_ready hready rfl rfl

theorem takeSiteStatus_of_no_part {part : Nat} (h : part = 0 ∨ 3 < part) (s : State) : takeSiteStatus part s = (s, .refused .noSuch) := by
  unfold takeSiteStatus
  split
  case h_1 => omega
  case h_2 => omega
  case h_3 => omega
  case h_4 => rfl

/-- Settles O43. -/
theorem siteStatusShowsThreeParts : Obligations.SiteStatusShowsThreeParts := by
  intro s tag hready
  exact ⟨answered_of_ready hready rfl rfl, answered_of_ready hready rfl rfl, answered_of_ready hready rfl rfl,
    fun part hpart => answered_of_ready hready rfl (takeSiteStatus_of_no_part hpart s)⟩

/-! ### The long operations (R167, R174, R177) -/

theorem tableOf_eq_none {n : Nat} (h : n = 0 ∨ 7 < n) : tableOf n = none := by
  unfold tableOf
  split
  case h_8 => rfl
  all_goals omega

theorem takeClear_of_refusal {s : State} {n : Nat} {k : Table} {reason : Reason} (hk : tableOf n = some k) (h : s.clearRefusal k = some reason) :
    takeClear n s = (s, .refused reason) := by
  simp [takeClear, hk, h, State.refuse]

theorem takeClear_of_no_refusal {s : State} {n : Nat} {k : Table} (hk : tableOf n = some k) (h : s.clearRefusal k = none) :
    takeClear n s = ({ s with table := .clearing k }, .done .none) := by
  simp [takeClear, hk, h]

theorem State.anyPath_eq_true_iff (s : State) : (allPathPos.any fun p => (s.path p).isSome) = true ↔ ∃ p, s.path p ≠ none := by
  simp [Option.isSome_iff_ne_none]

/-- In SETUP a CLEAR is refused for the RING table, and for receptors and zones that something rests on (R167). -/
theorem State.clearRefusal_of_setup {s : State} {k : Table} (h : s.mode = .setup) (hring : k ≠ .ring)
    (hreceptor : k = .receptor → ∀ p, s.path p = none) (hzone : k = .zone → ∀ r, s.receptor r = none) : s.clearRefusal k = none := by
  cases k
  case ring => exact absurd rfl hring
  case receptor =>
    have hno : ¬(allPathPos.any fun p => (s.path p).isSome) = true := by
      rw [State.anyPath_eq_true_iff]
      exact fun ⟨p, hp⟩ => hp (hreceptor rfl p)
    simp [State.clearRefusal, h, hno]
  case zone =>
    have hno : ¬s.anyReceptor = true := by
      rw [State.anyReceptor_eq_true_iff]
      exact fun ⟨r, hr⟩ => hr (hzone rfl r)
    simp [State.clearRefusal, h, hno]
  all_goals simp [State.clearRefusal, h]

theorem takeSaveSettings_of_setup {s : State} (h : s.mode = .setup) :
    takeSaveSettings s = if s.tableBusy then (s, .busy) else ({ s with table := .saving s.captureSettings }, .done .none) := by
  simp [takeSaveSettings, h]

/-- Settles O46. -/
theorem longOperationsAreOrderedInSetup : Obligations.LongOperationsAreOrderedInSetup := by
  intro s tag hready
  refine ⟨fun h => ⟨answered_of_ready hready rfl ?_, answered_of_ready hready rfl ?_⟩,
    fun h => ⟨answered_of_ready hready rfl ?_, fun hbusy => answered_of_ready hready rfl ?_, fun hidle => answered_of_ready hready rfl ?_⟩,
    fun hidle n => ?_⟩
  · simp [takeWarmRestart, h, State.refuse]
  · simp [takeSaveSettings, h, State.refuse]
  · simp [takeWarmRestart, h]
  · rw [takeSaveSettings_of_setup h, if_pos ((State.tableBusy_eq_true_iff s).2 hbusy)]
    rfl
  · rw [takeSaveSettings_of_setup h, if_neg (by simp [State.tableBusy, hidle])]
    rfl
  · have answer {t : State} {a : Answer} (h : takeClear n s = (t, a)) : Answered (.tableClear 0 tag (.whole n)) s t 0 0x1C tag a :=
      answered_of_tableReady ⟨hready, hidle⟩ rfl h
    refine ⟨fun hn => answer ?_, fun hn => answer ?_, fun h hn => answer ?_, fun h hn => answer ?_, fun h hn hp => answer ?_,
      fun h hn hr => answer ?_, fun h k hk hring hreceptor hzone => answer ?_⟩
    · simp [takeClear, tableOf_eq_none hn, State.refuse]
    · exact takeClear_of_refusal (k := .ring) (by rw [hn]; rfl) rfl
    · rcases hn with hn | hn
      · exact takeClear_of_refusal (k := .site) (by rw [hn]; rfl) (if_pos h)
      · exact takeClear_of_refusal (k := .stage) (by rw [hn]; rfl) (if_pos h)
    · rcases hn with hn | hn | hn | hn
      · exact takeClear_of_refusal (k := .zone) (by rw [hn]; rfl) (if_pos h)
      · exact takeClear_of_refusal (k := .receptor) (by rw [hn]; rfl) (if_pos h)
      · exact takeClear_of_refusal (k := .path) (by rw [hn]; rfl) (if_pos h)
      · exact takeClear_of_refusal (k := .exceedance) (by rw [hn]; rfl) (if_pos h)
    · refine takeClear_of_refusal (k := .receptor) (by rw [hn]; rfl) ?_
      rw [State.clearRefusal, if_neg (by simp [h]), if_pos ((State.anyPath_eq_true_iff s).2 hp)]
    · refine takeClear_of_refusal (k := .zone) (by rw [hn]; rfl) ?_
      rw [State.clearRefusal, if_neg (by simp [h]), if_pos ((State.anyReceptor_eq_true_iff s).2 hr)]
    · exact takeClear_of_no_refusal hk (State.clearRefusal_of_setup h hring hreceptor hzone)

/-! ### Triggers and the choice of work (R108, R109) -/

theorem State.trigger_of_boot {s : State} (h : s.mode = .boot) : s.trigger = s := if_pos h

theorem State.trigger_of_idle {s : State} (h : s.mode ≠ .boot) (hidle : s.engine.activity = .idle) : s.trigger = s.beginRecalculation := by
  simp [State.trigger, h, hidle]

theorem State.trigger_of_busy {s : State} (h : s.mode ≠ .boot) (hbusy : s.engine.activity ≠ .idle) :
    s.trigger = { s with engine := { s.engine with pending := true } } := by
  unfold State.trigger
  rw [if_neg h]
  split
  next hidle => exact absurd hidle hbusy
  next => rfl

theorem State.chooseNext_of_pending {s : State} (h : s.engine.pending = true) :
    s.chooseNext = { s with
      engine := { activity := .recalculating s.capture, pending := false }, arbiter := { s.arbiter with passSinceHead := true } } := by
  unfold State.chooseNext
  rw [if_pos h]
  rfl

theorem State.chooseNext_of_queued {s : State} {o : Port} {q : List SlotId} (h : s.engine.pending = false) (hlatch : s.latch = .queued o q) :
    s.chooseNext = { s with
      engine := { activity := .forecasting s.capture q s.clock.minute s.clock.second, pending := false }, latch := .computing o q } := by
  simp [State.chooseNext, State.beginForecast, h, hlatch]

theorem State.chooseNext_of_not_queued {s : State} (h : s.engine.pending = false) (hlatch : ∀ o q, s.latch ≠ .queued o q) :
    s.chooseNext = { s with engine := { activity := .idle, pending := false } } := by
  unfold State.chooseNext
  rw [if_neg (by simp [h])]
  split
  next o q heq => exact absurd heq (hlatch o q)
  next => simp only [h]

/-- Settles O25. -/
theorem triggersAndTheChoiceOfWork : Obligations.TriggersAndTheChoiceOfWork :=
  fun _ => ⟨State.trigger_of_boot, fun h hidle => State.trigger_of_idle h hidle, State.trigger_of_busy, State.chooseNext_of_pending,
    fun h => ⟨fun _ _ => State.chooseNext_of_queued h, State.chooseNext_of_not_queued h⟩⟩

/-! ### The end of a forecast pass (R109, R123, R148) -/

theorem execForecastPassEnd_of_no_forecast {s : State} (h : ∀ c q m sec, s.engine.activity ≠ .forecasting c q m sec) :
    execForecastPassEnd s = .next s := by
  unfold execForecastPassEnd
  split
  next c q m sec heq => exact absurd heq (h c q m sec)
  next => rfl

/-- Settles O28. -/
theorem forecastEndMakesTheLatchReady : Obligations.ForecastEndMakesTheLatchReady := by
  refine fun s => ⟨execForecastPassEnd_of_no_forecast, fun c q m sec o hrun hlatch => ?_⟩
  have hexec : exec .forecastPassEnd s = .next (s.endForecast c q m sec) := by
    show execForecastPassEnd s = _
    simp [execForecastPassEnd, hrun]
  have htake : s.takeForecast (c.forecast q) m sec =
      { s with latch := .ready o q (c.forecast q) m sec (1000 * s.site.discardTime) } := by simp [State.takeForecast, hlatch]
  rw [hexec, State.endForecast, htake]
  cases hpending : s.engine.pending with
  | true =>
    refine (congrArg Host.Outcome.next (State.chooseNext_of_pending ?_)).trans ?_
    · exact hpending
    · rw [Bool.or_true, if_pos rfl]
      rfl
  | false =>
    refine (congrArg Host.Outcome.next (State.chooseNext_of_not_queued ?_ ?_)).trans ?_
    · exact hpending
    · exact fun _ _ h => nomatch h
    · rw [Bool.or_false]
      rfl

end Sys2Proof.Machine
end


section
/-! SUPPORT. Level arithmetic, and the computed ceiling of a pass with its limit source. -/

namespace Sys2Proof.Machine

/-! ### The power sum and the fold (R3, R4) -/

theorem powerSum_comm (a b : Level) : powerSum a b = powerSum b a := by
  unfold powerSum
  rw [max_comm, min_comm]

theorem powerSum_of_le {a b : Level} (h : b ≤ a) : powerSum a b = min 1400 (a + powerSumIncrement ((a - b) / 10)) := by
  unfold powerSum saturate
  rw [max_eq_left h, min_eq_right h, min_comm]

theorem powerSum_le (a b : Level) : powerSum a b ≤ 1400 := min_le_right _ _

theorem max_le_powerSum {a b : Level} (ha : a ≤ 1400) (hb : b ≤ 1400) : max a b ≤ powerSum a b :=
  le_min (Nat.le_add_right _ _) (max_le ha hb)

theorem powerSumIncrement_of_far {k : Nat} (h : 20 ≤ k) : powerSumIncrement k = 0 := List.getD_eq_default _ _ h

theorem powerSum_of_far {a b : Level} (ha : a ≤ 1400) (h : b ≤ a) (hfar : 200 ≤ a - b) : powerSum a b = a := by
  rw [powerSum_of_le h, powerSumIncrement_of_far ((Nat.le_div_iff_mul_le (by decide)).2 hfar), Nat.add_zero, min_eq_right ha]

/-- A running power sum that begins within 1400 stays there and is at least every level taken. -/
theorem foldl_powerSum_bounds (xs : List Level) (x : Level) (hx : x ≤ 1400) (hxs : ∀ y ∈ xs, y ≤ 1400) :
    xs.foldl powerSum x ≤ 1400 ∧ x ≤ xs.foldl powerSum x ∧ ∀ y ∈ xs, y ≤ xs.foldl powerSum x := by
  induction xs generalizing x with
  | nil => exact ⟨hx, le_rfl, fun _ h => nomatch h⟩
  | cons z xs ih =>
    obtain ⟨hz, hrest⟩ := List.forall_mem_cons.1 hxs
    obtain ⟨htop, hstart, hmem⟩ := ih (powerSum x z) (powerSum_le x z) hrest
    have hboth := (max_le_powerSum hx hz).trans hstart
    exact ⟨htop, (le_max_left x z).trans hboth, List.forall_mem_cons.2 ⟨(le_max_right x z).trans hboth, hmem⟩⟩

theorem foldLevels_bounds {xs : List Level} {v : Level} (hxs : ∀ x ∈ xs, x ≤ 1400) (h : foldLevels xs = some v) :
    v ≤ 1400 ∧ ∀ x ∈ xs, x ≤ v := by
  cases xs with
  | nil => exact nomatch h
  | cons x xs =>
    obtain ⟨hx, hrest⟩ := List.forall_mem_cons.1 hxs
    obtain ⟨htop, hstart, hmem⟩ := foldl_powerSum_bounds xs x hx hrest
    cases h
    exact ⟨htop, List.forall_mem_cons.2 ⟨hstart, hmem⟩⟩

theorem foldLevels_append (x y : Level) (xs : List Level) :
    foldLevels (x :: xs ++ [y]) = (foldLevels (x :: xs)).map fun v => powerSum v y := by
  simp [foldLevels]

theorem shareOffset_succ (n : Nat) : shareOffset (n + 1) =
    ([0, 30, 48, 60, 70, 78, 85, 90, 95, 100, 104, 108, 111, 115, 118, 120, 123, 126, 128, 130, 132, 134, 136, 138, 140, 141, 143, 145, 146, 148,
      149, 151] : List Nat).getD n 0 := rfl

/-! ### The limited step and the mean (R10, R12) -/

theorem limitedStep_of_lt {value target : Nat} (h : value < target) (rise fall : Nat) :
    limitedStep value target rise fall = min target (value + rise) := by
  unfold limitedStep
  rw [if_pos h]
  split <;> omega

theorem limitedStep_of_gt {value target : Nat} (h : target < value) (rise fall : Nat) :
    limitedStep value target rise fall = max target (value - fall) := by
  unfold limitedStep
  rw [if_neg (by omega), if_pos h]
  split <;> omega

theorem limitedStep_self (target rise fall : Nat) : limitedStep target target rise fall = target := by simp [limitedStep]

theorem meanTowardZero_of_nonneg {sum : Int} {count : Nat} (hcount : 1 ≤ count) (h : 0 ≤ sum) :
    meanTowardZero sum count * count ≤ sum ∧ sum < (meanTowardZero sum count + 1) * count := by
  unfold meanTowardZero
  rw [Int.tdiv_eq_ediv_of_nonneg h]
  exact ⟨Int.ediv_mul_le sum (by omega), Int.lt_ediv_add_one_mul_self sum (by omega)⟩

theorem meanTowardZero_neg (sum : Int) (count : Nat) : meanTowardZero (-sum) count = -meanTowardZero sum count := Int.neg_tdiv ..

theorem meanTowardZero_of_nonpos {sum : Int} {count : Nat} (hcount : 1 ≤ count) (h : sum ≤ 0) :
    sum ≤ meanTowardZero sum count * count ∧ (meanTowardZero sum count - 1) * count < sum := by
  obtain ⟨hle, hlt⟩ := meanTowardZero_of_nonneg hcount (Int.neg_nonneg.2 h)
  rw [meanTowardZero_neg] at hle hlt
  constructor <;> linarith

/-- Settles O59. -/
theorem levelArithmeticFollowsItsRules : Obligations.LevelArithmeticFollowsItsRules := by
  refine ⟨⟨fun _ => rfl, fun a b ha hb => ⟨powerSum_comm a b, ?_, powerSum_le a b, max_le_powerSum ha hb,
      fun h => ⟨powerSum_of_le h, powerSum_of_far ha h⟩⟩⟩,
    ⟨fun n hlow _ => ?_, rfl, fun _ => rfl, fun x y xs => foldLevels_append x y xs, fun _ _ => foldLevels_bounds⟩,
    fun value target rise fall => ⟨fun h => limitedStep_of_lt h rise fall, fun h => limitedStep_of_gt h rise fall, limitedStep_self target rise fall⟩,
    fun sum count hcount => ⟨meanTowardZero_of_nonneg hcount, meanTowardZero_of_nonpos hcount⟩⟩
  · rw [powerSum_of_le le_rfl, Nat.sub_self]
    rfl
  · obtain ⟨m, rfl⟩ := Nat.exists_eq_add_of_le' hlow
    exact shareOffset_succ m

/-! ### The least of the terms of R115 -/

theorem le_foldl_min_iff (l : List Int) (b v : Int) : v ≤ l.foldl min b ↔ v ≤ b ∧ ∀ x ∈ l, v ≤ x := by
  induction l generalizing b with
  | nil => simp
  | cons x l ih => simp [ih, and_assoc]

theorem foldl_min_eq_or_mem (l : List Int) (b : Int) : l.foldl min b = b ∨ l.foldl min b ∈ l := by
  induction l generalizing b with
  | nil => exact .inl rfl
  | cons x l ih =>
    rcases ih (min b x) with h | h
    · rcases min_choice b x with hb | hx
      · exact .inl (h.trans hb)
      · exact .inr (List.mem_cons.2 (.inl (h.trans hx)))
    · exact .inr (List.mem_cons_of_mem x h)

section
variable (c : Capture) (counted : List SlotId) (i : SlotId)

/-- The Q term of a member at a receptor where its loss is given. -/
def Capture.qTerm (x : ReceptorCapture) (loss : Nat) : QTerm :=
  { receptor := x.receptor, q := c.qValue counted i x loss, budget := c.budget x, weight := c.countedWeight counted x.receptor, loss := loss }

theorem Capture.qTerms_eq : c.qTerms counted i =
    c.receptors.filterMap fun x => (c.loss i x.receptor).map (c.qTerm counted i x) := rfl

theorem Capture.mem_qTerms {l : List ReceptorCapture} {t : QTerm} :
    t ∈ l.filterMap (fun x => (c.loss i x.receptor).map (c.qTerm counted i x)) ↔
      ∃ x ∈ l, ∃ loss, c.loss i x.receptor = some loss ∧ c.qTerm counted i x loss = t := by
  simp [List.mem_filterMap]

/-- The stage maximum, or a lower top cap. -/
def Capture.bound : Int :=
  match (c.slots.get i).topCap with
  | some cap => min (c.slots.get i).stageMax cap
  | none => (c.slots.get i).stageMax

theorem Capture.least_eq : c.least counted i = ((c.qTerms counted i).map (·.q)).foldl min (c.bound i) := rfl

theorem Capture.le_bound_iff (v : Int) :
    v ≤ c.bound i ↔ v ≤ (c.slots.get i).stageMax ∧ ∀ cap, (c.slots.get i).topCap = some cap → v ≤ cap := by
  unfold Capture.bound
  cases (c.slots.get i).topCap <;> simp

/-- The least is the greatest number that is at most every term. -/
theorem Capture.le_least_iff (v : Int) :
    v ≤ c.least counted i ↔ v ≤ (c.slots.get i).stageMax ∧ (∀ cap, (c.slots.get i).topCap = some cap → v ≤ cap) ∧
      ∀ y ∈ c.receptors, ∀ l, c.loss i y.receptor = some l → v ≤ c.qValue counted i y l := by
  rw [Capture.least_eq, le_foldl_min_iff, Capture.le_bound_iff, and_assoc]
  refine and_congr_right fun _ => and_congr_right fun _ => ?_
  simp only [List.forall_mem_map, Capture.qTerms_eq, Capture.mem_qTerms]
  exact ⟨fun h y hy l hl => h _ ⟨y, hy, l, hl, rfl⟩, fun h _ ⟨y, hy, l, hl, ht⟩ => ht ▸ h y hy l hl⟩

/-- The least is one of the terms. -/
theorem Capture.least_attained :
    c.least counted i = c.bound i ∨ ∃ x ∈ c.receptors, ∃ loss, c.loss i x.receptor = some loss ∧ c.least counted i = c.qValue counted i x loss := by
  rcases foldl_min_eq_or_mem ((c.qTerms counted i).map (·.q)) (c.bound i) with h | h
  · exact .inl h
  · obtain ⟨t, ht, hq⟩ := List.mem_map.1 h
    obtain ⟨x, hx, loss, hloss, rfl⟩ := (c.mem_qTerms counted i).1 ht
    exact .inr ⟨x, hx, loss, hloss, hq.symm⟩

theorem Capture.bound_eq : c.bound i = (c.slots.get i).stageMax ∨ ∃ cap, (c.slots.get i).topCap = some cap ∧ c.bound i = cap := by
  unfold Capture.bound
  cases (c.slots.get i).topCap with
  | none => exact .inl rfl
  | some cap =>
    rcases min_choice ((c.slots.get i).stageMax : Int) cap with h | h
    · exact .inl h
    · exact .inr ⟨cap, rfl, h⟩

theorem Capture.ceiling_eq : c.ceiling counted i = (c.least counted i).toNat := rfl

theorem Capture.budget_eq (x : ReceptorCapture) : c.budget x =
    ((c.zones.get x.zone).effective : Int) - x.correction - (if x.exceeded = true then ((c.zones.get x.zone).recoveryMargin : Int) else 0)
      - (if x.blind = true then (c.blindMargin : Int) else 0) - (c.zones.get x.zone).fade := by
  unfold Capture.budget
  push_cast
  rfl

theorem Capture.qValue_eq (x : ReceptorCapture) (loss : Nat) : c.qValue counted i x loss =
    if (c.zones.get x.zone).state = .silenced then 0
    else c.budget x - shareOffset (c.countedWeight counted x.receptor) + shareOffset (c.slots.get i).weight + loss := by
  unfold Capture.qValue share shareTerm
  congr 2
  ring

/-- The limit term is that of the lowest receptor whose Q value is the least. -/
theorem Capture.limitTerm_of_lowest {x : ReceptorCapture} {loss : Nat} (hsorted : c.receptors.Pairwise fun a b => a.receptor < b.receptor)
    (hx : x ∈ c.receptors) (hloss : c.loss i x.receptor = some loss) (hq : c.qValue counted i x loss = c.least counted i)
    (hlow : ∀ y ∈ c.receptors, y.receptor < x.receptor → ∀ l, c.loss i y.receptor = some l → c.qValue counted i y l ≠ c.least counted i) :
    c.limitTerm counted i = some (c.qTerm counted i x loss) := by
  obtain ⟨before, after, hsplit⟩ := List.append_of_mem hx
  rw [hsplit] at hsorted hlow
  have hbefore : ∀ y ∈ before, y.receptor < x.receptor := fun y hy =>
    (List.pairwise_append.1 hsorted).2.2 y hy x List.mem_cons_self
  unfold Capture.limitTerm
  rw [List.find?_eq_some_iff_append]
  have hterms : c.qTerms counted i =
      before.filterMap (fun y => (c.loss i y.receptor).map (c.qTerm counted i y)) ++ c.qTerm counted i x loss ::
        after.filterMap (fun y => (c.loss i y.receptor).map (c.qTerm counted i y)) := by
    rw [Capture.qTerms_eq, hsplit, List.filterMap_append, List.filterMap_cons, hloss]
    rfl
  refine ⟨by simpa [Capture.qTerm] using hq, _, _, hterms, ?_⟩
  · intro t ht
    obtain ⟨y, hy, l, hl, rfl⟩ := (c.mem_qTerms counted i).1 ht
    simpa [Capture.qTerm] using hlow y (List.mem_append_left _ hy) (hbefore y hy) l hl

theorem Capture.limitTerm_eq_none
    (h : ∀ x ∈ c.receptors, ∀ loss, c.loss i x.receptor = some loss → c.qValue counted i x loss ≠ c.least counted i) :
    c.limitTerm counted i = none := by
  unfold Capture.limitTerm
  rw [List.find?_eq_none]
  intro t ht
  obtain ⟨x, hx, loss, hloss, rfl⟩ := (c.mem_qTerms counted i).1 ht
  simpa [Capture.qTerm] using h x hx loss hloss

theorem Capture.source_of_term {t : QTerm} (h : c.limitTerm counted i = some t) : c.source counted i = .receptor t.receptor := by
  simp [Capture.source, h]

theorem Capture.source_of_no_term (h : c.limitTerm counted i = none) : c.source counted i =
    if (c.slots.get i).topCap.map (fun v => (v : Int)) = some (c.least counted i) then .cap else .maximum := by
  simp [Capture.source, h]

end

/-- Settles O26. -/
theorem ceilingIsTheLeastOfItsTerms : Obligations.CeilingIsTheLeastOfItsTerms := by
  intro c counted i
  obtain ⟨hmax, hcap, hterms⟩ := (c.le_least_iff counted i (c.least counted i)).1 le_rfl
  refine ⟨c.budget_eq, fun x loss => c.qValue_eq counted i x loss, Int.toNat_le.2 hmax, fun cap h => Int.toNat_le.2 (hcap cap h), fun x hx loss hloss => ?_, ?_, rfl,
    ⟨hmax, hcap, hterms⟩, fun hsorted x hx loss hloss hleast hlow => ?_, fun hnone => ?_⟩
  · have := hterms x hx loss hloss
    rw [Capture.ceiling_eq]
    omega
  · rw [Capture.ceiling_eq]
    rcases c.least_attained counted i with h | ⟨x, hx, loss, hloss, h⟩
    · rcases c.bound_eq i with hb | ⟨cap, hc, hb⟩
      · exact .inl (by rw [h, hb, Int.toNat_natCast])
      · exact .inr (.inl (by rw [hc, h, hb, Int.toNat_natCast]))
    · exact .inr (.inr ⟨x, hx, loss, hloss, by omega⟩)
  · have hq := le_antisymm ((c.le_least_iff counted i _).2 hleast) (hterms x hx loss hloss)
    have hterm := c.limitTerm_of_lowest counted i hsorted hx hloss hq fun y hy hlt l hl => hq ▸ hlow y hy hlt l hl
    exact ⟨c.source_of_term counted i hterm, hterm⟩
  · have hterm := c.limitTerm_eq_none counted i fun x hx loss hloss hq =>
      hnone x hx loss hloss ((c.le_least_iff counted i _).1 hq.le)
    have hbound : c.least counted i = c.bound i := (c.least_attained counted i).resolve_right fun ⟨x, hx, loss, hloss, h⟩ =>
      hnone x hx loss hloss ((c.le_least_iff counted i _).1 h.ge)
    refine ⟨hterm, fun cap hc hle => ?_, fun hc => ?_⟩
    · rw [c.source_of_no_term counted i hterm, if_pos]
      have hmin : c.least counted i = cap := by
        rw [hbound, Capture.bound, hc]
        exact min_eq_right (Int.ofNat_le.2 hle)
      simp [hc, hmin]
    · rw [c.source_of_no_term counted i hterm, if_neg]
      cases htop : (c.slots.get i).topCap with
      | none => simp
      | some cap =>
        have hlt : c.least counted i < cap := lt_of_le_of_lt hmax (Int.ofNat_lt.2 (hc cap htop))
        simpa using hlt.ne'

end Sys2Proof.Machine
end


section
/-! SUPPORT. Keys and finds, line events, and the notice and witness queues. -/

namespace Sys2Proof.Machine

/-! ### Keys (R160) -/

theorem keyFromOne_succ {n : Nat} (i : Fin n) : keyFromOne n (i.val + 1) = some i := keyFromOne_eq_some.2 rfl

theorem keyFromOne_eq_none {n v : Nat} (h : v = 0 ∨ n < v) : keyFromOne n v = none := by
  cases hk : keyFromOne n v with
  | none => rfl
  | some i =>
    have := keyFromOne_eq_some.1 hk
    omega

theorem keyFromZero_val {n : Nat} (i : Fin n) : keyFromZero n i.val = some i := dif_pos i.isLt

theorem keyFromZero_eq_none {n v : Nat} (h : n ≤ v) : keyFromZero n v = none := dif_neg (by omega)

/-! ### Searching a store for its only match -/

theorem find?_finRange_of_unique {n : Nat} {p : Fin n → Bool} {i : Fin n} (hi : p i = true) (h : ∀ j, p j = true → j = i) :
    (List.finRange n).find? p = some i := by
  cases hf : (List.finRange n).find? p with
  | none => exact absurd hi (List.find?_eq_none.1 hf i (List.mem_finRange i))
  | some j => rw [h j (List.find?_some hf)]

theorem findStage_of_unknown {s : State} {id : Identity} (h : ∀ i, (s.slot i).identity ≠ some id) : findStage id s = (s, .refused .noSuch) := by
  have hnone : (allSlots.find? fun i => (s.slot i).identity == some id) = none := by simpa using h
  simp [findStage, hnone, State.refuse]

theorem State.BindingsSound.identity_unique {s : State} (h : s.BindingsSound) {i j : SlotId} {id : Identity}
    (hi : (s.slot i).identity = some id) (hj : (s.slot j).identity = some id) : i = j := by
  by_contra hne
  exact absurd (((h.2 i j hne).1 (hi.trans hj.symm)).symm.trans hi) nofun

theorem State.BindingsSound.port_unique {s : State} (h : s.BindingsSound) {i j : SlotId} {p : Port}
    (hi : (s.slot i).port = some p) (hj : (s.slot j).port = some p) : i = j := by
  by_contra hne
  exact absurd (((h.2 i j hne).2 (hi.trans hj.symm)).symm.trans hi) nofun

theorem findStage_of_known {s : State} (h : s.BindingsSound) {i : SlotId} {id : Identity} (hi : (s.slot i).identity = some id) :
    findStage id s = (s, .done (.slotNumber i)) := by
  have hfind : (allSlots.find? fun i => (s.slot i).identity == some id) = some i :=
    find?_finRange_of_unique (by simpa using hi) fun j hj => h.identity_unique (by simpa using hj) hi
  simp [findStage, hfind]

/-- The entry at a position has a key. -/
def PathEntry.hasKey (e : PathEntry) (i : SlotId) (r : ReceptorId) : Prop := e.slot = i ∧ e.receptor = r

theorem State.pathPosition_eq_some {s : State} {i : SlotId} {r : ReceptorId} {p : PathPos} (h : s.pathPosition i r = some p) :
    ∃ e, s.path p = some e ∧ e.hasKey i r := by
  have hp := List.find?_some h
  split at hp
  next e he => exact ⟨e, he, by simpa [PathEntry.hasKey] using hp⟩
  next => cases hp

theorem State.pathPosition_eq_none {s : State} {i : SlotId} {r : ReceptorId} :
    s.pathPosition i r = none ↔ ∀ p e, s.path p = some e → ¬e.hasKey i r := by
  unfold State.pathPosition
  rw [List.find?_eq_none]
  constructor
  · intro h p e he hkey
    have := h p (List.mem_finRange p)
    simp [he, hkey.1, hkey.2] at this
  · intro h p _
    split
    next e he => simpa [PathEntry.hasKey] using h p e he
    next => simp

theorem State.pathPosition_of_entry {s : State} (h : s.PathsSound) {p : PathPos} {e : PathEntry} {i : SlotId} {r : ReceptorId}
    (he : s.path p = some e) (hkey : e.hasKey i r) : s.pathPosition i r = some p := by
  cases hp : s.pathPosition i r with
  | none => exact absurd hkey (State.pathPosition_eq_none.1 hp p e he)
  | some q =>
    obtain ⟨f, hf, hslot, hreceptor⟩ := State.pathPosition_eq_some hp
    rw [h.1 q p f hf e he ⟨hslot.trans hkey.1.symm, hreceptor.trans hkey.2.symm⟩]

theorem State.pathLoss_eq_some {s : State} {i : SlotId} {r : ReceptorId} {loss : Nat} (h : s.pathLoss i r = some loss) :
    ∃ p e, s.path p = some e ∧ e.hasKey i r ∧ e.loss = loss := by
  obtain ⟨p, -, hp⟩ := List.exists_of_findSome?_eq_some h
  obtain ⟨e, he, hif⟩ := Option.bind_eq_some_iff.1 hp
  split at hif
  next hkey => exact ⟨p, e, he, hkey, Option.some.inj hif⟩
  next => cases hif

theorem State.pathLoss_eq_none {s : State} {i : SlotId} {r : ReceptorId} :
    s.pathLoss i r = none ↔ ∀ p e, s.path p = some e → ¬e.hasKey i r := by
  unfold State.pathLoss
  rw [List.findSome?_eq_none_iff]
  constructor
  · intro h p e he hkey
    have := h p (List.mem_finRange p)
    simp [he, hkey.1, hkey.2] at this
  · intro h p _
    cases he : s.path p with
    | none => rfl
    | some e => exact if_neg (h p e he)

theorem State.pathLoss_of_entry {s : State} (h : s.PathsSound) {p : PathPos} {e : PathEntry} {i : SlotId} {r : ReceptorId}
    (he : s.path p = some e) (hkey : e.hasKey i r) : s.pathLoss i r = some e.loss := by
  cases hl : s.pathLoss i r with
  | none => exact absurd hkey (State.pathLoss_eq_none.1 hl p e he)
  | some loss =>
    obtain ⟨q, f, hf, hfkey, hloss⟩ := State.pathLoss_eq_some hl
    have hpos : q = p := h.1 q p f hf e he ⟨hfkey.1.trans hkey.1.symm, hfkey.2.trans hkey.2.symm⟩
    subst hpos
    rw [← hloss, Option.some.inj (hf.symm.trans he)]

theorem findPath_of_absent {s : State} {i : SlotId} {r : ReceptorId} (h : ∀ p e, s.path p = some e → ¬e.hasKey i r) :
    findPath i r s = (s, .refused .noSuch) := by
  simp [findPath, State.pathPosition_eq_none.2 h, State.refuse]

theorem findPath_of_present {s : State} (h : s.PathsSound) {p : PathPos} {e : PathEntry} {i : SlotId} {r : ReceptorId}
    (he : s.path p = some e) (hkey : e.hasKey i r) : findPath i r s = (s, .done (.pathFound p e.loss)) := by
  simp [findPath, State.pathPosition_of_entry h he hkey, State.pathLoss_of_entry h he hkey]

/-! ### Requests that name a receptor or a path -/

theorem forReceptor_of_none {s : State} {n : Nat} (h : n = 0 ∨ 16 < n ∨ ∃ r : ReceptorId, n = r.val + 1 ∧ s.receptor r = none)
    (owner : ReceptorId → Receptor → Handler) : forReceptor n owner s = (s, .refused .noSuch) := by
  unfold forReceptor receptorOf
  rcases h with h | h | ⟨r, rfl, hr⟩
  · rw [keyFromOne_eq_none (.inl h)]; rfl
  · rw [keyFromOne_eq_none (.inr h)]; rfl
  · rw [keyFromOne_succ]
    simp [hr, State.refuse]

theorem forReceptor_of_some {s : State} {r : ReceptorId} {x : Receptor} (h : s.receptor r = some x)
    (owner : ReceptorId → Receptor → Handler) : forReceptor (r.val + 1) owner s = owner r x s := by
  simp [forReceptor, receptorOf, keyFromOne_succ, h]

theorem forPathKey_of_out_of_range {n m : Nat} (h : n = 0 ∨ 8 < n ∨ m = 0 ∨ 16 < m) (owner : SlotId → ReceptorId → Handler) (s : State) :
    forPathKey n m owner s = (s, .refused .noSuch) := by
  unfold forPathKey
  split
  next i r hi hr =>
    have := keyFromOne_eq_some.1 hi
    have := keyFromOne_eq_some.1 hr
    omega
  next => rfl

theorem forPathKey_of_keys (i : SlotId) (r : ReceptorId) (owner : SlotId → ReceptorId → Handler) (s : State) :
    forPathKey (i.val + 1) (r.val + 1) owner s = owner i r s := by
  simp [forPathKey, slotOf, receptorOf, keyFromOne_succ]

theorem readRing_of_no_part {s : State} {r : ReceptorId} {x : Receptor} (h : s.receptor r = some x) {part : Nat} (hpart : part = 0 ∨ 2 < part) :
    readRing { receptor := r.val + 1, part := part } s = (s, .refused .noSuch) := by
  unfold readRing
  rw [forReceptor_of_some h]
  dsimp only
  split
  case h_1 => omega
  case h_2 => omega
  case h_3 => rfl

/-- Settles O58. -/
theorem findsAndReadsChangeNothing : Obligations.FindsAndReadsChangeNothing := by
  refine ⟨fun s tag n h => ⟨answered_of_tableReady h rfl rfl, answered_of_tableReady h rfl rfl, answered_of_tableReady h rfl rfl,
    answered_of_tableReady h rfl rfl⟩, fun s tag n m h => ?_⟩
  refine ⟨⟨answered_of_tableReady h rfl rfl, answered_of_tableReady h rfl rfl, answered_of_tableReady h rfl rfl,
      answered_of_tableReady h rfl rfl⟩, fun hn => ⟨answered_of_tableReady h rfl ?_, answered_of_tableReady h rfl ?_⟩,
    fun z hn => ⟨answered_of_tableReady h rfl ?_, answered_of_tableReady h rfl ?_⟩,
    fun hn => ⟨answered_of_tableReady h rfl (forReceptor_of_none hn _), answered_of_tableReady h rfl (forReceptor_of_none hn _),
      answered_of_tableReady h rfl (forReceptor_of_none hn _), answered_of_tableReady h rfl (forReceptor_of_none hn _),
      answered_of_tableReady h rfl (forReceptor_of_none hn _)⟩, ?_, fun hn => answered_of_tableReady h rfl ?_,
    fun i hn => answered_of_tableReady h rfl ?_,
    fun id => ⟨fun hid => answered_of_tableReady h rfl (findStage_of_unknown hid),
      fun hbind i hi => answered_of_tableReady h rfl (findStage_of_known hbind hi)⟩,
    fun hkey => answered_of_tableReady h rfl (forPathKey_of_out_of_range hkey _ s), ?_, fun hn => answered_of_tableReady h rfl ?_,
    fun p e hn he => answered_of_tableReady h rfl ?_, fun hn => answered_of_tableReady h rfl ?_,
    fun p x older newer hn hx hcreated hnot => answered_of_tableReady h rfl ?_⟩
  · simp [readZone, zoneOf, keyFromOne_eq_none hn, State.refuse]
  · simp [readZone, zoneOf, keyFromOne_eq_none hn, State.refuse]
  · simp [hn, readZone, zoneOf, keyFromOne_succ]
  · simp [hn, readZone, zoneOf, keyFromOne_succ]
  · rintro r x rfl hx
    refine ⟨answered_of_tableReady h rfl (forReceptor_of_some hx _), answered_of_tableReady h rfl (forReceptor_of_some hx _),
      answered_of_tableReady h rfl (forReceptor_of_some hx _), answered_of_tableReady h rfl (forReceptor_of_some hx _),
      answered_of_tableReady h rfl (forReceptor_of_some hx _), fun hm => answered_of_tableReady h rfl (readRing_of_no_part hx hm),
      fun p hp => answered_of_tableReady h rfl ?_, fun hp => answered_of_tableReady h rfl ?_⟩
    · rw [findExceedance, forReceptor_of_some hx, hp]
    · rw [findExceedance, forReceptor_of_some hx, hp]
      rfl
  · simp [readStage, slotOf, keyFromOne_eq_none hn, State.refuse]
  · simp [hn, readStage, slotOf, keyFromOne_succ]
  · rintro i r rfl rfl
    exact ⟨fun habsent => answered_of_tableReady h rfl ((forPathKey_of_keys i r _ s).trans (findPath_of_absent habsent)),
      fun hpaths p e he hi hr => answered_of_tableReady h rfl ((forPathKey_of_keys i r _ s).trans (findPath_of_present hpaths he ⟨hi, hr⟩))⟩
  · rcases hn with hn | ⟨p, rfl, hp⟩
    · simp [readPath, pathPosOf, keyFromZero_eq_none (Nat.succ_le_of_lt hn), State.refuse]
    · simp [readPath, pathPosOf, keyFromZero_val, hp, State.refuse]
  · simp [hn, readPath, pathPosOf, keyFromZero_val, he]
  · rcases hn with hn | ⟨p, rfl, hp⟩
    · simp [readExceedance, excPosOf, keyFromZero_eq_none (Nat.succ_le_of_lt hn), State.refuse]
    · simp [readExceedance, excPosOf, keyFromZero_val, hp, State.refuse]
  · simp [hn, readExceedance, excPosOf, keyFromZero_val, hx, hcreated, List.idxOf_append_of_notMem hnot]

/-! ### Line events (R155, R156) -/

theorem State.restartOrdered_eq_false {s : State} (h : ∀ r, (s.link 0).buffer = some r → ¬(r.kind = 0x95 ∧ r.answer.status = .done)) :
    s.restartOrdered = false := by
  unfold State.restartOrdered
  cases hb : (s.link 0).buffer with
  | none => rfl
  | some r => simpa [Reply.ordersRestart] using h r hb

theorem State.awaiting_eq_some {s : State} {q : Poll} {w : Nat} (h : s.poller.poll = some q) (hw : q.wait = some w) : s.awaiting = some q := by
  simp [State.awaiting, h, hw]

theorem State.awaiting_eq_none {s : State} (h : ∀ q, s.poller.poll = some q → q.wait = none) : s.awaiting = none := by
  unfold State.awaiting
  split
  next q hq => simp [h q hq]
  next => rfl

/-- Settles O33. -/
theorem receiversAndBuffersFollowTheLine : Obligations.ReceiversAndBuffersFollowTheLine := by
  intro s p cause
  refine ⟨fun h => congrArg Host.Outcome.next (if_pos h), fun h => congrArg Host.Outcome.next (if_neg h), rfl, rfl,
    fun h => congrArg Host.Outcome.next (if_pos (Option.isSome_iff_ne_none.2 h)),
    fun h => congrArg Host.Outcome.next (if_neg (by simp [h])), fun h => congrArg Host.Outcome.next (if_neg ?_),
    fun q w hq hw => congrArg Host.Outcome.next (if_pos ?_), fun h => congrArg Host.Outcome.next (if_neg ?_)⟩
  · rintro ⟨rfl, hordered⟩
    rw [State.restartOrdered_eq_false fun r hr => h r hr rfl] at hordered
    cases hordered
  · rw [State.awaiting_eq_some hq hw]
    rfl
  · rw [State.awaiting_eq_none h]
    exact nofun

/-! ### The witness FIFO and the notice queue (R169, R172) -/

theorem Notice.sameSubject_eq_true_iff (a b : Notice) : a.sameSubject b = true ↔ a.kindIndex = b.kindIndex ∧ a.subject = b.subject := by
  simp [Notice.sameSubject]

theorem Notice.sameSubject_congr {m n : Notice} (h : m.sameSubject n = true) (x : Notice) : x.sameSubject n = x.sameSubject m := by
  obtain ⟨hkind, hsubject⟩ := (Notice.sameSubject_eq_true_iff m n).1 h
  simp [Notice.sameSubject, hkind, hsubject]

theorem map_replace_eq_self {n m : Notice} {l : List Notice} (h : m.sameSubject n = true) (hl : ∀ x ∈ l, x.sameSubject m = false) :
    l.map (fun x => if x.sameSubject n then n else x) = l := by
  conv_rhs => rw [← List.map_id l]
  refine List.map_congr_left fun x hx => if_neg ?_
  rw [Notice.sameSubject_congr h, hl x hx]
  exact nofun

/-- A notice takes the place of the one of its kind and subject that waits. -/
theorem NoticeQueue.post_of_waiting {q : NoticeQueue} {n m : Notice} {older newer : List Notice} (h : q.Sound)
    (hq : q.notices = older ++ m :: newer) (hsame : m.sameSubject n = true) : q.post n = { q with notices := older ++ n :: newer } := by
  have hany : q.notices.any (·.sameSubject n) = true := by
    rw [List.any_eq_true]
    exact ⟨m, by simp [hq], hsame⟩
  obtain ⟨-, hpair⟩ := h
  rw [hq, List.pairwise_append] at hpair
  obtain ⟨-, hnewer, hcross⟩ := hpair
  unfold NoticeQueue.post
  rw [if_pos hany, hq, List.map_append, List.map_cons, if_pos hsame,
    map_replace_eq_self hsame fun x hx => hcross x hx m List.mem_cons_self,
    map_replace_eq_self hsame fun x hx => (Notice.sameSubject_comm x m).trans ((List.pairwise_cons.1 hnewer).1 x hx)]

theorem NoticeQueue.post_of_new {q : NoticeQueue} {n : Notice} (h : ∀ m ∈ q.notices, m.sameSubject n = false) :
    q.post n = if q.notices.length < 32 then { q with notices := q.notices ++ [n] } else { q with lost := true } := by
  unfold NoticeQueue.post
  rw [if_neg]
  rw [List.any_eq_true]
  exact fun ⟨m, hm, hsame⟩ => absurd hsame (by simp [h m hm])

/-- Settles O34. -/
theorem noticesAndWitnessQueues : Obligations.NoticesAndWitnessQueues := by
  refine ⟨⟨fun s c => ⟨fun h => ?_, fun h hroom => ?_, fun h hfull => ?_⟩, fun s => ⟨fun h => ?_, fun e rest h => ⟨fun hgap => ?_, ?_⟩⟩⟩,
    fun q n hsound => ⟨fun older newer m hq hkind hsubject => ?_, fun hnew => ?_⟩⟩
  · simp [State.send, h]
  · simp [State.send, h, WitnessTx.take, hroom]
  · simp [State.send, h, WitnessTx.take, Nat.not_lt.2 hfull]
  · show Host.Outcome.next ({ s with witness := s.witness.entrySent } : State) = .next s
    rw [show s.witness.entrySent = s.witness by simp [WitnessTx.entrySent, h]]
  · show Host.Outcome.next ({ s with witness := s.witness.entrySent } : State) = _
    rw [show s.witness.entrySent = { s.witness with fifo := rest } by simp [WitnessTx.entrySent, h, hgap]]
  · intro m sec hgap hfirst
    show Host.Outcome.next ({ s with witness := s.witness.entrySent } : State) = _
    simp [WitnessTx.entrySent, h, hgap, hfirst]
  · exact NoticeQueue.post_of_waiting hsound hq ((Notice.sameSubject_eq_true_iff m n).2 ⟨hkind, hsubject⟩)
  · have hpost := NoticeQueue.post_of_new (q := q) (n := n) fun m hm =>
      Bool.eq_false_iff.2 fun hsame => (hnew m hm).elim (· ((Notice.sameSubject_eq_true_iff m n).1 hsame).1)
        (· ((Notice.sameSubject_eq_true_iff m n).1 hsame).2)
    exact ⟨fun hroom => hpost.trans (if_pos hroom), fun hfull => hpost.trans (if_neg (by omega))⟩

end Sys2Proof.Machine
end


section
/-! SUPPORT. The checks of the link interface, the checks of ENROL, and a start without settings. -/

namespace Sys2Proof.Machine

/-! ### Taking a request (R156, R158) -/

theorem State.serve_of_held {s : State} (h : s.loader = .held) (p : Port) (kind tag : Nat) (links : Served) (body : Option Handler) :
    s.serve p kind tag links body = s := if_pos h

theorem State.accept_of_full {s : State} {p : Port} (h : s.loader ≠ .held) (hbuffer : (s.link p).buffer ≠ none) (take : State → State × Reply) :
    s.accept p take = { s with links := s.links.set p.val { s.link p with receiver := .hunting } p.isLt } := by
  unfold State.accept
  rw [if_neg h, if_pos (Option.isSome_iff_ne_none.2 hbuffer)]
  rfl

theorem State.accept_of_free {s : State} {p : Port} (h : s.loader ≠ .held) (hbuffer : (s.link p).buffer = none) (take : State → State × Reply) :
    s.accept p take = (take s).1.hold p (take s).2 := by
  unfold State.accept
  rw [if_neg h, if_neg (by simp [hbuffer])]

theorem State.serve_of_boot {s : State} {p : Port} (h : s.loader ≠ .held) (hbuffer : (s.link p).buffer = none) (hboot : s.mode = .boot)
    (kind tag : Nat) (links : Served) (body : Option Handler) :
    s.serve p kind tag links body = s.hold p { kind := kind + 128, tag := tag, answer := .notReady } := by
  unfold State.serve
  rw [State.accept_of_free h hbuffer, if_pos hboot]
  rfl

theorem State.serve_of_ready_port {s : State} {p : Port} (h : s.Ready p) (kind tag : Nat) (links : Served) (body : Option Handler) :
    s.serve p kind tag links body =
      (s.checked p links body).1.hold p { kind := kind + 128, tag := tag, answer := (s.checked p links body).2 } := by
  obtain ⟨hheld, hboot, hbuffer⟩ := h
  unfold State.serve
  rw [State.accept_of_free hheld hbuffer, if_neg hboot]
  rfl

/-- A stage link that is ready hands a request of its own to the owner. -/
theorem answered_of_stage {c : Instr} {s t : State} {p : Port} {kind tag : Nat} {owner : Handler} {a : Answer} (h : s.Ready p) (hp : p ≠ 0)
    (hexec : exec c s = .next (s.serve p kind tag .stages (some owner))) (howner : owner s = (t, a)) : Answered c s t p kind tag a := by
  have hon : Served.stages.on p = true := by simpa [Served.on] using hp
  rw [Answered, hexec, State.serve_of_ready_port h, State.checked, if_pos hon]
  simp only [howner]

theorem State.checked_refused {s : State} {p : Port} {links : Served} {body : Option Handler} (h : links.on p = false ∨ body = none) :
    s.checked p links body = (s, .refused .noSuch) := by
  unfold State.checked
  rcases h with h | rfl
  · rw [if_neg (by simp [h])]
    rfl
  · split <;> rfl

theorem handled_of_short {α : Type} {params : Params α} (h : isShort params = true) (owner : α → Handler) : handled params owner = none := by
  cases params <;> first | rfl | cases h

theorem handled_of_not_short {α : Type} {params : Params α} (h : isShort params = false) (owner : α → Handler) :
    ∃ handler, handled params owner = some handler := by
  cases params with
  | whole a => exact ⟨_, rfl⟩
  | short => cases h
  | noTable => exact ⟨_, rfl⟩

theorem ownerOf_of_short {c : Instr} {h : RequestHead} (hc : requestHead c = some h) (hshort : h.isShort = true) : ownerOf c = none := by
  cases c <;> cases hc <;> simp_all [ownerOf, handled_of_short]

theorem ownerOf_of_table {c : Instr} {h : RequestHead} (hc : requestHead c = some h) (htable : h.isTable = true) (hshort : h.isShort = false) :
    h.served = .console ∧ ∃ owner, ownerOf c = some (whenIdle owner) := by
  have behind {α : Type} {params : Params α} (h : isShort params = false) (owner : α → Handler) :
      ∃ o, (handled params owner).map whenIdle = some (whenIdle o) := by
    obtain ⟨o, ho⟩ := handled_of_not_short h owner
    exact ⟨o, by rw [ho]; rfl⟩
  cases c <;> cases hc <;> first | exact ⟨rfl, behind hshort _⟩ | exact nomatch htable

theorem answered_of_owner {c : Instr} {h : RequestHead} {s : State} (hc : requestHead c = some h) (hready : s.Ready h.port) {t : State} {a : Answer}
    (hchecked : s.checked h.port h.served (ownerOf c) = (t, a)) : Answered c s t h.port h.kind h.tag a := by
  rw [Answered, exec_request hc, State.serve_of_ready_port hready, hchecked]

/-- Every request row meets the link interface's own checks first, and a table request then the table engine's. -/
theorem request_checks {s : State} {c : Instr} {h : RequestHead} (hc : requestHead c = some h) :
    (s.loader = .held → exec c s = .next s) ∧
    (s.loader ≠ .held → (s.link h.port).buffer ≠ none →
      exec c s = .next { s with links := s.links.set h.port.val { s.link h.port with receiver := .hunting } h.port.isLt }) ∧
    (s.loader ≠ .held → (s.link h.port).buffer = none → s.mode = .boot → Answered c s s h.port h.kind h.tag .notReady) ∧
    (s.Ready h.port →
      ((h.served = .console ∧ h.port ≠ 0) ∨ (h.served = .stages ∧ h.port = 0) ∨ h.isShort = true →
        Answered c s s h.port h.kind h.tag (.refused .noSuch)) ∧
      (h.isTable = true → h.port = 0 → h.isShort = false → s.table ≠ .idle → Answered c s s h.port h.kind h.tag .busy)) := by
  refine ⟨fun hheld => ?_, fun hheld hbuffer => ?_, fun hheld hbuffer hboot => ?_, fun hready => ⟨fun hno => ?_, fun htable hport hshort hbusy => ?_⟩⟩
  · rw [exec_request hc, State.serve_of_held hheld]
  · rw [exec_request hc, State.serve, State.accept_of_full hheld hbuffer]
  · rw [Answered, exec_request hc, State.serve_of_boot hheld hbuffer hboot]
  · refine answered_of_owner hc hready (State.checked_refused ?_)
    rcases hno with ⟨hserved, hport⟩ | ⟨hserved, hport⟩ | hshort
    · exact .inl (by simpa [hserved, Served.on] using hport)
    · exact .inl (by simp [hserved, hport, Served.on])
    · exact .inr (ownerOf_of_short hc hshort)
  · obtain ⟨hserved, owner, howner⟩ := ownerOf_of_table hc htable hshort
    refine answered_of_owner hc hready ?_
    simp [State.checked, hserved, hport, howner, Served.on, whenIdle_of_busy hbusy]

theorem exec_unknownKind_of_listed {kind : Nat} (h : kind ∈ requestKinds) (s : State) (p : Port) (tag : Nat) :
    exec (.unknownKind p tag kind) s = .next s := congrArg Host.Outcome.next (if_pos (by simpa using h))

theorem exec_unknownKind_of_unlisted {kind : Nat} (h : kind ∉ requestKinds) (s : State) (p : Port) (tag : Nat) :
    exec (.unknownKind p tag kind) s = .next (s.accept p fun s => (s, s.unknownKindReply tag kind)) :=
  congrArg Host.Outcome.next (if_neg (by simpa using h))

theorem unknownKind_checks {s : State} {p : Port} {tag kind : Nat} (h : kind ∉ requestKinds) :
    (s.loader = .held → exec (.unknownKind p tag kind) s = .next s) ∧
    (s.loader ≠ .held → (s.link p).buffer ≠ none →
      exec (.unknownKind p tag kind) s = .next { s with links := s.links.set p.val { s.link p with receiver := .hunting } p.isLt }) ∧
    (s.Ready p → exec (.unknownKind p tag kind) s = .next (s.hold p
      { kind := 0xFF, tag := tag, answer := { status := .unknownKind, reason := none, adjusted := false, items := .kindReceived kind } })) ∧
    (s.loader ≠ .held → (s.link p).buffer = none → s.mode = .boot → kind < 128 →
      exec (.unknownKind p tag kind) s = .next (s.hold p { kind := kind + 128, tag := tag, answer := .notReady })) := by
  rw [exec_unknownKind_of_unlisted h]
  refine ⟨fun hheld => congrArg Host.Outcome.next (if_pos hheld), fun hheld hbuffer => ?_, fun ⟨hheld, hboot, hbuffer⟩ => ?_,
    fun hheld hbuffer hboot hkind => ?_⟩
  · rw [State.accept_of_full hheld hbuffer]
  · rw [State.accept_of_free hheld hbuffer, State.unknownKindReply, if_neg hboot]
    rfl
  · rw [State.accept_of_free hheld hbuffer, State.unknownKindReply, if_pos hboot, unlistedReplyKind, if_pos hkind]
    rfl

/-! ### The bound slot of a port (R73) -/

theorem State.boundSlot_of_none {s : State} {p : Port} (h : ∀ i, (s.slot i).port ≠ some p) : s.boundSlot p = none := by
  unfold State.boundSlot
  split
  · rfl
  · simpa using h

theorem State.boundSlot_of_bound {s : State} {p : Port} {i : SlotId} (h : s.BindingsSound) (hp : p ≠ 0) (hi : (s.slot i).port = some p) :
    s.boundSlot p = some i := by
  unfold State.boundSlot
  rw [if_neg hp]
  exact find?_finRange_of_unique (by simpa using hi) fun j hj => h.port_unique (by simpa using hj) hi

theorem forBoundSlot_of_none {s : State} {p : Port} (h : ∀ i, (s.slot i).port ≠ some p) (owner : SlotId → Handler) :
    forBoundSlot p owner s = (s, .refused .notEnrolled) := by
  simp [forBoundSlot, State.boundSlot_of_none h, State.refuse]

theorem forBoundSlot_of_bound {s : State} {p : Port} {i : SlotId} (h : s.BindingsSound) (hp : p ≠ 0) (hi : (s.slot i).port = some p)
    (owner : SlotId → Handler) : forBoundSlot p owner s = owner i s := by
  simp [forBoundSlot, State.boundSlot_of_bound h hp hi]

/-- Settles O35. -/
theorem requestsMeetTheirChecksInOrder : Obligations.RequestsMeetTheirChecksInOrder := by
  refine ⟨fun s c h hc => request_checks hc, fun s p tag kind => ⟨fun h => exec_unknownKind_of_listed h s p tag, unknownKind_checks⟩,
    fun s p tag hready hp hnone => answered_of_stage hready hp rfl (forBoundSlot_of_none hnone _), fun s tag n cap hready hn => ?_⟩
  have refused {c : Instr} {kind : Nat} {owner : SlotId → Handler}
      (hexec : exec c s = .next (s.serve 0 kind tag .console (some (forOccupied n owner)))) :
      Answered c s s 0 kind tag (.refused .noSuch) := answered_of_ready hready hexec (forOccupied_refused hn owner)
  exact ⟨refused rfl, refused rfl, refused rfl, refused rfl, refused rfl⟩

/-! ### The checks of ENROL (R79, R80) -/

theorem State.boundElsewhere_eq_true_iff (s : State) (p : Port) (id : Identity) :
    s.boundElsewhere p id = true ↔ ∃ i q, (s.slot i).identity = some id ∧ (s.slot i).port = some q ∧ q ≠ p := by
  unfold State.boundElsewhere
  rw [List.any_eq_true]
  constructor
  · rintro ⟨i, -, hi⟩
    simp only [Bool.and_eq_true, beq_iff_eq, Option.isSome_iff_exists, bne_iff_ne] at hi
    obtain ⟨⟨hid, q, hq⟩, hne⟩ := hi
    exact ⟨i, q, hid, hq, fun h => hne (by rw [hq, h])⟩
  · rintro ⟨i, q, hid, hq, hne⟩
    exact ⟨i, List.mem_finRange i, by simp [hid, hq, hne]⟩

theorem Slot.settledQuiet_eq_true_iff (x : Slot) : x.settledQuiet = true ↔ x.state = .quiet ∧ x.published = 0 := by
  simp [Slot.settledQuiet]

/-- The same stage on its port is answered unchanged. -/
theorem takeEnrol_of_same {s : State} {p : Port} {a : EnrolArgs} {i : SlotId} (hbind : s.BindingsSound) (hp : p ≠ 0)
    (hport : (s.slot i).port = some p) (hid : (s.slot i).identity = some a.identity) :
    s.takeEnrol p a = (s, s.enrolled i a.check) := by
  unfold State.takeEnrol
  rw [State.boundSlot_of_bound hbind hp hport]
  exact if_pos hid

theorem takeEnrol_of_elsewhere {s : State} {p : Port} {a : EnrolArgs} (hbind : s.BindingsSound)
    (h : ∃ i q, (s.slot i).identity = some a.identity ∧ (s.slot i).port = some q ∧ q ≠ p) :
    s.takeEnrol p a = (s, .refusedWith .duplicate (.enrolCheck a.check)) := by
  have helse := (State.boundElsewhere_eq_true_iff s p a.identity).2 h
  obtain ⟨j, q, hid, hq, hne⟩ := h
  unfold State.takeEnrol
  split
  next i hi =>
    obtain ⟨-, hport⟩ := boundSlot_eq_some hi
    rw [if_neg, if_pos helse]
    intro hsame
    rw [hbind.identity_unique hsame hid, hq] at hport
    exact hne (Option.some.inj hport)
  next => rw [if_pos helse]

/-- With the stage bound nowhere else, ENROL goes on to the port's slot. -/
theorem takeEnrol_of_not_elsewhere {s : State} {p : Port} {a : EnrolArgs}
    (h : ¬∃ i q, (s.slot i).identity = some a.identity ∧ (s.slot i).port = some q ∧ q ≠ p)
    (hother : ∀ i, (s.slot i).port = some p → (s.slot i).identity ≠ some a.identity) : s.takeEnrol p a = s.enrolSlot p (s.boundSlot p) a := by
  have helse : ¬s.boundElsewhere p a.identity = true := fun he => h ((State.boundElsewhere_eq_true_iff s p a.identity).1 he)
  unfold State.takeEnrol
  split
  next i hi => rw [if_neg (hother i (boundSlot_eq_some hi).2), if_neg helse, hi]
  next hi => rw [if_neg helse, hi]

theorem enrolSlot_of_busy {s : State} {p : Port} {i : SlotId} (h : ¬((s.slot i).state = .quiet ∧ (s.slot i).published = 0)) (a : EnrolArgs) :
    s.enrolSlot p (some i) a = (s, .refusedWith .portBusy (.enrolCheck a.check)) := by
  unfold State.enrolSlot
  rw [if_pos]
  rw [← Slot.settledQuiet_eq_true_iff] at h
  simpa using h

theorem enrolSlot_of_full {s : State} {p : Port} {bound : Option SlotId} {a : EnrolArgs}
    (hsettled : ∀ i ∈ bound, (s.slot i).settledQuiet = true) (h : s.chosenSlot bound a.identity = none) :
    s.enrolSlot p bound a = (s, .refusedWith .full (.enrolCheck a.check)) := by
  have hno : ¬(bound.any fun i => !(s.slot i).settledQuiet) = true := by
    rw [Option.any_eq_true]
    exact fun ⟨i, hi, hnot⟩ => by simp [hsettled i hi] at hnot
  simp [State.enrolSlot, hno, h]

theorem State.chosenSlot_of_none {s : State} {bound : Option SlotId} {id : Identity} (hid : ∀ i, (s.slot i).identity ≠ some id)
    (hopen : ∀ i, (s.slot i).kind = .openKind → (s.slot i).state ≠ .empty ∧ bound ≠ some i) : s.chosenSlot bound id = none := by
  unfold State.chosenSlot
  have hfixed : (allSlots.find? fun i => (s.slot i).kind == .fixed && (s.slot i).identity == some id && (s.slot i).port.isNone) = none := by
    simp [hid]
  rw [hfixed]
  simpa using hopen

/-- Settles O36. -/
theorem enrolChecksInOrder : Obligations.EnrolChecksInOrder := by
  intro s p tag a hready hp hbind
  refine ⟨fun i hport hid => answered_of_stage hready hp rfl (takeEnrol_of_same hbind hp hport hid),
    fun h => answered_of_stage hready hp rfl (takeEnrol_of_elsewhere hbind h), fun h i hport hid hbusy => answered_of_stage hready hp rfl ?_,
    fun hsettled hopen hid => answered_of_stage hready hp rfl ?_⟩
  · rw [takeEnrol_of_not_elsewhere h fun j hj => hbind.port_unique hport hj ▸ hid, State.boundSlot_of_bound hbind hp hport]
    exact enrolSlot_of_busy hbusy a
  · rw [takeEnrol_of_not_elsewhere (fun ⟨i, _, hi, _⟩ => hid i hi) fun i _ => hid i]
    refine enrolSlot_of_full (fun i hi => ?_) (State.chosenSlot_of_none hid fun i hkind => ⟨hopen i hkind, fun hi => ?_⟩)
    · exact (Slot.settledQuiet_eq_true_iff _).2 (hsettled i (boundSlot_eq_some hi).2).2
    · exact absurd ((hsettled i (boundSlot_eq_some hi).2).1.symm.trans hkind) nofun

end Sys2Proof.Machine
end


section
/-! SUPPORT. A start without settings, the end of a save, and the warm restart. -/

namespace Sys2Proof.Machine

/-! ### The evaluation of an unloaded zone changes nothing -/

theorem State.updZone_of_eq {s : State} {z : ZoneId} {f : Zone → Zone} (h : f (s.zone z) = s.zone z) : s.updZone z f = s := by
  rw [State.updZone, h, State.setZone_zone]

theorem State.setEffective_of_eq {s : State} {z : ZoneId} {v : Level} (h : (s.zone z).effective = v) : s.setEffective z v = s := if_pos h

theorem State.setCurfew_of_eq {s : State} {z : ZoneId} {st : ZoneState} {fade : Nat} (hst : (s.zone z).state = st) (hfade : (s.zone z).fade = fade) :
    s.setCurfew z st fade = s := by
  subst hst hfade
  simp [State.setCurfew, State.updZone_of_eq, State.triggerIf]

theorem State.evaluateZone_of_default {s : State} {z : ZoneId} (h : s.zone z = zoneDefault) : s.evaluateZone z = s := by
  have hforce : inForceAt (s.zone z).breakpoints s.clock.minute = none := by rw [h]; rfl
  have hnone : s.noBreakpoint z = s := by
    have hupd : s.updZone z (fun x => { x with inForce := none, licence := 0 }) = s := State.updZone_of_eq (by rw [h]; rfl)
    rw [State.noBreakpoint, hupd, State.setEffective_of_eq (by rw [h]; rfl), State.setCurfew_of_eq (by rw [h]; rfl) (by rw [h]; rfl)]
  unfold State.evaluateZone
  simp only [hforce, hnone]
  exact State.postZoneIfChanged_of_not_reported (Zone.not_reportedFrom_self _)

theorem State.evaluateZones_of_default {s : State} (h : ∀ z, s.zone z = zoneDefault) : s.evaluateZones = s := by
  unfold State.evaluateZones
  generalize allZones = zones
  induction zones with
  | nil => rfl
  | cons z zones ih => rw [List.foldl_cons, State.evaluateZone_of_default (h z), ih]

/-! ### A load with no good section (R175) -/

theorem State.endLoad_of_default {s : State} (h : ∀ z, s.zone z = zoneDefault) : s.endLoad = { s with mode := .setup, loader := .ended } :=
  State.evaluateZones_of_default h

theorem State.load_of_none_loaded {s : State} (h : ∀ sec, (readSection s.settings sec).1 ≠ .loaded) :
    s.load = { state := s, clamped := 0, skipped := 0 } := by
  unfold State.load
  generalize allSections = sections
  induction sections with
  | nil => rfl
  | cons sec sections ih => rw [List.foldl_cons, loadSection, if_neg (h sec), ih]

theorem readSection_of_unmarked {m : Memory} {sec : Section} (h : m.read (sectionOffset sec) ≠ 0x5A#8) : readSection m sec = (.skipped, []) :=
  if_pos h

/-- A marked section is BAD where a count is above its maximum or its CRC does not match. -/
theorem readSection_of_bad {m : Memory} {sec : Section} (hmark : m.read (sectionOffset sec) = 0x5A#8)
    (hcrc : ∀ n, sectionLength m sec = some n →
      m.bytes (sectionOffset sec + 1 + n) 2 ≠ crcBytes (m.bytes (sectionOffset sec + 1) n)) : readSection m sec = (.bad, []) := by
  unfold readSection
  rw [if_neg (by simp [hmark])]
  cases hn : sectionLength m sec with
  | none => rfl
  | some n => exact if_neg (hcrc n hn)

theorem NoticeQueue.post_atReset (n : Notice) : noticesAtReset.post n = { noticesAtReset with notices := [n] } := rfl

/-- A load whose sections are unmarked or bad leaves every default; its notice is due where one is bad. -/
theorem State.completeLoad_of_none_loaded {s : State} (hzones : ∀ z, s.zone z = zoneDefault) (hnotices : s.notices = noticesAtReset)
    (h : ∀ sec, (readSection s.settings sec).1 ≠ .loaded) :
    s.completeLoad = { s with
      mode := .setup, loader := .ended
      notices := if s.sectionOutcomes.contains .bad then { s.notices with notices := [.site (.load false s.sectionOutcomes 0 0)] } else s.notices } := by
  have hdue : s.loadNewsDue = s.sectionOutcomes.contains .bad := by simp [State.loadNewsDue, State.load_of_none_loaded h]
  unfold State.completeLoad
  simp only [hdue, State.load_of_none_loaded h]
  split
  · rw [State.endLoad_of_default (s := State.post s _) hzones, State.post_eq, hnotices, NoticeQueue.post_atReset]
    rfl
  · rw [State.endLoad_of_default hzones]

theorem State.sectionOutcomes_of {s : State} {outcome : Section → SectionOutcome} (h : ∀ sec, (readSection s.settings sec).1 = outcome sec) :
    s.sectionOutcomes = allSections.map outcome := List.map_congr_left fun sec _ => h sec

/-- Settles O15. -/
theorem startWithoutSettingsEndsInSetup : Obligations.StartWithoutSettingsEndsInSetup := by
  refine ⟨fun s => ⟨?_, fun h => ⟨congrArg Host.Outcome.next (if_neg h), congrArg Host.Outcome.next (if_neg h)⟩,
    fun hload hboot => ⟨?_, fun hnone => ?_⟩⟩, fun s bad hload hboot hmark hothers hcrc => ?_⟩
  · show Host.Outcome.next (if s.loader = .held then { s with loader := .loading } else s) = _
    by_cases h : s.loader = .held
    · rw [if_pos h, if_pos h]
    · rw [if_neg h, if_neg h]
  · obtain ⟨-, hzones, -, -, -, -, -, -, -, -, hnotices, -⟩ := hboot.2 (hboot.1.2 (by simp [hload]))
    show Host.Outcome.next (if s.loader = .loading then (s.post (.site .memoryAbsent)).endLoad else s) = _
    rw [if_pos hload, State.endLoad_of_default (s := State.post s _) hzones, State.post_eq, hnotices, NoticeQueue.post_atReset]
  · obtain ⟨-, hzones, -, -, -, -, -, -, -, -, hnotices, -⟩ := hboot.2 (hboot.1.2 (by simp [hload]))
    have hskip (sec : Section) : (readSection s.settings sec).1 = .skipped := by rw [readSection_of_unmarked (hnone sec)]
    show Host.Outcome.next (if s.loader = .loading then s.completeLoad else s) = _
    rw [if_pos hload, State.completeLoad_of_none_loaded hzones hnotices fun sec => by simp [hskip sec], State.sectionOutcomes_of hskip]
    rfl
  · obtain ⟨-, hzones, -, -, -, -, -, -, -, -, hnotices, -⟩ := hboot.2 (hboot.1.2 (by simp [hload]))
    have hread (sec : Section) : (readSection s.settings sec).1 = if sec = bad then .bad else .skipped := by
      by_cases h : sec = bad
      · rw [if_pos h, h, readSection_of_bad hmark hcrc]
      · rw [if_neg h, readSection_of_unmarked (hothers sec h)]
    have hbad : (allSections.map fun sec => if sec = bad then SectionOutcome.bad else .skipped).contains .bad = true := by
      cases bad <;> rfl
    show Host.Outcome.next (if s.loader = .loading then s.completeLoad else s) = _
    rw [if_pos hload, State.completeLoad_of_none_loaded hzones hnotices fun sec => by rw [hread sec]; split <;> exact nofun,
      State.sectionOutcomes_of hread, if_pos hbad]

/-! ### The end of a save (R177) -/

/-- After a run of writes each address reads as the byte written to it last, and every other address as before. -/
theorem Memory.read_writeAll {m : Memory} (hw : m.wf = true) (ws : List Host.Cell) (a : Nat) :
    (m.writeAll ws).read a = ((ws.reverse.find? fun w => w.1 == a).map (·.2)).getD (m.read a) := by
  induction ws generalizing m with
  | nil => rfl
  | cons w ws ih =>
    have hstep : m.writeAll (w :: ws) = (m.write w.1 w.2).writeAll ws := rfl
    rw [hstep, ih (Memory.wf_write m w.1 w.2 hw), List.reverse_cons, List.find?_append, Memory.read_write m 0 w.1 a w.2 hw]
    cases ws.reverse.find? fun w => w.1 == a with
    | some v => rfl
    | none =>
      by_cases h : w.1 = a
      · simp [h]
      · simp [h, Ne.symm h]

/-- The end of a save: the memory as written, the table engine IDLE, its notice posted. -/
def State.saveEnded (s : State) (m : Memory) (result : EngineResult) : State :=
  { s with settings := m, table := .idle, notices := s.notices.post (.engine result) }

theorem execSaveEnd_of_saving {s : State} {image : List SectionImage} (h : s.table = .saving image) :
    exec .saveEnd s = .next (s.saveEnded (s.settings.writeAll (saveWrites image)) .saved) := by
  show execSaveEnd s = _
  simp only [execSaveEnd, h]
  rfl

theorem execSaveEnd_of_not_saving {s : State} (h : ∀ image, s.table ≠ .saving image) : exec .saveEnd s = .next s := by
  show execSaveEnd s = .next s
  unfold execSaveEnd
  split
  next image himage => exact absurd himage (h image)
  next => rfl

theorem execSaveWriteTimeout_of_saving {s : State} {image : List SectionImage} (h : s.table = .saving image) (sec : Section) (write : Nat)
    (landed : Bool) : exec (.saveWriteTimeout sec write landed) s = .next
      (if hasWrite image sec write then
        s.saveEnded (s.settings.writeAll (writesUpTo sec (if landed then write + 1 else write) image)) (.saveFailed sec)
      else s) := by
  show execSaveWriteTimeout sec write landed s = _
  simp only [execSaveWriteTimeout, h]
  rfl

theorem execSaveWriteTimeout_of_not_saving {s : State} (h : ∀ image, s.table ≠ .saving image) (sec : Section) (write : Nat) (landed : Bool) :
    exec (.saveWriteTimeout sec write landed) s = .next s := by
  show execSaveWriteTimeout sec write landed s = .next s
  unfold execSaveWriteTimeout
  split
  next image himage => exact absurd himage (h image)
  next => rfl

/-- Settles O17. -/
theorem saveWritesItsBytesAndNoOther : Obligations.SaveWritesItsBytesAndNoOther := by
  intro s sec write landed hw
  refine ⟨fun h => ?_, fun image h => ⟨?_, fun hno => ?_, fun hyes => ?_⟩⟩
  · exact ⟨execSaveEnd_of_not_saving h, execSaveWriteTimeout_of_not_saving h sec write landed⟩
  · refine ⟨_, execSaveEnd_of_saving h, ?_, ?_⟩
    · rfl
    · exact fun a => Memory.read_writeAll hw (saveWrites image) a
  · rw [execSaveWriteTimeout_of_saving h, if_neg (by simp [hno])]
  · refine ⟨_, (execSaveWriteTimeout_of_saving h sec write landed).trans (congrArg Host.Outcome.next (if_pos hyes)), ?_, ?_⟩
    · rfl
    · exact fun a => Memory.read_writeAll hw (writesUpTo sec (if landed then write + 1 else write) image) a

/-! ### The warm restart (R69, R174) -/

theorem ExcRecord.restarted_eq (x : ExcRecord) (minute : Nat) :
    x.restarted minute = if x.state = .opened then { x with state := .closed, closedAt := some minute, cause := some .restart } else x := by
  unfold ExcRecord.restarted
  split
  next h => rw [if_pos h]
  next h => rw [if_neg (by simp [h])]

theorem State.restartOrdered_of_taken {s : State} {tag : Nat}
    (h : (s.link 0).buffer = some { kind := 0x95, tag := tag, answer := .done .none }) : s.restartOrdered = true := by
  simp [State.restartOrdered, h, Reply.ordersRestart, Answer.done]

theorem State.excRecord_warmRestart (s : State) (p : ExcPos) :
    s.warmRestart.excRecord p = (s.excRecord p).map fun x => x.restarted s.clock.minute := by
  simp [State.excRecord, State.warmRestart, State.restartedExceedances, Vector.get_eq_getElem]

/-- Settles O18. -/
theorem warmRestartKeepsClockAndRecords : Obligations.WarmRestartKeepsClockAndRecords := by
  intro s
  refine ⟨fun h => congrArg Host.Outcome.next (if_neg ?_), fun tag h => ?_⟩
  · rw [State.restartOrdered_eq_false h]
    exact nofun
  · have hordered := State.restartOrdered_of_taken h
    refine ⟨s.warmRestart, congrArg Host.Outcome.next (if_pos hordered), congrArg Host.Outcome.next (if_pos ⟨rfl, hordered⟩), rfl, rfl, rfl, rfl,
      ?_, ?_, ?_, ?_, ?_, ?_, ?_⟩
    · exact ⟨rfl, fun z => Vector.get_replicate_of 4 _ z, fun r => Vector.get_replicate_of 16 _ r, rfl, fun i => Vector.get_replicate_of 8 _ i,
        fun p => Vector.get_replicate_of 64 _ p, rfl, rfl, rfl, rfl, rfl, rfl⟩
    · exact fun p => Vector.get_replicate_of 9 _ p
    · rfl
    · simp only [State.warmRestart, State.restartedExceedances]
    · intro p
      rw [State.excRecord_warmRestart]
      exact congrArg (Option.map · (s.excRecord p)) (funext fun x => x.restarted_eq _)
    · rfl
    · intro hnot
      show s.abandonSave.settings = s.settings
      rw [State.abandonSave_of_not_saving hnot]

end Sys2Proof.Machine
end


section
/-! SUPPORT. The monitor bus: what the outcome of a poll makes of the receptor, the engine, the queues and the cycle. -/

namespace Sys2Proof.Machine

/-! ### Receptor records written -/

theorem State.setReceptor_setReceptor (s : State) (r : ReceptorId) (x y : Option Receptor) :
    (s.setReceptor r x).setReceptor r y = s.setReceptor r y := by
  simp [State.setReceptor]

theorem State.setReceptor_receptor (s : State) (r : ReceptorId) : s.setReceptor r (s.receptor r) = s := by
  simp [State.setReceptor, State.receptor, Vector.get_eq_getElem]

theorem State.setReceptor_of_eq {s : State} {r : ReceptorId} {x : Option Receptor} (h : s.receptor r = x) : s.setReceptor r x = s := by
  rw [← h, State.setReceptor_receptor]

theorem State.updReceptor_of_some {s : State} {r : ReceptorId} {x : Receptor} (h : s.receptor r = some x) (f : Receptor → Receptor) :
    s.updReceptor r f = s.setReceptor r (some (f x)) := by
  rw [State.updReceptor, h]
  rfl

/-- What a pass captures of a receptor record (R110). -/
def Receptor.captured (r : ReceptorId) (x : Receptor) : ReceptorCapture :=
  { receptor := r, zone := x.zone, correction := x.correction, exceeded := x.exceedance.isSome, blind := x.station.blind }

theorem State.capture_eq (s : State) : s.capture =
    { zones := Vector.ofFn fun z => { state := (s.zone z).state, effective := (s.zone z).effective, fade := (s.zone z).fade,
                                      recoveryMargin := (s.zone z).recoveryMargin }
      receptors := allReceptors.filterMap fun r => (s.receptor r).map (Receptor.captured r)
      blindMargin := s.site.blindMargin
      slots := Vector.ofFn fun i => { state := (s.slot i).state, weight := (s.slot i).weight, stageMax := (s.slot i).stageMax,
                                      topCap := (s.slot i).caps.head? }
      paths := allPathPos.filterMap s.path } := rfl

/-- Two states that agree in what a pass captures (R110). -/
theorem State.capture_congr {s t : State} (hzones : t.zones = s.zones) (hsite : t.site = s.site) (hslots : t.slots = s.slots)
    (hpaths : t.paths = s.paths) (h : ∀ r, (t.receptor r).map (Receptor.captured r) = (s.receptor r).map (Receptor.captured r)) :
    t.capture = s.capture := by
  have hzone (z : ZoneId) : t.zone z = s.zone z := by rw [State.zone, hzones]; rfl
  have hslot (i : SlotId) : t.slot i = s.slot i := by rw [State.slot, hslots]; rfl
  have hpath : t.path = s.path := funext fun p => by rw [State.path, hpaths]; rfl
  rw [State.capture_eq, State.capture_eq]
  simp only [hzone, hslot, hpath, h, hsite]

/-! ### The cycle (R37) -/

theorem State.pollFrom_congr {s t : State} {low : Nat} (h : ∀ r : ReceptorId, low ≤ r.val → t.receptor r = s.receptor r) (second : Nat) :
    (t.pollFrom low second).poller = (s.pollFrom low second).poller := by
  have hnext : t.nextReceptor low = s.nextReceptor low := by
    refine congrArg (List.find? · allReceptors) (funext fun r => ?_)
    by_cases hr : low ≤ r.val
    · rw [h r hr]
    · simp [hr]
  unfold State.pollFrom
  rw [hnext]
  cases hn : s.nextReceptor low with
  | none => rfl
  | some r =>
    have hr := List.find?_some hn
    simp only [Bool.and_eq_true, decide_eq_true_eq] at hr
    simp only [h r hr.1]
    split <;> rfl

theorem State.pollFrom_of_none {s : State} {low : Nat} (h : ∀ r : ReceptorId, low ≤ r.val → s.receptor r = none) (second : Nat) :
    (s.pollFrom low second).poller.poll = none := by
  have hnext : s.nextReceptor low = none := by
    refine List.find?_eq_none.2 fun r _ => ?_
    by_cases hr : low ≤ r.val
    · simp [h r hr]
    · simp [hr]
  rw [State.pollFrom, hnext]
  rfl

theorem find?_finRange_of_first {n : Nat} {p : Fin n → Bool} {i : Fin n} (hi : p i = true) (h : ∀ j, j < i → p j = false) :
    (List.finRange n).find? p = some i := by
  cases hf : (List.finRange n).find? p with
  | none => exact absurd hi (List.find?_eq_none.1 hf i (List.mem_finRange i))
  | some j =>
    obtain ⟨hj, before, after, hsplit, hnot⟩ := List.find?_eq_some_iff_append.1 hf
    have hle : ¬j < i := fun hlt => by rw [h j hlt] at hj; cases hj
    have hmem : i ∈ before ++ j :: after := hsplit ▸ List.mem_finRange i
    rcases List.mem_append.1 hmem with hb | ha
    · exact absurd hi (by simpa using hnot i hb)
    · rcases List.mem_cons.1 ha with rfl | ha
      · rfl
      · have hpair : (before ++ j :: after).Pairwise (· < ·) := hsplit ▸ List.pairwise_lt_finRange n
        exact absurd ((List.pairwise_cons.1 (List.pairwise_append.1 hpair).2.1).1 i ha) hle

/-- The cycle goes to the lowest receptor from `low` on that has a record. -/
theorem State.pollFrom_of_first {s : State} {low : Nat} {r : ReceptorId} {x : Receptor} (hlow : low ≤ r.val) (hr : s.receptor r = some x)
    (h : ∀ k : ReceptorId, low ≤ k.val → k < r → s.receptor k = none) (second : Nat) :
    (s.pollFrom low second).poller.poll = some { receptor := r, address := x.address, second := second, wait := none } := by
  have hnext : s.nextReceptor low = some r := by
    refine find?_finRange_of_first (by simp [hlow, hr]) fun k hk => ?_
    by_cases hkl : low ≤ k.val
    · simp [h k hkl hk]
    · simp [hkl]
  rw [State.pollFrom, hnext]
  simp only [hr]
  rfl

theorem State.pollFrom_receiver (s : State) (low second : Nat) : (s.pollFrom low second).poller.receiver = .hunting := by
  unfold State.pollFrom
  split
  · rfl
  · split <;> rfl

/-! ### The outcome of a poll (R39 to R44, R48, R49) -/

/-- A residual sample joins the accumulator where the conditions of R56 hold. -/
def Receptor.sampled (x : Receptor) (predicted : Option Level) (level : Level) : Receptor :=
  { x with residual := match predicted with
      | none => x.residual
      | some p =>
        if x.floor ≤ p ∧ x.residual.count < 30 then { sum := x.residual.sum + ((level : Int) - p), count := x.residual.count + 1 } else x.residual }

theorem State.residualHandOff_eq {s : State} {r : ReceptorId} {x : Receptor} (h : s.receptor r = some x) (level : Level) :
    s.residualHandOff r level = s.setReceptor r (some (x.sampled (s.predictedLevel r) level)) := by
  unfold State.residualHandOff
  rw [h]
  cases hp : s.predictedLevel r with
  | none => exact (State.setReceptor_of_eq h).symm
  | some p =>
    dsimp only
    by_cases hif : x.floor ≤ p ∧ x.residual.count < 30
    · rw [if_pos hif, State.updReceptor_of_some h, Receptor.sampled]
      simp only [if_pos hif]
    · rw [if_neg hif, Receptor.sampled]
      simp only [if_neg hif]
      exact (State.setReceptor_of_eq h).symm

theorem State.predictedLevel_congr {s t : State} (hslots : t.slots = s.slots) (hpaths : t.paths = s.paths) (r : ReceptorId) :
    t.predictedLevel r = s.predictedLevel r := by
  unfold State.predictedLevel State.contributions State.pathLoss State.path State.slot
  rw [hslots, hpaths]

theorem State.predictedLevel_setReceptor (s : State) (q r : ReceptorId) (x : Option Receptor) :
    (s.setReceptor q x).predictedLevel r = s.predictedLevel r := State.predictedLevel_congr rfl rfl r

/-- The level is taken into the minute where the class says so (R44). -/
def Receptor.minuteTaken (x : Receptor) (cls : PollClass) (level : Level) : Receptor :=
  if cls.taken then { x with accumulator := takeIntoMinute x.accumulator level } else x

/-- The record after an outcome: the station's part, the level taken into the minute, the residual sample (Table 3-2). -/
def Receptor.polled (x : Receptor) (cls : PollClass) (level : Level) (predicted : Option Level) : Receptor :=
  let z := (x.heardFrom cls level).minuteTaken cls level
  if cls = .reply then z.sampled predicted level else z

theorem Receptor.captured_polled (r : ReceptorId) (x : Receptor) (cls : PollClass) (level : Level) (predicted : Option Level) :
    Receptor.captured r (x.polled cls level predicted) = Receptor.captured r (x.heardFrom cls level) := by
  unfold Receptor.polled Receptor.minuteTaken
  dsimp only
  split <;> split <;> rfl

/-- The station's part of an outcome: the record, the trigger of R42, the STATION notice of R48. -/
def State.heard (s : State) (r : ReceptorId) (x y : Receptor) : State :=
  let a := (s.setReceptor r (some y)).triggerIf (x.station.blind != y.station.blind)
  if x.station = y.station then a else a.post (stationNotice r y)

/-- What `heard` leaves but for the receptor it writes. -/
theorem State.heard_eq (s : State) (r : ReceptorId) (x y : Receptor) :
    s.heard r x y = { s.setReceptor r (some y) with
      engine := (s.heard r x y).engine
      arbiter := { s.arbiter with passSinceHead := (s.heard r x y).arbiter.passSinceHead }
      notices := if x.station = y.station then s.notices else s.notices.post (stationNotice r y) } := by
  unfold State.heard
  dsimp only
  rw [State.triggerIf_eq]
  split <;> rfl

theorem State.receptor_heard (s : State) (r : ReceptorId) (x y : Receptor) : (s.heard r x y).receptor r = some y := by
  rw [State.heard_eq]
  exact State.receptor_setReceptor_same s r (some y)

theorem State.heard_engine (s : State) (r : ReceptorId) (x y : Receptor) :
    (s.heard r x y).engine = ((s.setReceptor r (some y)).triggerIf (x.station.blind != y.station.blind)).engine ∧
    (s.heard r x y).arbiter = ((s.setReceptor r (some y)).triggerIf (x.station.blind != y.station.blind)).arbiter := by
  unfold State.heard
  dsimp only
  split <;> exact ⟨rfl, rfl⟩

/-- The copy of an outcome (R49). -/
def pollCopy (p : Poll) (cls : PollClass) (level : Level) (y : Receptor) (c : Clock) : Copy :=
  .stationReply p.receptor p.address cls (if cls.carriesLevel then some level else none) y.station y.misses c.minute c.second

theorem State.pollOutcome_eq {s : State} {p : Poll} {x : Receptor} (h : s.receptor p.receptor = some x) (cls : PollClass) (level : Level) :
    s.pollOutcome p cls level =
      (((s.heard p.receptor x (x.heardFrom cls level)).setReceptor p.receptor
        (some (x.polled cls level (s.predictedLevel p.receptor)))).send (pollCopy p cls level (x.heardFrom cls level) s.clock)).continueCycle p := by
  have hclock (u : State) (z : Option Receptor) (hu : u.clock = s.clock) : (u.setReceptor p.receptor z).clock = s.clock := hu
  have hheard := State.heard_eq s p.receptor x (x.heardFrom cls level)
  have hb : (s.heard p.receptor x (x.heardFrom cls level)).clock = s.clock := by rw [hheard]; rfl
  have hpredicted : (s.heard p.receptor x (x.heardFrom cls level)).predictedLevel p.receptor = s.predictedLevel p.receptor := by
    rw [hheard]
    exact State.predictedLevel_congr rfl rfl _
  have hrec := State.receptor_heard s p.receptor x (x.heardFrom cls level)
  unfold State.pollOutcome
  simp only [h]
  change (let b := s.heard p.receptor x (x.heardFrom cls level)
    let c := if cls.taken then b.updReceptor p.receptor fun z => { z with accumulator := takeIntoMinute z.accumulator level } else b
    let d := if cls = .reply then c.residualHandOff p.receptor level else c
    (d.send (pollCopy p cls level (x.heardFrom cls level) d.clock)).continueCycle p) = _
  generalize s.heard p.receptor x (x.heardFrom cls level) = b at hb hpredicted hrec ⊢
  have hc : (if cls.taken then b.updReceptor p.receptor fun z => { z with accumulator := takeIntoMinute z.accumulator level } else b) =
      b.setReceptor p.receptor (some ((x.heardFrom cls level).minuteTaken cls level)) := by
    unfold Receptor.minuteTaken
    split
    · exact State.updReceptor_of_some hrec _
    · exact (State.setReceptor_of_eq hrec).symm
  dsimp only
  rw [hc]
  by_cases hreply : cls = .reply
  · rw [if_pos hreply, State.residualHandOff_eq (State.receptor_setReceptor_same ..), State.setReceptor_setReceptor,
      State.predictedLevel_setReceptor, hpredicted, hclock b _ hb, Receptor.polled, if_pos hreply]
  · rw [if_neg hreply, hclock b _ hb, Receptor.polled, if_neg hreply]

/-- What an outcome leaves of the state, said once. -/
theorem State.pollOutcome_spec {s t : State} {p : Poll} {x y : Receptor} {cls : PollClass} {level : Level}
    (h : s.receptor p.receptor = some x) (ht : s.pollOutcome p cls level = t) (hy : x.heardFrom cls level = y) :
    t = { s with
      receptors := t.receptors, poller := t.poller, engine := t.engine, arbiter := { s.arbiter with passSinceHead := t.arbiter.passSinceHead },
      notices := t.notices, witness := t.witness } ∧
    (∀ q, q ≠ p.receptor → t.receptor q = s.receptor q) ∧
    t.receptor p.receptor = some (x.polled cls level (s.predictedLevel p.receptor)) ∧
    (x.station.blind = y.station.blind → t.engine = s.engine ∧ t.arbiter = s.arbiter) ∧
    (x.station.blind ≠ y.station.blind → s.mode ≠ .boot → s.EngineTriggered t) ∧
    t.notices = (if y.station = x.station then s.notices else s.notices.post (stationNotice p.receptor y)) ∧
    t.witness = (s.send (pollCopy p cls level y s.clock)).witness ∧
    t.poller = (s.pollFrom (p.receptor.val + 1) p.second).poller := by
  subst ht hy
  have heq := State.pollOutcome_eq h cls level
  have hheard := State.heard_eq s p.receptor x (x.heardFrom cls level)
  obtain ⟨hengine, harbiter⟩ := State.heard_engine s p.receptor x (x.heardFrom cls level)
  have hcaptured := Receptor.captured_polled p.receptor x cls level (s.predictedLevel p.receptor)
  generalize x.polled cls level (s.predictedLevel p.receptor) = z at heq hcaptured ⊢
  generalize x.heardFrom cls level = y at heq hheard hengine harbiter hcaptured ⊢
  rw [State.continueCycle, State.pollFrom_eq, State.send_eq] at heq
  have hother (q : ReceptorId) (hq : q ≠ p.receptor) : ((s.heard p.receptor x y).setReceptor p.receptor (some z)).receptor q = s.receptor q := by
    rw [State.receptor_setReceptor_ne _ _ _ _ hq, hheard]
    exact State.receptor_setReceptor_ne _ _ _ _ hq
  refine ⟨?_, fun q hq => ?_, ?_, fun hsame => ?_, fun hdiff hmode => ?_, ?_, ?_, ?_⟩
  · rw [heq, hheard]
    rfl
  · rw [heq]
    exact hother q hq
  · rw [heq]
    exact State.receptor_setReceptor_same _ _ _
  · rw [heq]
    have hno : (x.station.blind != y.station.blind) = false := by simp [hsame]
    rw [hno] at hengine harbiter
    exact ⟨hengine, harbiter⟩
  · have hyes : (x.station.blind != y.station.blind) = true := by simpa using hdiff
    rw [hyes] at hengine harbiter
    have htrig : (s.setReceptor p.receptor (some y)).EngineTriggered (s.setReceptor p.receptor (some y)).trigger :=
      State.trigger_engineTriggered hmode
    have hcap : (s.pollOutcome p cls level).capture = (s.setReceptor p.receptor (some y)).trigger.capture := by
      rw [State.trigger_eq]
      refine State.capture_congr ?_ ?_ ?_ ?_ fun r => ?_
      · rw [heq, hheard]; rfl
      · rw [heq, hheard]; rfl
      · rw [heq, hheard]; rfl
      · rw [heq, hheard]; rfl
      · rw [heq]
        show (((s.heard p.receptor x y).setReceptor p.receptor (some z)).receptor r).map _ = ((s.setReceptor p.receptor (some y)).receptor r).map _
        by_cases hr : r = p.receptor
        · subst hr
          simp only [State.receptor_setReceptor_same, Option.map_some, hcaptured]
        · rw [hother r hr, State.receptor_setReceptor_ne _ _ _ _ hr]
    have he : (s.pollOutcome p cls level).engine = (s.setReceptor p.receptor (some y)).trigger.engine := by rw [heq]; exact hengine
    have ha : (s.pollOutcome p cls level).arbiter = (s.setReceptor p.receptor (some y)).trigger.arbiter := by rw [heq]; exact harbiter
    unfold State.EngineTriggered at htrig ⊢
    rw [he, ha, hcap]
    exact htrig
  · rw [heq, hheard]
    show (if x.station = y.station then s.notices else _) = _
    simp only [eq_comm]
  · rw [heq]
    show (((s.heard p.receptor x y).setReceptor p.receptor (some z)).send _).witness = _
    rw [State.send_witness, State.send_witness, hheard]
    rfl
  · rw [heq]
    refine State.pollFrom_congr (fun r hr => ?_) _
    have hne : r ≠ p.receptor := fun e => by subst e; omega
    rw [State.send_eq]
    exact hother r hne

end Sys2Proof.Machine
end


section
/-! SUPPORT. The replies of a polled station, and every other end of a poll. -/

namespace Sys2Proof.Machine

/-! ### The station's part, class by class (Tables 3-2 and 3-3) -/

/-- A miss: one more, the third making the station LOST (R41). -/
def Receptor.missed (x : Receptor) : Receptor :=
  if x.misses < 2 then { x with misses := x.misses + 1 } else { x with misses := 3, station := .lost }

theorem Receptor.missed_station (x : Receptor) : x.missed.station = if x.misses < 2 then x.station else .lost := by
  unfold Receptor.missed; split <;> rfl

theorem Receptor.missed_misses (x : Receptor) : x.missed.misses = if x.misses < 2 then x.misses + 1 else 3 := by
  unfold Receptor.missed; split <;> rfl

theorem Receptor.missed_lastLevel (x : Receptor) : x.missed.lastLevel = x.lastLevel := by unfold Receptor.missed; split <;> rfl

theorem Receptor.missed_address (x : Receptor) : x.missed.address = x.address := by unfold Receptor.missed; split <;> rfl

theorem Receptor.heardFrom_of_miss (x : Receptor) {cls : PollClass} (h : cls.heard = false) (level : Level) : x.heardFrom cls level = x.missed := by
  unfold Receptor.missed
  by_cases hm : x.misses < 2
  · rw [if_pos hm]
    cases cls <;> cases h <;> simp [Receptor.heardFrom, stationAfter, PollClass.heard, Nat.not_le.2 hm]
  · rw [if_neg hm]
    cases cls <;> cases h <;> simp [Receptor.heardFrom, stationAfter, PollClass.heard, Nat.not_lt.1 hm]

theorem Receptor.polled_of_miss (x : Receptor) {cls : PollClass} (h : cls.heard = false) (level : Level) (predicted : Option Level) :
    x.polled cls level predicted = x.missed := by
  rw [← x.heardFrom_of_miss h level]
  cases cls <;> cases h <;> rfl

theorem StationState.blind_eq_iff (a b : StationState) : a.blind = b.blind ↔ (a = .active ↔ b = .active) := by
  cases a <;> cases b <;> simp [StationState.blind]

theorem replyClass_eq (flags : Nat) : replyClass flags =
    if flags / 4 % 2 = 1 then .fault else if flags / 2 % 2 = 1 then .replyCalibrating else if flags % 2 = 1 then .replyWind else .reply := by
  simp [replyClass, flagBit]

/-! ### The rows of the bus -/

theorem State.pollEnds_of_wait {s : State} {p : Poll} {w : Nat} (h : s.poller.poll = some p) (hw : p.wait = some w) (cls : PollClass)
    (level : Level) : s.pollEnds cls level = s.pollOutcome p cls level := by
  simp [State.pollEnds, h, hw]

theorem State.pollEnds_of_no_wait {s : State} (h : ∀ p, s.poller.poll = some p → p.wait = none) (cls : PollClass) (level : Level) :
    s.pollEnds cls level = s := by
  unfold State.pollEnds
  split
  next p hp => simp [h p hp]
  next => rfl

theorem exec_stationReply_of_polled {s : State} {p : Poll} {w : Nat} (h : s.poller.poll = some p) (hw : p.wait = some w) (level flags : Nat) :
    exec (.stationReply p.address level flags) s = .next (s.pollOutcome p (replyClass flags) (saturate level)) := by
  show execStationReply p.address level flags s = _
  simp only [execStationReply, State.awaiting_eq_some h hw, if_pos, State.pollEnds_of_wait h hw]

/-- Settles O23, class by class. -/
theorem stationReplyUpdatesItsReceptor : Obligations.StationReplyUpdatesItsReceptor := by
  intro s p w level flags x hpoll hwait hx
  refine ⟨s.pollOutcome p (replyClass flags) (saturate level), exec_stationReply_of_polled hpoll hwait level flags, ?_⟩
  generalize ht : s.pollOutcome p (replyClass flags) (saturate level) = t
  obtain ⟨hframe, hother, hreceptor, hsame, hdiff, hnotices, hwitness, hpoller⟩ := State.pollOutcome_spec hx ht rfl
  have hcls := replyClass_eq flags
  refine ⟨hframe, hother, fun hf => ?_, fun hf hc => ?_, fun hf hc hwind => ?_, fun hf hc hwind => ?_, ?_, ?_, fun hnone => ?_,
    fun q y hq hy hnone => ?_⟩
  · rw [if_pos hf] at hcls
    rw [hreceptor, hcls, Receptor.polled_of_miss x rfl]
    rfl
  · rw [if_neg hf, if_pos hc] at hcls
    rw [hreceptor, hcls]
    rfl
  · rw [if_neg hf, if_neg hc, if_pos hwind] at hcls
    rw [hreceptor, hcls]
    rfl
  · rw [if_neg hf, if_neg hc, if_neg hwind] at hcls
    rw [hreceptor, hcls]
    rfl
  · have hy : x.heardFrom (replyClass flags) (saturate level) = { x with
        station := if flags / 4 % 2 = 1 then (if x.misses < 2 then x.station else .lost) else if flags / 2 % 2 = 1 then .calibrating else .active
        misses := if flags / 4 % 2 = 1 then (if x.misses < 2 then x.misses + 1 else 3) else 0
        lastLevel := if flags / 4 % 2 = 1 then x.lastLevel else some (saturate level) } := by
      rw [hcls]
      by_cases hf : flags / 4 % 2 = 1
      · simp only [if_pos hf]
        rw [x.heardFrom_of_miss rfl, Receptor.missed]
        split <;> rfl
      · simp only [if_neg hf]
        split
        · rfl
        · split <;> rfl
    have hcarries : (replyClass flags).carriesLevel = true := by
      rw [hcls]
      split
      · rfl
      · split
        · rfl
        · split <;> rfl
    rw [hy] at hsame hdiff hnotices hwitness
    rw [pollCopy, hcarries, if_pos rfl, hcls] at hwitness
    refine ⟨fun h => hsame ((StationState.blind_eq_iff _ _).2 h), fun h => hdiff (mt (StationState.blind_eq_iff _ _).1 h), hnotices, hwitness⟩
  · rw [hpoller]
    exact State.pollFrom_receiver ..
  · rw [hpoller]
    exact State.pollFrom_of_none (fun r hr => hnone r hr) _
  · rw [hpoller]
    exact State.pollFrom_of_first hq hy (fun k hk hkq => hnone k hk hkq) _

/-- The class of a poll that ends with no reply: a timeout, or else a BAD_FRAME (R38). -/
def missClass (c : Instr) : PollClass := if c = .stationReplyTimeout then .timeout else .badFrame

theorem missClass_heard (c : Instr) : (missClass c).heard = false := by unfold missClass; split <;> rfl

theorem missClass_carriesLevel (c : Instr) : (missClass c).carriesLevel = false := by unfold missClass; split <;> rfl

/-- Every row that ends a poll with no reply ends it as a miss. -/
theorem exec_miss {s : State} {c : Instr} (h : c = .badFrame ∨ c = .stationReplyTimeout ∨ (∃ cause, c = .frameDiscarded .bus cause) ∨
      (c = .interByteGap .bus ∧ s.poller.receiver = .receiving) ∨
      ∃ a level flags, c = .stationReply a level flags ∧ ∀ p, s.poller.poll = some p → p.address ≠ a) :
    ∃ level, exec c s = .next (s.pollEnds (missClass c) level) := by
  rcases h with rfl | rfl | ⟨cause, rfl⟩ | ⟨rfl, hreceiving⟩ | ⟨a, level, flags, rfl, haddress⟩
  · exact ⟨0, rfl⟩
  · exact ⟨0, rfl⟩
  · exact ⟨0, rfl⟩
  · exact ⟨0, congrArg Host.Outcome.next (if_pos hreceiving)⟩
  · refine ⟨saturate level, ?_⟩
    show execStationReply a level flags s = .next (s.pollEnds .badFrame (saturate level))
    unfold execStationReply
    cases haw : s.awaiting with
    | none =>
      refine congrArg Host.Outcome.next (State.pollEnds_of_no_wait (fun p hp => ?_) _ _).symm
      by_contra hw
      obtain ⟨w, hw⟩ := Option.ne_none_iff_exists'.1 hw
      exact absurd (haw.symm.trans (State.awaiting_eq_some hp hw)) nofun
    | some p =>
      have hp : s.poller.poll = some p := by
        unfold State.awaiting at haw
        split at haw
        next q hq =>
          split at haw
          next => rw [hq, haw]
          next => cases haw
        next => cases haw
      dsimp only
      rw [if_neg (haddress p hp)]

theorem exec_pollSent_of_sending {s : State} {p : Poll} (h : s.poller.poll = some p) (hw : p.wait = none) :
    exec .pollSent s = .next { s with poller := { poll := some { p with wait := some 40 }, receiver := .hunting } } := by
  show execPollSent s = _
  simp only [execPollSent, h, hw]
  rfl

theorem exec_pollSent_of_not_sending {s : State} (h : ∀ p, s.poller.poll = some p → p.wait ≠ none) : exec .pollSent s = .next s := by
  show execPollSent s = .next s
  unfold execPollSent
  split
  next p hp => rw [if_neg (by simpa using h p hp)]
  next => rfl

/-- Settles O24. -/
theorem everyOtherPollEndIsAMiss : Obligations.EveryOtherPollEndIsAMiss := by
  refine ⟨fun s => ⟨fun p => exec_pollSent_of_sending, exec_pollSent_of_not_sending⟩, fun s c hc => ?_⟩
  obtain ⟨level, hexec⟩ := exec_miss hc
  refine ⟨fun hnone => ?_, fun hhunt => congrArg Host.Outcome.next (if_neg (by simp [hhunt])), fun p w x hpoll hwait hx => ?_⟩
  · rw [hexec, State.pollEnds_of_no_wait hnone]
  · rw [State.pollEnds_of_wait hpoll hwait] at hexec
    generalize ht : s.pollOutcome p (missClass c) level = t at hexec
    obtain ⟨hframe, hother, hreceptor, hsame, hdiff, hnotices, hwitness, hpoller⟩ :=
      State.pollOutcome_spec hx ht (x.heardFrom_of_miss (missClass_heard c) level)
    rw [x.polled_of_miss (missClass_heard c)] at hreceptor
    refine ⟨t, hexec, hframe, hother, hreceptor, ⟨fun h => hsame ?_, fun hactive hm => hdiff ?_, ?_, ?_⟩, ?_, by rw [hpoller]⟩
    · rw [Receptor.missed_station, StationState.blind_eq_iff]
      rcases h with h | h
      · split <;> simp [h]
      · rw [if_pos h]
    · rw [Receptor.missed_station, Ne, StationState.blind_eq_iff, if_neg hm, hactive]
      simp
    · rw [hnotices, stationNotice, Receptor.missed_misses, Receptor.missed_lastLevel, Receptor.missed_address, Receptor.missed_station]
    · rw [hwitness, pollCopy, missClass_carriesLevel, Receptor.missed_misses, Receptor.missed_station]
      rfl
    · rw [hpoller]
      exact State.pollFrom_receiver ..

end Sys2Proof.Machine
end


section
/-! SUPPORT. The second-boundary work of the zones, and SECOND_BOUNDARY below second 59 (R14, R28, R29, R37). -/

namespace Sys2Proof.Machine

/-! ### The second-boundary move of one zone (R28) -/

/-- The record of a zone after its second-boundary work: the ramp of the effective limit, and the fade (R28). -/
def Zone.afterSecond (x : Zone) : Zone :=
  { x with
    effective := if x.licence < x.effective then limitedStep x.effective x.licence 0 x.rampRate else x.effective
    fade := if x.state = .fading then limitedStep x.fade 600 x.rampRate 0 else x.fade
    state := if x.state = .fading ∧ limitedStep x.fade 600 x.rampRate 0 = 600 then .silenced else x.state }

/-- A ramp or a fade ends with this second (R29). -/
abbrev Zone.endsAtSecond (x : Zone) : Prop := (x.licence < x.effective ∧ x.afterSecond.effective = x.licence) ∨ x.afterSecond.state ≠ x.state

theorem Zone.afterSecond_ne_self_iff (x : Zone) : x.afterSecond ≠ x ↔
    x.effective ≠ x.afterSecond.effective ∨ x.state ≠ x.afterSecond.state ∨ x.fade ≠ x.afterSecond.fade := by
  rw [← not_and_or, ← not_and_or, not_iff_not]
  constructor
  · intro h
    simp only [h, and_self]
  · rintro ⟨heffective, hstate, hfade⟩
    show { x with effective := x.afterSecond.effective, fade := x.afterSecond.fade, state := x.afterSecond.state } = x
    rw [← heffective, ← hstate, ← hfade]

/-- A zone that is FADING already, or does not become so, has its state and fade offset written with their triggers and no word to the arbiter. -/
theorem State.ZoneWritten.of_setCurfew_of_not_new {s : State} (h : s.mode ≠ .boot) (z : ZoneId) {st : ZoneState} (fade : Nat)
    (hst : (s.zone z).state = .fading ∨ st ≠ .fading) :
    s.ZoneWritten (s.setCurfew z st fade) z { s.zone z with state := st, fade := fade } ((s.zone z).state ≠ st ∨ (s.zone z).fade ≠ fade) := by
  unfold State.setCurfew
  dsimp only
  rw [if_neg (fun hfading => hst.elim hfading.1 fun hne => hne hfading.2)]
  have hupd := State.ZoneWritten.of_updZone s z fun x => { x with state := st, fade := fade }
  have hstate := hupd.trans (State.ZoneWritten.of_triggerIf (s := s.updZone z _) h z ((s.zone z).state != st))
  have hfade := hstate.trans (State.ZoneWritten.of_triggerIf (hstate.mode_eq ▸ h) z ((s.zone z).fade != fade))
  exact hfade.congr (hstate.zone_same.trans hupd.zone_same) (by simp)

/-- The second-boundary work of a zone writes its record, raises the triggers of its changes, and then posts its notice where one is due. -/
theorem State.zoneSecond_eq {s : State} (h : s.mode ≠ .boot) (z : ZoneId) :
    ∃ a, s.ZoneWritten a z (s.zone z).afterSecond ((s.zone z).afterSecond ≠ s.zone z) ∧
      s.zoneSecond z = if (s.zone z).endsAtSecond then a.postZone z else a := by
  have hramp : ∃ a, a = (if (s.zone z).licence < (s.zone z).effective then
      s.setEffective z (limitedStep (s.zone z).effective (s.zone z).licence 0 (s.zone z).rampRate) else s) ∧
      s.ZoneWritten a z { s.zone z with effective := (s.zone z).afterSecond.effective } ((s.zone z).effective ≠ (s.zone z).afterSecond.effective) := by
    refine ⟨_, rfl, ?_⟩
    by_cases hlt : (s.zone z).licence < (s.zone z).effective
    · rw [if_pos hlt]
      exact (State.ZoneWritten.of_setEffective h z _).congr (by simp [Zone.afterSecond, hlt]) (by simp [Zone.afterSecond, hlt])
    · rw [if_neg hlt]
      exact (State.ZoneWritten.refl s z).congr (by simp [Zone.afterSecond, hlt]) (by simp [Zone.afterSecond, hlt])
  obtain ⟨a, ha, hwritten⟩ := hramp
  have hfade : ∃ b, b = (if (s.zone z).state = .fading then
      a.setCurfew z (if limitedStep (s.zone z).fade 600 (s.zone z).rampRate 0 = 600 then .silenced else .fading)
        (limitedStep (s.zone z).fade 600 (s.zone z).rampRate 0) else a) ∧
      s.ZoneWritten b z (s.zone z).afterSecond ((s.zone z).afterSecond ≠ s.zone z) := by
    refine ⟨_, rfl, ?_⟩
    by_cases hf : (s.zone z).state = .fading
    · rw [if_pos hf]
      have hstate : (a.zone z).state = .fading := by rw [hwritten.zone_same]; exact hf
      refine (hwritten.trans (State.ZoneWritten.of_setCurfew_of_not_new (hwritten.mode_eq ▸ h) z _ (.inl hstate))).congr ?_ ?_
      · rw [hwritten.zone_same]
        simp [Zone.afterSecond, hf]
      · rw [hwritten.zone_same, Zone.afterSecond_ne_self_iff]
        simp [Zone.afterSecond, hf]
    · rw [if_neg hf]
      refine hwritten.congr (by simp [Zone.afterSecond, hf]) ?_
      rw [Zone.afterSecond_ne_self_iff]
      simp [Zone.afterSecond, hf]
  obtain ⟨b, hb, hzone⟩ := hfade
  refine ⟨b, hzone, ?_⟩
  unfold State.zoneSecond
  dsimp only
  rw [← ha, ← hb, hzone.zone_same]

/-! ### The zones in ascending order (R28) -/

/-- What the second-boundary work has made of the zones listed, from `s` to `t`: their records, the triggers of their changes, and the notices of
those whose ramp or fade has ended, in the order of the list. -/
structure State.MovedAtSecond (s t : State) (zones : List ZoneId) : Prop where
  framed : ∃ zs e p n, t = { s with zones := zs, engine := e, arbiter := { s.arbiter with passSinceHead := p }, notices := n }
  moved : ∀ z ∈ zones, t.zone z = (s.zone z).afterSecond
  untouched : ∀ z, z ∉ zones → t.zone z = s.zone z
  raised : s.Raised t (∃ z, t.zone z ≠ s.zone z)
  posted : t.notices = (zones.filter fun z => decide (s.zone z).endsAtSecond).foldl (fun q z => q.post (t.zoneNotice z)) s.notices

namespace State.MovedAtSecond

variable {s t : State} {zones : List ZoneId}

theorem mode_eq (h : s.MovedAtSecond t zones) : t.mode = s.mode := by
  obtain ⟨_, _, _, _, rfl⟩ := h.framed
  rfl

theorem refl (s : State) : s.MovedAtSecond s [] where
  framed := ⟨s.zones, s.engine, s.arbiter.passSinceHead, s.notices, rfl⟩
  moved _ h := nomatch h
  untouched _ _ := rfl
  raised := (Raised.of_engine_eq rfl).congr rfl (by simp)
  posted := rfl

theorem foldl_post_congr {f g : ZoneId → Notice} {l : List ZoneId} (h : ∀ z ∈ l, f z = g z) (q : NoticeQueue) :
    l.foldl (fun q z => q.post (f z)) q = l.foldl (fun q z => q.post (g z)) q := by
  induction l generalizing q with
  | nil => rfl
  | cons z l ih =>
    obtain ⟨hz, hl⟩ := List.forall_mem_cons.1 h
    rw [List.foldl_cons, List.foldl_cons, hz, ih hl]

/-- A zone not yet moved moves after the others, from the record it had at first. -/
theorem snoc (h : s.MovedAtSecond t zones) (hmode : s.mode ≠ .boot) {z : ZoneId} (hz : z ∉ zones) :
    s.MovedAtSecond (t.zoneSecond z) (zones ++ [z]) := by
  obtain ⟨a, hwritten, heq⟩ := State.zoneSecond_eq (h.mode_eq ▸ hmode) z
  rw [h.untouched z hz] at hwritten heq
  have hpost : ∃ n, t.zoneSecond z = { a with notices := n } := by
    rw [heq]
    split
    · exact ⟨_, rfl⟩
    · exact ⟨_, rfl⟩
  have hzone (w : ZoneId) : (t.zoneSecond z).zone w = a.zone w := by
    obtain ⟨n, hn⟩ := hpost
    rw [hn]
    rfl
  have hself : a.zone z = (s.zone z).afterSecond := hwritten.zone_same
  have hother (w : ZoneId) (hw : w ≠ z) : a.zone w = t.zone w := hwritten.zone_ne hw
  refine { framed := ?_, moved := ?_, untouched := ?_, raised := ?_, posted := ?_ }
  · obtain ⟨_, _, _, _, rfl⟩ := h.framed
    obtain ⟨_, _, rfl⟩ := hwritten.written
    obtain ⟨n, hn⟩ := hpost
    exact ⟨_, _, _, n, hn⟩
  · intro w hw
    rw [hzone]
    by_cases hwz : w = z
    · rw [hwz, hself]
    · rw [hother w hwz]
      exact h.moved w (by simpa [hwz] using hw)
  · intro w hw
    obtain ⟨hwzones, hwz⟩ : w ∉ zones ∧ w ≠ z := by simpa using hw
    rw [hzone, hother w hwz, h.untouched w hwzones]
  · refine (h.raised.trans hwritten.raised).congr (by obtain ⟨n, hn⟩ := hpost; rw [hn]) ⟨?_, ?_⟩
    · rintro (⟨w, hw⟩ | hnew)
      · have hwz : w ≠ z := by
          rintro rfl
          exact hw (h.untouched w hz)
        exact ⟨w, by rwa [hzone, hother w hwz]⟩
      · exact ⟨z, by rwa [hzone, hself]⟩
    · rintro ⟨w, hw⟩
      rw [hzone] at hw
      by_cases hwz : w = z
      · exact .inr (by rwa [hwz, hself] at hw)
      · exact .inl ⟨w, by rwa [hother w hwz] at hw⟩
  · have hbefore : a.notices =
        (zones.filter fun z => decide (s.zone z).endsAtSecond).foldl (fun q w => q.post ((t.zoneSecond z).zoneNotice w)) s.notices := by
      rw [hwritten.notices_eq, h.posted]
      refine foldl_post_congr (fun w hw => ?_) _
      have hwz : w ≠ z := fun e => hz (e ▸ (List.mem_filter.1 hw).1)
      rw [State.zoneNotice_congr ((hzone w).trans (hother w hwz))]
    rw [List.filter_append, List.foldl_append, ← hbefore]
    by_cases hends : (s.zone z).endsAtSecond
    · rw [List.filter_singleton, decide_eq_true hends, cond_true, List.foldl_cons, List.foldl_nil, State.zoneNotice_congr (hzone z), heq, if_pos hends]
      rfl
    · rw [List.filter_singleton, decide_eq_false hends, cond_false, List.foldl_nil, heq, if_neg hends]

theorem of_foldl (hmode : s.mode ≠ .boot) (hnodup : zones.Nodup) : s.MovedAtSecond (zones.foldl State.zoneSecond s) zones := by
  induction zones using List.reverseRecOn with
  | nil => exact refl s
  | append_singleton zones z ih =>
    obtain ⟨hinit, -, hne⟩ := List.nodup_append.1 hnodup
    rw [List.foldl_concat]
    exact (ih hinit).snoc hmode fun hz => hne z hz z (List.mem_singleton_self z) rfl

theorem of_zonesAtSecond (hmode : s.mode ≠ .boot) : s.MovedAtSecond s.zonesAtSecond allZones :=
  of_foldl hmode (List.nodup_finRange 4)

end State.MovedAtSecond

/-! ### What R28 says of a record whose fade offset goes with its state -/

theorem Zone.afterSecond_of_fadeSound {x : Zone} (h : x.FadeSound) : x.afterSecond =
    { x with
      effective := if x.licence < x.effective then max x.licence (x.effective - x.rampRate) else x.effective
      fade := if x.state = .fading then min 600 (x.fade + x.rampRate) else x.fade
      state := if x.state = .fading ∧ 600 ≤ x.fade + x.rampRate then .silenced else x.state } := by
  have heffective : (if x.licence < x.effective then limitedStep x.effective x.licence 0 x.rampRate else x.effective) =
      if x.licence < x.effective then max x.licence (x.effective - x.rampRate) else x.effective := by
    split
    next hlt => exact limitedStep_of_gt hlt _ _
    next => rfl
  unfold Zone.afterSecond
  rw [heffective]
  by_cases hf : x.state = .fading
  · rw [limitedStep_of_lt (h.2.1 hf)]
    have hiff : min 600 (x.fade + x.rampRate) = 600 ↔ 600 ≤ x.fade + x.rampRate := by omega
    simp only [hf, true_and, hiff]
  · simp only [hf, false_and, if_false]

theorem Zone.endsAtSecond_of_fadeSound {x : Zone} (h : x.FadeSound) : decide x.endsAtSecond =
    (decide (x.licence < x.effective ∧ x.effective - x.rampRate ≤ x.licence) || decide (x.state = .fading ∧ 600 ≤ x.fade + x.rampRate)) := by
  rw [← Bool.decide_or, decide_eq_decide, Zone.endsAtSecond, Zone.afterSecond_of_fadeSound h]
  refine or_congr (and_congr_right fun hlt => ?_) ?_
  · simp only [if_pos hlt]
    exact max_eq_left_iff
  · by_cases hf : x.state = .fading
    · simp [hf]
    · simp [hf]

/-! ### The time that passes, and the poll cycle -/

/-- The state at the next second boundary before the zones and the cycle: the time of day, and every timer of R15 (R14). -/
def State.atSecond (s : State) : State := { s.elapse (1000 - s.clock.ms) with clock := s.clock.nextSecond }

theorem exec_secondBoundary_of_held {s : State} (h : s.loader = .held) : exec .secondBoundary s = .next s :=
  congrArg Host.Outcome.next (if_pos h)

theorem exec_secondBoundary_below_59 {s : State} (h : s.loader ≠ .held) (hsecond : s.clock.second < 59) :
    exec .secondBoundary s = .next s.atSecond.secondWork := by
  show Host.Outcome.next s.secondBoundary = _
  unfold State.secondBoundary
  rw [if_neg h]
  dsimp only
  rw [if_pos hsecond]
  rfl

theorem Clock.nextSecond_below_59 {c : Clock} (h : c.second < 59) : c.nextSecond = { c with ms := 0, second := c.second + 1 } := if_pos h

theorem State.pollAtSecond_eq (s : State) : s.pollAtSecond = { s with poller := s.pollAtSecond.poller } := by
  unfold State.pollAtSecond
  split
  · exact State.pollFrom_eq ..
  · rfl

theorem State.zones_ext {s t : State} (h : ∀ z, t.zone z = s.zone z) : t.zones = s.zones :=
  Vector.ext fun k hk => by simpa [State.zone, Vector.get_eq_getElem] using h ⟨k, hk⟩

theorem State.AnyTrigger.not_idle {s t : State} (h : s.AnyTrigger t) : t.engine.activity ≠ .idle := by
  unfold State.AnyTrigger at h
  split at h
  next hidle =>
    intro ht
    rw [ht] at h
    cases h
  next hbusy => rw [h]; exact hbusy

/-- Settles O19: the zones' work moves each zone from the record it had, and the poll cycle comes after it. -/
theorem secondBoundaryMovesTimeZonesAndPoll : Obligations.SecondBoundaryMovesTimeZonesAndPoll := by
  intro s
  refine ⟨exec_secondBoundary_of_held, fun hheld hsecond => ⟨_, exec_secondBoundary_below_59 hheld hsecond, ?_⟩⟩
  have hclock : s.atSecond.clock = { s.clock with ms := 0, second := s.clock.second + 1 } := Clock.nextSecond_below_59 hsecond
  by_cases hboot : s.mode = .boot
  · have hwork : s.atSecond.secondWork = s.atSecond := if_pos hboot
    rw [hwork]
    refine ⟨?_, fun _ => ⟨rfl, rfl, rfl⟩, fun h => absurd hboot h⟩
    rw [← hclock]
    rfl
  have hwork : s.atSecond.secondWork = s.atSecond.zonesAtSecond.pollAtSecond := if_neg hboot
  have hmoved := State.MovedAtSecond.of_zonesAtSecond (s := s.atSecond) hboot
  generalize s.atSecond.zonesAtSecond = u at hwork hmoved
  rw [hwork]
  have hframe := hmoved.framed
  have hpoll := State.pollAtSecond_eq u
  have huclock : u.clock = { s.clock with ms := 0, second := s.clock.second + 1 } := by
    obtain ⟨_, _, _, _, rfl⟩ := hframe
    exact hclock
  have hzone (z : ZoneId) : u.pollAtSecond.zone z = u.zone z := by rw [hpoll]; rfl
  have hengine : u.pollAtSecond.engine = u.engine := by rw [hpoll]
  have hmove (z : ZoneId) : u.zone z = (s.zone z).afterSecond := hmoved.moved z (List.mem_finRange z)
  refine ⟨?_, fun h => absurd h hboot, fun _ => ⟨fun z hfade => ?_, fun hfade => ?_, fun hzones => ?_, fun hzones => ?_, fun hodd => ?_, fun heven => ?_⟩⟩
  · rw [← hclock]
    obtain ⟨_, _, _, _, rfl⟩ := hframe
    rw [hpoll]
    rfl
  · rw [hzone, hmove, Zone.afterSecond_of_fadeSound hfade]
  · have hends : (fun z => decide (s.zone z).endsAtSecond) = _ := funext fun z => Zone.endsAtSecond_of_fadeSound (hfade z)
    have hposted := hmoved.posted
    have hnotices : u.pollAtSecond.notices = u.notices := by rw [hpoll]
    rw [hnotices, hposted]
    show ((allZones.filter fun z => decide (s.zone z).endsAtSecond).foldl _ s.notices) = _
    rw [hends]
    exact State.MovedAtSecond.foldl_post_congr (fun z _ => (State.zoneNotice_congr (hzone z)).symm) _
  · rw [hengine]
    refine hmoved.raised.2 (not_exists.2 fun z hz => hz ?_)
    show u.zone z = s.zone z
    rw [← hzone, State.zone, hzones]
    rfl
  · have hany : s.atSecond.AnyTrigger u := hmoved.raised.1 (by
      by_contra hno
      refine hzones (State.zones_ext fun z => ?_)
      rw [hzone]
      exact not_not.1 fun hz => hno ⟨z, hz⟩)
    rw [hengine]
    refine ⟨hany.not_idle, fun hbusy => ?_⟩
    unfold State.AnyTrigger at hany
    rwa [if_neg (show s.atSecond.engine.activity ≠ .idle from hbusy)] at hany
  · have hno : u.pollAtSecond = u := if_neg (by rw [huclock]; simp only; omega)
    rw [hno]
    obtain ⟨_, _, _, _, rfl⟩ := hframe
    rfl
  · have hyes : u.pollAtSecond = u.startCycle := if_pos (by rw [huclock]; exact heven)
    have hreceptor (r : ReceptorId) : u.receptor r = s.receptor r := by
      obtain ⟨_, _, _, _, rfl⟩ := hframe
      rfl
    rw [hyes, State.startCycle, huclock]
    refine ⟨State.pollFrom_receiver .., fun hnone => ?_, fun r x hx hfirst => ?_⟩
    · exact State.pollFrom_of_none (fun r _ => (hreceptor r).trans (hnone r)) _
    · exact State.pollFrom_of_first (Nat.zero_le _) ((hreceptor r).trans hx) (fun k _ hk => (hreceptor k).trans (hfirst k hk)) _

end Sys2Proof.Machine
end

section
/-! SUPPORT. The slots, and the queue, phase and timer of the arbiter, after each shared operation of the stage table and the arbiter (chapters 5, 8). -/

namespace Sys2Proof.Machine

/-! ### Copies, triggers and reports -/

@[simp] theorem State.send_slot (s : State) (c : Copy) (i : SlotId) : (s.send c).slot i = s.slot i := by rw [State.send_eq]; rfl
@[simp] theorem State.send_arbiter (s : State) (c : Copy) : (s.send c).arbiter = s.arbiter := by rw [State.send_eq]
@[simp] theorem State.post_arbiter' (s : State) (n : Notice) : (s.post n).arbiter = s.arbiter := rfl

@[simp] theorem State.slot_of_trigger (s : State) (i : SlotId) : s.trigger.slot i = s.slot i := s.trigger_slot i
@[simp] theorem State.trigger_queue (s : State) : s.trigger.arbiter.queue = s.arbiter.queue := by rw [State.trigger_eq]
@[simp] theorem State.trigger_phase (s : State) : s.trigger.arbiter.phase = s.arbiter.phase := by rw [State.trigger_eq]
@[simp] theorem State.trigger_timer (s : State) : s.trigger.arbiter.timer = s.arbiter.timer := by rw [State.trigger_eq]

@[simp] theorem State.triggerIf_slot (s : State) (c : Bool) (i : SlotId) : (s.triggerIf c).slot i = s.slot i := by rw [State.triggerIf_eq]; rfl
@[simp] theorem State.triggerIf_queue (s : State) (c : Bool) : (s.triggerIf c).arbiter.queue = s.arbiter.queue := by rw [State.triggerIf_eq]
@[simp] theorem State.triggerIf_phase (s : State) (c : Bool) : (s.triggerIf c).arbiter.phase = s.arbiter.phase := by rw [State.triggerIf_eq]
@[simp] theorem State.triggerIf_timer (s : State) (c : Bool) : (s.triggerIf c).arbiter.timer = s.arbiter.timer := by rw [State.triggerIf_eq]

section reportClamp
variable (s : State) (i j : SlotId) (f : Slot → Slot) (before : Slot) (event : ClampEvent) (report : Option (Level × Nat × Level))

@[simp] theorem State.reportClamp_slot : (s.reportClamp i before event report).slot j = s.slot j := by rw [State.reportClamp_eq]; rfl
@[simp] theorem State.reportClamp_arbiter : (s.reportClamp i before event report).arbiter = s.arbiter := by rw [State.reportClamp_eq]
@[simp] theorem State.updClamped_arbiter : (s.updClamped i f event report).arbiter = s.arbiter := by rw [State.updClamped_eq]

end reportClamp

@[simp] theorem State.postStageState_slot (s : State) (i j : SlotId) : (s.postStageState i).slot j = s.slot j := rfl
@[simp] theorem State.postStageState_arbiter (s : State) (i : SlotId) : (s.postStageState i).arbiter = s.arbiter := rfl
@[simp] theorem State.postAdmission_slot (s : State) (i j : SlotId) (m : Option Manner) : (s.postAdmission i m).slot j = s.slot j := rfl
@[simp] theorem State.postAdmission_arbiter (s : State) (i : SlotId) (m : Option Manner) : (s.postAdmission i m).arbiter = s.arbiter := rfl

@[simp] theorem State.setQueue_arbiter (s : State) (q : List SlotId) : (s.setQueue q).arbiter = { s.arbiter with queue := q } := rfl
@[simp] theorem State.setPhase_arbiter (s : State) (p : Option Phase) : (s.setPhase p).arbiter = { s.arbiter with phase := p } := rfl
@[simp] theorem State.stopTimer_arbiter (s : State) : s.stopTimer.arbiter = { s.arbiter with timer := none } := rfl

theorem State.slot_updSlot (s : State) (i j : SlotId) (f : Slot → Slot) : (s.updSlot i f).slot j = if j = i then f (s.slot i) else s.slot j := by
  split
  · subst_vars; simp
  · simp [*]

/-! ### One operation on each slot of a list -/

/-- An operation that changes its own slot alone, done for each slot of a list, changes each of them by itself. -/
theorem slot_foldl {op : State → SlotId → State} {f : Slot → Slot}
    (h : ∀ s i j, (op s i).slot j = if j = i then f (s.slot i) else s.slot j) {l : List SlotId} (hl : l.Nodup) (s : State) (j : SlotId) :
    (l.foldl op s).slot j = if j ∈ l then f (s.slot j) else s.slot j := by
  induction l generalizing s with
  | nil => simp
  | cons i l ih =>
    obtain ⟨hi, hl⟩ := List.nodup_cons.1 hl
    rw [List.foldl_cons, ih hl, h]
    by_cases hj : j = i
    · subst hj; simp [hi]
    · simp [hj]

/-- What an operation leaves as it was, the operation done for each member of a list leaves as it was. -/
theorem foldl_keeps {α β : Type} {op : State → α → State} {g : State → β} (h : ∀ s a, g (op s a) = g s) (l : List α) (s : State) :
    g (l.foldl op s) = g s := by
  induction l generalizing s with
  | nil => rfl
  | cons a l ih => rw [List.foldl_cons, ih, h]

/-! ### The stage table -/

theorem State.bindSlot_slot (s : State) (i j : SlotId) (p : Port) (id : Identity) :
    (s.bindSlot i p id).slot j = if j = i then (s.slot i).bound p id else s.slot j := by
  simp [State.bindSlot, State.slot_updSlot]

theorem State.unbindSlot_slot (s : State) (i j : SlotId) : (s.unbindSlot i).slot j = if j = i then (s.slot i).unbound else s.slot j := by
  simp [State.unbindSlot, State.slot_updSlot]

theorem State.deletePathsOf_slot (s : State) (i j : SlotId) : (s.deletePathsOf i).slot j = s.slot j := by
  simp only [State.deletePathsOf, State.slot]
@[simp] theorem State.deletePathsOf_arbiter (s : State) (i : SlotId) : (s.deletePathsOf i).arbiter = s.arbiter := by
  simp only [State.deletePathsOf]

theorem State.emptySlot_slot (s : State) (i j : SlotId) : (s.emptySlot i).slot j = if j = i then (s.slot i).emptied else s.slot j := by
  simp [State.emptySlot, State.slot_updSlot, State.deletePathsOf_slot]

@[simp] theorem State.bindSlot_arbiter (s : State) (i : SlotId) (p : Port) (id : Identity) : (s.bindSlot i p id).arbiter = s.arbiter :=
  State.reportClamp_arbiter _ i (s.slot i) .bind none
@[simp] theorem State.unbindSlot_arbiter (s : State) (i : SlotId) : (s.unbindSlot i).arbiter = s.arbiter :=
  State.reportClamp_arbiter _ i (s.slot i) .unbind none
@[simp] theorem State.emptySlot_queue (s : State) (i : SlotId) : (s.emptySlot i).arbiter.queue = s.arbiter.queue := by rw [State.emptySlot_eq]
@[simp] theorem State.emptySlot_phase (s : State) (i : SlotId) : (s.emptySlot i).arbiter.phase = s.arbiter.phase := by rw [State.emptySlot_eq]
@[simp] theorem State.emptySlot_timer (s : State) (i : SlotId) : (s.emptySlot i).arbiter.timer = s.arbiter.timer := by rw [State.emptySlot_eq]

/-- The record of a slot that has become stale (R94). -/
def Slot.staled (x : Slot) : Slot := { x with stale := true, causes := { x.causes with hasStale := true } }

theorem State.becomeStale_slot (s : State) (i j : SlotId) : (s.becomeStale i).slot j = if j = i then (s.slot i).staled else s.slot j := by
  simp [State.becomeStale, State.updClamped, State.slot_updSlot, Slot.staled]

@[simp] theorem State.becomeStale_arbiter (s : State) (i : SlotId) : (s.becomeStale i).arbiter = s.arbiter := by simp [State.becomeStale]

/-! ### The head of the queue -/

theorem State.becomeHead_slot (s : State) (i j : SlotId) :
    (s.becomeHead i).slot j = if j = i then { s.slot i with state := .entering } else s.slot j := by
  simp only [State.becomeHead, State.postAdmission_slot, State.postStageState_slot, State.slot_of_trigger]
  show (s.updSlot i fun x => { x with state := .entering }).slot j = _
  exact State.slot_updSlot s i j _

@[simp] theorem State.becomeHead_queue (s : State) (i : SlotId) : (s.becomeHead i).arbiter.queue = s.arbiter.queue := by simp [State.becomeHead]
@[simp] theorem State.becomeHead_phase (s : State) (i : SlotId) : (s.becomeHead i).arbiter.phase = some .counting := by simp [State.becomeHead]
@[simp] theorem State.becomeHead_timer (s : State) (i : SlotId) : (s.becomeHead i).arbiter.timer = s.arbiter.timer := by simp [State.becomeHead]

theorem State.promote_slot (s : State) (j : SlotId) :
    s.promote.slot j = if s.arbiter.queue.head? = some j then { s.slot j with state := .entering } else s.slot j := by
  unfold State.promote
  split
  next h => simp [h]
  next i _ h =>
    rw [State.becomeHead_slot, h, List.head?_cons]
    by_cases hj : j = i
    · simp [hj]
    · simp [hj, Ne.symm hj]

@[simp] theorem State.promote_queue (s : State) : s.promote.arbiter.queue = s.arbiter.queue := by
  unfold State.promote
  split <;> simp_all

theorem State.promote_phase (s : State) : s.promote.arbiter.phase = if s.arbiter.queue = [] then none else some .counting := by
  unfold State.promote
  split <;> simp_all

@[simp] theorem State.promote_timer (s : State) : s.promote.arbiter.timer = s.arbiter.timer := by
  unfold State.promote
  split <;> simp

/-! ### A grant (R134) -/

/-- Step 1 of a grant for one record: a debt still SET becomes the HANDOVER cause. -/
def Slot.settled (x : Slot) : Slot := if x.debt then { x with debt := false, causes := { x.causes with hasHandover := true } } else x

/-- The record of the head once granted. -/
def Slot.granted (x : Slot) : Slot := { x with state := .live, outcome := .granted, prospective := none }

theorem State.settleDebtor_slot (s : State) (i j : SlotId) : (s.settleDebtor i).slot j = if j = i then (s.slot i).settled else s.slot j := by
  unfold State.settleDebtor Slot.settled
  split
  · simp [State.updClamped, State.slot_updSlot]
  · by_cases hj : j = i
    · subst hj; simp
    · simp [hj]

@[simp] theorem State.settleDebtor_arbiter (s : State) (i : SlotId) : (s.settleDebtor i).arbiter = s.arbiter := by
  unfold State.settleDebtor
  split <;> simp

theorem State.settleDebtors_slot (s : State) (j : SlotId) : (allSlots.foldl State.settleDebtor s).slot j = (s.slot j).settled := by
  rw [slot_foldl State.settleDebtor_slot (List.nodup_finRange 8)]
  simp

section grant
variable {s : State} {h : SlotId} {rest : List SlotId} (hqueue : s.arbiter.queue = h :: rest) (m : Manner)
include hqueue

theorem State.grant_slot (j : SlotId) :
    (s.grant m).slot j =
      let x := if j = h then (s.slot j).settled.granted else (s.slot j).settled
      if rest.head? = some j then { x with state := .entering } else x := by
  simp only [State.grant, hqueue, State.promote_slot, State.trigger_queue, State.postStageState_arbiter, State.postAdmission_arbiter, State.updSlot_arbiter,
    State.setQueue_arbiter, State.slot_of_trigger, State.postStageState_slot, State.postAdmission_slot, State.slot_updSlot, State.setQueue_slot,
    State.stopTimer_slot, State.settleDebtors_slot, Slot.granted]
  by_cases hj : j = h <;> simp [hj]

@[simp] theorem State.grant_queue : (s.grant m).arbiter.queue = rest := by simp [State.grant, hqueue]
theorem State.grant_phase : (s.grant m).arbiter.phase = if rest = [] then none else some .counting := by
  simp [State.grant, hqueue, State.promote_phase]
@[simp] theorem State.grant_timer : (s.grant m).arbiter.timer = none := by simp [State.grant, hqueue]

end grant

/-! ### Withdrawals (R135 to R138) -/

theorem State.withdrawWaiting_slot (s : State) (i j : SlotId) (o : Admission) :
    (s.withdrawWaiting i o).slot j = if j = i then { s.slot i with state := .quiet, outcome := o } else s.slot j := by
  simp [State.withdrawWaiting, State.slot_updSlot]

@[simp] theorem State.withdrawWaiting_arbiter (s : State) (i : SlotId) (o : Admission) :
    (s.withdrawWaiting i o).arbiter = { s.arbiter with queue := s.arbiter.queue.erase i } := by simp [State.withdrawWaiting]

theorem State.withdrawHead_slot (s : State) (i j : SlotId) (o : Admission) :
    (s.withdrawHead i o).slot j =
      let x := if j = i then { s.slot i with state := .quiet, prospective := none, outcome := o, debt := false } else { s.slot j with debt := false }
      if (s.arbiter.queue.erase i).head? = some j then { x with state := .entering } else x := by
  simp only [State.withdrawHead, State.promote_slot, State.trigger_queue, State.postStageState_arbiter, State.postAdmission_arbiter,
    State.updSlot_arbiter, State.setQueue_arbiter, State.slot_of_trigger, State.postStageState_slot, State.postAdmission_slot, State.slot_updSlot,
    State.setQueue_slot, State.slot_clearDebts, State.stopTimer_slot]

@[simp] theorem State.withdrawHead_queue (s : State) (i : SlotId) (o : Admission) : (s.withdrawHead i o).arbiter.queue = s.arbiter.queue.erase i := by
  simp [State.withdrawHead]
theorem State.withdrawHead_phase (s : State) (i : SlotId) (o : Admission) :
    (s.withdrawHead i o).arbiter.phase = if s.arbiter.queue.erase i = [] then none else some .counting := by
  simp [State.withdrawHead, State.promote_phase]
@[simp] theorem State.withdrawHead_timer (s : State) (i : SlotId) (o : Admission) : (s.withdrawHead i o).arbiter.timer = none := by
  simp [State.withdrawHead]

/-- The record of a slot that has left LIVE (R135, R138). -/
def Slot.leftLive (x : Slot) (forced : Bool) : Slot :=
  { x with
    state := .quiet
    debt := false
    causes := { x.causes with hasHandover := false }
    outcome := if forced then .forcedQuiet else x.outcome }

/-- The state in which a leaver has left LIVE with its own trigger and notices, before R132. -/
def State.leftLive (s : State) (i : SlotId) (forced : Bool) : State :=
  let b := (s.updClamped i (·.leftLive forced) .leaveLive none).trigger.postStageState i
  if forced then b.postAdmission i none else b

theorem State.leaveLive_eq (s : State) (i : SlotId) (forced : Bool) :
    s.leaveLive i forced = if (s.slot i).debt then (s.leftLive i forced).debtCleared else s.leftLive i forced := rfl

theorem State.leftLive_slot (s : State) (i j : SlotId) (forced : Bool) :
    (s.leftLive i forced).slot j = if j = i then (s.slot i).leftLive forced else s.slot j := by
  cases forced <;> simp [State.leftLive, State.updClamped, State.slot_updSlot]

@[simp] theorem State.leftLive_queue (s : State) (i : SlotId) (forced : Bool) : (s.leftLive i forced).arbiter.queue = s.arbiter.queue := by
  cases forced <;> simp [State.leftLive]
@[simp] theorem State.leftLive_phase (s : State) (i : SlotId) (forced : Bool) : (s.leftLive i forced).arbiter.phase = s.arbiter.phase := by
  cases forced <;> simp [State.leftLive]
@[simp] theorem State.leftLive_timer (s : State) (i : SlotId) (forced : Bool) : (s.leftLive i forced).arbiter.timer = s.arbiter.timer := by
  cases forced <;> simp [State.leftLive]

/-! ### A removal at curfew (R139) -/

/-- The record of a member of the queue refused at curfew. -/
def Slot.refusedCurfew (x : Slot) : Slot := { x with state := .quiet, prospective := none, outcome := .refusedCurfew }

theorem State.refuseCurfew_slot (s : State) (i j : SlotId) : (s.refuseCurfew i).slot j = if j = i then (s.slot i).refusedCurfew else s.slot j := by
  simp [State.refuseCurfew, State.slot_updSlot, Slot.refusedCurfew]

@[simp] theorem State.refuseCurfew_arbiter (s : State) (i : SlotId) : (s.refuseCurfew i).arbiter = s.arbiter := by simp [State.refuseCurfew]

theorem State.refuseAll_arbiter (s : State) (l : List SlotId) : (l.foldl State.refuseCurfew s).arbiter = s.arbiter :=
  foldl_keeps (g := State.arbiter) State.refuseCurfew_arbiter l s

/-- The head of the queue is one of those removed. -/
def State.headGone (s : State) (removed : SlotId → Bool) : Bool := s.arbiter.queue.head?.any removed

theorem State.removeAtCurfew_eq (s : State) (removed : SlotId → Bool) :
    s.removeAtCurfew removed =
      let a := s.setQueue (s.arbiter.queue.filter fun i => !removed i)
      let c := (s.arbiter.queue.filter removed).foldl State.refuseCurfew (if s.headGone removed then a.stopTimer.clearDebts else a)
      if s.headGone removed then c.trigger.promote else c := by
  unfold State.removeAtCurfew State.headGone
  cases s.arbiter.queue <;> rfl

section removeAtCurfew
variable {s : State} {removed : SlotId → Bool}

theorem State.removeAtCurfew_slot_of_stays (hnodup : s.arbiter.queue.Nodup) (h : s.headGone removed = false) (j : SlotId) :
    (s.removeAtCurfew removed).slot j = if j ∈ s.arbiter.queue ∧ removed j = true then (s.slot j).refusedCurfew else s.slot j := by
  simp only [State.removeAtCurfew_eq, h, Bool.false_eq_true, if_false]
  rw [slot_foldl State.refuseCurfew_slot (hnodup.filter _)]
  simp

theorem State.removeAtCurfew_arbiter_of_stays (h : s.headGone removed = false) :
    (s.removeAtCurfew removed).arbiter = { s.arbiter with queue := s.arbiter.queue.filter fun i => !removed i } := by
  simp [State.removeAtCurfew_eq, h, State.refuseAll_arbiter]

theorem State.removeAtCurfew_slot_of_gone (hnodup : s.arbiter.queue.Nodup) (h : s.headGone removed = true) (j : SlotId) :
    (s.removeAtCurfew removed).slot j =
      let x := { s.slot j with debt := false }
      let y := if j ∈ s.arbiter.queue ∧ removed j = true then x.refusedCurfew else x
      if (s.arbiter.queue.filter fun i => !removed i).head? = some j then { y with state := .entering } else y := by
  simp only [State.removeAtCurfew_eq, h, if_true, State.promote_slot, State.trigger_queue, State.slot_of_trigger, State.refuseAll_arbiter]
  rw [slot_foldl State.refuseCurfew_slot (hnodup.filter _)]
  simp

@[simp] theorem State.removeAtCurfew_queue (s : State) (removed : SlotId → Bool) :
    (s.removeAtCurfew removed).arbiter.queue = s.arbiter.queue.filter fun i => !removed i := by
  cases h : s.headGone removed <;> simp [State.removeAtCurfew_eq, h, State.refuseAll_arbiter]

theorem State.removeAtCurfew_phase_of_gone (h : s.headGone removed = true) :
    (s.removeAtCurfew removed).arbiter.phase = if (s.arbiter.queue.filter fun i => !removed i) = [] then none else some .counting := by
  simp [State.removeAtCurfew_eq, h, State.promote_phase, State.refuseAll_arbiter]

theorem State.removeAtCurfew_timer_of_gone (h : s.headGone removed = true) : (s.removeAtCurfew removed).arbiter.timer = none := by
  simp [State.removeAtCurfew_eq, h, State.refuseAll_arbiter]

end removeAtCurfew

/-! ### Joining the queue (R130) -/

theorem State.joinQueue_slot (s : State) (i j : SlotId) :
    (s.joinQueue i).slot j =
      if j = i then { s.slot i with outcome := .none, state := if s.arbiter.queue = [] then .entering else .waiting } else s.slot j := by
  unfold State.joinQueue
  dsimp only
  split
  · rename_i h
    rw [State.becomeHead_slot]
    by_cases hj : j = i <;> simp_all
  · rename_i h
    simp only [State.postAdmission_slot, State.postStageState_slot, State.slot_updSlot, State.setQueue_slot]
    by_cases hj : j = i <;> simp_all

@[simp] theorem State.joinQueue_queue (s : State) (i : SlotId) : (s.joinQueue i).arbiter.queue = s.arbiter.queue ++ [i] := by
  unfold State.joinQueue
  dsimp only
  split <;> simp

theorem State.joinQueue_phase (s : State) (i : SlotId) :
    (s.joinQueue i).arbiter.phase = if s.arbiter.queue = [] then some .counting else s.arbiter.phase := by
  unfold State.joinQueue
  dsimp only
  split <;> simp_all

@[simp] theorem State.joinQueue_timer (s : State) (i : SlotId) : (s.joinQueue i).arbiter.timer = s.arbiter.timer := by
  unfold State.joinQueue
  dsimp only
  split <;> simp

/-! ### The report of a pass (R131) -/

/-- The record of a slot of the fallen set (R131). -/
def Slot.indebted (x : Slot) : Slot := if x.state = .live then { x with debt := true } else x

theorem Slot.indebted_indebted (x : Slot) : x.indebted.indebted = x.indebted := by
  unfold Slot.indebted
  split <;> simp_all

theorem State.setDebt_slot (s : State) (i j : SlotId) : (s.setDebt i).slot j = if j = i then (s.slot i).indebted else s.slot j := by
  unfold State.setDebt Slot.indebted
  split
  · simp [State.slot_updSlot]
  · by_cases hj : j = i <;> simp [hj]

@[simp] theorem State.setDebt_arbiter (s : State) (i : SlotId) : (s.setDebt i).arbiter = s.arbiter := by
  unfold State.setDebt
  split <;> rfl

theorem State.setDebts_slot (s : State) (l : List SlotId) (j : SlotId) :
    (l.foldl State.setDebt s).slot j = if j ∈ l then (s.slot j).indebted else s.slot j := by
  induction l generalizing s with
  | nil => simp
  | cons i l ih =>
    rw [List.foldl_cons, ih, State.setDebt_slot]
    by_cases hj : j = i
    · subst hj; simp [Slot.indebted_indebted]
    · simp [hj]

theorem State.setDebts_arbiter (s : State) (l : List SlotId) : (l.foldl State.setDebt s).arbiter = s.arbiter :=
  foldl_keeps (g := State.arbiter) State.setDebt_arbiter l s

end Sys2Proof.Machine
end

section
/-! SUPPORT. The operations that leave aside what admission rests on: the bindings and states of the slots, the queue and the handover, the path table, the zones
of the receptors, the states and breakpoints of the zones, the mode and the table engine. -/

namespace Sys2Proof.Machine

/-- The zone of a receptor that has a record. -/
def State.home (s : State) (r : ReceptorId) : Option ZoneId := (s.receptor r).map (·.zone)

/-- A slot record stands as another did: bound as it was, in the same state, with no debt and no prospective ceiling that the other had not, an ENTERING
slot's prospective ceiling apart. -/
structure Slot.Stands (x y : Slot) : Prop where
  kind_eq : y.kind = x.kind
  identity_eq : y.identity = x.identity
  port_eq : y.port = x.port
  state_eq : y.state = x.state
  debt_eq : y.debt = x.debt
  prospective_of : y.prospective.isSome = true → x.prospective.isSome = true ∨ x.state = .entering

theorem Slot.Stands.refl (x : Slot) : x.Stands x := ⟨rfl, rfl, rfl, rfl, rfl, .inl⟩

theorem Slot.Stands.trans {x y z : Slot} (h : x.Stands y) (k : y.Stands z) : x.Stands z where
  kind_eq := k.kind_eq.trans h.kind_eq
  identity_eq := k.identity_eq.trans h.identity_eq
  port_eq := k.port_eq.trans h.port_eq
  state_eq := k.state_eq.trans h.state_eq
  debt_eq := k.debt_eq.trans h.debt_eq
  prospective_of hz := (k.prospective_of hz).elim h.prospective_of fun hs => .inr (h.state_eq ▸ hs)

/-- `t` differs from `s` in nothing that admission or the path table rests on. -/
structure State.Aside (s t : State) : Prop where
  slot_stands : ∀ i, (s.slot i).Stands (t.slot i)
  queue_eq : t.arbiter.queue = s.arbiter.queue
  phase_eq : t.arbiter.phase = s.arbiter.phase
  timer_eq : t.arbiter.timer.isSome = s.arbiter.timer.isSome
  mode_eq : t.mode = s.mode
  table_eq : t.table = s.table
  zoneState_eq : ∀ z, (t.zone z).state = (s.zone z).state
  breakpoints_eq : ∀ z, (t.zone z).breakpoints = (s.zone z).breakpoints
  path_eq : ∀ p, t.path p = s.path p
  home_eq : ∀ r, t.home r = s.home r

namespace State.Aside

variable {s t u : State}

theorem refl (s : State) : s.Aside s := by constructor <;> intros <;> first | rfl | exact Slot.Stands.refl _

theorem trans (h : s.Aside t) (k : t.Aside u) : s.Aside u where
  slot_stands i := (h.slot_stands i).trans (k.slot_stands i)
  queue_eq := k.queue_eq.trans h.queue_eq
  phase_eq := k.phase_eq.trans h.phase_eq
  timer_eq := k.timer_eq.trans h.timer_eq
  mode_eq := k.mode_eq.trans h.mode_eq
  table_eq := k.table_eq.trans h.table_eq
  zoneState_eq z := (k.zoneState_eq z).trans (h.zoneState_eq z)
  breakpoints_eq z := (k.breakpoints_eq z).trans (h.breakpoints_eq z)
  path_eq p := (k.path_eq p).trans (h.path_eq p)
  home_eq r := (k.home_eq r).trans (h.home_eq r)

theorem foldl {α : Type} {f : State → α → State} (h : ∀ (s : State) a, s.Aside (f s a)) (l : List α) (s : State) : s.Aside (l.foldl f s) := by
  induction l generalizing s with
  | nil => exact refl s
  | cons a l ih => exact (h s a).trans (ih (f s a))

theorem ite {c : Prop} [Decidable c] (h : c → s.Aside t) (k : ¬c → s.Aside u) : s.Aside (if c then t else u) := by
  split
  · exact h ‹_›
  · exact k ‹_›

/-- A state that has the records of another. -/
theorem of_records (hslots : t.slots = s.slots) (hqueue : t.arbiter.queue = s.arbiter.queue) (hphase : t.arbiter.phase = s.arbiter.phase)
    (htimer : t.arbiter.timer.isSome = s.arbiter.timer.isSome) (hmode : t.mode = s.mode) (htable : t.table = s.table) (hzones : t.zones = s.zones)
    (hpaths : t.paths = s.paths) (hreceptors : t.receptors = s.receptors) : s.Aside t where
  slot_stands i := by unfold State.slot; rw [hslots]; exact .refl _
  queue_eq := hqueue
  phase_eq := hphase
  timer_eq := htimer
  mode_eq := hmode
  table_eq := htable
  zoneState_eq z := by unfold State.zone; rw [hzones]
  breakpoints_eq z := by unfold State.zone; rw [hzones]
  path_eq p := by unfold State.path; rw [hpaths]
  home_eq r := by unfold State.home State.receptor; rw [hreceptors]

theorem of_post (s : State) (n : Notice) : s.Aside (s.post n) := of_records rfl rfl rfl rfl rfl rfl rfl rfl rfl
theorem of_send (s : State) (c : Copy) : s.Aside (s.send c) := by
  rw [State.send_eq]
  exact of_records rfl rfl rfl rfl rfl rfl rfl rfl rfl
theorem of_trigger (s : State) : s.Aside s.trigger := by
  rw [State.trigger_eq]
  exact of_records rfl rfl rfl rfl rfl rfl rfl rfl rfl
theorem of_triggerIf (s : State) (c : Bool) : s.Aside (s.triggerIf c) := ite (fun _ => of_trigger s) fun _ => refl s
theorem of_chooseNext (s : State) : s.Aside s.chooseNext := by
  rw [State.chooseNext_eq]
  exact of_records rfl rfl rfl rfl rfl rfl rfl rfl rfl
theorem of_setPoll (s : State) (p : Option Poll) : s.Aside (s.setPoll p) := of_records rfl rfl rfl rfl rfl rfl rfl rfl rfl
theorem of_hold (s : State) (p : Port) (r : Reply) : s.Aside (s.hold p r) := of_records rfl rfl rfl rfl rfl rfl rfl rfl rfl
theorem of_setLink (s : State) (p : Port) (l : Link) : s.Aside (s.setLink p l) := of_records rfl rfl rfl rfl rfl rfl rfl rfl rfl
theorem of_updExcRecord (s : State) (p : ExcPos) (f : ExcRecord → ExcRecord) : s.Aside (s.updExcRecord p f) :=
  of_records rfl rfl rfl rfl rfl rfl rfl rfl rfl

/-! ### Slots -/

/-- A slot whose record stands as it did. -/
theorem of_updSlot {i : SlotId} {f : Slot → Slot} (h : (s.slot i).Stands (f (s.slot i))) : s.Aside (s.updSlot i f) where
  slot_stands j := by
    rw [State.slot_updSlot]
    split
    · subst_vars; exact h
    · exact .refl _
  queue_eq := rfl
  phase_eq := rfl
  timer_eq := rfl
  mode_eq := rfl
  table_eq := rfl
  zoneState_eq _ := rfl
  breakpoints_eq _ := rfl
  path_eq _ := rfl
  home_eq _ := rfl

theorem of_reportClamp (s : State) (i : SlotId) (before : Slot) (event : ClampEvent) (report : Option (Level × Nat × Level)) :
    s.Aside (s.reportClamp i before event report) := by
  rw [State.reportClamp_eq]
  exact of_records rfl rfl rfl rfl rfl rfl rfl rfl rfl

theorem of_updClamped {i : SlotId} {f : Slot → Slot} (event : ClampEvent) (report : Option (Level × Nat × Level)) (h : (s.slot i).Stands (f (s.slot i))) :
    s.Aside (s.updClamped i f event report) := (of_updSlot h).trans (of_reportClamp ..)

theorem of_staleSlot (s : State) (i : SlotId) : s.Aside (s.staleSlot i) :=
  ite (fun _ => of_updClamped _ _ ⟨rfl, rfl, rfl, rfl, rfl, .inl⟩) fun _ => refl s

theorem of_staleAll (s : State) : s.Aside s.staleAll := foldl of_staleSlot _ s

theorem of_elapse (s : State) (n : Nat) (c : Clock) : s.Aside { s.elapse n with clock := c } where
  slot_stands i := by
    have h : ({ s.elapse n with clock := c } : State).slot i = (s.slot i).grow n := s.slot_updSlots (Slot.grow n) i
    rw [h]
    exact ⟨rfl, rfl, rfl, rfl, rfl, .inl⟩
  queue_eq := rfl
  phase_eq := rfl
  timer_eq := by rw [State.elapse_eq]; simp
  mode_eq := rfl
  table_eq := rfl
  zoneState_eq _ := rfl
  breakpoints_eq _ := rfl
  path_eq _ := rfl
  home_eq _ := rfl

/-! ### Zones -/

theorem of_updZone {z : ZoneId} {f : Zone → Zone} (hstate : (f (s.zone z)).state = (s.zone z).state)
    (hbreakpoints : (f (s.zone z)).breakpoints = (s.zone z).breakpoints) : s.Aside (s.updZone z f) where
  slot_stands _ := .refl _
  queue_eq := rfl
  phase_eq := rfl
  timer_eq := rfl
  mode_eq := rfl
  table_eq := rfl
  zoneState_eq y := by
    by_cases hy : y = z
    · subst hy; simpa using hstate
    · simp [hy]
  breakpoints_eq y := by
    by_cases hy : y = z
    · subst hy; simpa using hbreakpoints
    · simp [hy]
  path_eq _ := rfl
  home_eq _ := rfl

theorem of_setEffective (s : State) (z : ZoneId) (v : Level) : s.Aside (s.setEffective z v) :=
  ite (fun _ => refl s) fun _ => (of_updZone (f := fun x => { x with effective := v }) rfl rfl).trans (of_trigger _)

theorem of_enterBreakpoint (s : State) (z : ZoneId) (n : Nat) (limit : Level) : s.Aside (s.enterBreakpoint z n limit) := by
  have h : s.Aside (s.updZone z fun x =>
      { x with inForce := some n, licence := limit, grace := graceAfter s.mode (s.zone z).licence limit x.grace }) := of_updZone rfl rfl
  exact ite (fun _ => h.trans (of_setEffective ..)) fun _ => h

theorem of_postZoneIfChanged (s : State) (z : ZoneId) (before : Zone) : s.Aside (s.postZoneIfChanged z before) :=
  ite (fun _ => of_post ..) fun _ => refl s

/-! ### Receptors -/

theorem of_setReceptor {r : ReceptorId} {x y : Receptor} (hx : s.receptor r = some x) (hzone : y.zone = x.zone) : s.Aside (s.setReceptor r (some y)) where
  slot_stands _ := .refl _
  queue_eq := rfl
  phase_eq := rfl
  timer_eq := rfl
  mode_eq := rfl
  table_eq := rfl
  zoneState_eq _ := rfl
  breakpoints_eq _ := rfl
  path_eq _ := rfl
  home_eq q := by
    unfold State.home
    by_cases hq : q = r
    · subst hq; simp [hx, hzone]
    · simp [hq]

theorem of_updReceptor {r : ReceptorId} {f : Receptor → Receptor} (hzone : ∀ x, (f x).zone = x.zone) : s.Aside (s.updReceptor r f) := by
  cases h : s.receptor r with
  | some x =>
    rw [State.updReceptor_of_some h]
    exact of_setReceptor h (hzone x)
  | none =>
    refine ⟨fun _ => .refl _, rfl, rfl, rfl, rfl, rfl, fun _ => rfl, fun _ => rfl, fun _ => rfl, fun q => ?_⟩
    unfold State.home
    by_cases hq : q = r
    · subst hq; simp [h]
    · simp [hq]

theorem of_pollFrom (s : State) (low second : Nat) : s.Aside (s.pollFrom low second) := by
  rw [State.pollFrom_eq]
  exact of_records rfl rfl rfl rfl rfl rfl rfl rfl rfl

theorem of_abandonPoll (s : State) (r : ReceptorId) : s.Aside (s.abandonPoll r) := by
  rw [State.abandonPoll_eq]
  exact of_records rfl rfl rfl rfl rfl rfl rfl rfl rfl

theorem of_pollAtSecond (s : State) : s.Aside s.pollAtSecond := ite (fun _ => of_pollFrom ..) fun _ => refl s

theorem of_residualHandOff (s : State) (r : ReceptorId) (level : Level) : s.Aside (s.residualHandOff r level) := by
  unfold State.residualHandOff
  split
  · exact ite (fun _ => of_updReceptor fun _ => rfl) fun _ => refl s
  · exact refl s

theorem of_openExceedance (s : State) (r : ReceptorId) (x : Receptor) (minute : Nat) (limit level : Level) :
    s.Aside (s.openExceedance r x minute limit level) := by
  unfold State.openExceedance
  split
  · exact refl s
  · rename_i p _
    dsimp only
    refine trans ?_ (of_send ..)
    refine trans ?_ (of_post ..)
    refine trans ?_ (of_trigger _)
    refine trans ?_ (of_updReceptor fun _ => rfl)
    exact of_records rfl rfl rfl rfl rfl rfl rfl rfl rfl

theorem of_closeExceedance (s : State) (r : ReceptorId) (minute : Nat) (cause : ClosingCause) (c : Bool) :
    s.Aside (s.closeExceedance r minute cause c) := by
  unfold State.closeExceedance
  split
  · exact refl s
  · dsimp only
    have h (p : ExcPos) (f : ExcRecord → ExcRecord) :
        s.Aside (((s.updExcRecord p f).updReceptor r fun y => { y with exceedance := none }).triggerIf c) := by
      refine trans ?_ (of_triggerIf ..)
      refine trans ?_ (of_updReceptor fun _ => rfl)
      exact of_updExcRecord s p f
    split
    · exact (h _ _).trans ((of_post ..).trans (of_send ..))
    · exact h _ _

theorem of_updateStagesOver (s : State) (r : ReceptorId) : s.Aside (s.updateStagesOver r) := by
  unfold State.updateStagesOver
  split
  · exact refl s
  · exact of_updExcRecord ..

theorem of_judge (s : State) (r : ReceptorId) (limit grace minute : Nat) : s.Aside (s.judge r limit grace minute) := by
  have h := of_updateStagesOver s r
  unfold State.judge
  dsimp only
  split
  · exact h
  · refine ite (fun _ => h) fun _ => ?_
    split
    · exact h
    · split
      · exact ite (fun _ => h.trans (of_openExceedance ..)) fun _ => h
      · exact ite (fun _ => h.trans (of_updExcRecord ..)) fun _ => h.trans (of_closeExceedance ..)

theorem of_correct (s : State) (r : ReceptorId) : s.Aside (s.correct r) := by
  unfold State.correct
  split
  · exact refl s
  · dsimp only
    refine trans ?_ (of_updReceptor fun _ => rfl)
    refine trans ?_ (of_triggerIf ..)
    exact of_updReceptor fun _ => rfl

theorem of_closeReceptor (handed : List (Level × Nat)) (minute : Nat) (s : State) (r : ReceptorId) : s.Aside (s.closeReceptor handed minute r) := by
  unfold State.closeReceptor
  split
  · exact refl s
  · rename_i x hx
    exact (of_setReceptor (y := x.closed minute) hx rfl).trans ((of_send ..).trans ((of_correct ..).trans (of_judge ..)))

theorem of_closeMinute (s : State) (handed : List (Level × Nat)) (minute : Nat) : s.Aside (s.closeMinute handed minute) :=
  foldl (of_closeReceptor handed minute) _ s

theorem of_pollOutcome (s : State) (p : Poll) (cls : PollClass) (level : Level) : s.Aside (s.pollOutcome p cls level) := by
  unfold State.pollOutcome
  split
  · exact of_pollFrom ..
  · rename_i x hx
    dsimp only
    refine trans ?_ (of_pollFrom ..)
    refine trans ?_ (of_send ..)
    have ha := (of_setReceptor (y := x.heardFrom cls level) hx rfl).trans (of_triggerIf _ (x.station.blind != (x.heardFrom cls level).station.blind))
    have hb := ha.trans (ite (c := x.station = (x.heardFrom cls level).station) (fun _ => refl _) fun _ => of_post _ (stationNotice p.receptor (x.heardFrom cls level)))
    have hc := hb.trans (ite (c := cls.taken = true) (fun _ => of_updReceptor (r := p.receptor)
      (f := fun z => { z with accumulator := takeIntoMinute z.accumulator level }) fun _ => rfl) fun _ => refl _)
    exact ite (fun _ => hc.trans (of_residualHandOff ..)) fun _ => hc

theorem of_pollEnds (s : State) (cls : PollClass) (level : Level) : s.Aside (s.pollEnds cls level) := by
  unfold State.pollEnds
  split
  · exact ite (fun _ => of_pollOutcome ..) fun _ => refl s
  · exact refl s

theorem of_unlinkExceedance (s : State) (r : ReceptorId) : s.Aside (s.unlinkExceedance r) := by
  refine ite (fun _ => ?_) fun _ => refl s
  refine trans ?_ (of_trigger _)
  exact of_updReceptor fun _ => rfl

theorem of_clearExceedances (s : State) : s.Aside s.clearExceedances := by
  unfold State.clearExceedances
  refine trans ?_ (foldl of_unlinkExceedance _ _)
  exact of_records rfl rfl rfl rfl rfl rfl rfl rfl rfl

/-! ### The engine's passes, and requests -/

theorem of_reportCeiling (s : State) (c : Capture) (i : SlotId) (computed : Bool) : s.Aside (s.reportCeiling c i computed) := by
  unfold State.reportCeiling
  dsimp only
  refine trans ?_ (of_send ..)
  refine trans ?_ (of_post ..)
  exact ite (fun _ => refl s) fun _ => of_records rfl rfl rfl rfl rfl rfl rfl rfl rfl

theorem of_publishSlot (c : Capture) (s : State) (i : SlotId) : s.Aside (State.publishSlot c s i) := by
  have h : s.Aside (s.updSlot i fun x => { x with prospective := s.newProspective c i }) := by
    refine of_updSlot ⟨rfl, rfl, rfl, rfl, rfl, fun hp => ?_⟩
    dsimp only [State.newProspective] at hp
    split at hp
    next hentering => exact .inr hentering.2
    next => exact .inl hp
  exact ite (fun _ => h) fun _ => h.trans ((of_updSlot ⟨rfl, rfl, rfl, rfl, rfl, .inl⟩).trans (of_reportCeiling ..))

theorem of_publish (s : State) (c : Capture) : s.Aside (s.publish c) := foldl (of_publishSlot c) _ s

theorem of_endForecast (s : State) (c : Capture) (q : List SlotId) (m sec : Nat) : s.Aside (s.endForecast c q m sec) := by
  refine trans ?_ (of_chooseNext _)
  unfold State.takeForecast
  split
  · exact of_records rfl rfl rfl rfl rfl rfl rfl rfl rfl
  · exact refl s

theorem of_discardForecast (s : State) : s.Aside s.discardForecast := by
  rw [State.discardForecast_eq]
  exact of_records rfl rfl rfl rfl rfl rfl rfl rfl rfl

theorem of_takeQuery (s : State) (p : Port) (q : List SlotId) : s.Aside (s.takeQuery p q) := by
  rw [State.takeQuery_eq]
  exact of_records rfl rfl rfl rfl rfl rfl rfl rfl rfl

theorem of_setConsole (s : State) (i : SlotId) (present : Bool) (event : ClampEvent) : s.Aside (s.setConsole i present event).1 := by
  unfold State.setConsole
  exact of_updClamped _ _ ⟨rfl, rfl, rfl, rfl, rfl, .inl⟩

end State.Aside

end Sys2Proof.Machine
end

section
/-! SUPPORT. The bindings of the slots, the admission queue and the handover stay sound through every operation of the stage table and the arbiter
(R73, R125, R126, R132, R133). -/

namespace Sys2Proof.Machine

/-- The bindings, the queue and the handover are sound. -/
structure State.Arranged (s : State) : Prop where
  bindings : s.BindingsSound
  queue : s.QueueSound
  handover : s.HandoverSound

/-- The slot is out of play: QUIET or EMPTY. -/
def Slot.AtRest (x : Slot) : Prop := x.state = .quiet ∨ x.state = .empty

theorem Slot.AtRest.not_queued {x : Slot} (h : x.AtRest) : x.state.queued = false := by
  rcases h with h | h <;> rw [h] <;> rfl

theorem Slot.atRest_of_settledQuiet {x : Slot} (h : x.settledQuiet = true) : x.AtRest := .inl ((Slot.settledQuiet_eq_true_iff x).1 h).1

/-! ### The bindings -/

section bindings
variable {s t : State}

/-- A slot that is neither QUIET nor EMPTY is bound. -/
theorem State.BindingsSound.bound {i : SlotId} (h : s.BindingsSound) (hi : ¬(s.slot i).AtRest) : (s.slot i).port ≠ none :=
  fun hport => hi ((h.1 i).2.2.1 hport)

/-- The bindings stay sound where no binding changes and only bound slots change their state. -/
theorem bindingsSound_of_moved (h : s.BindingsSound)
    (hbinding : ∀ i, (t.slot i).kind = (s.slot i).kind ∧ (t.slot i).identity = (s.slot i).identity ∧ (t.slot i).port = (s.slot i).port)
    (hstate : ∀ i, (t.slot i).state = (s.slot i).state ∨ (s.slot i).port ≠ none ∧ (t.slot i).state ≠ .empty) : t.BindingsSound := by
  refine ⟨fun i => ?_, fun i j hij => ?_⟩
  · obtain ⟨hkind, hid, hport⟩ := hbinding i
    obtain ⟨hopen, hfixed, hunbound, hzero⟩ := h.1 i
    unfold Slot.BindingSound
    rw [hkind, hid, hport]
    rcases hstate i with hs | ⟨hbound, hs⟩
    · rw [hs]; exact ⟨hopen, hfixed, hunbound, hzero⟩
    · refine ⟨fun hk => ⟨(hopen hk).1, fun he => absurd he hs, fun hp => absurd hp hbound⟩, fun hk => ⟨(hfixed hk).1, hs⟩,
        fun hp => absurd hp hbound, hzero⟩
  · rw [(hbinding i).2.1, (hbinding j).2.1, (hbinding i).2.2, (hbinding j).2.2]
    exact h.2 i j hij

/-- The bindings stay sound where one slot takes a sound record that shares no identity and no port with another. -/
theorem bindingsSound_of_updated {i : SlotId} (h : s.BindingsSound) (hsame : ∀ j, j ≠ i → t.slot j = s.slot j) (hi : (t.slot i).BindingSound)
    (hother : ∀ j, j ≠ i → ((t.slot i).identity = (s.slot j).identity → (t.slot i).identity = none) ∧
      ((t.slot i).port = (s.slot j).port → (t.slot i).port = none)) : t.BindingsSound := by
  refine ⟨fun j => ?_, fun j k hjk => ?_⟩
  · by_cases hj : j = i
    · exact hj ▸ hi
    · rw [hsame j hj]; exact h.1 j
  · by_cases hj : j = i
    · subst hj
      rw [hsame k (Ne.symm hjk)]
      exact hother k (Ne.symm hjk)
    · rw [hsame j hj]
      by_cases hk : k = i
      · subst hk
        exact ⟨fun he => he.trans ((hother j hj).1 he.symm), fun he => he.trans ((hother j hj).2 he.symm)⟩
      · rw [hsame k hk]; exact h.2 j k hjk

end bindings

/-! ### Arrangements that are kept -/

theorem State.Aside.arranged {s t : State} (h : s.Aside t) (hs : s.Arranged) : t.Arranged := by
  obtain ⟨hnodup, hmem, hentering⟩ := hs.queue
  obtain ⟨hphase, htimer, hdebts, hdebtor, hprospective⟩ := hs.handover
  refine ⟨bindingsSound_of_moved hs.bindings (fun i => ⟨(h.slot_stands i).kind_eq, (h.slot_stands i).identity_eq, (h.slot_stands i).port_eq⟩)
    fun i => .inl (h.slot_stands i).state_eq, ?_, ?_⟩
  · unfold State.QueueSound
    simp only [h.queue_eq, fun i => (h.slot_stands i).state_eq]
    exact ⟨hnodup, hmem, hentering⟩
  · unfold State.HandoverSound
    simp only [h.queue_eq, h.phase_eq, h.timer_eq, fun i => (h.slot_stands i).state_eq, fun i => (h.slot_stands i).debt_eq]
    exact ⟨hphase, htimer, hdebts, hdebtor, fun i hi => ((h.slot_stands i).prospective_of hi).elim (hprospective i) id⟩

section arranged
variable {s t : State}

theorem State.Arranged.not_mem_queue {i : SlotId} (h : s.Arranged) (hi : (s.slot i).AtRest) : i ∉ s.arbiter.queue := by
  rw [h.queue.2.1 i, hi.not_queued]; simp

theorem State.Arranged.no_debt {i : SlotId} (h : s.Arranged) (hi : (s.slot i).state ≠ .live) : (s.slot i).debt = false :=
  eq_false_of_ne_true fun hd => hi (h.handover.2.2.2.1 i hd)

theorem State.Arranged.no_prospective {i : SlotId} (h : s.Arranged) (hi : (s.slot i).state ≠ .entering) : (s.slot i).prospective = none :=
  Option.not_isSome_iff_eq_none.1 fun hp => hi (h.handover.2.2.2.2 i hp)

/-- A slot at rest takes another record at rest, bound soundly, with no debt or prospective ceiling of its own; the arbiter stays as it was. -/
theorem State.Arranged.of_updated {i : SlotId} (h : s.Arranged) (hsame : ∀ j, j ≠ i → t.slot j = s.slot j) (hqueue : t.arbiter.queue = s.arbiter.queue)
    (hphase : t.arbiter.phase = s.arbiter.phase) (htimer : t.arbiter.timer = s.arbiter.timer) (hrest : (s.slot i).AtRest) (hrest' : (t.slot i).AtRest)
    (hdebt : (t.slot i).debt = false) (hprospective : (t.slot i).prospective = none) (hbindings : t.BindingsSound) : t.Arranged := by
  obtain ⟨hnodup, hmem, hentering⟩ := h.queue
  obtain ⟨hnone, htimer', hdebts, hdebtor, hprosp⟩ := h.handover
  have hdebt' : ∀ j, (t.slot j).debt = (s.slot j).debt := fun j => by
    by_cases hj : j = i
    · subst hj
      rw [hdebt, h.no_debt]
      rcases hrest with hr | hr <;> simp [hr]
    · rw [hsame j hj]
  refine ⟨hbindings, ⟨hqueue ▸ hnodup, fun j => ?_, fun j => ?_⟩, ⟨by rw [hphase, hqueue]; exact hnone, by rw [hphase, htimer]; exact htimer', ?_, fun j => ?_,
    fun j => ?_⟩⟩
  · rw [hqueue]
    by_cases hj : j = i
    · subst hj
      rw [hrest'.not_queued, hmem, hrest.not_queued]
    · rw [hsame j hj]; exact hmem j
  · rw [hqueue]
    by_cases hj : j = i
    · subst hj
      rw [← hentering]
      rcases hrest with hr | hr <;> rcases hrest' with hr' | hr' <;> simp [hr, hr']
    · rw [hsame j hj]; exact hentering j
  · rw [hphase]; simp only [hdebt']; exact hdebts
  · by_cases hj : j = i
    · subst hj; simp [hdebt]
    · rw [hsame j hj]; exact hdebtor j
  · by_cases hj : j = i
    · subst hj; simp [hprospective]
    · rw [hsame j hj]; exact hprosp j

/-- The head has left: what is left of the queue stands WAITING but for its first member, which is the new head, and no debt, no prospective ceiling and no
running timer is left. -/
theorem State.Arranged.of_head_gone {rest : List SlotId} {st : SlotId → SlotState} (hbindings : t.BindingsSound) (hqueue : t.arbiter.queue = rest)
    (hnodup : rest.Nodup) (hstate : ∀ j, (t.slot j).state = if rest.head? = some j then .entering else st j)
    (hwaiting : ∀ j, j ∈ rest → st j = .waiting) (hout : ∀ j, j ∉ rest → (st j).queued = false)
    (hphase : t.arbiter.phase = if rest = [] then none else some .counting) (htimer : t.arbiter.timer = none)
    (hdebt : ∀ j, (t.slot j).debt = false) (hprospective : ∀ j, (t.slot j).prospective = none) : t.Arranged := by
  refine ⟨hbindings, ⟨hqueue ▸ hnodup, fun j => ?_, fun j => ?_⟩, ⟨?_, ?_, ?_, fun j => ?_, fun j => ?_⟩⟩
  · rw [hqueue, hstate]
    split
    next hhead => simp [List.mem_of_mem_head? hhead, SlotState.queued]
    next =>
      by_cases hj : j ∈ rest
      · simp [hj, hwaiting j hj, SlotState.queued]
      · simp [hj, hout j hj]
  · rw [hqueue, hstate]
    split
    next hhead => simp [hhead]
    next hhead =>
      by_cases hj : j ∈ rest
      · simp [hhead, hwaiting j hj]
      · have := hout j hj
        simp only [hhead, iff_false]
        intro he
        simp [he, SlotState.queued] at this
  · rw [hphase, hqueue]; split <;> simp_all
  · rw [hphase, htimer]; split <;> simp
  · rw [hphase]; split <;> simp [hdebt]
  · simp [hdebt]
  · simp [hprospective]

/-- The head stays: the same debts are SET, the same slot is ENTERING, and the queue holds the slots that stand queued. -/
theorem State.Arranged.of_head_stays (h : s.Arranged) (hbindings : t.BindingsSound) (hhead : t.arbiter.queue.head? = s.arbiter.queue.head?)
    (hnodup : t.arbiter.queue.Nodup) (hmem : ∀ i, i ∈ t.arbiter.queue ↔ (t.slot i).state.queued = true)
    (hentering : ∀ i, (t.slot i).state = .entering ↔ (s.slot i).state = .entering) (hphase : t.arbiter.phase = s.arbiter.phase)
    (htimer : t.arbiter.timer = s.arbiter.timer) (hdebt : ∀ i, (t.slot i).debt = (s.slot i).debt)
    (hdebtor : ∀ i, (s.slot i).debt = true → (t.slot i).state = (s.slot i).state)
    (hprospective : ∀ i, (t.slot i).prospective.isSome = true → (s.slot i).prospective.isSome = true) : t.Arranged := by
  obtain ⟨-, -, hentering'⟩ := h.queue
  obtain ⟨hnone, htimer', hdebts, hdebtor', hprospective'⟩ := h.handover
  refine ⟨hbindings, ⟨hnodup, hmem, fun i => by rw [hentering, hhead]; exact hentering' i⟩, ⟨?_, by rw [hphase, htimer]; exact htimer',
    by rw [hphase]; simp only [hdebt]; exact hdebts, fun i hi => ?_, fun i hi => (hentering i).2 (hprospective' i (hprospective i hi))⟩⟩
  · rw [hphase, hnone, ← List.head?_eq_none_iff, ← List.head?_eq_none_iff, hhead]
  · rw [hdebt] at hi
    rw [hdebtor i hi]; exact hdebtor' i hi

/-! ### Binding, unbinding, emptying -/

theorem State.Arranged.emptySlot {i : SlotId} (h : s.Arranged) (hi : (s.slot i).AtRest) : (s.emptySlot i).Arranged := by
  have hslot : (s.emptySlot i).slot i = (s.slot i).emptied := by simp [State.emptySlot_slot]
  have hsame : ∀ j, j ≠ i → (s.emptySlot i).slot j = s.slot j := fun j hj => by simp [State.emptySlot_slot, hj]
  refine h.of_updated hsame (by simp) (by simp) (by simp) hi ?_ ?_ ?_ (bindingsSound_of_updated h.bindings hsame ?_ fun j _ => ?_)
  · rw [hslot]; exact .inr rfl
  · rw [hslot]; rfl
  · rw [hslot]
    exact h.no_prospective (by rcases hi with hr | hr <;> simp [hr])
  · rw [hslot]
    exact ⟨fun _ => ⟨by simp [Slot.emptied], by simp [Slot.emptied]⟩, fun hk => by simp [Slot.emptied] at hk, fun _ => .inr rfl, by simp [Slot.emptied]⟩
  · rw [hslot]; exact ⟨fun _ => rfl, fun _ => rfl⟩

theorem State.Arranged.unbindSlot {i : SlotId} (h : s.Arranged) (hkind : (s.slot i).kind = .fixed) (hi : (s.slot i).AtRest) :
    (s.unbindSlot i).Arranged := by
  have hslot : (s.unbindSlot i).slot i = (s.slot i).unbound := by simp [State.unbindSlot_slot]
  have hsame : ∀ j, j ≠ i → (s.unbindSlot i).slot j = s.slot j := fun j hj => by simp [State.unbindSlot_slot, hj]
  refine h.of_updated hsame (by simp) (by simp) (by simp) hi ?_ ?_ ?_ (bindingsSound_of_updated h.bindings hsame ?_ fun j hj => ?_)
  · rw [hslot]; exact hi
  · rw [hslot]
    exact h.no_debt (by rcases hi with hr | hr <;> simp [hr])
  · rw [hslot]
    exact h.no_prospective (by rcases hi with hr | hr <;> simp [hr])
  · rw [hslot]
    exact ⟨fun hk => by simp [Slot.unbound, hkind] at hk, fun _ => (h.bindings.1 i).2.1 hkind, fun _ => hi, by simp [Slot.unbound]⟩
  · rw [hslot]; exact ⟨(h.bindings.2 i j (Ne.symm hj)).1, fun _ => rfl⟩

/-- A slot at rest is bound to a port that no slot holds, with an identity that no other slot holds. -/
theorem State.Arranged.bindSlot {i : SlotId} {p : Port} {id : Identity} (h : s.Arranged) (hi : (s.slot i).AtRest) (hp : p ≠ 0)
    (hport : ∀ j, (s.slot j).port ≠ some p) (hid : ∀ j, j ≠ i → (s.slot j).identity ≠ some id)
    (hfixed : (s.slot i).kind = .fixed → (s.slot i).identity = some id) : (s.bindSlot i p id).Arranged := by
  have hslot : (s.bindSlot i p id).slot i = (s.slot i).bound p id := by simp [State.bindSlot_slot]
  have hsame : ∀ j, j ≠ i → (s.bindSlot i p id).slot j = s.slot j := fun j hj => by simp [State.bindSlot_slot, hj]
  have hidentity : ((s.slot i).bound p id).identity = some id := by
    unfold Slot.bound
    cases hk : (s.slot i).kind
    · rfl
    · exact hfixed hk
  refine h.of_updated hsame (by simp) (by simp) (by simp) hi ?_ ?_ ?_ (bindingsSound_of_updated h.bindings hsame ?_ fun j hj => ?_)
  · rw [hslot]; exact .inl rfl
  · rw [hslot]
    exact h.no_debt (by rcases hi with hr | hr <;> simp [hr])
  · rw [hslot]
    exact h.no_prospective (by rcases hi with hr | hr <;> simp [hr])
  · rw [hslot]
    refine ⟨fun _ => ⟨by rw [hidentity]; simp [Slot.bound], by simp [Slot.bound]⟩, fun _ => ⟨by rw [hidentity]; rfl, by simp [Slot.bound]⟩,
      by simp [Slot.bound], by simpa [Slot.bound] using hp⟩
  · rw [hslot, hidentity]
    exact ⟨fun he => absurd he.symm (hid j hj), fun he => absurd he.symm (hport j)⟩

theorem State.Arranged.releaseSlot {bound : Option SlotId} (h : s.Arranged) (hbound : ∀ i ∈ bound, (s.slot i).AtRest) : (s.releaseSlot bound).Arranged := by
  unfold State.releaseSlot
  split
  · exact h
  · have hi := hbound _ rfl
    split
    · exact h.unbindSlot ‹_› hi
    · exact h.emptySlot hi

theorem State.Arranged.evictSlot {i : SlotId} (h : s.Arranged) (hi : (s.slot i).AtRest) : (s.evictSlot i).Arranged := by
  unfold State.evictSlot
  split
  · split
    · exact h.unbindSlot ‹_› hi
    · exact h
  · exact h.emptySlot hi

theorem State.Arranged.ageSlot (h : s.Arranged) (i : SlotId) : (s.ageSlot i).Arranged := by
  rcases s.ageSlot_eq i with ⟨he, -⟩ | ⟨he, hdue⟩
  · rw [he]; exact h
  · rw [he]
    simp only [State.ageDue, State.mayAgeOut, Bool.and_eq_true] at hdue
    exact h.emptySlot (Slot.atRest_of_settledQuiet hdue.1.1.2)

theorem arranged_foldl {α : Type} {f : State → α → State} (hf : ∀ (s : State) a, s.Arranged → (f s a).Arranged) (l : List α) {s : State}
    (h : s.Arranged) : (l.foldl f s).Arranged := by
  induction l generalizing s with
  | nil => exact h
  | cons a l ih => exact ih (hf s a h)

theorem State.Arranged.ageAll (h : s.Arranged) : s.ageAll.Arranged := arranged_foldl (fun _ i hs => hs.ageSlot i) _ h

/-! ### ENROL, and the STAGE table -/

/-- The slot an ENROL chooses: an unbound FIXED one of the identity, or an OPEN one that is EMPTY or the port's own, and no unbound FIXED one then. -/
theorem chosenSlot_cases {bound : Option SlotId} {id : Identity} {i : SlotId} (h : s.chosenSlot bound id = some i) :
    ((s.slot i).kind = .fixed ∧ (s.slot i).identity = some id ∧ (s.slot i).port = none) ∨
      ((s.slot i).kind = .openKind ∧ ((s.slot i).state = .empty ∨ bound = some i) ∧
        ∀ j, (s.slot j).kind = .fixed → (s.slot j).identity = some id → (s.slot j).port ≠ none) := by
  unfold State.chosenSlot at h
  split at h
  next j hj =>
    cases h
    have hj := List.find?_some hj
    simp only [Bool.and_eq_true, beq_iff_eq, Option.isNone_iff_eq_none] at hj
    exact .inl ⟨hj.1.1, hj.1.2, hj.2⟩
  next hnone =>
    have hi := List.find?_some h
    simp only [Bool.and_eq_true, Bool.or_eq_true, beq_iff_eq] at hi
    refine .inr ⟨hi.1, hi.2, fun j hk hid hp => ?_⟩
    have := List.find?_eq_none.1 hnone j (List.mem_finRange j)
    simp [hk, hid, hp] at this

/-- The records after the port's present slot is released: that slot has no port, and only a FIXED one keeps its identity. -/
theorem State.releaseSlot_slot (s : State) (bound : Option SlotId) (j : SlotId) :
    (s.releaseSlot bound).slot j = if bound = some j then (match (s.slot j).kind with
      | .fixed => (s.slot j).unbound
      | .openKind => (s.slot j).emptied) else s.slot j := by
  unfold State.releaseSlot
  cases bound with
  | none => simp
  | some i =>
    simp only [Option.some.injEq]
    by_cases hj : i = j
    · subst hj
      cases hk : (s.slot i).kind <;> simp [State.unbindSlot_slot, State.emptySlot_slot]
    · cases hk : (s.slot i).kind <;> simp [hj, Ne.symm hj, State.unbindSlot_slot, State.emptySlot_slot]

theorem State.Arranged.enrols {p : Port} {bound : Option SlotId} {i : SlotId} {id : Identity} (h : s.Arranged) (hp : p ≠ 0)
    (hbound : s.boundSlot p = bound) (hsettled : ∀ j ∈ bound, (s.slot j).settledQuiet = true ∧ (s.slot j).identity ≠ some id)
    (helsewhere : s.boundElsewhere p id = false) (hchosen : s.chosenSlot bound id = some i) : ((s.releaseSlot bound).bindSlot i p id).Arranged := by
  have hportless : ∀ j, bound ≠ some j → (s.slot j).port ≠ some p := fun j hj hport =>
    hj (hbound ▸ State.boundSlot_of_bound h.bindings hp hport)
  have hholder : ∀ j, (s.slot j).identity = some id → (s.slot j).port = none := fun j hj => by
    by_contra hport
    by_cases hb : bound = some j
    · exact (hsettled j hb).2 hj
    · obtain ⟨q, hq⟩ := Option.ne_none_iff_exists'.1 hport
      have : s.boundElsewhere p id = true :=
        (State.boundElsewhere_eq_true_iff ..).2 ⟨j, q, hj, hq, fun he => hportless j hb (he ▸ hq)⟩
      exact absurd this (by simp [helsewhere])
  have hrelease := h.releaseSlot fun j hj => Slot.atRest_of_settledQuiet (hsettled j hj).1
  have hopen := fun j => (h.bindings.1 j).1
  have hslot := s.releaseSlot_slot bound
  refine hrelease.bindSlot ?_ hp (fun j => ?_) (fun j hj => ?_) fun hk => ?_
  · rw [hslot]
    rcases chosenSlot_cases hchosen with ⟨hk, -, hport⟩ | ⟨hk, hi, -⟩
    · split
      · simp only [hk]
        exact (h.bindings.1 i).2.2.1 hport
      · exact (h.bindings.1 i).2.2.1 hport
    · split
      · simp only [hk]; exact .inr rfl
      next hb => exact .inr (hi.resolve_right hb)
  · rw [hslot]
    split
    · split <;> simp [Slot.unbound, Slot.emptied]
    next hb => exact hportless j hb
  · rw [hslot]
    have hnot : (s.slot j).identity ≠ some id := by
      intro hid
      have hport := hholder j hid
      rcases chosenSlot_cases hchosen with ⟨-, hid', -⟩ | ⟨-, -, hnofixed⟩
      · have := (h.bindings.2 j i hj).1 (hid.trans hid'.symm)
        simp [hid] at this
      · cases hk : (s.slot j).kind
        · have := (hopen j hk).1
          simp [hid, hport] at this
        · exact hnofixed j hk hid hport
    split
    · split
      · exact hnot
      · simp [Slot.emptied]
    · exact hnot
  · rw [hslot] at hk ⊢
    rcases chosenSlot_cases hchosen with ⟨hkind, hid, -⟩ | ⟨hkind, -⟩
    · simp only [hkind]
      split <;> simpa [Slot.unbound] using hid
    · split at hk
      · simp [hkind, Slot.emptied] at hk
      · simp [hkind] at hk

/-- An unbound slot takes the kind and the identity of a FIXED write that no other slot holds. -/
theorem State.Arranged.fixes {i : SlotId} {id : Identity} {f : Slot → Slot} (h : s.Arranged) (hport : (s.slot i).port = none)
    (hid : s.identityTaken i id = false) (hkind : (f (s.slot i)).kind = .fixed) (hidentity : (f (s.slot i)).identity = some id)
    (hstate : (f (s.slot i)).state = .quiet) (hport' : (f (s.slot i)).port = none) (hdebt : (f (s.slot i)).debt = (s.slot i).debt)
    (hprospective : (f (s.slot i)).prospective = (s.slot i).prospective) : (s.updSlot i f).Arranged := by
  have hi : (s.slot i).AtRest := (h.bindings.1 i).2.2.1 hport
  have hslot : (s.updSlot i f).slot i = f (s.slot i) := s.slot_updSlot_same i f
  have hsame : ∀ j, j ≠ i → (s.updSlot i f).slot j = s.slot j := fun j hj => by simp [hj]
  refine h.of_updated hsame rfl rfl rfl hi ?_ ?_ ?_ (bindingsSound_of_updated h.bindings hsame ?_ fun j hj => ?_)
  · rw [hslot]; exact .inl hstate
  · rw [hslot, hdebt]
    exact h.no_debt (by rcases hi with hr | hr <;> simp [hr])
  · rw [hslot, hprospective]
    exact h.no_prospective (by rcases hi with hr | hr <;> simp [hr])
  · rw [hslot]
    exact ⟨fun hk => by simp [hkind] at hk, fun _ => ⟨by rw [hidentity]; rfl, by rw [hstate]; simp⟩, fun _ => .inl hstate, by rw [hport']; simp⟩
  · rw [hslot, hidentity, hport']
    refine ⟨fun he => ?_, fun _ => rfl⟩
    have : s.identityTaken i id = true := List.any_eq_true.2 ⟨j, List.mem_finRange j, by simp [hj, he.symm]⟩
    simp [hid] at this

theorem State.Arranged.rekind {i : SlotId} {k : StageKind} (h : s.Arranged) (hport : (s.slot i).port = none) (hkind : s.kindTaken i k = false) :
    (s.rekind i k).Arranged := by
  have hi : (s.slot i).AtRest := (h.bindings.1 i).2.2.1 hport
  unfold State.rekind
  split
  · exact h.fixes hport hkind rfl rfl rfl hport rfl rfl
  · exact h.emptySlot hi
  next hk =>
    have hquiet : (s.slot i).state = .quiet := hi.resolve_right ((h.bindings.1 i).2.1 hk).2
    exact h.fixes hport hkind hk rfl hquiet hport rfl rfl
  · exact h

theorem State.Arranged.replaceStage {i : SlotId} {k : StageKind} (h : s.Arranged) (hkind : s.kindTaken i k = false)
    (hport : (s.slot i).rekindedBy k = true → (s.slot i).port = none) (weight : Nat) (stageMax : Level) :
    (s.replaceStage i k weight stageMax).Arranged := by
  have ha : (if (s.slot i).rekindedBy k then s.rekind i k else s).Arranged := by
    split
    · exact h.rekind (hport ‹_›) hkind
    · exact h
  have hb := ((State.Aside.of_updSlot (f := fun y => { y with weight := weight, stageMax := stageMax }) (i := i) ⟨rfl, rfl, rfl, rfl, rfl, .inl⟩).trans
    (.of_triggerIf _ ((s.slot i).weight != weight || (s.slot i).stageMax != stageMax))).arranged ha
  exact (State.Aside.ite (fun _ => .of_post ..) fun _ => .refl _).arranged hb

theorem State.Arranged.returnStage {i : SlotId} (h : s.Arranged) (hport : (s.slot i).port = none) : (s.returnStage i).Arranged := by
  have hi : (s.slot i).AtRest := (h.bindings.1 i).2.2.1 hport
  unfold State.returnStage
  refine ((State.Aside.of_updSlot (f := fun y => { y with weight := 1, stageMax := 1050 }) (i := i) ⟨rfl, rfl, rfl, rfl, rfl, .inl⟩).trans
    ((State.Aside.of_trigger _).trans (.of_post ..))).arranged ?_
  split
  · exact h.emptySlot hi
  · exact h

/-! ### The arbiter -/

theorem State.Arranged.no_debt_of_empty (h : s.Arranged) (hempty : s.arbiter.queue = []) (j : SlotId) : (s.slot j).debt = false := by
  refine eq_false_of_ne_true fun hd => ?_
  have hphase := h.handover.2.2.1.2 ⟨j, hd⟩
  rw [h.handover.1.2 hempty] at hphase
  cases hphase

theorem State.Arranged.joinQueue {i : SlotId} (h : s.Arranged) (hquiet : (s.slot i).state = .quiet) (hport : (s.slot i).port ≠ none) :
    (s.joinQueue i).Arranged := by
  have hout : i ∉ s.arbiter.queue := h.not_mem_queue (.inl hquiet)
  obtain ⟨hnodup, hmem, hentering⟩ := h.queue
  have hbindings : (s.joinQueue i).BindingsSound := by
    refine bindingsSound_of_moved h.bindings (fun j => ?_) fun j => ?_
    · rw [State.joinQueue_slot]; split
      · subst_vars; exact ⟨rfl, rfl, rfl⟩
      · exact ⟨rfl, rfl, rfl⟩
    · rw [State.joinQueue_slot]; split
      · subst_vars
        refine .inr ⟨hport, ?_⟩
        dsimp only
        split <;> simp
      · exact .inl rfl
  have hnodup' : (s.arbiter.queue ++ [i]).Nodup := by
    rw [List.nodup_append]
    exact ⟨hnodup, List.nodup_singleton i, fun a ha b hb => by rintro rfl; exact hout ((List.mem_singleton.1 hb) ▸ ha)⟩
  by_cases hempty : s.arbiter.queue = []
  · have hnone : ∀ j, (s.slot j).state.queued = false := fun j => by
      have := hmem j
      simpa [hempty] using this
    refine .of_head_gone (rest := [i]) (st := fun j => if j = i then .waiting else (s.slot j).state) hbindings (by simp [hempty]) (List.nodup_singleton i)
      (fun j => ?_) (fun j hj => by simp [List.mem_singleton.1 hj]) (fun j hj => ?_) ?_ ?_ (fun j => ?_) fun j => ?_
    · rw [State.joinQueue_slot]
      by_cases hj : j = i
      · simp [hj, hempty]
      · simp [hj, Ne.symm hj]
    · simp [List.mem_singleton.not.1 hj, hnone j]
    · simp [State.joinQueue_phase, hempty]
    · have hphase := h.handover.1.2 hempty
      have := h.handover.2.1
      rw [hphase] at this
      simpa using this
    · have hd : (s.slot j).debt = false := h.no_debt_of_empty hempty j
      rw [State.joinQueue_slot]; split
      · subst_vars; exact hd
      · exact hd
    · have hp : (s.slot j).prospective = none := h.no_prospective fun he => by
        have := hnone j
        simp [he, SlotState.queued] at this
      rw [State.joinQueue_slot]; split
      · subst_vars; exact hp
      · exact hp
  · have hslot : ∀ j, (s.joinQueue i).slot j = if j = i then { s.slot i with outcome := .none, state := .waiting } else s.slot j := fun j => by
      rw [State.joinQueue_slot, if_neg hempty]
    refine h.of_head_stays hbindings ?_ (by rw [State.joinQueue_queue]; exact hnodup') (fun j => ?_) (fun j => ?_) (by simp [State.joinQueue_phase, hempty])
      (by simp) (fun j => ?_) (fun j hd => ?_) fun j => ?_
    · rw [State.joinQueue_queue]
      cases hq : s.arbiter.queue with
      | nil => exact absurd hq hempty
      | cons a l => rfl
    · rw [State.joinQueue_queue, hslot, List.mem_append, List.mem_singleton]
      by_cases hj : j = i
      · simp [hj, SlotState.queued]
      · simp [hj, hmem j]
    · rw [hslot]; split
      · subst_vars; simp [hquiet]
      · rfl
    · rw [hslot]; split
      · subst_vars; rfl
      · rfl
    · rw [hslot]; split
      · subst_vars
        exact absurd (h.handover.2.2.2.1 _ hd) (by simp [hquiet])
      · rfl
    · rw [hslot]; split
      · subst_vars; exact id
      · exact id

/-- A grant arranges the slots anew, whatever debts stand. -/
theorem arranged_grant {h : SlotId} {rest : List SlotId} (hbindings : s.BindingsSound) (hsound : s.QueueSound)
    (hprospective : ∀ i, (s.slot i).prospective.isSome = true → (s.slot i).state = .entering) (hqueue : s.arbiter.queue = h :: rest) (m : Manner) :
    (s.grant m).Arranged := by
  obtain ⟨hnodup, hmem, hentering⟩ := hsound
  rw [hqueue] at hnodup
  obtain ⟨hout, hnodup⟩ := List.nodup_cons.1 hnodup
  have hhead : ∀ j, (s.slot j).state = .entering ↔ j = h := fun j => by rw [hentering, hqueue]; simp [eq_comm]
  have hwaiting : ∀ j, j ∈ rest → (s.slot j).state = .waiting := fun j hj => by
    have hq := (hmem j).1 (by rw [hqueue]; exact List.mem_cons_of_mem _ hj)
    have hne : (s.slot j).state ≠ .entering := fun he => hout ((hhead j).1 he ▸ hj)
    cases hs : (s.slot j).state <;> simp_all [SlotState.queued]
  have hsettled : ∀ x : Slot, x.settled.kind = x.kind ∧ x.settled.identity = x.identity ∧ x.settled.port = x.port ∧ x.settled.state = x.state ∧
      x.settled.debt = false ∧ x.settled.prospective = x.prospective := fun x => by unfold Slot.settled; split <;> simp_all
  refine .of_head_gone (rest := rest) (st := fun j => if j = h then .live else (s.slot j).state) ?_ (State.grant_queue hqueue m) hnodup (fun j => ?_)
    (fun j hj => ?_) (fun j hj => ?_) (State.grant_phase hqueue m) (State.grant_timer hqueue m) (fun j => ?_) fun j => ?_
  · refine bindingsSound_of_moved hbindings (fun j => ?_) fun j => ?_
    · rw [State.grant_slot hqueue]
      dsimp only
      obtain ⟨hk, hid, hp, -⟩ := hsettled (s.slot j)
      split <;> split <;> exact ⟨hk, hid, hp⟩
    · rw [State.grant_slot hqueue]
      dsimp only
      by_cases hj : j ∈ s.arbiter.queue
      · refine .inr ⟨hbindings.bound fun hr => ?_, ?_⟩
        · have := (hmem j).1 hj
          rw [hr.not_queued] at this
          cases this
        · have hq := (hmem j).1 hj
          have : (s.slot j).settled.state ≠ .empty := by
            rw [(hsettled _).2.2.2.1]
            intro he
            simp [he, SlotState.queued] at hq
          split <;> split <;> simp_all [Slot.granted]
      · rw [hqueue, List.mem_cons, not_or] at hj
        have hne : rest.head? ≠ some j := fun he => hj.2 (List.mem_of_mem_head? he)
        rw [if_neg hne, if_neg hj.1]
        exact .inl (hsettled _).2.2.2.1
  · rw [State.grant_slot hqueue]
    dsimp only
    split <;> split <;> simp [Slot.granted, (hsettled _).2.2.2.1]
  · rw [if_neg fun he : j = h => hout (he ▸ hj)]
    exact hwaiting j hj
  · by_cases hj' : j = h
    · simp [hj', SlotState.queued]
    · rw [if_neg hj']
      have := (hmem j).not.1 (by rw [hqueue]; simp [hj', hj])
      exact eq_false_of_ne_true this
  · rw [State.grant_slot hqueue]
    dsimp only
    split <;> split <;> simp [Slot.granted, (hsettled _).2.2.2.2.1]
  · rw [State.grant_slot hqueue]
    dsimp only
    have : j ≠ h → (s.slot j).prospective = none := fun hj => Option.not_isSome_iff_eq_none.1 fun hp => hj ((hhead j).1 (hprospective j hp))
    split <;> split <;> simp_all [Slot.granted]

theorem State.Arranged.grant (h : s.Arranged) (m : Manner) : (s.grant m).Arranged := by
  cases hq : s.arbiter.queue with
  | nil => unfold State.grant; simpa [hq] using h
  | cons a rest => exact arranged_grant h.bindings h.queue h.handover.2.2.2.2 hq m

/-- What R132 brings leaves the slots arranged, where only the debts that are left may have fallen short of CONFIRMING. -/
theorem arranged_debtCleared (hbindings : s.BindingsSound) (hsound : s.QueueSound)
    (hprospective : ∀ i, (s.slot i).prospective.isSome = true → (s.slot i).state = .entering) (hphase : s.arbiter.phase = some .confirming)
    (htimer : s.arbiter.timer.isSome = true) (hne : s.arbiter.queue ≠ []) (hdebtor : ∀ i, (s.slot i).debt = true → (s.slot i).state = .live) :
    s.debtCleared.Arranged := by
  obtain ⟨a, rest, hq⟩ := List.exists_cons_of_ne_nil hne
  unfold State.debtCleared
  rw [if_pos hphase]
  split
  · exact arranged_grant hbindings hsound hprospective hq _
  next hdebts =>
    have : s.Arranged := by
      refine ⟨hbindings, hsound, by simp [hphase, hne], by simp [hphase, htimer], ⟨fun _ => ?_, fun _ => hphase⟩, hdebtor, hprospective⟩
      simp only [State.debtSet, List.isEmpty_iff, List.filter_eq_nil_iff, not_forall] at hdebts
      obtain ⟨i, -, hi⟩ := hdebts
      exact ⟨i, by simpa using hi⟩
    rw [hq]
    exact (State.Aside.of_post ..).arranged this

/-! ### Withdrawals -/

theorem State.Arranged.queue_state {i : SlotId} (h : s.Arranged) (hi : i ∈ s.arbiter.queue) :
    (s.slot i).state = if s.arbiter.queue.head? = some i then .entering else .waiting := by
  have hq := (h.queue.2.1 i).1 hi
  have he := h.queue.2.2 i
  split
  · exact he.2 ‹_›
  · cases hs : (s.slot i).state <;> simp_all [SlotState.queued]

theorem State.Arranged.withdrawWaiting {i : SlotId} (h : s.Arranged) (hi : (s.slot i).state = .waiting) (o : Admission) :
    (s.withdrawWaiting i o).Arranged := by
  obtain ⟨hnodup, hmem, hentering⟩ := h.queue
  have hslot := fun j => s.withdrawWaiting_slot i j o
  have hport : (s.slot i).port ≠ none := h.bindings.bound (by simp [Slot.AtRest, hi])
  refine h.of_head_stays (bindingsSound_of_moved h.bindings (fun j => ?_) fun j => ?_) ?_ ?_ (fun j => ?_) (fun j => ?_) (by simp) (by simp)
    (fun j => ?_) (fun j hd => ?_) fun j => ?_
  · rw [hslot]; split
    · subst_vars; exact ⟨rfl, rfl, rfl⟩
    · exact ⟨rfl, rfl, rfl⟩
  · rw [hslot]; split
    · subst_vars; exact .inr ⟨hport, by simp⟩
    · exact .inl rfl
  · rw [State.withdrawWaiting_arbiter]
    cases hq : s.arbiter.queue with
    | nil => rfl
    | cons a l =>
      have : a ≠ i := fun he => by
        have := (hentering i).2 (by rw [hq, he]; rfl)
        simp [hi] at this
      simp [this]
  · rw [State.withdrawWaiting_arbiter]; exact hnodup.erase i
  · rw [State.withdrawWaiting_arbiter, hslot]
    dsimp only
    rw [hnodup.mem_erase_iff]
    by_cases hj : j = i
    · simp [hj, SlotState.queued]
    · simp [hj, hmem j]
  · rw [hslot]; split
    · subst_vars; simp [hi]
    · rfl
  · rw [hslot]; split
    · subst_vars; rfl
    · rfl
  · rw [hslot]; split
    · subst_vars
      exact absurd (h.handover.2.2.2.1 _ hd) (by simp [hi])
    · rfl
  · rw [hslot]; split
    · subst_vars; exact id
    · exact id

theorem State.Arranged.withdrawHead {i : SlotId} (h : s.Arranged) (hi : (s.slot i).state = .entering) (o : Admission) : (s.withdrawHead i o).Arranged := by
  obtain ⟨hnodup, hmem, hentering⟩ := h.queue
  have hslot := fun j => s.withdrawHead_slot i j o
  have hport : (s.slot i).port ≠ none := h.bindings.bound (by simp [Slot.AtRest, hi])
  have hmem' : ∀ j, j ∈ s.arbiter.queue.erase i ↔ j ≠ i ∧ j ∈ s.arbiter.queue := fun j => hnodup.mem_erase_iff
  have hwaiting : ∀ j, j ∈ s.arbiter.queue.erase i → j ≠ i ∧ (s.slot j).state = .waiting := fun j hj => by
    obtain ⟨hne, hj⟩ := (hmem' j).1 hj
    refine ⟨hne, ?_⟩
    rw [h.queue_state hj, if_neg fun he => hne ?_]
    exact Option.some.inj (he.symm.trans ((hentering i).1 hi))
  refine .of_head_gone (rest := s.arbiter.queue.erase i) (st := fun j => if j = i then .quiet else (s.slot j).state) ?_ (by simp) (hnodup.erase i)
    (fun j => ?_) (fun j hj => ?_) (fun j hj => ?_) (s.withdrawHead_phase i o) (by simp) (fun j => ?_) fun j => ?_
  · refine bindingsSound_of_moved h.bindings (fun j => ?_) fun j => ?_
    · rw [hslot]
      dsimp only
      split <;> split <;> subst_vars <;> exact ⟨rfl, rfl, rfl⟩
    · rw [hslot]
      dsimp only
      by_cases hq : (s.arbiter.queue.erase i).head? = some j
      · have hj := (hwaiting j (List.mem_of_mem_head? hq)).2
        rw [if_pos hq]
        exact .inr ⟨h.bindings.bound (by simp [Slot.AtRest, hj]), by simp⟩
      · rw [if_neg hq]
        split
        · subst_vars; exact .inr ⟨hport, by simp⟩
        · exact .inl rfl
  · rw [hslot]
    dsimp only
    split <;> split <;> rfl
  · rw [if_neg (hwaiting j hj).1]
    exact (hwaiting j hj).2
  · split
    · rfl
    next hji =>
      exact eq_false_of_ne_true ((hmem j).not.1 fun hjq => hj ((hmem' j).2 ⟨hji, hjq⟩))
  · rw [hslot]
    dsimp only
    split <;> split <;> rfl
  · have : j ≠ i → (s.slot j).prospective = none := fun hj => h.no_prospective fun he => by
      exact hj (Option.some.inj (((hentering j).1 he).symm.trans ((hentering i).1 hi)))
    rw [hslot]
    dsimp only
    split <;> split <;> simp_all

/-- What the report of a pass, a REPORT or a leaver leaves of a sound handover: sound but for a CONFIRMING phase that may have no debt left. -/
structure State.Confirming (s : State) : Prop where
  bindings : s.BindingsSound
  queue : s.QueueSound
  prospective : ∀ i, (s.slot i).prospective.isSome = true → (s.slot i).state = .entering
  phase : s.arbiter.phase = some .confirming
  timer : s.arbiter.timer.isSome = true
  debtor : ∀ i, (s.slot i).debt = true → (s.slot i).state = .live
  waits : s.arbiter.queue ≠ []

theorem State.Confirming.debtCleared (h : s.Confirming) : s.debtCleared.Arranged :=
  arranged_debtCleared h.bindings h.queue h.prospective h.phase h.timer h.waits h.debtor

/-- A slot with a debt stands LIVE while the head waits CONFIRMING. -/
theorem State.Arranged.confirming_of_debt {i : SlotId} (h : s.Arranged) (hd : (s.slot i).debt = true) : s.Confirming := by
  have hphase := h.handover.2.2.1.2 ⟨i, hd⟩
  exact ⟨h.bindings, h.queue, h.handover.2.2.2.2, hphase, h.handover.2.1.1 hphase, h.handover.2.2.2.1, fun he => by
    rw [h.handover.1.2 he] at hphase; cases hphase⟩

/-- A LIVE slot changes its record: it stays LIVE or becomes QUIET, bound as it was, with no debt or prospective ceiling that it had not. -/
theorem State.Confirming.of_live {i : SlotId} (h : s.Confirming) (hsame : ∀ j, j ≠ i → t.slot j = s.slot j) (hqueue : t.arbiter.queue = s.arbiter.queue)
    (hphase : t.arbiter.phase = s.arbiter.phase) (htimer : t.arbiter.timer = s.arbiter.timer) (hlive : (s.slot i).state = .live)
    (hkind : (t.slot i).kind = (s.slot i).kind) (hidentity : (t.slot i).identity = (s.slot i).identity) (hport : (t.slot i).port = (s.slot i).port)
    (hstate : (t.slot i).state = .live ∨ (t.slot i).state = .quiet) (hdebt : (t.slot i).debt = false)
    (hprospective : (t.slot i).prospective = (s.slot i).prospective) : t.Confirming := by
  have hnone : (s.slot i).prospective = none := Option.not_isSome_iff_eq_none.1 fun hp => by
    have := h.prospective i hp
    simp [hlive] at this
  have hbound : (s.slot i).port ≠ none := h.bindings.bound (by simp [Slot.AtRest, hlive])
  obtain ⟨hnodup, hmem, hentering⟩ := h.queue
  refine ⟨bindingsSound_of_moved h.bindings (fun j => ?_) fun j => ?_, ⟨hqueue ▸ hnodup, fun j => ?_, fun j => ?_⟩, fun j => ?_, hphase ▸ h.phase,
    htimer ▸ h.timer, fun j => ?_, hqueue ▸ h.waits⟩
  · by_cases hj : j = i
    · subst hj; exact ⟨hkind, hidentity, hport⟩
    · rw [hsame j hj]; exact ⟨rfl, rfl, rfl⟩
  · by_cases hj : j = i
    · subst hj
      exact .inr ⟨hbound, by rcases hstate with hs | hs <;> simp [hs]⟩
    · rw [hsame j hj]; exact .inl rfl
  · rw [hqueue, hmem]
    by_cases hj : j = i
    · subst hj
      rcases hstate with hs | hs <;> simp [hs, hlive, SlotState.queued]
    · rw [hsame j hj]
  · rw [hqueue, ← hentering]
    by_cases hj : j = i
    · subst hj
      rcases hstate with hs | hs <;> simp [hs, hlive]
    · rw [hsame j hj]
  · by_cases hj : j = i
    · subst hj; simp [hprospective, hnone]
    · rw [hsame j hj]; exact h.prospective j
  · by_cases hj : j = i
    · subst hj; simp [hdebt]
    · rw [hsame j hj]; exact h.debtor j

/-- A LIVE slot without a debt changes its record likewise. -/
theorem State.Arranged.of_live {i : SlotId} (h : s.Arranged) (hsame : ∀ j, j ≠ i → t.slot j = s.slot j) (hqueue : t.arbiter.queue = s.arbiter.queue)
    (hphase : t.arbiter.phase = s.arbiter.phase) (htimer : t.arbiter.timer = s.arbiter.timer) (hlive : (s.slot i).state = .live)
    (hkind : (t.slot i).kind = (s.slot i).kind) (hidentity : (t.slot i).identity = (s.slot i).identity) (hport : (t.slot i).port = (s.slot i).port)
    (hstate : (t.slot i).state = .quiet) (hdebt : (t.slot i).debt = (s.slot i).debt) (hno : (s.slot i).debt = false)
    (hprospective : (t.slot i).prospective = (s.slot i).prospective) : t.Arranged := by
  have hbound : (s.slot i).port ≠ none := h.bindings.bound (by simp [Slot.AtRest, hlive])
  obtain ⟨hnodup, hmem, hentering⟩ := h.queue
  refine h.of_head_stays (bindingsSound_of_moved h.bindings (fun j => ?_) fun j => ?_) (by rw [hqueue]) (hqueue ▸ hnodup) (fun j => ?_) (fun j => ?_) hphase htimer
    (fun j => ?_) (fun j hd => ?_) fun j => ?_
  · by_cases hj : j = i
    · subst hj; exact ⟨hkind, hidentity, hport⟩
    · rw [hsame j hj]; exact ⟨rfl, rfl, rfl⟩
  · by_cases hj : j = i
    · subst hj; exact .inr ⟨hbound, by simp [hstate]⟩
    · rw [hsame j hj]; exact .inl rfl
  · rw [hqueue, hmem]
    by_cases hj : j = i
    · subst hj; simp [hstate, hlive, SlotState.queued]
    · rw [hsame j hj]
  · by_cases hj : j = i
    · subst hj; simp [hstate, hlive]
    · rw [hsame j hj]
  · by_cases hj : j = i
    · subst hj; exact hdebt
    · rw [hsame j hj]
  · by_cases hj : j = i
    · subst hj; simp [hno] at hd
    · rw [hsame j hj]
  · by_cases hj : j = i
    · subst hj; rw [hprospective]; exact id
    · rw [hsame j hj]; exact id

theorem State.Arranged.leaveLive {i : SlotId} (h : s.Arranged) (hi : (s.slot i).state = .live) (forced : Bool) : (s.leaveLive i forced).Arranged := by
  have hslot : (s.leftLive i forced).slot i = (s.slot i).leftLive forced := by simp [State.leftLive_slot]
  have hsame : ∀ j, j ≠ i → (s.leftLive i forced).slot j = s.slot j := fun j hj => by simp [State.leftLive_slot, hj]
  rw [State.leaveLive_eq]
  split
  next hd =>
    refine ((h.confirming_of_debt hd).of_live hsame (by simp) (by simp) (by simp) hi ?_ ?_ ?_ ?_ ?_ ?_).debtCleared <;> rw [hslot]
    · rfl
    · rfl
    · rfl
    · exact .inr rfl
    · rfl
    · rfl
  next hd =>
    have hno := eq_false_of_ne_true hd
    refine h.of_live hsame (by simp) (by simp) (by simp) hi ?_ ?_ ?_ ?_ ?_ hno ?_ <;> rw [hslot]
    · rfl
    · rfl
    · rfl
    · rfl
    · exact hno.symm
    · rfl

theorem State.Arranged.quietSlot (h : s.Arranged) (i : SlotId) (forced : Bool) : (s.quietSlot i forced).Arranged := by
  unfold State.quietSlot
  dsimp only
  split
  · exact h.leaveLive ‹_› forced
  · exact h.withdrawWaiting ‹_› _
  · exact h.withdrawHead ‹_› _
  · exact h

theorem State.Arranged.takeQuiet (h : s.Arranged) (forced : Bool) (i : SlotId) : (s.takeQuiet forced i).1.Arranged := by
  unfold State.takeQuiet
  dsimp only
  split
  · exact h.quietSlot i forced
  · exact (h.quietSlot i forced).ageSlot i

theorem State.Arranged.takeReport (h : s.Arranged) (a : ReportArgs) (i : SlotId) : (s.takeReport a i).1.Arranged := by
  unfold State.takeReport
  dsimp only
  have hslot : (s.updClamped i (fun y => y.reported s.site (saturate a.level) a.serial) .report
      (some (saturate a.level, a.serial, (s.slot i).judgementLimit a.serial))).slot i = (s.slot i).reported s.site (saturate a.level) a.serial := by
    simp [State.updClamped]
  have hsame : ∀ j, j ≠ i → (s.updClamped i (fun y => y.reported s.site (saturate a.level) a.serial) .report
      (some (saturate a.level, a.serial, (s.slot i).judgementLimit a.serial))).slot j = s.slot j := fun j hj => by simp [State.updClamped, hj]
  split
  next hd =>
    obtain ⟨hd, hconfirms⟩ := Bool.and_eq_true_iff.1 hd
    have hlive := h.handover.2.2.2.1 i hd
    refine ((h.confirming_of_debt hd).of_live hsame (by simp) (by simp) (by simp) hlive ?_ ?_ ?_ ?_ ?_ ?_).debtCleared <;> rw [hslot]
    · rfl
    · rfl
    · rfl
    · exact .inl hlive
    · simp [Slot.reported, hconfirms]
    · rfl
  next hd =>
    refine (State.Aside.of_updClamped _ _ ⟨rfl, rfl, rfl, rfl, ?_, .inl⟩).arranged h
    simp only [Bool.and_eq_true, not_and] at hd
    cases hdebt : (s.slot i).debt <;> simp_all [Slot.reported]

/-! ### A removal at curfew, and the report of a pass -/

theorem State.Arranged.removeAtCurfew (h : s.Arranged) (removed : SlotId → Bool) : (s.removeAtCurfew removed).Arranged := by
  obtain ⟨hnodup, hmem, hentering⟩ := h.queue
  have hbound : ∀ j, j ∈ s.arbiter.queue → (s.slot j).port ≠ none := fun j hj => h.bindings.bound fun hr => by
    have := (hmem j).1 hj
    rw [hr.not_queued] at this
    cases this
  cases hgone : s.headGone removed with
  | false =>
    have hslot := State.removeAtCurfew_slot_of_stays hnodup hgone
    have harbiter := State.removeAtCurfew_arbiter_of_stays hgone
    have hstays : ∀ j, s.arbiter.queue.head? = some j → removed j = false := fun j hj => by
      simpa [State.headGone, hj] using hgone
    refine h.of_head_stays (bindingsSound_of_moved h.bindings (fun j => ?_) fun j => ?_) ?_ ?_ (fun j => ?_) (fun j => ?_) (by rw [harbiter]) (by rw [harbiter])
      (fun j => ?_) (fun j hd => ?_) fun j => ?_
    · rw [hslot]; split <;> exact ⟨rfl, rfl, rfl⟩
    · rw [hslot]; split
      next hj => exact .inr ⟨hbound j hj.1, by simp [Slot.refusedCurfew]⟩
      next => exact .inl rfl
    · rw [harbiter]
      cases hq : s.arbiter.queue with
      | nil => rfl
      | cons a l => simp [hstays a (by rw [hq]; rfl)]
    · rw [harbiter]; exact hnodup.filter _
    · rw [harbiter, hslot]
      dsimp only
      rw [List.mem_filter]
      split
      next hj => simp [hj.2, Slot.refusedCurfew, SlotState.queued]
      next hj => 
        rw [← hmem]
        constructor
        · exact fun hj' => hj'.1
        · exact fun hj' => ⟨hj', by simpa [hj'] using hj⟩
    · rw [hslot]; split
      next hj =>
        have : (s.slot j).state ≠ .entering := fun he => by
          have := hstays j ((hentering j).1 he)
          simp [hj.2] at this
        simp [Slot.refusedCurfew, this]
      next => rfl
    · rw [hslot]; split <;> rfl
    · rw [hslot]; split
      next hj =>
        have := (hmem j).1 hj.1
        rw [h.handover.2.2.2.1 j hd] at this
        cases this
      next => rfl
    · rw [hslot]; split
      · simp [Slot.refusedCurfew]
      · exact id
  | true =>
    have hslot := State.removeAtCurfew_slot_of_gone hnodup hgone
    obtain ⟨a, l, hq⟩ : ∃ a l, s.arbiter.queue = a :: l := by
      cases hq : s.arbiter.queue with
      | nil => simp [State.headGone, hq] at hgone
      | cons a l => exact ⟨a, l, rfl⟩
    have hra : removed a = true := by simpa [State.headGone, hq] using hgone
    have hmem' : ∀ j, j ∈ (s.arbiter.queue.filter fun i => !removed i) ↔ j ∈ s.arbiter.queue ∧ removed j = false := fun j => by simp
    have hwaiting : ∀ j, j ∈ s.arbiter.queue → removed j = false → (s.slot j).state = .waiting := fun j hj hr => by
      rw [h.queue_state hj, if_neg fun he => ?_]
      rw [hq] at he
      cases he
      simp [hra] at hr
    refine .of_head_gone (rest := s.arbiter.queue.filter fun i => !removed i)
      (st := fun j => if j ∈ s.arbiter.queue ∧ removed j = true then .quiet else (s.slot j).state) ?_ (by simp) (hnodup.filter _) (fun j => ?_)
      (fun j hj => ?_) (fun j hj => ?_) (State.removeAtCurfew_phase_of_gone hgone) (State.removeAtCurfew_timer_of_gone hgone) (fun j => ?_) fun j => ?_
    · refine bindingsSound_of_moved h.bindings (fun j => ?_) fun j => ?_
      · rw [hslot]
        dsimp only
        split <;> split <;> exact ⟨rfl, rfl, rfl⟩
      · rw [hslot]
        dsimp only
        by_cases hhead : (s.arbiter.queue.filter fun i => !removed i).head? = some j
        · rw [if_pos hhead]
          exact .inr ⟨hbound j ((hmem' j).1 (List.mem_of_mem_head? hhead)).1, by simp⟩
        · rw [if_neg hhead]
          split
          next hj => exact .inr ⟨hbound j hj.1, by simp [Slot.refusedCurfew]⟩
          next => exact .inl rfl
    · rw [hslot]
      dsimp only
      split <;> split <;> rfl
    · obtain ⟨hj, hr⟩ := (hmem' j).1 hj
      rw [if_neg (by simp [hr])]
      exact hwaiting j hj hr
    · split
      · rfl
      next hr =>
        refine eq_false_of_ne_true ((hmem j).not.1 fun hjq => hj ((hmem' j).2 ⟨hjq, ?_⟩))
        simpa [hjq] using hr
    · rw [hslot]
      dsimp only
      split <;> split <;> rfl
    · have : ¬(j ∈ s.arbiter.queue ∧ removed j = true) → (s.slot j).prospective = none := fun hj => h.no_prospective fun he => by
        have := (hentering j).1 he
        rw [hq] at this
        cases this
        exact hj ⟨by rw [hq]; simp, hra⟩
      rw [hslot]
      dsimp only
      split <;> split <;> simp_all [Slot.refusedCurfew]

theorem State.Arranged.curfewRemoval (h : s.Arranged) (removed : SlotId → Bool) : (s.curfewRemoval removed).Arranged :=
  arranged_foldl (fun _ i hs => hs.ageSlot i) _ (h.removeAtCurfew removed)

theorem State.Arranged.pathCreated (h : s.Arranged) (i : SlotId) (r : ReceptorId) : (s.pathCreated i r).Arranged := by
  unfold State.pathCreated
  split
  · split
    · exact h.curfewRemoval _
    · exact h
  · exact h

theorem State.Arranged.takePassReport (h : s.Arranged) (entering : Option SlotId) (fallen : List SlotId) : (s.takePassReport entering fallen).Arranged := by
  unfold State.takePassReport
  split
  · exact h
  next a l hq =>
    split
    next hcond =>
      have hslot := s.setDebts_slot fallen
      have harbiter := s.setDebts_arbiter fallen
      have hind : ∀ j, ((s.slot j).indebted).kind = (s.slot j).kind ∧ (s.slot j).indebted.identity = (s.slot j).identity ∧
          (s.slot j).indebted.port = (s.slot j).port ∧ (s.slot j).indebted.state = (s.slot j).state ∧
          (s.slot j).indebted.prospective = (s.slot j).prospective ∧ ((s.slot j).indebted.debt = true → (s.slot j).state = .live) := fun j => by
        have := h.handover.2.2.2.1 j
        unfold Slot.indebted
        split <;> simp_all
      have hrecord : ∀ j, ((fallen.foldl State.setDebt s).slot j).kind = (s.slot j).kind ∧
          ((fallen.foldl State.setDebt s).slot j).identity = (s.slot j).identity ∧ ((fallen.foldl State.setDebt s).slot j).port = (s.slot j).port ∧
          ((fallen.foldl State.setDebt s).slot j).state = (s.slot j).state ∧
          ((fallen.foldl State.setDebt s).slot j).prospective = (s.slot j).prospective ∧
          (((fallen.foldl State.setDebt s).slot j).debt = true → (s.slot j).state = .live) := fun j => by
        rw [hslot]
        split
        · exact hind j
        · exact ⟨rfl, rfl, rfl, rfl, rfl, h.handover.2.2.2.1 j⟩
      have hbindings : (fallen.foldl State.setDebt s).BindingsSound :=
        bindingsSound_of_moved h.bindings (fun j => ⟨(hrecord j).1, (hrecord j).2.1, (hrecord j).2.2.1⟩) fun j => .inl (hrecord j).2.2.2.1
      have hqueue : (fallen.foldl State.setDebt s).QueueSound := by
        unfold State.QueueSound
        rw [harbiter]
        simp only [fun j => (hrecord j).2.2.2.1]
        exact h.queue
      have hprospective : ∀ j, ((fallen.foldl State.setDebt s).slot j).prospective.isSome = true →
          ((fallen.foldl State.setDebt s).slot j).state = .entering := fun j => by
        rw [(hrecord j).2.2.2.2.1, (hrecord j).2.2.2.1]
        exact h.handover.2.2.2.2 j
      dsimp only
      split
      · exact arranged_grant hbindings hqueue hprospective (by rw [harbiter]; exact hq) _
      next hdebts =>
        refine (State.Aside.of_post ..).arranged ⟨hbindings, hqueue, ⟨?_, by simp, ⟨fun _ => ?_, fun _ => rfl⟩, fun j hd => ?_, hprospective⟩⟩
        · simp [harbiter, hq]
        · simp only [State.debtSet, List.isEmpty_iff, List.filter_eq_nil_iff, not_forall] at hdebts
          obtain ⟨i, -, hi⟩ := hdebts
          refine ⟨i, ?_⟩
          show ((fallen.foldl State.setDebt s).slot i).debt = true
          simpa using hi
        · exact (hrecord j).2.2.2.1.trans ((hrecord j).2.2.2.2.2 hd)
    · exact h

end arranged

end Sys2Proof.Machine
end

section
/-! SUPPORT. Every step keeps the bindings, the queue and the handover sound (O10). -/

namespace Sys2Proof.Machine

section arranged
variable {s t : State}

/-- Slots and an arbiter that stay as they were stay arranged. -/
theorem State.Arranged.of_same (h : s.Arranged) (hslots : t.slots = s.slots) (hqueue : t.arbiter.queue = s.arbiter.queue)
    (hphase : t.arbiter.phase = s.arbiter.phase) (htimer : t.arbiter.timer = s.arbiter.timer) : t.Arranged := by
  have hslot : ∀ i, t.slot i = s.slot i := fun i => by unfold State.slot; rw [hslots]
  refine ⟨?_, ?_, ?_⟩
  · unfold State.BindingsSound; simp only [hslot]; exact h.bindings
  · unfold State.QueueSound; simp only [hslot, hqueue]; exact h.queue
  · unfold State.HandoverSound; simp only [hslot, hqueue, hphase, htimer]; exact h.handover

theorem State.Arranged.updZone (h : s.Arranged) (z : ZoneId) (f : Zone → Zone) : (s.updZone z f).Arranged := h.of_same rfl rfl rfl rfl
theorem State.Arranged.setZone (h : s.Arranged) (z : ZoneId) (x : Zone) : (s.setZone z x).Arranged := h.of_same rfl rfl rfl rfl
theorem State.Arranged.setReceptor (h : s.Arranged) (r : ReceptorId) (x : Option Receptor) : (s.setReceptor r x).Arranged := h.of_same rfl rfl rfl rfl
theorem State.Arranged.setPath (h : s.Arranged) (p : PathPos) (e : Option PathEntry) : (s.setPath p e).Arranged := h.of_same rfl rfl rfl rfl
theorem State.Arranged.triggerIf (h : s.Arranged) (c : Bool) : (s.triggerIf c).Arranged := (State.Aside.of_triggerIf s c).arranged h
theorem State.Arranged.trigger (h : s.Arranged) : s.trigger.Arranged := (State.Aside.of_trigger s).arranged h
theorem State.Arranged.post (h : s.Arranged) (n : Notice) : (s.post n).Arranged := (State.Aside.of_post s n).arranged h

/-- The slots and the arbiter at reset are arranged. -/
theorem arranged_of_blocksAtReset (h : s.BlocksAtReset) : s.Arranged := by
  obtain ⟨-, -, -, -, hslot, -, -, harbiter, -⟩ := h
  refine ⟨⟨fun i => by rw [hslot]; decide, fun i j _ => ?_⟩, ⟨?_, fun i => ?_, fun i => ?_⟩, ⟨?_, ?_, ?_, fun i => ?_, fun i => ?_⟩⟩ <;>
    simp [hslot, harbiter, slotDefault, arbiterAtReset, SlotState.queued]

/-! ### The schedule unit -/

theorem State.Arranged.setCurfew (h : s.Arranged) (z : ZoneId) (st : ZoneState) (fade : Nat) : (s.setCurfew z st fade).Arranged := by
  have hb : ((((s.updZone z fun x => { x with state := st, fade := fade }).triggerIf ((s.zone z).state != st))).triggerIf
      ((s.zone z).fade != fade)).Arranged :=
    ((h.updZone z _).triggerIf _).triggerIf _
  unfold State.setCurfew
  dsimp only
  split
  · exact hb.curfewRemoval _
  · exact hb

theorem State.Arranged.curfewBreakpoint (h : s.Arranged) (z : ZoneId) : (s.curfewBreakpoint z).Arranged := by
  unfold State.curfewBreakpoint
  split
  · split
    · exact (h.updZone z _).setCurfew ..
    · exact h
    · exact h.setCurfew ..
  · exact h.setCurfew ..

theorem State.Arranged.evaluateZone (h : s.Arranged) (z : ZoneId) : (s.evaluateZone z).Arranged := by
  unfold State.evaluateZone
  dsimp only
  refine (State.Aside.of_postZoneIfChanged ..).arranged ?_
  split
  · exact ((State.Aside.of_setEffective ..).arranged (h.updZone z _)).setCurfew ..
  · split
    · exact h
    · split
      · split
        · exact h.updZone z _
        · exact h
      · have ha (n : Nat) (limit : Level) := (State.Aside.of_enterBreakpoint s z n limit).arranged h
        split
        · exact (ha _ _).curfewBreakpoint z
        · exact (ha _ _).setCurfew ..

theorem State.Arranged.evaluateZones (h : s.Arranged) : s.evaluateZones.Arranged := arranged_foldl (fun _ z hs => hs.evaluateZone z) _ h

theorem State.Arranged.zoneSecond (h : s.Arranged) (z : ZoneId) : (s.zoneSecond z).Arranged := by
  unfold State.zoneSecond
  dsimp only
  refine (State.Aside.ite (fun _ => .of_post ..) fun _ => .refl _).arranged ?_
  have ha := (State.Aside.ite (c := (s.zone z).licence < (s.zone z).effective)
    (fun _ => .of_setEffective s z (limitedStep (s.zone z).effective (s.zone z).licence 0 (s.zone z).rampRate)) fun _ => .refl s).arranged h
  split
  · exact ha.setCurfew ..
  · exact ha

theorem arranged_zonesAtMinute {st : State × List (Level × Nat)} (zones : List ZoneId) (h : st.1.Arranged) :
    (zones.foldl State.zoneMinute st).1.Arranged := by
  induction zones generalizing st with
  | nil => exact h
  | cons z zones ih =>
    refine ih ?_
    unfold State.zoneMinute
    exact ((h.evaluateZone z).updZone z _).zoneSecond z

theorem State.Arranged.secondWork (h : s.Arranged) : s.secondWork.Arranged := by
  unfold State.secondWork
  split
  · exact h
  · exact (State.Aside.of_pollAtSecond _).arranged (arranged_foldl (fun _ z hs => hs.zoneSecond z) _ h)

theorem State.Arranged.minuteWork (h : s.Arranged) (ended : Nat) : (s.minuteWork ended).Arranged := by
  unfold State.minuteWork
  split
  · exact h
  · exact ((State.Aside.of_closeMinute ..).trans (.of_pollAtSecond _)).arranged (arranged_zonesAtMinute allZones h)

/-! ### The tables -/

theorem State.Arranged.replaceSite (h : s.Arranged) (x : Site) : (s.replaceSite x).Arranged :=
  State.Arranged.ageAll <| ((State.Aside.of_triggerIf ..).trans ((State.Aside.of_post ..).trans (.of_staleAll _))).arranged
    (h.of_same (t := { s with site := x }) rfl rfl rfl rfl)

theorem State.Arranged.replaceZone (h : s.Arranged) (z : ZoneId) (bps : List Breakpoint) (ramp margin : Nat) :
    (s.replaceZone z bps ramp margin).Arranged :=
  (((h.updZone z _).triggerIf _).evaluateZone z).post _

theorem State.Arranged.unloadZone (h : s.Arranged) (z : ZoneId) : (s.unloadZone z).Arranged :=
  (((((h.setZone z zoneDefault).triggerIf _).triggerIf _).triggerIf _).triggerIf _).post _

theorem State.Arranged.clearCompliance (h : s.Arranged) (r : ReceptorId) : (s.clearCompliance r).Arranged := by
  unfold State.clearCompliance
  split
  · exact h
  · exact (h.setReceptor r _).triggerIf _

theorem State.Arranged.editReceptor (h : s.Arranged) (r : ReceptorId) (old : Receptor) (address : Nat) (zone : ZoneId) (floor : Level) :
    (s.editReceptor r old address zone floor).Arranged := by
  unfold State.editReceptor
  dsimp only
  have ha : ((s.setReceptor r (some { old with zone := zone, floor := floor })).triggerIf (old.zone != zone)).Arranged :=
    (h.setReceptor r _).triggerIf _
  have hb (u : State) (hu : u.Arranged) : (u.restation r old address).Arranged :=
    (State.Aside.of_abandonPoll ..).arranged (((hu.setReceptor r _).triggerIf _).post _)
  have hc (u : State) (hu : u.Arranged) : (if (old.zone != zone || old.address != address) = true then
      u.closeExceedance r u.clock.minute .receptorEdited true else u).Arranged :=
    (State.Aside.ite (fun _ => .of_closeExceedance ..) fun _ => .refl _).arranged hu
  split
  · exact (hc _ (hb _ ha)).clearCompliance r
  · exact hc _ ha

theorem State.Arranged.removeReceptor (h : s.Arranged) (r : ReceptorId) : (s.removeReceptor r).Arranged :=
  (State.Aside.of_abandonPoll ..).arranged (((State.Aside.of_closeExceedance ..).arranged h).setReceptor r none)

/-! ### What an owner makes of the state -/

theorem State.Arranged.owner {p : Port} (h : s.Arranged) (hstep : OwnerStep p s t) : t.Arranged := by
  cases hstep with
  | unchanged => exact h
  | enrols bound i id hport hbound hsettled helsewhere hchosen => exact h.enrols hport hbound hsettled helsewhere hchosen
  | reports a i => exact h.takeReport a i
  | joins i hbound hmode hquiet => exact h.joinQueue hquiet (by rw [(boundSlot_eq_some hbound).2]; simp)
  | quiets forced i => exact h.takeQuiet forced i
  | takesQuery q => exact (State.Aside.of_takeQuery ..).arranged h
  | handsForecast => exact h.of_same rfl rfl rfl rfl
  | setsClock minute second => 
    refine State.Arranged.evaluateZones ?_
    exact h.of_same rfl rfl rfl rfl
  | entersEnforce => 
    have hz := h.evaluateZones
    unfold State.beginEnforce
    generalize s.evaluateZones = u at hz ⊢
    refine State.Arranged.trigger ?_
    exact hz.of_same rfl rfl rfl rfl
  | returnsToSetup => exact h.of_same rfl rfl rfl rfl
  | pushesCap i cap => exact ((State.Aside.of_updSlot ⟨rfl, rfl, rfl, rfl, rfl, .inl⟩).trans (.of_trigger _)).arranged h
  | popsCap i top rest => exact ((State.Aside.of_updSlot ⟨rfl, rfl, rfl, rfl, rfl, .inl⟩).trans (.of_trigger _)).arranged h
  | setsConsole i present event => exact (State.Aside.of_setConsole ..).arranged h
  | evicts i hsettled => exact h.evictSlot (Slot.atRest_of_settledQuiet hsettled)
  | readsNotices => exact h.of_same rfl rfl rfl rfl
  | setsMask => exact h.of_same rfl rfl rfl rfl
  | savesSettings => exact h.of_same rfl rfl rfl rfl
  | replacesSite x => exact h.replaceSite x
  | replacesZone z bps ramp margin => exact h.replaceZone ..
  | unloadsZone z => exact h.unloadZone z
  | createsReceptor r address z floor => exact h.setReceptor r _
  | editsReceptor r x address z floor => exact h.editReceptor ..
  | removesReceptor r => exact h.removeReceptor r
  | replacesStage i k weight stageMax htable hkind hport => exact h.replaceStage hkind hport weight stageMax
  | returnsStage i htable hmode hport => exact h.returnStage hport
  | createsPath q i r loss => exact (h.setPath q _).trigger.pathCreated ..
  | changesLoss q i r old loss => exact (h.setPath q _).triggerIf _
  | deletesPath q i r => exact (h.setPath q _).trigger
  | ordersClear k => exact h.of_same rfl rfl rfl rfl

end arranged

end Sys2Proof.Machine
end

section
/-! SUPPORT. The settings load, entry after entry: what each entry makes of the state, and the bindings, the queue and the path table that a whole load
leaves sound (R175, R176). -/

namespace Sys2Proof.Machine

/-! ### What an entry makes of the state -/

/-- A receptor entry is skipped, or its record takes a receptor number and a station address that no entry before it has, in a zone with a breakpoint. -/
theorem loadReceptor_cases (before : List (List Byte)) (l : Loading) (bs : List Byte) :
    loadReceptor before l bs = l.skip ∨
      ∃ r z floor, byteAt bs 0 = r.val + 1 ∧ 1 ≤ byteAt bs 1 ∧ byteAt bs 1 ≤ 31 ∧ floor ≤ 1400 ∧ (l.state.zone z).breakpoints ≠ [] ∧
        (∀ b ∈ before, byteAt b 0 ≠ byteAt bs 0 ∧ byteAt b 1 ≠ byteAt bs 1) ∧
        (loadReceptor before l bs).state = l.state.setReceptor r (some (receptorCreated (byteAt bs 1) z floor)) := by
  unfold loadReceptor
  dsimp only
  split
  next r z hr hz =>
    split
    · exact .inl rfl
    next haddress =>
      split
      · exact .inl rfl
      next hbefore =>
        split
        · exact .inl rfl
        next hbreakpoints =>
          refine .inr ⟨r, z, clampNat 0 1400 (wordAt bs 3), keyFromOne_eq_some.1 hr, by omega, by omega, (clampNat_bounds (by omega) _).2,
            by simpa using hbreakpoints, fun b hb => ?_, rfl⟩
          simp only [List.any_eq_true, not_exists, not_and, Bool.or_eq_true, beq_iff_eq, not_or] at hbefore
          exact hbefore b hb
  next => exact .inl rfl

/-- A stage entry is skipped, or a slot that no entry before it names becomes FIXED with an identity that no entry before it has. -/
theorem loadStage_cases (before : List (List Byte)) (l : Loading) (bs : List Byte) :
    loadStage before l bs = l.skip ∨
      ∃ i weight stageMax, byteAt bs 0 = i.val + 1 ∧ (1 ≤ weight ∧ weight ≤ 4) ∧ stageMax ≤ 1400 ∧
        (∀ b ∈ before, byteAt b 0 ≠ byteAt bs 0 ∧ identityOf b ≠ identityOf bs) ∧
        (loadStage before l bs).state = l.state.setSlot i
          { slotDefault with kind := .fixed, state := .quiet, identity := some (identityOf bs), weight := weight, stageMax := stageMax } := by
  unfold loadStage
  dsimp only
  split
  · exact .inl rfl
  next i hi =>
    split
    · exact .inl rfl
    next hbefore =>
      refine .inr ⟨i, clampNat 1 4 (byteAt bs 7), clampNat 0 1400 (wordAt bs 8), keyFromOne_eq_some.1 hi, clampNat_bounds (by omega) _,
        (clampNat_bounds (by omega) _).2, fun b hb => ?_, rfl⟩
      simp only [List.any_eq_true, not_exists, not_and, Bool.or_eq_true, beq_iff_eq, not_or] at hbefore
      exact hbefore b hb

/-- A path entry is skipped, or takes the lowest free position with a key that no entry before it has, of a FIXED slot and a receptor with a record. -/
theorem loadPath_cases (before : List (List Byte)) (l : Loading) (bs : List Byte) :
    loadPath before l bs = l.skip ∨
      ∃ i r p loss, byteAt bs 0 = i.val + 1 ∧ byteAt bs 1 = r.val + 1 ∧ l.state.freePathPosition = some p ∧ loss ≤ 1200 ∧
        (l.state.slot i).kind = .fixed ∧ (l.state.receptor r).isSome = true ∧
        (∀ b ∈ before, ¬(byteAt b 0 = byteAt bs 0 ∧ byteAt b 1 = byteAt bs 1)) ∧
        (loadPath before l bs).state = l.state.setPath p (some { slot := i, receptor := r, loss := loss }) := by
  unfold loadPath
  dsimp only
  split
  next i r p hi hr hp =>
    split
    · exact .inl rfl
    next hbefore =>
      split
      · exact .inl rfl
      next hnames =>
        simp only [not_or, not_not, Option.isNone_iff_eq_none] at hnames
        refine .inr ⟨i, r, p, clampNat 0 1200 (wordAt bs 2), keyFromOne_eq_some.1 hi, keyFromOne_eq_some.1 hr, hp, (clampNat_bounds (by omega) _).2, hnames.1,
          Option.isSome_iff_ne_none.2 hnames.2, fun b hb => ?_, rfl⟩
        simp only [List.any_eq_true, not_exists, not_and, Bool.and_eq_true, beq_iff_eq] at hbefore
        exact fun h => hbefore b hb h.1 h.2
  next => exact .inl rfl

/-- What holds with the entries taken so far, and is kept by each entry, holds after the last. -/
theorem loadEntries_induction {f : List (List Byte) → Loading → List Byte → Loading} {P : List (List Byte) → Loading → Prop}
    (hstep : ∀ before l e, P before l → P (before ++ [e]) (f before l e)) {before : List (List Byte)} {l : Loading} (h : P before l)
    (es : List (List Byte)) : P (before ++ es) (loadEntries f before l es) := by
  induction es generalizing before l with
  | nil => simpa [loadEntries] using h
  | cons e es ih => simpa [loadEntries] using ih (hstep before l e h)

/-! ### What a load keeps sound -/

/-- The slots stand arranged and unbound, and the path table is sound, while a load runs. -/
structure State.LoadSound (s : State) : Prop where
  arranged : s.Arranged
  unbound : ∀ i, (s.slot i).port = none
  table : s.table = .idle
  paths : s.PathsSound

theorem State.LoadSound.atRest {s : State} (h : s.LoadSound) (i : SlotId) : (s.slot i).AtRest := (h.arranged.bindings.1 i).2.2.1 (h.unbound i)

/-- Other zones, while no receptor has a record. -/
theorem State.LoadSound.of_zones {s t : State} (h : s.LoadSound) (hnone : ∀ r, s.receptor r = none) (hslots : t.slots = s.slots)
    (harbiter : t.arbiter = s.arbiter) (htable : t.table = s.table) (hpaths : t.paths = s.paths) (hreceptors : t.receptors = s.receptors) : t.LoadSound := by
  have hslot : ∀ i, t.slot i = s.slot i := fun i => by unfold State.slot; rw [hslots]
  have hpath : ∀ p, t.path p = s.path p := fun p => by unfold State.path; rw [hpaths]
  have hreceptor : ∀ r, t.receptor r = s.receptor r := fun r => by unfold State.receptor; rw [hreceptors]
  refine ⟨h.arranged.of_same hslots (by rw [harbiter]) (by rw [harbiter]) (by rw [harbiter]), by simpa only [hslot] using h.unbound, htable ▸ h.table, ?_⟩
  obtain ⟨hkey, hentry, -, hclear, hclearZone⟩ := h.paths
  unfold State.PathsSound
  simp only [hpath, hslot, hreceptor, htable]
  exact ⟨hkey, hentry, fun r x hx => by simp [hnone] at hx, hclear, hclearZone⟩

/-- A new receptor record, in a zone with a breakpoint. -/
theorem State.LoadSound.setReceptor {s : State} {r : ReceptorId} {x : Receptor} (h : s.LoadSound) (hzone : (s.zone x.zone).breakpoints ≠ []) :
    (s.setReceptor r (some x)).LoadSound := by
  obtain ⟨hkey, hentry, hzones, hclear, hclearZone⟩ := h.paths
  refine ⟨h.arranged.setReceptor r _, h.unbound, h.table, hkey, fun p e he => ?_, fun q y hy => ?_, by simp [h.table], by simp [h.table]⟩
  · obtain ⟨hloss, hslot, hreceptor⟩ := hentry p e he
    refine ⟨hloss, hslot, ?_⟩
    by_cases hq : e.receptor = r
    · rw [hq]; simp
    · simpa [hq] using hreceptor
  · by_cases hq : q = r
    · subst hq
      simp only [State.receptor_setReceptor_same, Option.mem_some_iff] at hy
      subst hy
      exact hzone
    · rw [State.receptor_setReceptor_ne _ _ _ _ hq] at hy
      exact hzones q y hy

/-- An unbound slot without an identity becomes FIXED with an identity that no slot has. -/
theorem State.LoadSound.fixes {s : State} {i : SlotId} {id : Identity} {x : Slot} (h : s.LoadSound) (hid : ∀ j, j ≠ i → (s.slot j).identity ≠ some id)
    (hkind : x.kind = .fixed) (hidentity : x.identity = some id) (hstate : x.state = .quiet) (hport : x.port = none) (hdebt : x.debt = false)
    (hprospective : x.prospective = none) : (s.setSlot i x).LoadSound := by
  have hslot : (s.setSlot i x).slot i = x := s.slot_setSlot_same i x
  have hsame : ∀ j, j ≠ i → (s.setSlot i x).slot j = s.slot j := fun j hj => by simp [hj]
  obtain ⟨hkey, hentry, hzones, hclear, hclearZone⟩ := h.paths
  refine ⟨h.arranged.of_updated hsame rfl rfl rfl (h.atRest i) (by rw [hslot]; exact .inl hstate) (by rw [hslot]; exact hdebt) (by rw [hslot]; exact hprospective)
    (bindingsSound_of_updated h.arranged.bindings hsame ?_ fun j hj => ?_), fun j => ?_, h.table, hkey, fun p e he => ?_, hzones, hclear, hclearZone⟩
  · rw [hslot]
    exact ⟨fun hk => by simp [hkind] at hk, fun _ => ⟨by rw [hidentity]; rfl, by simp [hstate]⟩, fun _ => .inl hstate, by simp [hport]⟩
  · rw [hslot, hidentity, hport]
    exact ⟨fun he => absurd he.symm (hid j hj), fun _ => rfl⟩
  · by_cases hj : j = i
    · rw [hj, hslot]; exact hport
    · rw [hsame j hj]; exact h.unbound j
  · obtain ⟨hloss, hne, hreceptor⟩ := hentry p e he
    refine ⟨hloss, ?_, hreceptor⟩
    by_cases hj : e.slot = i
    · rw [hj, hslot]; simp [hstate]
    · rw [hsame _ hj]; exact hne

/-- A free position takes an entry with a new key, of a FIXED slot and a receptor with a record. -/
theorem State.LoadSound.setPath {s : State} {p : PathPos} {e : PathEntry} (h : s.LoadSound) (hnew : ∀ q f, s.path q = some f → ¬f.hasKey e.slot e.receptor)
    (hloss : e.loss ≤ 1200) (hkind : (s.slot e.slot).kind = .fixed) (hreceptor : (s.receptor e.receptor).isSome = true) :
    (s.setPath p (some e)).LoadSound := by
  obtain ⟨hkey, hentry, hzones, hclear, hclearZone⟩ := h.paths
  have hpath : (s.setPath p (some e)).path p = some e := s.path_setPath_same p (some e)
  have hsame : ∀ q, q ≠ p → (s.setPath p (some e)).path q = s.path q := fun q hq => by simp [hq]
  refine ⟨h.arranged.setPath p _, h.unbound, h.table, fun q q' f hf f' hf' hff => ?_, fun q f hf => ?_, hzones, by simp [h.table], by simp [h.table]⟩
  · by_cases hq : q = p <;> by_cases hq' : q' = p
    · rw [hq, hq']
    · rw [hq, hpath] at hf
      cases hf
      rw [hsame q' hq'] at hf'
      exact absurd ⟨hff.1.symm, hff.2.symm⟩ (hnew q' f' hf')
    · rw [hq', hpath] at hf'
      cases hf'
      rw [hsame q hq] at hf
      exact absurd ⟨hff.1, hff.2⟩ (hnew q f hf)
    · rw [hsame q hq] at hf
      rw [hsame q' hq'] at hf'
      exact hkey q q' f hf f' hf' hff
  · by_cases hq : q = p
    · rw [hq, hpath] at hf
      cases hf
      exact ⟨hloss, ((h.arranged.bindings.1 _).2.1 hkind).2, hreceptor⟩
    · rw [hsame q hq] at hf
      exact hentry q f hf

/-! ### The sections -/

theorem loadSection_of_contents {P : Loading → Prop} {l : Loading} (sec : Section) (h : P l) (hcontents : ∀ bs, P (loadContents sec l bs)) :
    P (loadSection l sec) := by
  unfold loadSection
  dsimp only
  split
  · exact hcontents _
  · exact h

/-- The ZONES section: the receptors, which have no record yet, the slots and the paths stay as they were. -/
theorem loadSound_zones {l : Loading} (h : l.state.LoadSound) (hnone : ∀ r, l.state.receptor r = none) (bs : List Byte) :
    let t := (loadContents .zones l bs).state
    t.LoadSound ∧ (∀ r, t.receptor r = none) ∧ t.slots = l.state.slots ∧ t.paths = l.state.paths := by
  refine loadEntries_induction (P := fun _ k => k.state.LoadSound ∧ (∀ r, k.state.receptor r = none) ∧ k.state.slots = l.state.slots ∧
    k.state.paths = l.state.paths) (before := []) (fun before k e hk => ?_) ⟨h, hnone, rfl, rfl⟩ _
  obtain ⟨hsound, hk, hslots, hpaths⟩ := hk
  unfold loadZone
  split
  · exact ⟨hsound, hk, hslots, hpaths⟩
  · split
    · exact ⟨hsound, hk, hslots, hpaths⟩
    · exact ⟨hsound.of_zones hk rfl rfl rfl rfl rfl, hk, hslots, hpaths⟩

/-- The RECEPTORS section: the slots and the paths stay as they were. -/
theorem loadSound_receptors {l : Loading} (h : l.state.LoadSound) (bs : List Byte) :
    let t := (loadContents .receptors l bs).state
    t.LoadSound ∧ t.slots = l.state.slots ∧ t.paths = l.state.paths := by
  refine loadEntries_induction (P := fun _ k => k.state.LoadSound ∧ k.state.slots = l.state.slots ∧ k.state.paths = l.state.paths) (before := [])
    (fun before k e hk => ?_) ⟨h, rfl, rfl⟩ _
  obtain hskip | ⟨r, z, floor, -, -, -, -, hz, -, hstate⟩ := loadReceptor_cases before k e
  · rw [hskip]; exact hk
  · rw [hstate]
    exact ⟨hk.1.setReceptor hz, hk.2⟩

/-- The STAGES section, over slots that have no identity yet: the paths stay as they were. -/
theorem loadSound_stages {l : Loading} (h : l.state.LoadSound) (hnone : ∀ i, (l.state.slot i).identity = none) (bs : List Byte) :
    let t := (loadContents .stages l bs).state
    t.LoadSound ∧ t.paths = l.state.paths := by
  have := loadEntries_induction (P := fun before k => k.state.LoadSound ∧ k.state.paths = l.state.paths ∧
    ∀ i id, (k.state.slot i).identity = some id → ∃ b ∈ before, identityOf b = id) (f := loadStage) (before := [])
    (fun before k e hk => ?_) ⟨h, rfl, fun i id hid => by simp [hnone] at hid⟩ (entriesOf 10 (byteAt bs 0) (bs.drop 1))
  · exact ⟨this.1, this.2.1⟩
  · obtain ⟨hsound, hpaths, hheld⟩ := hk
    have hheld' : ∀ i id, (k.state.slot i).identity = some id → ∃ b ∈ before ++ [e], identityOf b = id := fun i id hid => by
      obtain ⟨b, hb, hbid⟩ := hheld i id hid
      exact ⟨b, List.mem_append_left _ hb, hbid⟩
    obtain hskip | ⟨i, weight, stageMax, -, -, -, hbefore, hstate⟩ := loadStage_cases before k e
    · rw [hskip]; exact ⟨hsound, hpaths, hheld'⟩
    · rw [hstate]
      refine ⟨hsound.fixes (fun j _ hj => ?_) rfl rfl rfl rfl rfl rfl, hpaths, fun j id hj => ?_⟩
      · obtain ⟨b, hb, hbid⟩ := hheld j _ hj
        exact (hbefore b hb).2 hbid
      · by_cases hji : j = i
        · subst hji
          simp only [State.slot_setSlot_same, Option.some.injEq] at hj
          exact ⟨e, by simp, hj⟩
        · rw [State.slot_setSlot_ne _ _ _ _ hji] at hj
          exact hheld' j id hj

/-- The PATHS section, over an empty path table. -/
theorem loadSound_paths {l : Loading} (h : l.state.LoadSound) (hnone : ∀ p, l.state.path p = none) (bs : List Byte) :
    (loadContents .paths l bs).state.LoadSound := by
  have := loadEntries_induction (P := fun before k => k.state.LoadSound ∧
    ∀ p f, k.state.path p = some f → ∃ b ∈ before, byteAt b 0 = f.slot.val + 1 ∧ byteAt b 1 = f.receptor.val + 1) (f := loadPath) (before := [])
    (fun before k e hk => ?_) ⟨h, fun p f hf => by simp [hnone] at hf⟩ (entriesOf 4 (byteAt bs 0) (bs.drop 1))
  · exact this.1
  · obtain ⟨hsound, hheld⟩ := hk
    have hheld' : ∀ p f, k.state.path p = some f → ∃ b ∈ before ++ [e], byteAt b 0 = f.slot.val + 1 ∧ byteAt b 1 = f.receptor.val + 1 :=
      fun p f hf => by
        obtain ⟨b, hb, hkey⟩ := hheld p f hf
        exact ⟨b, List.mem_append_left _ hb, hkey⟩
    obtain hskip | ⟨i, r, p, loss, hi, hr, -, hloss, hkind, hreceptor, hbefore, hstate⟩ := loadPath_cases before k e
    · rw [hskip]; exact ⟨hsound, hheld'⟩
    · rw [hstate]
      refine ⟨hsound.setPath (fun q f hf hkey => ?_) hloss hkind hreceptor, fun q f hf => ?_⟩
      · obtain ⟨b, hb, hslot, hrec⟩ := hheld q f hf
        exact hbefore b hb ⟨by rw [hslot, hi, hkey.1], by rw [hrec, hr, hkey.2]⟩
      · by_cases hq : q = p
        · subst hq
          simp only [State.path_setPath_same, Option.some.injEq] at hf
          subst hf
          exact ⟨e, by simp, hi, hr⟩
        · rw [State.path_setPath_ne _ _ _ _ hq] at hf
          exact hheld' q f hf

theorem loadSound_of_blocksAtReset {s : State} (h : s.BlocksAtReset) : s.LoadSound := by
  have harranged := arranged_of_blocksAtReset h
  obtain ⟨-, -, hreceptors, -, hslots, hpaths, -, -, -, htable, -⟩ := h
  refine ⟨harranged, fun i => by rw [hslots]; rfl, htable, ?_⟩
  unfold State.PathsSound
  simp [hreceptors, hpaths]

/-- A section that changes the site parameters alone. -/
theorem State.LoadSound.of_site {s : State} (h : s.LoadSound) (x : Site) : ({ s with site := x } : State).LoadSound :=
  ⟨h.arranged.of_same rfl rfl rfl rfl, h.unbound, h.table, h.paths⟩

/-- A load over the blocks at their reset values leaves the bindings, the queue and the path table sound. -/
theorem State.loadSound_load {s : State} (h : s.BlocksAtReset) : s.load.state.LoadSound := by
  have h0 := loadSound_of_blocksAtReset h
  obtain ⟨-, -, hreceptors, -, hslots, hpaths, -⟩ := h
  unfold State.load
  simp only [allSections, List.foldl_cons, List.foldl_nil]
  have h1 := loadSection_of_contents (P := fun k => k.state.LoadSound ∧ (∀ r, k.state.receptor r = none) ∧ k.state.slots = s.slots ∧ k.state.paths = s.paths)
    (l := { state := s, clamped := 0, skipped := 0 }) .site ⟨h0, hreceptors, rfl, rfl⟩ fun bs => ⟨h0.of_site _, hreceptors, rfl, rfl⟩
  generalize loadSection { state := s, clamped := 0, skipped := 0 } .site = l1 at h1 ⊢
  obtain ⟨h1, hr1, hs1, hp1⟩ := h1
  have h2 := loadSection_of_contents (P := fun k => k.state.LoadSound ∧ k.state.slots = s.slots ∧ k.state.paths = s.paths) .zones ⟨h1, hs1, hp1⟩ fun bs => by
    obtain ⟨hsound, -, hslots, hpaths⟩ := loadSound_zones h1 hr1 bs
    exact ⟨hsound, hslots.trans hs1, hpaths.trans hp1⟩
  generalize loadSection l1 .zones = l2 at h2 ⊢
  obtain ⟨h2, hs2, hp2⟩ := h2
  have h3 := loadSection_of_contents (P := fun k => k.state.LoadSound ∧ k.state.slots = s.slots ∧ k.state.paths = s.paths) .receptors ⟨h2, hs2, hp2⟩ fun bs => by
    obtain ⟨hsound, hslots, hpaths⟩ := loadSound_receptors h2 bs
    exact ⟨hsound, hslots.trans hs2, hpaths.trans hp2⟩
  generalize loadSection l2 .receptors = l3 at h3 ⊢
  obtain ⟨h3, hs3, hp3⟩ := h3
  have hidentity : ∀ i, (l3.state.slot i).identity = none := fun i => by
    have : l3.state.slot i = s.slot i := by unfold State.slot; rw [hs3]
    rw [this, hslots]; rfl
  have h4 := loadSection_of_contents (P := fun k => k.state.LoadSound ∧ k.state.paths = s.paths) .stages ⟨h3, hp3⟩ fun bs => by
    obtain ⟨hsound, hpaths⟩ := loadSound_stages h3 hidentity bs
    exact ⟨hsound, hpaths.trans hp3⟩
  generalize loadSection l3 .stages = l4 at h4 ⊢
  obtain ⟨h4, hp4⟩ := h4
  have hnone : ∀ p, l4.state.path p = none := fun p => by
    have : l4.state.path p = s.path p := by unfold State.path; rw [hp4]
    rw [this, hpaths]
  have h5 := loadSection_of_contents (P := fun k => k.state.LoadSound) .paths h4 fun bs => loadSound_paths h4 hnone bs
  exact loadSection_of_contents (P := fun k => k.state.LoadSound) .witness h5 fun bs => h5.of_site _

theorem State.returnStage_slot_ne (s : State) {i j : SlotId} (hj : j ≠ i) : (s.returnStage i).slot j = s.slot j := by
  unfold State.returnStage
  dsimp only
  rw [State.postStageState_slot, State.slot_of_trigger, State.slot_updSlot_ne _ _ _ _ hj]
  split
  · simp [State.emptySlot_slot, hj]
  · rfl

/-! ### Every step keeps the bindings, the queue and the handover sound -/

theorem State.Arranged.endLoad {s : State} (h : s.Arranged) : s.endLoad.Arranged := by
  unfold State.endLoad
  refine State.Arranged.evaluateZones ?_
  exact h.of_same rfl rfl rfl rfl

theorem State.Arranged.clearStages {s : State} (h : s.Arranged) : s.clearStages.Arranged := by
  have (l : List SlotId) (hl : l.Nodup) (t : State) (ht : t.Arranged) (hports : ∀ i ∈ l, (t.slot i).port = none) : (l.foldl State.returnStage t).Arranged := by
    induction l generalizing t with
    | nil => exact ht
    | cons i l ih =>
      obtain ⟨hi, hl⟩ := List.nodup_cons.1 hl
      refine ih hl _ (ht.returnStage (hports i (by simp))) fun j hj => ?_
      have hne : j ≠ i := fun he => hi (he ▸ hj)
      rw [State.returnStage_slot_ne t hne]
      exact hports j (by simp [hj])
  exact this _ ((List.nodup_finRange 8).filter _) s h fun i hi => by simpa [State.unboundSlots] using hi

theorem State.Arranged.clearPaths {s : State} (h : s.Arranged) : s.clearPaths.Arranged := by
  unfold State.clearPaths
  refine State.Arranged.triggerIf ?_ _
  exact h.of_same rfl rfl rfl rfl

theorem State.Arranged.clearTable {s : State} (h : s.Arranged) (k : Table) : (s.clearTable k).1.Arranged := by
  unfold State.clearTable
  cases k <;> dsimp only
  · exact h.replaceSite _
  · exact arranged_foldl (fun _ z hs => hs.unloadZone z) _ h
  · exact arranged_foldl (fun _ r hs => hs.removeReceptor r) _ h
  · exact h.clearStages
  · exact h.clearPaths
  · exact (State.Aside.of_clearExceedances s).arranged h
  · exact h

theorem State.Arranged.endRecalculation {s : State} (h : s.Arranged) (c : Capture) : (s.endRecalculation c).Arranged :=
  (State.Aside.of_chooseNext _).arranged (((State.Aside.of_publish s c).arranged h).ageAll.takePassReport _ _)

/-- Outside BOOT every command, and the idle step, keeps the bindings, the queue and the handover sound; a load begins over the reset values. -/
theorem StepCase.arranged {s t : State} (hstep : StepCase s t) (hboot : s.BootSound) (h : s.Arranged) (hmode : t.mode ≠ .boot) : t.Arranged := by
  cases hstep with
  | unchanged => exact h
  | hardReset start => exact absurd rfl hmode
  | warmRestart => exact absurd rfl hmode
  | released => exact h.of_same rfl rfl rfl rfl
  | loadEnds hloading =>
    have hload := (State.loadSound_load (hboot.2 (State.BootSound.boot_of_loading hboot hloading))).arranged
    unfold State.completeLoad
    dsimp only
    split
    · exact (hload.post _).endLoad
    · exact hload.endLoad
  | memoryAbsent hloading => exact (h.post _).endLoad
  | secondBoundary =>
    unfold State.secondBoundary
    split
    · exact h
    · have ha := (State.Aside.of_elapse s (1000 - s.clock.ms) s.clock.nextSecond).arranged h
      dsimp only
      split
      · exact ha.secondWork
      · exact ha.minuteWork _
  | minuteBoundary =>
    unfold State.minuteBoundary
    split
    · exact h
    · exact ((State.Aside.of_elapse s _ s.clock.nextMinute).arranged h).minuteWork _
  | pollSent p => exact (State.Aside.of_setPoll ..).arranged h
  | pollEnds cls level => exact (State.Aside.of_pollEnds ..).arranged h
  | recalculationEnds c => exact h.endRecalculation c
  | forecastEnds c q m sec => exact (State.Aside.of_endForecast ..).arranged h
  | staleTime i => exact (State.Aside.of_staleSlot ..).arranged h
  | ageOut i => exact h.ageSlot i
  | handoverExpires => exact h.grant _
  | discards => exact (State.Aside.of_discardForecast _).arranged h
  | clearEnds k =>
    unfold State.engineDone
    refine State.Arranged.post ?_ _
    exact (h.clearTable k).of_same rfl rfl rfl rfl
  | saveEnds image hsaving ws result =>
    unfold State.engineDone
    refine State.Arranged.post ?_ _
    exact h.of_same rfl rfl rfl rfl
  | receiver p r => exact (State.Aside.of_setLink ..).arranged h
  | replySent p => exact (State.Aside.of_setLink ..).arranged h
  | busReceiver => exact h.of_same rfl rfl rfl rfl
  | entrySent => exact h.of_same rfl rfl rfl rfl
  | refuses p r => exact (State.Aside.of_hold ..).arranged h
  | answers c head owner hc ho hloader hready hstep => exact (State.Aside.of_hold ..).arranged (h.owner hstep)
  | millisecond => exact (State.Aside.of_elapse ..).arranged h

theorem State.AdmissionSound.arranged {s : State} (h : s.AdmissionSound) : s.Arranged := ⟨h.2.1, h.2.2.1, h.2.2.2⟩

theorem StepCase.admissionSound {s t : State} (hstep : StepCase s t) (h : s.AdmissionSound) : t.AdmissionSound := by
  have hboot := bootSound_kept hstep h.1
  have harranged : t.Arranged := by
    by_cases hmode : t.mode = .boot
    · exact arranged_of_blocksAtReset (hboot.2 hmode)
    · exact hstep.arranged h.1 (State.AdmissionSound.arranged h) hmode
  exact ⟨hboot, harranged.bindings, harranged.queue, harranged.handover⟩

/-- Settles O10, with one lemma for each operation of the stage table and the arbiter: a slot at rest takes another record at rest, the head stays while
others leave or join, or the head leaves and the next member takes its place. -/
theorem stepKeepsAdmissionSound : Obligations.StepKeepsAdmissionSound := by
  unfold Obligations.StepKeepsAdmissionSound
  exact fun s t hs hstep => kept_by_step (P := State.AdmissionSound) (fun _ _ h => h) (fun _ _ hcase => hcase.admissionSound) hs hstep

end Sys2Proof.Machine
end

section
/-! SUPPORT. The path table, play and curfew: what the slots in play rest on, kept through every operation (R103, R105, R126, R139, R140). -/

namespace Sys2Proof.Machine

/-! ### Who is mapped, audible, under curfew -/

section reads
variable {s : State} {i : SlotId}

theorem State.audible_iff {r : ReceptorId} : s.audible i r = true ↔ ∃ p e, s.path p = some e ∧ e.slot = i ∧ e.receptor = r := by
  unfold State.audible
  rw [Option.isSome_iff_ne_none, Ne, State.pathLoss_eq_none]
  simp only [not_forall, not_not, exists_prop]
  rfl

theorem State.mapped_iff : s.mapped i = true ↔ ∃ p e, s.path p = some e ∧ e.slot = i := by
  unfold State.mapped
  rw [List.any_eq_true]
  constructor
  · rintro ⟨p, -, hp⟩
    split at hp
    next e he => exact ⟨p, e, he, by simpa using hp⟩
    next => cases hp
  · rintro ⟨p, e, he, rfl⟩
    exact ⟨p, List.mem_finRange p, by simp [he]⟩

/-- A slot is audible in a zone where a path entry of the slot names a receptor of the zone. -/
theorem State.audibleInZone_iff {z : ZoneId} : s.audibleInZone i z = true ↔ ∃ p e, s.path p = some e ∧ e.slot = i ∧ s.home e.receptor = some z := by
  unfold State.audibleInZone State.home
  rw [List.any_eq_true]
  constructor
  · rintro ⟨r, -, hr⟩
    split at hr
    next x hx =>
      obtain ⟨hz, haudible⟩ := Bool.and_eq_true_iff.1 hr
      obtain ⟨p, e, he, hslot, rfl⟩ := State.audible_iff.1 haudible
      exact ⟨p, e, he, hslot, by rw [hx]; simpa using hz⟩
    next => cases hr
  · rintro ⟨p, e, he, hslot, hz⟩
    obtain ⟨x, hx, rfl⟩ := Option.map_eq_some_iff.1 hz
    refine ⟨e.receptor, List.mem_finRange _, ?_⟩
    simp [hx, State.audible_iff.2 ⟨p, e, he, hslot, rfl⟩]

/-- A slot is under curfew where a path entry of the slot names a receptor of a zone that is FADING or SILENCED. -/
theorem State.underCurfew_iff :
    s.underCurfew i = true ↔ ∃ p e z, s.path p = some e ∧ e.slot = i ∧ s.home e.receptor = some z ∧ (s.zone z).state ≠ .opened := by
  unfold State.underCurfew State.home
  rw [List.any_eq_true]
  constructor
  · rintro ⟨r, -, hr⟩
    split at hr
    next x hx =>
      obtain ⟨haudible, hstate⟩ := Bool.and_eq_true_iff.1 hr
      obtain ⟨p, e, he, hslot, rfl⟩ := State.audible_iff.1 haudible
      exact ⟨p, e, x.zone, he, hslot, by rw [hx]; rfl, by simpa using hstate⟩
    next => cases hr
  · rintro ⟨p, e, z, he, hslot, hz, hstate⟩
    obtain ⟨x, hx, rfl⟩ := Option.map_eq_some_iff.1 hz
    refine ⟨e.receptor, List.mem_finRange _, ?_⟩
    simp [hx, State.audible_iff.2 ⟨p, e, he, hslot, rfl⟩, hstate]

theorem State.zoneUsed_eq_false_iff {z : ZoneId} : s.zoneUsed z = false ↔ ∀ r, s.home r ≠ some z := by
  unfold State.zoneUsed State.home
  rw [List.any_eq_false]
  constructor
  · intro h r hr
    obtain ⟨x, hx, rfl⟩ := Option.map_eq_some_iff.1 hr
    have := h r (List.mem_finRange r)
    simp [hx] at this
  · intro h r _
    split
    next x hx =>
      have := h r
      rw [hx] at this
      simpa using this
    next => simp

theorem State.receptorNamed_eq_false_iff {r : ReceptorId} : s.receptorNamed r = false ↔ ∀ p e, s.path p = some e → e.receptor ≠ r := by
  unfold State.receptorNamed
  rw [List.any_eq_false]
  constructor
  · intro h p e he hr
    have := h p (List.mem_finRange p)
    simp [he, hr] at this
  · intro h p _
    split
    next e he => simpa using h p e he
    next => simp

end reads

/-! ### The path entries of an emptied slot -/

theorem State.deletePathsOf_path (s : State) (i : SlotId) (p : PathPos) :
    (s.deletePathsOf i).path p = (s.path p).bind fun e => if e.slot = i then none else some e := by
  simp only [State.deletePathsOf, State.path, Vector.get_eq_getElem, Vector.getElem_ofFn]
  cases s.paths[p.val] <;> rfl

/-- The entries that name the slot are gone, and every other position is as it was (R77). -/
theorem State.emptySlot_path (s : State) (i : SlotId) (p : PathPos) :
    (s.emptySlot i).path p = (s.path p).bind fun e => if e.slot = i then none else some e := by
  rw [← State.deletePathsOf_path, State.emptySlot_eq]
  rfl

theorem bind_unless_eq_some_iff {o : Option PathEntry} {e : PathEntry} {i : SlotId} :
    (o.bind fun e => if e.slot = i then none else some e) = some e ↔ o = some e ∧ e.slot ≠ i := by
  cases o with
  | none => simp
  | some f =>
    by_cases hf : f.slot = i
    · simp only [Option.bind_some, hf, if_true, reduceCtorEq, Option.some.injEq, false_iff, not_and, not_not]
      rintro rfl; exact hf
    · simp only [Option.bind_some, hf, if_false, Option.some.injEq, iff_self_and]
      rintro rfl; exact hf

/-! ### What the slots in play rest on -/

/-- The slots are arranged, the path table is sound, only ENFORCE has mapped slots in play, the queue holds no slot under curfew but those exempt, and a
long operation runs in SETUP alone. -/
structure State.Staged (s : State) (exempt : SlotId → Bool) : Prop where
  arranged : s.Arranged
  paths : s.PathsSound
  play : ∀ i, ¬(s.slot i).AtRest → s.mode = .enforce ∧ s.mapped i = true
  curfew : ∀ i ∈ s.arbiter.queue, exempt i = false → s.underCurfew i = false
  table : s.table ≠ .idle → s.mode = .setup

/-- No slot is exempt. -/
def noSlot (_ : SlotId) : Bool := false

theorem Slot.not_atRest_iff (x : Slot) : ¬x.AtRest ↔ x.state.queued = true ∨ x.state = .live := by
  unfold Slot.AtRest
  cases x.state <;> simp [SlotState.queued]

theorem State.StagesSound.staged {s : State} (h : s.StagesSound) : s.Staged noSlot where
  arranged := State.AdmissionSound.arranged h.1
  paths := h.2.1
  play i hi := h.2.2.1.1 i ((Slot.not_atRest_iff _).1 hi)
  curfew i hi _ := h.2.2.1.2 i hi
  table := h.2.2.2

theorem State.Staged.stagesSound {s : State} (h : s.Staged noSlot) (hboot : s.BootSound) : s.StagesSound :=
  ⟨⟨hboot, h.arranged.bindings, h.arranged.queue, h.arranged.handover⟩, h.paths,
    ⟨fun i hi => h.play i ((Slot.not_atRest_iff _).2 hi), fun i hi => h.curfew i hi rfl⟩, h.table⟩

section staged
variable {s t : State} {exempt : SlotId → Bool}

theorem State.Staged.not_atRest_of_queued (h : s.Staged exempt) {i : SlotId} (hi : i ∈ s.arbiter.queue) : ¬(s.slot i).AtRest :=
  (Slot.not_atRest_iff _).2 (.inl ((h.arranged.queue.2.1 i).1 hi))

/-- Outside ENFORCE no slot is in play. -/
theorem State.Staged.atRest (h : s.Staged exempt) (hmode : s.mode ≠ .enforce) (i : SlotId) : (s.slot i).AtRest :=
  by_contra fun hi => hmode (h.play i hi).1

theorem State.Arranged.queue_eq_nil (h : s.Arranged) (hrest : ∀ i, (s.slot i).AtRest) : s.arbiter.queue = [] :=
  List.eq_nil_iff_forall_not_mem.2 fun i => h.not_mem_queue (hrest i)

/-- With every slot at rest the path table alone matters. -/
theorem staged_of_atRest (harranged : t.Arranged) (hpaths : t.PathsSound) (hrest : ∀ i, (t.slot i).AtRest)
    (htable : t.table ≠ .idle → t.mode = .setup) : t.Staged exempt :=
  ⟨harranged, hpaths, fun i hi => absurd (hrest i) hi, fun i hi => by simp [harranged.queue_eq_nil hrest] at hi, htable⟩

theorem State.Aside.atRest_iff (h : s.Aside t) (i : SlotId) : (t.slot i).AtRest ↔ (s.slot i).AtRest := by
  unfold Slot.AtRest
  rw [(h.slot_stands i).state_eq]

theorem State.Aside.mapped_eq (h : s.Aside t) (i : SlotId) : t.mapped i = s.mapped i := by
  unfold State.mapped
  simp only [h.path_eq]

theorem State.Aside.underCurfew_eq (h : s.Aside t) (i : SlotId) : t.underCurfew i = s.underCurfew i := by
  rw [Bool.eq_iff_iff, State.underCurfew_iff, State.underCurfew_iff]
  simp only [h.path_eq, h.home_eq, h.zoneState_eq]

theorem State.home_isSome (s : State) (r : ReceptorId) : (s.home r).isSome = (s.receptor r).isSome := by simp [State.home]

/-- The path table's relations, in terms of the zones of the receptors. -/
theorem State.pathsSound_iff : s.PathsSound ↔
    (∀ p q, ∀ e ∈ s.path p, ∀ f ∈ s.path q, e.slot = f.slot ∧ e.receptor = f.receptor → p = q) ∧
    (∀ p, ∀ e ∈ s.path p, e.loss ≤ 1200 ∧ (s.slot e.slot).state ≠ .empty ∧ (s.home e.receptor).isSome) ∧
    (∀ r, ∀ z ∈ s.home r, (s.zone z).breakpoints ≠ []) ∧
    (s.table = .clearing .receptor → ∀ p, s.path p = none) ∧ (s.table = .clearing .zone → ∀ r, s.home r = none) := by
  have hzones : (∀ r, ∀ z ∈ s.home r, (s.zone z).breakpoints ≠ []) ↔ ∀ r, ∀ x ∈ s.receptor r, (s.zone x.zone).breakpoints ≠ [] := by
    refine forall_congr' fun r => ?_
    unfold State.home
    cases s.receptor r <;> simp
  unfold State.PathsSound
  rw [hzones]
  simp only [State.home, Option.isSome_map, Option.map_eq_none_iff]

theorem State.Aside.staged (h : s.Aside t) (hs : s.Staged exempt) : t.Staged exempt where
  arranged := h.arranged hs.arranged
  paths := by
    rw [State.pathsSound_iff]
    simp only [h.path_eq, h.home_eq, h.breakpoints_eq, h.table_eq, fun i => (h.slot_stands i).state_eq]
    exact State.pathsSound_iff.1 hs.paths
  play i hi := by
    rw [h.mode_eq, h.mapped_eq]
    exact hs.play i ((h.atRest_iff i).not.1 hi)
  curfew i hi hexempt := by
    rw [h.underCurfew_eq]
    exact hs.curfew i (h.queue_eq ▸ hi) hexempt
  table ht := by
    rw [h.mode_eq]
    exact hs.table (h.table_eq ▸ ht)

/-- A slot at rest takes another record: it keeps its place in the path table unless it becomes EMPTY, and then its entries go. -/
theorem State.Staged.emptySlot {i : SlotId} (h : s.Staged exempt) (hi : (s.slot i).AtRest) : (s.emptySlot i).Staged exempt := by
  have hslot : ∀ j, j ≠ i → (s.emptySlot i).slot j = s.slot j := fun j hj => by simp [State.emptySlot_slot, hj]
  have hempty : ((s.emptySlot i).slot i).AtRest := by simp [State.emptySlot_slot, Slot.AtRest, Slot.emptied]
  have hpath : ∀ p e, (s.emptySlot i).path p = some e ↔ s.path p = some e ∧ e.slot ≠ i := fun p e => by
    rw [State.emptySlot_path]
    exact bind_unless_eq_some_iff
  have hhome : ∀ r, (s.emptySlot i).home r = s.home r := fun r => by rw [State.emptySlot_eq]; rfl
  have hzone : ∀ z, (s.emptySlot i).zone z = s.zone z := fun z => by rw [State.emptySlot_eq]; rfl
  have htable : (s.emptySlot i).table = s.table := by rw [State.emptySlot_eq]
  have hmode : (s.emptySlot i).mode = s.mode := by rw [State.emptySlot_eq]
  obtain ⟨hkey, hentry, hzones, hclear, hclearZone⟩ := State.pathsSound_iff.1 h.paths
  refine ⟨h.arranged.emptySlot hi, State.pathsSound_iff.2 ⟨fun p q e he f hf => ?_, fun p e he => ?_, ?_, fun hc p => ?_, ?_⟩, fun j hj => ?_, fun j hj hx => ?_,
    ?_⟩
  · exact hkey p q e ((hpath p e).1 he).1 f ((hpath q f).1 hf).1
  · obtain ⟨he, hne⟩ := (hpath p e).1 he
    rw [hslot _ hne, hhome]
    exact hentry p e he
  · simpa only [hhome, hzone] using hzones
  · have := hclear (htable ▸ hc) p
    rw [State.emptySlot_path, this]; rfl
  · simpa only [hhome, htable] using hclearZone
  · have hne : j ≠ i := fun he => hj (he ▸ hempty)
    rw [hslot j hne] at hj
    obtain ⟨hm, hmapped⟩ := h.play j hj
    obtain ⟨p, e, he, hej⟩ := State.mapped_iff.1 hmapped
    exact ⟨hmode ▸ hm, State.mapped_iff.2 ⟨p, e, (hpath p e).2 ⟨he, hej ▸ hne⟩, hej⟩⟩
  · rw [State.emptySlot_queue] at hj
    have hcurfew := h.curfew j hj hx
    refine eq_false_of_ne_true fun hc => ?_
    obtain ⟨p, e, z, he, hej, hz, hstate⟩ := State.underCurfew_iff.1 hc
    have : s.underCurfew j = true := State.underCurfew_iff.2 ⟨p, e, z, ((hpath p e).1 he).1, hej, hhome _ ▸ hz, hzone z ▸ hstate⟩
    simp [this] at hcurfew
  · rw [htable, hmode]; exact h.table

theorem State.Staged.ageSlot (h : s.Staged exempt) (i : SlotId) : (s.ageSlot i).Staged exempt := by
  rcases s.ageSlot_eq i with ⟨he, -⟩ | ⟨he, hdue⟩
  · rw [he]; exact h
  · rw [he]
    simp only [State.ageDue, State.mayAgeOut, Bool.and_eq_true] at hdue
    exact h.emptySlot (Slot.atRest_of_settledQuiet hdue.1.1.2)

theorem staged_foldl {α : Type} {f : State → α → State} (hf : ∀ (s : State) a, s.Staged exempt → (f s a).Staged exempt) (l : List α) {s : State}
    (h : s.Staged exempt) : (l.foldl f s).Staged exempt := by
  induction l generalizing s with
  | nil => exact h
  | cons a l ih => exact ih (hf s a h)

theorem State.Staged.ageAll (h : s.Staged exempt) : s.ageAll.Staged exempt := staged_foldl (fun _ i hs => hs.ageSlot i) _ h

/-! ### The arbiter -/

/-- From `s` to `t` only slots in play change their state, none becomes EMPTY, and nobody joins the queue. -/
structure State.Moves (s t : State) : Prop where
  state : ∀ i, (t.slot i).state = (s.slot i).state ∨ ¬(s.slot i).AtRest ∧ (t.slot i).state ≠ .empty
  queue : ∀ i ∈ t.arbiter.queue, i ∈ s.arbiter.queue

theorem State.Moves.refl (s : State) : s.Moves s := ⟨fun _ => .inl rfl, fun _ => id⟩

theorem State.Moves.trans {u : State} (h : s.Moves t) (k : t.Moves u) : s.Moves u where
  state i := by
    have hi := h.state i
    rcases k.state i with hk | ⟨hrest, hne⟩
    · rw [hk]; exact hi
    · rcases hi with hi | ⟨hrest', -⟩
      · exact .inr ⟨by simpa only [Slot.AtRest, hi] using hrest, hne⟩
      · exact .inr ⟨hrest', hne⟩
  queue i hi := h.queue i (k.queue i hi)

theorem State.Aside.moves (h : s.Aside t) : s.Moves t := ⟨fun i => .inl (h.slot_stands i).state_eq, fun _ hi => h.queue_eq ▸ hi⟩

/-- The arbiter moves slots in play: those still in play were so, with their paths as they were. -/
theorem State.Staged.of_moves {exempt' : SlotId → Bool} (h : s.Staged exempt) (hframe : ArbiterFrame s t) (harranged : t.Arranged) (hmoves : s.Moves t)
    (hexempt : ∀ i ∈ t.arbiter.queue, exempt' i = false → exempt i = false) : t.Staged exempt' := by
  have hpath : ∀ p, t.path p = s.path p := fun p => by unfold State.path; rw [hframe.paths_eq]
  have hhome : ∀ r, t.home r = s.home r := fun r => by unfold State.home State.receptor; rw [hframe.receptors_eq]
  have hzone : ∀ z, t.zone z = s.zone z := fun z => by unfold State.zone; rw [hframe.zones_eq]
  refine ⟨harranged, ?_, fun i hi => ?_, fun i hi hx => ?_, by rw [hframe.table_eq, hframe.mode_eq]; exact h.table⟩
  · obtain ⟨hkey, hentry, hzones, hclear, hclearZone⟩ := State.pathsSound_iff.1 h.paths
    rw [State.pathsSound_iff]
    simp only [hpath, hhome, hzone, hframe.table_eq]
    refine ⟨hkey, fun p e he => ?_, hzones, hclear, hclearZone⟩
    obtain ⟨hloss, hslot, hreceptor⟩ := hentry p e he
    refine ⟨hloss, ?_, hreceptor⟩
    rcases hmoves.state e.slot with hs | ⟨-, hne⟩
    · rw [hs]; exact hslot
    · exact hne
  · have hplay : ¬(s.slot i).AtRest := by
      rcases hmoves.state i with hs | ⟨hrest, -⟩
      · simpa only [Slot.AtRest, hs] using hi
      · exact hrest
    have hmapped : t.mapped i = s.mapped i := by unfold State.mapped; simp only [hpath]
    rw [hframe.mode_eq, hmapped]
    exact h.play i hplay
  · have hcurfew : t.underCurfew i = s.underCurfew i := by
      rw [Bool.eq_iff_iff, State.underCurfew_iff, State.underCurfew_iff]
      simp only [hpath, hhome, hzone]
    rw [hcurfew]
    exact h.curfew i (hmoves.queue i hi) (hexempt i hi hx)

theorem State.Moves.of_grant (hplay : ∀ i ∈ s.arbiter.queue, ¬(s.slot i).AtRest) (m : Manner) : s.Moves (s.grant m) := by
  cases hq : s.arbiter.queue with
  | nil =>
    have : s.grant m = s := by simp only [State.grant, hq]
    rw [this]; exact .refl s
  | cons a rest =>
    refine ⟨fun i => ?_, fun i hi => ?_⟩
    · have hsettled : (s.slot i).settled.state = (s.slot i).state := by unfold Slot.settled; split <;> rfl
      rw [State.grant_slot hq]
      dsimp only
      split
      next hhead =>
        refine .inr ⟨hplay i ?_, by simp⟩
        rw [hq]; exact List.mem_cons_of_mem _ (List.mem_of_mem_head? hhead)
      next =>
        split
        next hi => exact .inr ⟨hplay i (by rw [hq, hi]; simp), by simp [Slot.granted]⟩
        next => exact .inl hsettled
    · rw [State.grant_queue hq] at hi
      rw [hq]; exact List.mem_cons_of_mem _ hi

theorem State.Moves.of_debtCleared (hplay : ∀ i ∈ s.arbiter.queue, ¬(s.slot i).AtRest) : s.Moves s.debtCleared := by
  unfold State.debtCleared
  split
  · split
    · exact .of_grant hplay _
    · split
      · exact (State.Aside.of_post ..).moves
      · exact .refl s
  · exact .refl s

theorem State.Moves.of_leaveLive (h : s.Arranged) {i : SlotId} (hi : (s.slot i).state = .live) (forced : Bool) : s.Moves (s.leaveLive i forced) := by
  have hleft : s.Moves (s.leftLive i forced) := by
    refine ⟨fun j => ?_, fun j hj => by simpa using hj⟩
    rw [State.leftLive_slot]
    split
    · subst_vars; exact .inr ⟨by simp [Slot.AtRest, hi], by simp [Slot.leftLive]⟩
    · exact .inl rfl
  rw [State.leaveLive_eq]
  split
  · refine hleft.trans (.of_debtCleared fun j hj => ?_)
    rw [State.leftLive_queue] at hj
    have hq := (h.queue.2.1 j).1 hj
    have hne : j ≠ i := fun he => by
      rw [he, hi] at hq
      cases hq
    rw [State.leftLive_slot, if_neg hne]
    exact (Slot.not_atRest_iff _).2 (.inl hq)
  · exact hleft

theorem State.Moves.of_quietSlot (h : s.Arranged) (i : SlotId) (forced : Bool) : s.Moves (s.quietSlot i forced) := by
  unfold State.quietSlot
  dsimp only
  split
  next hi => exact .of_leaveLive h hi forced
  next hi =>
    refine ⟨fun j => ?_, fun j hj => ?_⟩
    · rw [State.withdrawWaiting_slot]
      split
      · subst_vars; exact .inr ⟨by simp [Slot.AtRest, hi], by simp⟩
      · exact .inl rfl
    · rw [State.withdrawWaiting_arbiter] at hj
      exact List.mem_of_mem_erase hj
  next hi =>
    refine ⟨fun j => ?_, fun j hj => ?_⟩
    · rw [State.withdrawHead_slot]
      dsimp only
      split
      next hhead =>
        have hj := List.mem_of_mem_erase (List.mem_of_mem_head? hhead)
        exact .inr ⟨(Slot.not_atRest_iff _).2 (.inl ((h.queue.2.1 j).1 hj)), by simp⟩
      next =>
        split
        · subst_vars; exact .inr ⟨by simp [Slot.AtRest, hi], by simp⟩
        · exact .inl rfl
    · rw [State.withdrawHead_queue] at hj
      exact List.mem_of_mem_erase hj
  next => exact .refl s

theorem State.Moves.of_removeAtCurfew (h : s.Arranged) (removed : SlotId → Bool) : s.Moves (s.removeAtCurfew removed) := by
  have hplay : ∀ j ∈ s.arbiter.queue, ¬(s.slot j).AtRest := fun j hj => (Slot.not_atRest_iff _).2 (.inl ((h.queue.2.1 j).1 hj))
  refine ⟨fun j => ?_, fun j hj => ?_⟩
  · cases hgone : s.headGone removed with
    | false =>
      rw [State.removeAtCurfew_slot_of_stays h.queue.1 hgone]
      split
      next hj => exact .inr ⟨hplay j hj.1, by simp [Slot.refusedCurfew]⟩
      next => exact .inl rfl
    | true =>
      rw [State.removeAtCurfew_slot_of_gone h.queue.1 hgone]
      dsimp only
      split
      next hhead => exact .inr ⟨hplay j (List.mem_of_mem_filter (List.mem_of_mem_head? hhead)), by simp⟩
      next =>
        split
        next hj => exact .inr ⟨hplay j hj.1, by simp [Slot.refusedCurfew]⟩
        next => exact .inl rfl
  · rw [State.removeAtCurfew_queue] at hj
    exact List.mem_of_mem_filter hj

theorem State.Moves.of_takePassReport (h : s.Arranged) (entering : Option SlotId) (fallen : List SlotId) : s.Moves (s.takePassReport entering fallen) := by
  have hdebts : s.Moves (fallen.foldl State.setDebt s) := by
    refine ⟨fun j => .inl ?_, fun j hj => by rwa [State.setDebts_arbiter] at hj⟩
    rw [State.setDebts_slot]
    split
    · unfold Slot.indebted; split <;> rfl
    · rfl
  unfold State.takePassReport
  split
  · exact .refl s
  · split
    · dsimp only
      split
      · refine hdebts.trans (.of_grant (fun j hj => ?_) _)
        rw [State.setDebts_arbiter] at hj
        have hq := (h.queue.2.1 j).1 hj
        rcases hdebts.state j with hs | ⟨hrest, -⟩
        · rw [Slot.not_atRest_iff, hs]; exact .inl hq
        · rw [State.setDebts_slot]
          unfold Slot.indebted
          split
          · split <;> exact hrest
          · exact hrest
      · exact ⟨fun j => hdebts.state j, fun j hj => hdebts.queue j hj⟩
    · exact .refl s

theorem State.Staged.takePassReport (h : s.Staged exempt) (entering : Option SlotId) (fallen : List SlotId) :
    (s.takePassReport entering fallen).Staged exempt :=
  h.of_moves (.of_takePassReport ..) (h.arranged.takePassReport ..) (.of_takePassReport h.arranged ..) fun _ _ => id

theorem State.Staged.grant (h : s.Staged exempt) (m : Manner) : (s.grant m).Staged exempt :=
  h.of_moves (.of_grant ..) (h.arranged.grant m) (.of_grant (fun _ => h.not_atRest_of_queued) m) fun _ _ => id

theorem State.Staged.takeQuiet (h : s.Staged exempt) (forced : Bool) (i : SlotId) : (s.takeQuiet forced i).1.Staged exempt := by
  have hquiet : (s.quietSlot i forced).Staged exempt :=
    h.of_moves (.of_quietSlot ..) (h.arranged.quietSlot i forced) (.of_quietSlot h.arranged i forced) fun _ _ => id
  unfold State.takeQuiet
  dsimp only
  split
  · exact hquiet
  · exact hquiet.ageSlot i

theorem State.Staged.takeReport (h : s.Staged exempt) (a : ReportArgs) (i : SlotId) : (s.takeReport a i).1.Staged exempt := by
  have hslot : ∀ j, ((s.updClamped i (fun y => y.reported s.site (saturate a.level) a.serial) .report
      (some (saturate a.level, a.serial, (s.slot i).judgementLimit a.serial))).slot j).state = (s.slot j).state := fun j => by
    simp only [State.updClamped, State.reportClamp_slot, State.slot_updSlot]
    split
    · subst_vars; rfl
    · rfl
  have hmoves : s.Moves (s.updClamped i (fun y => y.reported s.site (saturate a.level) a.serial) .report
      (some (saturate a.level, a.serial, (s.slot i).judgementLimit a.serial))) := ⟨fun j => .inl (hslot j), fun j hj => by simpa using hj⟩
  have harranged := h.arranged.takeReport a i
  unfold State.takeReport at harranged ⊢
  dsimp only at harranged ⊢
  refine h.of_moves ?_ harranged ?_ fun _ _ => id
  · exact ArbiterFrame.of_ite _ ((ArbiterFrame.of_updClamped ..).trans (.of_debtCleared _)) (.of_updClamped ..)
  · split
    · refine hmoves.trans (.of_debtCleared fun j hj => ?_)
      rw [State.updClamped_arbiter] at hj
      simp only [Slot.AtRest, hslot]
      exact h.not_atRest_of_queued hj
    · exact hmoves

/-- The slots exempt leave the queue; the rest of it stands under no curfew. -/
theorem State.Staged.curfewRemoval {removed : SlotId → Bool} (h : s.Staged removed) : (s.curfewRemoval removed).Staged noSlot := by
  refine staged_foldl (fun _ i hs => hs.ageSlot i) _ ?_
  refine h.of_moves (.of_removeAtCurfew ..) (h.arranged.removeAtCurfew _) (.of_removeAtCurfew h.arranged _) fun i hi _ => ?_
  rw [State.removeAtCurfew_queue] at hi
  simpa using (List.mem_filter.1 hi).2

end staged

end Sys2Proof.Machine
end

section
/-! SUPPORT. Every step keeps that only ENFORCE admits, that paths name what exists, and that no slot of the queue stands under curfew (O11). -/

namespace Sys2Proof.Machine

section staged
variable {s t : State} {exempt : SlotId → Bool}

theorem State.Staged.post (h : s.Staged exempt) (n : Notice) : (s.post n).Staged exempt := (State.Aside.of_post s n).staged h
theorem State.Staged.trigger (h : s.Staged exempt) : s.trigger.Staged exempt := (State.Aside.of_trigger s).staged h
theorem State.Staged.triggerIf (h : s.Staged exempt) (c : Bool) : (s.triggerIf c).Staged exempt := (State.Aside.of_triggerIf s c).staged h

/-! ### The schedule unit -/

/-- A zone takes another state: only what is audible in the zone can come under curfew by it. -/
theorem State.Staged.restate {z : ZoneId} {f : Zone → Zone} (h : s.Staged noSlot) (hbreakpoints : (f (s.zone z)).breakpoints = (s.zone z).breakpoints) :
    (s.updZone z f).Staged fun i => s.audibleInZone i z := by
  obtain ⟨hkey, hentry, hzones, hclear, hclearZone⟩ := h.paths
  refine ⟨h.arranged.updZone z f, ⟨hkey, hentry, fun r x hx => ?_, hclear, hclearZone⟩, h.play, fun i hi hx => ?_, h.table⟩
  · by_cases hz : x.zone = z
    · have := hzones r x hx
      rw [hz] at this ⊢
      simpa [hbreakpoints] using this
    · simpa [hz] using hzones r x hx
  · refine eq_false_of_ne_true fun hc => ?_
    obtain ⟨p, e, y, he, hslot, hy, hstate⟩ := State.underCurfew_iff.1 hc
    by_cases hyz : y = z
    · rw [(State.audibleInZone_iff (s := s)).2 ⟨p, e, he, hslot, hyz ▸ hy⟩] at hx
      cases hx
    · rw [State.zone_updZone_ne _ _ _ _ hyz] at hstate
      have := h.curfew i hi rfl
      rw [(State.underCurfew_iff (s := s)).2 ⟨p, e, y, he, hslot, hy, hstate⟩] at this
      cases this

/-- The zone state and the fade offset are written: what the zone brings under curfew leaves the queue. -/
theorem State.Staged.setCurfew {z : ZoneId} {st : ZoneState} (h : s.Staged noSlot) (fade : Nat)
    (hstate : st = .opened ∨ (s.zone z).state ≠ .opened ∨ st = .fading ∨ s.mode ≠ .enforce) : (s.setCurfew z st fade).Staged noSlot := by
  have ha := h.restate (z := z) (f := fun x => { x with state := st, fade := fade }) rfl
  have hsame := (State.Aside.of_triggerIf (s.updZone z fun x => { x with state := st, fade := fade }) ((s.zone z).state != st)).trans
    (.of_triggerIf _ ((s.zone z).fade != fade))
  unfold State.setCurfew
  dsimp only
  split
  · refine State.Staged.curfewRemoval ?_
    have haudible : (fun i => ((((s.updZone z fun x => { x with state := st, fade := fade }).triggerIf ((s.zone z).state != st))).triggerIf
        ((s.zone z).fade != fade)).audibleInZone i z) = fun i => s.audibleInZone i z := by
      funext i
      rw [Bool.eq_iff_iff, State.audibleInZone_iff, State.audibleInZone_iff]
      simp only [hsame.path_eq, hsame.home_eq]
      rfl
    rw [haudible]
    exact hsame.staged ha
  next hnot =>
    refine hsame.staged ⟨ha.arranged, ha.paths, ha.play, fun i hi _ => ?_, ha.table⟩
    refine eq_false_of_ne_true fun hc => ?_
    obtain ⟨p, e, y, he, hslot, hy, hstate'⟩ := State.underCurfew_iff.1 hc
    have hfree := h.curfew i hi rfl
    by_cases hyz : y = z
    · rw [hyz] at hstate'
      simp only [State.zone_updZone_same] at hstate'
      have hold : (s.zone z).state = .opened := by
        by_contra hold
        rw [(State.underCurfew_iff (s := s)).2 ⟨p, e, y, he, hslot, hy, hyz ▸ hold⟩] at hfree
        cases hfree
      rcases hstate with hst | hst | hst | hst
      · exact hstate' hst
      · exact hst hold
      · exact hnot ⟨by simp [hold], hst⟩
      · exact h.not_atRest_of_queued hi (h.atRest hst i)
    · rw [State.zone_updZone_ne _ _ _ _ hyz] at hstate'
      rw [(State.underCurfew_iff (s := s)).2 ⟨p, e, y, he, hslot, hy, hstate'⟩] at hfree
      cases hfree

theorem State.Staged.curfewBreakpoint (h : s.Staged noSlot) (z : ZoneId) : (s.curfewBreakpoint z).Staged noSlot := by
  unfold State.curfewBreakpoint
  split
  · split
    · exact State.Staged.setCurfew ((State.Aside.of_updZone rfl rfl).staged h) 0 (.inr (.inr (.inl rfl)))
    · exact h
    next hst => exact h.setCurfew 600 (.inr (.inl (by simp [hst])))
  next hmode => exact h.setCurfew 600 (.inr (.inr (.inr hmode)))

theorem State.Staged.evaluateZone (h : s.Staged noSlot) (z : ZoneId) : (s.evaluateZone z).Staged noSlot := by
  unfold State.evaluateZone
  dsimp only
  refine (State.Aside.of_postZoneIfChanged ..).staged ?_
  split
  · unfold State.noBreakpoint
    refine State.Staged.setCurfew ?_ 0 (.inl rfl)
    refine (State.Aside.of_setEffective ..).staged ?_
    exact (State.Aside.of_updZone rfl rfl).staged h
  · split
    · exact h
    · split
      · split
        · exact (State.Aside.of_updZone rfl rfl).staged h
        · exact h
      · have ha (n : Nat) (limit : Level) := (State.Aside.of_enterBreakpoint s z n limit).staged h
        split
        · exact (ha _ _).curfewBreakpoint z
        · exact (ha _ _).setCurfew 0 (.inl rfl)

theorem State.Staged.evaluateZones (h : s.Staged noSlot) : s.evaluateZones.Staged noSlot := staged_foldl (fun _ z hs => hs.evaluateZone z) _ h

theorem State.Staged.zoneSecond (h : s.Staged noSlot) (z : ZoneId) : (s.zoneSecond z).Staged noSlot := by
  unfold State.zoneSecond
  dsimp only
  refine (State.Aside.ite (fun _ => .of_post ..) fun _ => .refl _).staged ?_
  have hramp := State.Aside.ite (c := (s.zone z).licence < (s.zone z).effective)
    (fun _ => .of_setEffective s z (limitedStep (s.zone z).effective (s.zone z).licence 0 (s.zone z).rampRate)) fun _ => .refl s
  split
  next hfading => exact (hramp.staged h).setCurfew _ (.inr (.inl (by rw [hramp.zoneState_eq, hfading]; simp)))
  · exact hramp.staged h

theorem staged_zonesAtMinute {st : State × List (Level × Nat)} (zones : List ZoneId) (h : st.1.Staged noSlot) :
    (zones.foldl State.zoneMinute st).1.Staged noSlot := by
  induction zones generalizing st with
  | nil => exact h
  | cons z zones ih =>
    refine ih ?_
    unfold State.zoneMinute
    refine State.Staged.zoneSecond ?_ z
    exact (State.Aside.of_updZone rfl rfl).staged (h.evaluateZone z)

theorem State.Staged.secondWork (h : s.Staged noSlot) : s.secondWork.Staged noSlot := by
  unfold State.secondWork
  split
  · exact h
  · exact (State.Aside.of_pollAtSecond _).staged (staged_foldl (fun _ z hs => hs.zoneSecond z) _ h)

theorem State.Staged.minuteWork (h : s.Staged noSlot) (ended : Nat) : (s.minuteWork ended).Staged noSlot := by
  unfold State.minuteWork
  split
  · exact h
  · exact ((State.Aside.of_closeMinute ..).trans (.of_pollAtSecond _)).staged (staged_zonesAtMinute allZones h)

/-! ### The stage table's slots -/

/-- A slot at rest takes another record at rest that is not EMPTY. -/
theorem State.Staged.of_updSlot {i : SlotId} {f : Slot → Slot} (h : s.Staged exempt) (harranged : (s.updSlot i f).Arranged)
    (hstate : (f (s.slot i)).state = .quiet) : (s.updSlot i f).Staged exempt := by
  obtain ⟨hkey, hentry, hzones, hclear, hclearZone⟩ := h.paths
  refine ⟨harranged, ⟨hkey, fun p e he => ?_, hzones, hclear, hclearZone⟩, fun j hj => ?_, h.curfew, h.table⟩
  · obtain ⟨hloss, hslot, hreceptor⟩ := hentry p e he
    refine ⟨hloss, ?_, hreceptor⟩
    rw [State.slot_updSlot]
    split
    · rw [hstate]; simp
    · exact hslot
  · refine h.play j ?_
    rw [State.slot_updSlot] at hj
    split at hj
    · exact absurd (.inl hstate) hj
    · exact hj

theorem State.Staged.unbindSlot {i : SlotId} (h : s.Staged exempt) (hkind : (s.slot i).kind = .fixed) (hi : (s.slot i).AtRest) :
    (s.unbindSlot i).Staged exempt := by
  refine h.of_moves (.of_unbindSlot ..) (h.arranged.unbindSlot hkind hi) ⟨fun j => .inl ?_, fun j hj => ?_⟩ fun _ _ => id
  · rw [State.unbindSlot_slot]
    split
    · subst_vars; rfl
    · rfl
  · rwa [State.unbindSlot_arbiter] at hj

theorem State.Staged.releaseSlot {bound : Option SlotId} (h : s.Staged exempt) (hbound : ∀ i ∈ bound, (s.slot i).AtRest) :
    (s.releaseSlot bound).Staged exempt := by
  unfold State.releaseSlot
  split
  · exact h
  · have hi := hbound _ rfl
    split
    · exact h.unbindSlot ‹_› hi
    · exact h.emptySlot hi

theorem State.Staged.bindSlot {i : SlotId} {p : Port} {id : Identity} (h : s.Staged exempt) (harranged : (s.bindSlot i p id).Arranged) :
    (s.bindSlot i p id).Staged exempt := by
  have hslot : ∀ j, ((s.bindSlot i p id).slot j).state = if j = i then .quiet else (s.slot j).state := fun j => by
    rw [State.bindSlot_slot]; split <;> rfl
  have hframe := ArbiterFrame.of_bindSlot s i p id
  have hpath : ∀ q, (s.bindSlot i p id).path q = s.path q := fun q => by unfold State.path; rw [hframe.paths_eq]
  have hhome : ∀ r, (s.bindSlot i p id).home r = s.home r := fun r => by unfold State.home State.receptor; rw [hframe.receptors_eq]
  have hzone : ∀ z, (s.bindSlot i p id).zone z = s.zone z := fun z => by unfold State.zone; rw [hframe.zones_eq]
  have hmapped : ∀ j, (s.bindSlot i p id).mapped j = s.mapped j := fun j => by unfold State.mapped; simp only [hpath]
  obtain ⟨hkey, hentry, hzones, hclear, hclearZone⟩ := State.pathsSound_iff.1 h.paths
  refine ⟨harranged, ?_, fun j hj => ?_, fun j hj hx => ?_, by rw [hframe.table_eq, hframe.mode_eq]; exact h.table⟩
  · rw [State.pathsSound_iff]
    simp only [hpath, hhome, hzone, hframe.table_eq, hslot]
    refine ⟨hkey, fun q e he => ?_, hzones, hclear, hclearZone⟩
    obtain ⟨hloss, hne, hreceptor⟩ := hentry q e he
    refine ⟨hloss, ?_, hreceptor⟩
    split
    · simp
    · exact hne
  · rw [hframe.mode_eq, hmapped]
    refine h.play j ?_
    rw [Slot.not_atRest_iff, hslot] at hj
    split at hj
    · simp [SlotState.queued] at hj
    · exact (Slot.not_atRest_iff _).2 hj
  · rw [State.bindSlot_arbiter] at hj
    rw [← h.curfew j hj hx, Bool.eq_iff_iff, State.underCurfew_iff, State.underCurfew_iff]
    simp only [hpath, hhome, hzone]

theorem State.Staged.evictSlot {i : SlotId} (h : s.Staged exempt) (hi : (s.slot i).AtRest) : (s.evictSlot i).Staged exempt := by
  unfold State.evictSlot
  split
  · split
    · exact h.unbindSlot ‹_› hi
    · exact h
  · exact h.emptySlot hi

theorem State.Staged.rekind {i : SlotId} {k : StageKind} (h : s.Staged exempt) (hport : (s.slot i).port = none) (hkind : s.kindTaken i k = false) :
    (s.rekind i k).Staged exempt := by
  have hi : (s.slot i).AtRest := (h.arranged.bindings.1 i).2.2.1 hport
  have harranged := h.arranged.rekind hport hkind
  unfold State.rekind at harranged ⊢
  split at harranged
  · exact h.of_updSlot harranged rfl
  · exact h.emptySlot hi
  next hk => exact h.of_updSlot harranged (hi.resolve_right ((h.arranged.bindings.1 i).2.1 hk).2)
  · exact h

theorem State.Staged.replaceStage {i : SlotId} {k : StageKind} (h : s.Staged exempt) (hkind : s.kindTaken i k = false)
    (hport : (s.slot i).rekindedBy k = true → (s.slot i).port = none) (weight : Nat) (stageMax : Level) :
    (s.replaceStage i k weight stageMax).Staged exempt := by
  have ha : (if (s.slot i).rekindedBy k then s.rekind i k else s).Staged exempt := by
    split
    · exact h.rekind (hport ‹_›) hkind
    · exact h
  have hb := ((State.Aside.of_updSlot (f := fun y => { y with weight := weight, stageMax := stageMax }) (i := i) ⟨rfl, rfl, rfl, rfl, rfl, .inl⟩).trans
    (.of_triggerIf _ ((s.slot i).weight != weight || (s.slot i).stageMax != stageMax))).staged ha
  exact (State.Aside.ite (fun _ => .of_post ..) fun _ => .refl _).staged hb

theorem State.Staged.returnStage {i : SlotId} (h : s.Staged exempt) (hport : (s.slot i).port = none) : (s.returnStage i).Staged exempt := by
  have hi : (s.slot i).AtRest := (h.arranged.bindings.1 i).2.2.1 hport
  unfold State.returnStage
  refine ((State.Aside.of_updSlot (f := fun y => { y with weight := 1, stageMax := 1050 }) (i := i) ⟨rfl, rfl, rfl, rfl, rfl, .inl⟩).trans
    ((State.Aside.of_trigger _).trans (.of_post ..))).staged ?_
  split
  · exact h.emptySlot hi
  · exact h

/-! ### Joining the queue -/

theorem ArbiterFrame.of_becomeHead (s : State) (i : SlotId) : ArbiterFrame s (s.becomeHead i) := by
  rw [State.becomeHead_eq]; constructor <;> rfl

theorem ArbiterFrame.of_joinQueue (s : State) (i : SlotId) : ArbiterFrame s (s.joinQueue i) := by
  have h : ArbiterFrame s ((s.updSlot i fun x => { x with outcome := .none }).setQueue (s.arbiter.queue ++ [i])) := by constructor <;> rfl
  exact .of_ite _ (h.trans (.of_becomeHead ..)) (h.trans (by constructor <;> rfl))

/-- A mapped slot that stands under no curfew joins the queue in ENFORCE. -/
theorem State.Staged.joinQueue {i : SlotId} (h : s.Staged exempt) (hquiet : (s.slot i).state = .quiet) (hport : (s.slot i).port ≠ none)
    (hmode : s.mode = .enforce) (hmapped : s.mapped i = true) (hcurfew : s.underCurfew i = false) : (s.joinQueue i).Staged exempt := by
  have hframe := ArbiterFrame.of_joinQueue s i
  have hslot : ∀ j, ((s.joinQueue i).slot j).state = if j = i then (if s.arbiter.queue = [] then .entering else .waiting) else (s.slot j).state := fun j => by
    rw [State.joinQueue_slot]
    split <;> rfl
  have hpath : ∀ q, (s.joinQueue i).path q = s.path q := fun q => by unfold State.path; rw [hframe.paths_eq]
  have hhome : ∀ r, (s.joinQueue i).home r = s.home r := fun r => by unfold State.home State.receptor; rw [hframe.receptors_eq]
  have hzone : ∀ z, (s.joinQueue i).zone z = s.zone z := fun z => by unfold State.zone; rw [hframe.zones_eq]
  have hmapped' : ∀ j, (s.joinQueue i).mapped j = s.mapped j := fun j => by unfold State.mapped; simp only [hpath]
  have hcurfew' : ∀ j, (s.joinQueue i).underCurfew j = s.underCurfew j := fun j => by
    rw [Bool.eq_iff_iff, State.underCurfew_iff, State.underCurfew_iff]
    simp only [hpath, hhome, hzone]
  obtain ⟨hkey, hentry, hzones, hclear, hclearZone⟩ := State.pathsSound_iff.1 h.paths
  refine ⟨h.arranged.joinQueue hquiet hport, ?_, fun j hj => ?_, fun j hj hx => ?_, by rw [hframe.table_eq, hframe.mode_eq]; exact h.table⟩
  · rw [State.pathsSound_iff]
    simp only [hpath, hhome, hzone, hframe.table_eq, hslot]
    refine ⟨hkey, fun q e he => ?_, hzones, hclear, hclearZone⟩
    obtain ⟨hloss, hne, hreceptor⟩ := hentry q e he
    refine ⟨hloss, ?_, hreceptor⟩
    split
    · split <;> simp
    · exact hne
  · rw [hframe.mode_eq, hmapped']
    by_cases hji : j = i
    · exact hji ▸ ⟨hmode, hmapped⟩
    · rw [Slot.not_atRest_iff, hslot, if_neg hji] at hj
      exact h.play j ((Slot.not_atRest_iff _).2 hj)
  · rw [hcurfew']
    rw [State.joinQueue_queue, List.mem_append, List.mem_singleton] at hj
    rcases hj with hj | rfl
    · exact h.curfew j hj hx
    · exact hcurfew

end staged

end Sys2Proof.Machine
end

section
/-! SUPPORT. The tables of the site, and every step: what O11 rests on (continued). -/

namespace Sys2Proof.Machine

section staged
variable {s t : State} {exempt : SlotId → Bool}

/-! ### The records of a state in which no slot is in play -/

/-- With every slot at rest, an operation that leaves the slots and the arbiter keeps the rest sound where it keeps the path table sound. -/
theorem State.Staged.of_rest (h : s.Staged exempt) (hrest : ∀ i, (s.slot i).AtRest) (hslots : t.slots = s.slots) (hqueue : t.arbiter.queue = s.arbiter.queue)
    (hphase : t.arbiter.phase = s.arbiter.phase) (htimer : t.arbiter.timer = s.arbiter.timer) (hpaths : t.PathsSound)
    (htable : t.table ≠ .idle → t.mode = .setup) : t.Staged exempt :=
  staged_of_atRest (h.arranged.of_same hslots hqueue hphase htimer) hpaths (fun i => by unfold State.slot; rw [hslots]; exact hrest i) htable

/-! ### Zones -/

theorem State.Staged.replaceSite (h : s.Staged exempt) (x : Site) : (s.replaceSite x).Staged exempt := by
  unfold State.replaceSite
  refine State.Staged.ageAll ?_
  refine ((State.Aside.of_triggerIf ..).trans ((State.Aside.of_post ..).trans (.of_staleAll _))).staged ?_
  refine State.Aside.staged (s := s) ?_ h
  exact .of_records rfl rfl rfl rfl rfl rfl rfl rfl rfl

/-- A zone takes other breakpoints, none only where no receptor is in the zone. -/
theorem State.Staged.rewriteZone {z : ZoneId} {f : Zone → Zone} (h : s.Staged exempt) (hstate : (f (s.zone z)).state = (s.zone z).state)
    (hused : (f (s.zone z)).breakpoints = [] → s.zoneUsed z = false) : (s.updZone z f).Staged exempt := by
  obtain ⟨hkey, hentry, hzones, hclear, hclearZone⟩ := State.pathsSound_iff.1 h.paths
  refine ⟨h.arranged.updZone z f, State.pathsSound_iff.2 ⟨hkey, hentry, fun r y hy => ?_, hclear, hclearZone⟩, h.play, fun i hi hx => ?_, h.table⟩
  · by_cases hyz : y = z
    · subst hyz
      rw [State.zone_updZone_same]
      exact fun hnil => State.zoneUsed_eq_false_iff.1 (hused hnil) r hy
    · rw [State.zone_updZone_ne _ _ _ _ hyz]
      exact hzones r y hy
  · rw [← h.curfew i hi hx, Bool.eq_iff_iff, State.underCurfew_iff, State.underCurfew_iff]
    have hzone : ∀ y, ((s.updZone z f).zone y).state = (s.zone y).state := fun y => by
      by_cases hyz : y = z
      · rw [hyz, State.zone_updZone_same, hstate]
      · rw [State.zone_updZone_ne _ _ _ _ hyz]
    simp only [hzone]
    rfl

theorem State.Staged.replaceZone (h : s.Staged noSlot) {z : ZoneId} {bps : List Breakpoint} (hused : bps = [] → s.zoneUsed z = false) (ramp margin : Nat) :
    (s.replaceZone z bps ramp margin).Staged noSlot := by
  unfold State.replaceZone
  refine State.Staged.post ?_ _
  refine State.Staged.evaluateZone ?_ z
  refine State.Staged.triggerIf ?_ _
  exact h.rewriteZone rfl hused

/-- With every slot at rest, a zone without receptors takes its unloaded form. -/
theorem State.Staged.unloadZone (h : s.Staged exempt) (hrest : ∀ i, (s.slot i).AtRest) {z : ZoneId} (hused : s.zoneUsed z = false) :
    (s.unloadZone z).Staged exempt := by
  unfold State.unloadZone
  refine State.Staged.post (State.Staged.triggerIf (State.Staged.triggerIf (State.Staged.triggerIf (State.Staged.triggerIf ?_ _) _) _) _) _
  obtain ⟨hkey, hentry, hzones, hclear, hclearZone⟩ := State.pathsSound_iff.1 h.paths
  refine h.of_rest hrest rfl rfl rfl rfl (State.pathsSound_iff.2 ⟨hkey, hentry, fun r y hy => ?_, hclear, hclearZone⟩) h.table
  by_cases hyz : y = z
  · exact absurd (hyz ▸ hy) (State.zoneUsed_eq_false_iff.1 hused r)
  · rw [State.zone_setZone_ne _ _ _ _ hyz]
    exact hzones r y hy

/-! ### Receptors -/

theorem State.home_setReceptor (s : State) (r q : ReceptorId) (x : Option Receptor) :
    (s.setReceptor r x).home q = if q = r then x.map (·.zone) else s.home q := by
  unfold State.home
  split
  · subst_vars; simp
  · simp [*]

/-- A new record, in a zone with a breakpoint, of a receptor that no path names. -/
theorem State.Staged.createReceptor {r : ReceptorId} {x : Receptor} (h : s.Staged exempt) (hzone : (s.zone x.zone).breakpoints ≠ [])
    (hnone : s.receptor r = none) (htable : s.table = .idle) : (s.setReceptor r (some x)).Staged exempt := by
  obtain ⟨hkey, hentry, hzones, hclear, hclearZone⟩ := State.pathsSound_iff.1 h.paths
  have hunnamed : ∀ p e, s.path p = some e → e.receptor ≠ r := fun p e he hr => by
    have := (hentry p e he).2.2
    simp [State.home, hr, hnone] at this
  refine ⟨h.arranged.setReceptor r _, State.pathsSound_iff.2 ⟨hkey, fun p e he => ?_, fun q z hz => ?_, by simp [htable], by simp [htable]⟩, h.play,
    fun i hi hx => ?_, h.table⟩
  · rw [State.home_setReceptor, if_neg (hunnamed p e he)]
    exact hentry p e he
  · rw [State.home_setReceptor] at hz
    split at hz
    · cases hz; exact hzone
    · exact hzones q z hz
  · have hfree := h.curfew i hi hx
    refine eq_false_of_ne_true fun hc => ?_
    obtain ⟨p, e, z, he, hslot, hz, hstate⟩ := State.underCurfew_iff.1 hc
    rw [State.home_setReceptor, if_neg (hunnamed p e he)] at hz
    rw [(State.underCurfew_iff (s := s)).2 ⟨p, e, z, he, hslot, hz, hstate⟩] at hfree
    cases hfree

/-- A record moves to another zone with a breakpoint while no slot is in play. -/
theorem State.Staged.moveReceptor {r : ReceptorId} {x y : Receptor} (h : s.Staged exempt) (hsome : s.receptor r = some x)
    (hzone : (s.zone y.zone).breakpoints ≠ []) (hrest : ∀ i, (s.slot i).AtRest) : (s.setReceptor r (some y)).Staged exempt := by
  obtain ⟨hkey, hentry, hzones, hclear, hclearZone⟩ := State.pathsSound_iff.1 h.paths
  refine h.of_rest hrest rfl rfl rfl rfl (State.pathsSound_iff.2 ⟨hkey, fun p e he => ?_, fun q z hz => ?_, hclear, fun hc q => ?_⟩) h.table
  · rw [State.home_setReceptor]
    obtain ⟨hloss, hslot, hreceptor⟩ := hentry p e he
    refine ⟨hloss, hslot, ?_⟩
    split
    · rfl
    · exact hreceptor
  · rw [State.home_setReceptor] at hz
    split at hz
    · cases hz; exact hzone
    · exact hzones q z hz
  · have := hclearZone hc r
    simp [State.home, hsome] at this

theorem State.Aside.of_restation {r : ReceptorId} {old : Receptor} {address : Nat} {x : Receptor} (h : s.receptor r = some x) :
    s.Aside (s.restation r old address) := by
  unfold State.restation
  dsimp only
  refine .trans ?_ (.of_abandonPoll ..)
  refine .trans ?_ (.of_post ..)
  refine .trans ?_ (.of_triggerIf ..)
  rw [h]
  exact .of_setReceptor h rfl

theorem State.Aside.of_clearCompliance (s : State) (r : ReceptorId) : s.Aside (s.clearCompliance r) := by
  unfold State.clearCompliance
  split
  · exact .refl s
  next x hx =>
    refine .trans ?_ (.of_triggerIf ..)
    exact .of_setReceptor hx rfl

/-- An edit of a receptor: in ENFORCE it leaves the zone, and elsewhere no slot is in play. -/
theorem State.Staged.editReceptor {r : ReceptorId} {x : Receptor} {z : ZoneId} (h : s.Staged exempt) (hsome : s.receptor r = some x)
    (hzone : (s.zone z).breakpoints ≠ []) (hprotected : s.mode = .enforce → x.zone = z) (address : Nat) (floor : Level) :
    (s.editReceptor r x address z floor).Staged exempt := by
  have ha : ((s.setReceptor r (some { x with zone := z, floor := floor })).triggerIf (x.zone != z)).Staged exempt := by
    refine State.Staged.triggerIf ?_ _
    by_cases hmode : s.mode = .enforce
    · exact (State.Aside.of_setReceptor hsome (hprotected hmode).symm).staged h
    · exact h.moveReceptor hsome hzone (h.atRest hmode)
  have hreceptor : ((s.setReceptor r (some { x with zone := z, floor := floor })).triggerIf (x.zone != z)).receptor r =
      some { x with zone := z, floor := floor } := by
    rw [State.triggerIf_eq]
    exact s.receptor_setReceptor_same r _
  have hc (u : State) (hu : u.Staged exempt) : (if (x.zone != z || x.address != address) = true then
      u.closeExceedance r u.clock.minute .receptorEdited true else u).Staged exempt :=
    (State.Aside.ite (fun _ => .of_closeExceedance ..) fun _ => .refl _).staged hu
  unfold State.editReceptor
  dsimp only
  split
  · exact (State.Aside.of_clearCompliance ..).staged (hc _ ((State.Aside.of_restation hreceptor).staged ha))
  · exact hc _ ha

/-- A record that no path names is removed while no slot is in play. -/
theorem State.Staged.removeReceptor {r : ReceptorId} (h : s.Staged exempt) (hrest : ∀ i, (s.slot i).AtRest) (hnamed : s.receptorNamed r = false) :
    (s.removeReceptor r).Staged exempt := by
  have hclose := State.Aside.of_closeExceedance s r s.clock.minute .receptorEdited false
  have hs := hclose.staged h
  obtain ⟨hkey, hentry, hzones, hclear, hclearZone⟩ := State.pathsSound_iff.1 hs.paths
  unfold State.removeReceptor
  refine (State.Aside.of_abandonPoll ..).staged ?_
  refine hs.of_rest (fun i => (hclose.atRest_iff i).2 (hrest i)) rfl rfl rfl rfl
    (State.pathsSound_iff.2 ⟨hkey, fun p e he => ?_, fun q z hz => ?_, hclear, fun hc q => ?_⟩) hs.table
  · have hne : e.receptor ≠ r := State.receptorNamed_eq_false_iff.1 hnamed p e ((hclose.path_eq p).symm.trans he)
    rw [State.home_setReceptor, if_neg hne]
    exact hentry p e he
  · rw [State.home_setReceptor] at hz
    split at hz
    · cases hz
    · exact hzones q z hz
  · rw [State.home_setReceptor]
    split
    · rfl
    · exact hclearZone hc q

/-! ### Paths -/

/-- A position takes an entry with a new key: the slot comes under curfew by it at most. -/
theorem State.Staged.addPath {q : PathPos} {i : SlotId} {r : ReceptorId} {loss : Nat} {x : Receptor} (h : s.Staged noSlot) (htable : s.table = .idle)
    (hslot : (s.slot i).state ≠ .empty) (hreceptor : s.receptor r = some x) (hloss : loss ≤ 1200) (hnew : s.pathPosition i r = none)
    (hfree : s.path q = none) :
    (s.setPath q (some { slot := i, receptor := r, loss := loss })).Staged fun j => j == i && (s.zone x.zone).state != .opened := by
  obtain ⟨hkey, hentry, hzones, -, -⟩ := State.pathsSound_iff.1 h.paths
  have hpath : ∀ p f, (s.setPath q (some { slot := i, receptor := r, loss := loss })).path p = some f →
      p = q ∧ f = { slot := i, receptor := r, loss := loss } ∨ p ≠ q ∧ s.path p = some f := fun p f hf => by
    by_cases hp : p = q
    · subst hp
      rw [State.path_setPath_same] at hf
      exact .inl ⟨rfl, (Option.some.inj hf).symm⟩
    · rw [State.path_setPath_ne _ _ _ _ hp] at hf
      exact .inr ⟨hp, hf⟩
  have hhome : s.home r = some x.zone := by unfold State.home; rw [hreceptor]; rfl
  have hfresh := State.pathPosition_eq_none.1 hnew
  refine ⟨h.arranged.setPath q _, State.pathsSound_iff.2 ⟨fun p p' e he f hf hef => ?_, fun p e he => ?_, hzones, by simp [htable], by simp [htable]⟩,
    fun j hj => ?_, fun j hj hx => ?_, h.table⟩
  · rcases hpath p e he with ⟨hp, rfl⟩ | ⟨-, he'⟩ <;> rcases hpath p' f hf with ⟨hp', rfl⟩ | ⟨-, hf'⟩
    · rw [hp, hp']
    · exact absurd ⟨hef.1.symm, hef.2.symm⟩ (hfresh p' f hf')
    · exact absurd ⟨hef.1, hef.2⟩ (hfresh p e he')
    · exact hkey p p' e he' f hf' hef
  · rcases hpath p e he with ⟨-, rfl⟩ | ⟨-, he⟩
    · exact ⟨hloss, hslot, by rw [show (s.setPath q _).home r = s.home r from rfl, hhome]; rfl⟩
    · exact hentry p e he
  · obtain ⟨hm, hmapped⟩ := h.play j hj
    obtain ⟨p, e, he, hej⟩ := State.mapped_iff.1 hmapped
    have hp : p ≠ q := fun hp => by rw [hp, hfree] at he; cases he
    exact ⟨hm, State.mapped_iff.2 ⟨p, e, by rw [State.path_setPath_ne _ _ _ _ hp]; exact he, hej⟩⟩
  · have hfreeCurfew := h.curfew j hj rfl
    refine eq_false_of_ne_true fun hc => ?_
    obtain ⟨p, e, z, he, hej, hz, hstate⟩ := State.underCurfew_iff.1 hc
    rcases hpath p e he with ⟨-, rfl⟩ | ⟨-, he⟩
    · have hzx : z = x.zone := Option.some.inj (hz.symm.trans hhome)
      subst hzx
      subst hej
      have : (s.zone x.zone).state ≠ .opened := hstate
      simp [this] at hx
    · rw [(State.underCurfew_iff (s := s)).2 ⟨p, e, z, he, hej, hz, hstate⟩] at hfreeCurfew
      cases hfreeCurfew

theorem State.Staged.createPath {q : PathPos} {i : SlotId} {r : ReceptorId} {loss : Nat} (h : s.Staged noSlot) (htable : s.table = .idle)
    (hslot : (s.slot i).state ≠ .empty) (hreceptor : (s.receptor r).isSome = true) (hloss : loss ≤ 1200) (hnew : s.pathPosition i r = none)
    (hfree : s.freePathPosition = some q) : (s.createPath q i r loss).Staged noSlot := by
  obtain ⟨x, hx⟩ := Option.isSome_iff_exists.1 hreceptor
  have hq : s.path q = none := by simpa using List.find?_some hfree
  have ha := (h.addPath htable hslot hx hloss hnew hq).trigger
  unfold State.createPath
  generalize hu : (s.setPath q (some { slot := i, receptor := r, loss := loss })).trigger = u at ha ⊢
  have haside := State.Aside.of_trigger (s.setPath q (some { slot := i, receptor := r, loss := loss }))
  rw [hu] at haside
  have hux : u.receptor r = some x := by rw [← hu, State.trigger_eq]; exact hx
  have huzone : (u.zone x.zone).state = (s.zone x.zone).state := haside.zoneState_eq x.zone
  unfold State.pathCreated
  rw [hux]
  dsimp only
  split
  next hcond =>
    have hstate : ((s.zone x.zone).state != .opened) = true := huzone ▸ (Bool.and_eq_true_iff.1 hcond).2
    simp only [hstate, Bool.and_true] at ha
    exact ha.curfewRemoval
  next hcond =>
    refine ⟨ha.arranged, ha.paths, ha.play, fun j hj _ => ha.curfew j hj ?_, ha.table⟩
    rw [Bool.and_eq_true_iff, not_and] at hcond
    by_cases hji : j = i
    · subst hji
      have := hcond (by simpa using hj)
      rw [huzone] at this
      simpa using this
    · simp [hji]

/-- The loss of an entry takes another value. -/
theorem State.Staged.changeLoss {q : PathPos} {i : SlotId} {r : ReceptorId} {loss : Nat} (h : s.Staged exempt) (hloss : loss ≤ 1200)
    (hposition : s.pathPosition i r = some q) : (s.setPath q (some { slot := i, receptor := r, loss := loss })).Staged exempt := by
  obtain ⟨e, he, rfl, rfl⟩ := State.pathPosition_eq_some hposition
  obtain ⟨hkey, hentry, hzones, hclear, hclearZone⟩ := State.pathsSound_iff.1 h.paths
  have hpath : ∀ p f, (s.setPath q (some { slot := e.slot, receptor := e.receptor, loss := loss })).path p = some f →
      ∃ g, s.path p = some g ∧ g.slot = f.slot ∧ g.receptor = f.receptor ∧ (f = g ∨ f.loss ≤ 1200) := fun p f hf => by
    by_cases hp : p = q
    · subst hp
      rw [State.path_setPath_same] at hf
      cases hf
      exact ⟨e, he, rfl, rfl, .inr hloss⟩
    · rw [State.path_setPath_ne _ _ _ _ hp] at hf
      exact ⟨f, hf, rfl, rfl, .inl rfl⟩
  refine ⟨h.arranged.setPath q _, State.pathsSound_iff.2 ⟨fun p p' f hf g hg hfg => ?_, fun p f hf => ?_, hzones, fun hc p => ?_, hclearZone⟩,
    fun j hj => ?_, fun j hj hx => ?_, h.table⟩
  · obtain ⟨f', hf', hs, hr, -⟩ := hpath p f hf
    obtain ⟨g', hg', hs', hr', -⟩ := hpath p' g hg
    exact hkey p p' f' hf' g' hg' ⟨hs.trans (hfg.1.trans hs'.symm), hr.trans (hfg.2.trans hr'.symm)⟩
  · obtain ⟨g, hg, hs, hr, hl⟩ := hpath p f hf
    obtain ⟨hl', hslot, hreceptor⟩ := hentry p g hg
    exact ⟨hl.elim (fun hfg => hfg ▸ hl') id, hs ▸ hslot, hr ▸ hreceptor⟩
  · rw [hclear hc q] at he
    cases he
  · obtain ⟨hm, hmapped⟩ := h.play j hj
    obtain ⟨p, f, hf, hfj⟩ := State.mapped_iff.1 hmapped
    refine ⟨hm, State.mapped_iff.2 ?_⟩
    by_cases hp : p = q
    · subst hp
      cases he.symm.trans hf
      exact ⟨p, _, State.path_setPath_same .., hfj⟩
    · exact ⟨p, f, by rw [State.path_setPath_ne _ _ _ _ hp]; exact hf, hfj⟩
  · have hfree := h.curfew j hj hx
    refine eq_false_of_ne_true fun hc => ?_
    obtain ⟨p, f, z, hf, hfj, hz, hstate⟩ := State.underCurfew_iff.1 hc
    obtain ⟨g, hg, hs, hr, -⟩ := hpath p f hf
    rw [(State.underCurfew_iff (s := s)).2 ⟨p, g, z, hg, hs.trans hfj, hr ▸ hz, hstate⟩] at hfree
    cases hfree

/-- Entries leave the path table while no slot is in play. -/
theorem State.Staged.dropPaths (h : s.Staged exempt) (hrest : ∀ i, (s.slot i).AtRest) (hslots : t.slots = s.slots) (harbiter : t.arbiter = s.arbiter)
    (hzones : t.zones = s.zones) (hreceptors : t.receptors = s.receptors) (htable : t.table = s.table) (hmode : t.mode = s.mode)
    (hpath : ∀ p e, t.path p = some e → s.path p = some e) : t.Staged exempt := by
  have hslot : ∀ i, t.slot i = s.slot i := fun i => by unfold State.slot; rw [hslots]
  have hhome : ∀ r, t.home r = s.home r := fun r => by unfold State.home State.receptor; rw [hreceptors]
  have hzone : ∀ z, t.zone z = s.zone z := fun z => by unfold State.zone; rw [hzones]
  obtain ⟨hkey, hentry, hzones', hclear, hclearZone⟩ := State.pathsSound_iff.1 h.paths
  refine h.of_rest hrest hslots (by rw [harbiter]) (by rw [harbiter]) (by rw [harbiter]) (State.pathsSound_iff.2
    ⟨fun p q e he f hf => hkey p q e (hpath p e he) f (hpath q f hf), fun p e he => ?_, ?_, fun hc p => ?_, ?_⟩) (by rw [htable, hmode]; exact h.table)
  · rw [hslot, hhome]; exact hentry p e (hpath p e he)
  · simpa only [hhome, hzone] using hzones'
  · refine Option.eq_none_iff_forall_ne_some.2 fun e he => ?_
    have := hpath p e he
    rw [hclear (htable ▸ hc) p] at this
    cases this
  · simpa only [hhome, htable] using hclearZone

end staged

end Sys2Proof.Machine
end

section
/-! SUPPORT. Every step keeps that only ENFORCE admits, that paths name what exists, and that no slot of the queue stands under curfew (O11, its theorem). -/

namespace Sys2Proof.Machine

section staged
variable {s t : State} {exempt : SlotId → Bool}

/-! ### The completion of a clear -/

/-- A state that differs in no record, arbiter or mode. -/
theorem State.Staged.of_same (h : s.Staged exempt) (hslots : t.slots = s.slots) (harbiter : t.arbiter = s.arbiter) (hmode : t.mode = s.mode)
    (htable : t.table = s.table) (hzones : t.zones = s.zones) (hpaths : t.paths = s.paths) (hreceptors : t.receptors = s.receptors) : t.Staged exempt :=
  (State.Aside.of_records hslots (by rw [harbiter]) (by rw [harbiter]) (by rw [harbiter]) hmode htable hzones hpaths hreceptors).staged h

/-- The table engine becomes IDLE. -/
theorem State.Staged.engineDone (h : s.Staged exempt) (result : EngineResult) : (s.engineDone result).Staged exempt := by
  obtain ⟨hkey, hentry, hzones, -, -⟩ := h.paths
  unfold State.engineDone
  refine State.Staged.post ?_ _
  exact ⟨h.arranged.of_same rfl rfl rfl rfl, ⟨hkey, hentry, hzones, nofun, nofun⟩, h.play, h.curfew, fun ht => absurd rfl ht⟩

theorem State.Staged.clearZones (h : s.Staged exempt) (hrest : ∀ i, (s.slot i).AtRest) (hnone : ∀ r, s.home r = none) : s.clearZones.Staged exempt := by
  have (l : List ZoneId) (u : State) (hu : u.Staged exempt) (hrest : ∀ i, (u.slot i).AtRest) (hnone : ∀ r, u.home r = none) :
      (l.foldl State.unloadZone u).Staged exempt := by
    induction l generalizing u with
    | nil => exact hu
    | cons z l ih =>
      have hused : u.zoneUsed z = false := State.zoneUsed_eq_false_iff.2 fun r => by rw [hnone]; simp
      have haside : (u.setZone z zoneDefault).Aside (u.unloadZone z) :=
        (State.Aside.of_triggerIf ..).trans ((State.Aside.of_triggerIf ..).trans ((State.Aside.of_triggerIf ..).trans
          ((State.Aside.of_triggerIf ..).trans (.of_post ..))))
      exact ih _ (hu.unloadZone hrest hused) (fun i => (haside.atRest_iff i).2 (hrest i)) fun r => (haside.home_eq r).trans (hnone r)
  exact this _ s h hrest hnone

theorem State.Staged.clearReceptors (h : s.Staged exempt) (hrest : ∀ i, (s.slot i).AtRest) (hnone : ∀ p, s.path p = none) :
    s.clearReceptors.Staged exempt := by
  have (l : List ReceptorId) (u : State) (hu : u.Staged exempt) (hrest : ∀ i, (u.slot i).AtRest) (hnone : ∀ p, u.path p = none) :
      (l.foldl State.removeReceptor u).Staged exempt := by
    induction l generalizing u with
    | nil => exact hu
    | cons r l ih =>
      have hclose := State.Aside.of_closeExceedance u r u.clock.minute .receptorEdited false
      have habandon := State.Aside.of_abandonPoll ((u.closeExceedance r u.clock.minute .receptorEdited false).setReceptor r none) r
      exact ih _ (hu.removeReceptor hrest (State.receptorNamed_eq_false_iff.2 fun p e he => by simp [hnone] at he))
        (fun i => (habandon.atRest_iff i).2 ((hclose.atRest_iff i).2 (hrest i)))
        fun p => (habandon.path_eq p).trans ((hclose.path_eq p).trans (hnone p))
  exact this _ s h hrest hnone

theorem State.Staged.clearStages (h : s.Staged exempt) : s.clearStages.Staged exempt := by
  have (l : List SlotId) (hl : l.Nodup) (u : State) (hu : u.Staged exempt) (hports : ∀ i ∈ l, (u.slot i).port = none) :
      (l.foldl State.returnStage u).Staged exempt := by
    induction l generalizing u with
    | nil => exact hu
    | cons i l ih =>
      obtain ⟨hi, hl⟩ := List.nodup_cons.1 hl
      refine ih hl _ (hu.returnStage (hports i (by simp))) fun j hj => ?_
      have hne : j ≠ i := fun he => hi (he ▸ hj)
      rw [State.returnStage_slot_ne u hne]
      exact hports j (by simp [hj])
  exact this _ ((List.nodup_finRange 8).filter _) s h fun i hi => by simpa [State.unboundSlots] using hi

theorem path_replicate (s : State) (p : PathPos) : ({ s with paths := Vector.replicate 64 none } : State).path p = none := by
  simp [State.path, Vector.get_eq_getElem]

theorem State.Staged.clearPaths (h : s.Staged exempt) (hrest : ∀ i, (s.slot i).AtRest) : s.clearPaths.Staged exempt := by
  unfold State.clearPaths
  refine State.Staged.triggerIf ?_ _
  exact h.dropPaths hrest rfl rfl rfl rfl rfl rfl fun p e he => by rw [path_replicate] at he; cases he

theorem State.Staged.clearTable {k : Table} (h : s.Staged exempt) (hk : s.table = .clearing k) : (s.clearTable k).1.Staged exempt := by
  have hmode : s.mode = .setup := h.table (by simp [hk])
  have hrest := h.atRest (by simp [hmode])
  obtain ⟨-, -, -, hclear, hclearZone⟩ := State.pathsSound_iff.1 h.paths
  unfold State.clearTable
  cases k <;> dsimp only
  · exact h.replaceSite _
  · exact h.clearZones hrest (hclearZone hk)
  · exact h.clearReceptors hrest (hclear hk)
  · exact h.clearStages
  · exact h.clearPaths hrest
  · exact (State.Aside.of_clearExceedances s).staged h
  · exact h

/-! ### What an owner makes of the state -/

theorem State.allQuiet_atRest (h : s.allQuiet = true) (i : SlotId) : (s.slot i).AtRest := by
  unfold State.allQuiet at h
  have := List.all_eq_true.1 (Bool.and_eq_true_iff.1 h).1 i (List.mem_finRange i)
  cases hs : (s.slot i).state <;> simp_all [Slot.AtRest, SlotState.occupied]

/-- What a CLEAR that is not refused has found (R167). -/
theorem State.clearRefusal_found {k : Table} (h : s.clearRefusal k = none) :
    (k = .receptor → ∀ p, s.path p = none) ∧ (k = .zone → ∀ r, s.home r = none) := by
  unfold State.clearRefusal at h
  refine ⟨?_, ?_⟩ <;> rintro rfl <;> dsimp only at h <;> split at h
  · cases h
  · split at h
    · cases h
    next hnone =>
      intro p
      simp only [List.any_eq_true, not_exists, not_and] at hnone
      simpa using hnone p (List.mem_finRange p)
  · cases h
  · split at h
    · cases h
    next hnone =>
      intro r
      simp only [State.anyReceptor, List.any_eq_true, not_exists, not_and] at hnone
      have := hnone r (List.mem_finRange r)
      rw [← State.home_isSome] at this
      simpa using this

/-- The table engine takes up a long operation in SETUP. -/
theorem State.Staged.orders (h : s.Staged exempt) (k : TableEngine) (hmode : s.mode = .setup) (hpaths : k = .clearing .receptor → ∀ p, s.path p = none)
    (hnone : k = .clearing .zone → ∀ r, s.home r = none) : ({ s with table := k } : State).Staged exempt := by
  obtain ⟨hkey, hentry, hzones, -, -⟩ := State.pathsSound_iff.1 h.paths
  exact ⟨h.arranged.of_same rfl rfl rfl rfl, State.pathsSound_iff.2 ⟨hkey, hentry, hzones, hpaths, hnone⟩, h.play, h.curfew, fun _ => hmode⟩

theorem State.Staged.beginEnforce (h : s.Staged noSlot) (hmode : s.mode ≠ .enforce) (htable : s.table = .idle) : s.beginEnforce.Staged noSlot := by
  have hz := h.evaluateZones
  have hframe := ZoneFrame.of_evaluateZones s
  have hzmode := hframe.mode_eq
  have hztable := hframe.table_eq
  unfold State.beginEnforce
  generalize s.evaluateZones = u at hz hzmode hztable ⊢
  refine State.Staged.trigger ?_
  exact hz.of_rest (hz.atRest (by rw [hzmode]; exact hmode)) rfl rfl rfl rfl hz.paths fun ht => absurd (hztable.trans htable) ht

theorem State.Staged.owner {p : Port} (h : s.Staged noSlot) (hmode : s.mode ≠ .boot) (hstep : OwnerStep p s t) : t.Staged noSlot := by
  have hsetup : s.mode ≠ .enforce → s.mode = .setup := fun hm => by cases hs : s.mode <;> simp_all
  cases hstep with
  | unchanged => exact h
  | enrols bound i id hport hbound hsettled helsewhere hchosen =>
    exact (h.releaseSlot fun j hj => Slot.atRest_of_settledQuiet (hsettled j hj).1).bindSlot
      (h.arranged.enrols hport hbound hsettled helsewhere hchosen)
  | reports a i => exact h.takeReport a i
  | joins i hbound hmode hquiet hmapped hcurfew =>
    exact h.joinQueue hquiet (by rw [(boundSlot_eq_some hbound).2]; simp) hmode hmapped hcurfew
  | quiets forced i => exact h.takeQuiet forced i
  | takesQuery q => exact (State.Aside.of_takeQuery ..).staged h
  | handsForecast => exact h.of_same rfl rfl rfl rfl rfl rfl rfl
  | setsClock minute second =>
    refine State.Staged.evaluateZones ?_
    exact h.of_same rfl rfl rfl rfl rfl rfl rfl
  | entersEnforce hm htable => exact h.beginEnforce hm htable
  | returnsToSetup hm hquiet => exact h.of_rest (State.allQuiet_atRest hquiet) rfl rfl rfl rfl h.paths fun _ => rfl
  | pushesCap i cap => exact ((State.Aside.of_updSlot ⟨rfl, rfl, rfl, rfl, rfl, .inl⟩).trans (.of_trigger _)).staged h
  | popsCap i top rest => exact ((State.Aside.of_updSlot ⟨rfl, rfl, rfl, rfl, rfl, .inl⟩).trans (.of_trigger _)).staged h
  | setsConsole i present event => exact (State.Aside.of_setConsole ..).staged h
  | evicts i hsettled => exact h.evictSlot (Slot.atRest_of_settledQuiet hsettled)
  | readsNotices => exact h.of_same rfl rfl rfl rfl rfl rfl rfl
  | setsMask => exact h.of_same rfl rfl rfl rfl rfl rfl rfl
  | savesSettings hm htable => exact h.orders _ (hsetup hm) nofun nofun
  | replacesSite x => exact h.replaceSite x
  | replacesZone z bps ramp margin htable hbps hramp hmargin hused => exact h.replaceZone hused ramp margin
  | unloadsZone z htable hm hused => exact h.unloadZone (h.atRest hm) hused
  | createsReceptor r address z floor htable haddress hzone htaken hfloor hnone => exact h.createReceptor hzone hnone htable
  | editsReceptor r x address z floor htable haddress hzone htaken hfloor hsome hprotected =>
    exact h.editReceptor hsome hzone (fun hm => (hprotected hm).2) address floor
  | removesReceptor r x htable hm hnamed => exact h.removeReceptor (h.atRest hm) hnamed
  | replacesStage i k weight stageMax htable hkind hport => exact h.replaceStage hkind hport weight stageMax
  | returnsStage i htable hm hport => exact h.returnStage hport
  | createsPath q i r loss htable hslot hreceptor hloss hposition hfree => exact h.createPath htable hslot hreceptor hloss hposition hfree
  | changesLoss q i r old loss htable hslot hreceptor hloss hposition => exact (h.changeLoss hloss hposition).triggerIf _
  | deletesPath q i r htable hm =>
    refine State.Staged.trigger ?_
    refine h.dropPaths (h.atRest hm) rfl rfl rfl rfl rfl rfl fun p e he => ?_
    by_cases hp : p = q
    · subst hp
      rw [State.path_setPath_same] at he
      cases he
    · rwa [State.path_setPath_ne _ _ _ _ hp] at he
  | ordersClear k htable hrefusal =>
    obtain ⟨hpaths, hnone⟩ := State.clearRefusal_found hrefusal
    exact h.orders _ (hsetup (State.clearRefusal_eq_none hrefusal)) (fun hk => hpaths (TableEngine.clearing.inj hk)) fun hk =>
      hnone (TableEngine.clearing.inj hk)

/-! ### Any step -/

theorem State.LoadSound.staged (h : s.LoadSound) : s.Staged noSlot :=
  staged_of_atRest h.arranged h.paths h.atRest fun ht => absurd h.table ht

theorem State.Staged.endLoad (h : s.Staged noSlot) (hrest : ∀ i, (s.slot i).AtRest) : s.endLoad.Staged noSlot := by
  unfold State.endLoad
  refine State.Staged.evaluateZones ?_
  exact h.of_rest hrest rfl rfl rfl rfl h.paths fun _ => rfl

theorem StepCase.staged (hstep : StepCase s t) (hboot : s.BootSound) (h : s.Staged noSlot) (hmode : t.mode ≠ .boot) : t.Staged noSlot := by
  cases hstep with
  | unchanged => exact h
  | hardReset start => exact absurd rfl hmode
  | warmRestart => exact absurd rfl hmode
  | released => exact h.of_same rfl rfl rfl rfl rfl rfl rfl
  | loadEnds hloading =>
    have hload := State.loadSound_load (hboot.2 (State.BootSound.boot_of_loading hboot hloading))
    unfold State.completeLoad
    generalize s.load = l at hload ⊢
    dsimp only
    split
    · exact State.Staged.endLoad (hload.staged.post _) fun i => hload.atRest i
    · exact hload.staged.endLoad hload.atRest
  | memoryAbsent hloading =>
    have hsmode := State.BootSound.boot_of_loading hboot hloading
    exact (h.post _).endLoad (h.atRest (by rw [hsmode]; simp))
  | secondBoundary =>
    unfold State.secondBoundary
    split
    · exact h
    · have ha := (State.Aside.of_elapse s (1000 - s.clock.ms) s.clock.nextSecond).staged h
      dsimp only
      split
      · exact ha.secondWork
      · exact ha.minuteWork _
  | minuteBoundary =>
    unfold State.minuteBoundary
    split
    · exact h
    · exact ((State.Aside.of_elapse s _ s.clock.nextMinute).staged h).minuteWork _
  | pollSent p => exact (State.Aside.of_setPoll ..).staged h
  | pollEnds cls level => exact (State.Aside.of_pollEnds ..).staged h
  | recalculationEnds c => exact (State.Aside.of_chooseNext _).staged (((State.Aside.of_publish s c).staged h).ageAll.takePassReport _ _)
  | forecastEnds c q m sec => exact (State.Aside.of_endForecast ..).staged h
  | staleTime i => exact (State.Aside.of_staleSlot ..).staged h
  | ageOut i => exact h.ageSlot i
  | handoverExpires => exact h.grant _
  | discards => exact (State.Aside.of_discardForecast _).staged h
  | clearEnds k hk => exact (h.clearTable hk).engineDone _
  | saveEnds image hsaving ws result =>
    refine State.Staged.engineDone ?_ _
    exact h.of_same rfl rfl rfl rfl rfl rfl rfl
  | receiver p r => exact (State.Aside.of_setLink ..).staged h
  | replySent p => exact (State.Aside.of_setLink ..).staged h
  | busReceiver => exact h.of_same rfl rfl rfl rfl rfl rfl rfl
  | entrySent => exact h.of_same rfl rfl rfl rfl rfl rfl rfl
  | refuses p r => exact (State.Aside.of_hold ..).staged h
  | answers c head owner hc ho hloader hready hstep => exact (State.Aside.of_hold ..).staged (h.owner hready hstep)
  | millisecond => exact (State.Aside.of_elapse ..).staged h

theorem StepCase.stagesSound (hstep : StepCase s t) (h : s.StagesSound) : t.StagesSound := by
  have hboot := bootSound_kept hstep h.1.1
  by_cases hmode : t.mode = .boot
  · exact (loadSound_of_blocksAtReset (hboot.2 hmode)).staged.stagesSound hboot
  · exact (hstep.staged h.1.1 (State.StagesSound.staged h) hmode).stagesSound hboot

end staged

/-- Settles O11, through the stronger `State.Staged`, in which slots may be exempt from the curfew until the arbiter has removed them. -/
theorem stepKeepsStagesSound : Obligations.StepKeepsStagesSound := by
  unfold Obligations.StepKeepsStagesSound
  exact fun s t hs hstep => kept_by_step (P := State.StagesSound) (fun _ _ h => h) (fun _ _ hcase => hcase.stagesSound) hs hstep

end Sys2Proof.Machine
end

section
/-! SUPPORT. The replies: the body of every answer an owner gives is at most 60 bytes (R161). -/

namespace Sys2Proof.Machine

/-! ### The body of a reply -/

/-- Whatever the kind and the tag, the body of a reply with this answer is at most 60 bytes. -/
def Answer.Fits (a : Answer) : Prop := ∀ kind tag, ({ kind := kind, tag := tag, answer := a } : Reply).body.length ≤ 60

/-- An answer without a reason leaves 56 bytes to its items. -/
theorem Answer.Fits.of_items {a : Answer} (hreason : a.reason = none) (h : a.items.bytes.length ≤ 56) : a.Fits := by
  intro kind tag
  simp only [Reply.body, hreason, List.length_append, length_u8, length_flagByte, List.length_nil]
  omega

/-- Any answer leaves 55 bytes to its items. -/
theorem Answer.Fits.of_short {a : Answer} (h : a.items.bytes.length ≤ 55) : a.Fits := by
  intro kind tag
  simp only [Reply.body]
  split <;> simp only [List.length_append, length_u8, length_flagByte, List.length_nil] <;> omega

theorem Answer.Fits.of_none {a : Answer} (h : a.items = .none) : a.Fits := .of_short (by simp [h, Items.bytes])

theorem fits_refuse (s : State) (x : Reason) : (s.refuse x).2.Fits := .of_none rfl

/-! ### The items -/

theorem fits_position (s : State) (i : SlotId) : (s.pendingAnswer i).Fits := .of_short (by simp [State.pendingAnswer, Answer.withStatus, Items.bytes])

theorem fits_deferAnswer (s : State) (b : Bool) : (s.deferAnswer b).Fits := .of_short (by simp [State.deferAnswer, Answer.withStatus, Items.bytes])

theorem fits_enrolled (s : State) (i : SlotId) (check : Nat) : (s.enrolled i check).Fits :=
  .of_short (by simp [State.enrolled, Answer.done, Items.bytes])

theorem fits_refusedCheck (x : Reason) (check : Nat) : (Answer.refusedWith x (.enrolCheck check)).Fits :=
  .of_short (by simp [Answer.refusedWith, Items.bytes])

theorem length_flatMap_le {α : Type} {f : α → List Byte} {k n : Nat} {l : List α} (h : ∀ a ∈ l, (f a).length ≤ k) (hl : l.length ≤ n) :
    (l.flatMap f).length ≤ n * k := by
  rw [List.length_flatMap]
  calc (l.map fun a => (f a).length).sum ≤ (l.map fun a => (f a).length).length * k :=
        List.sum_le_card_nsmul _ _ (by simpa using h)
    _ ≤ n * k := by rw [List.length_map]; exact Nat.mul_le_mul_right k hl

theorem length_zoneBytes {x : Zone} (h : x.breakpoints.length ≤ 8) : (zoneBytes x).length ≤ 53 := by
  have hbps := length_flatMap_le (f := breakpointBytes) (k := 5) (l := x.breakpoints) (fun b _ => by simp [breakpointBytes]) h
  have hforce := length_optional_u8 x.inForce
  simp only [zoneBytes, List.length_append, length_u8, length_u16]
  omega

theorem length_receptorBytes (x : Receptor) : (receptorBytes x).length ≤ 55 := by
  have hacc := length_optional_le (fun a : Accumulator => u16 a.level ++ u8 a.count) 3 (fun _ => by simp) x.accumulator
  have h15 := length_optional_u16 x.level15
  have hlast := length_optional_u16 x.lastLevel
  have hexc := length_optional_code (fun p : ExcPos => p.val) x.exceedance
  simp only [receptorBytes, List.length_append, length_u8, length_u16]
  omega

theorem length_slotBytes (i : SlotId) {x : Slot} (h : x.caps.length ≤ 4) : (slotBytes i x).length ≤ 55 := by
  have hcaps := length_flatMap_le (f := u16) (k := 2) (l := x.caps.reverse) (fun c _ => (length_u16 c).le) ((List.length_reverse ..).trans_le h)
  have hid := length_optional_identity x.identity
  have hport := length_optional_code (fun p : Port => p.val) x.port
  have hlast := length_optional_u16 x.lastLevel
  have hage := length_optional_u24 x.reportAge
  have hprospective := length_optional_u16 x.prospective
  unfold slotBytes
  simp only [List.length_append, length_u8, length_u16, length_flagByte]
  omega

theorem length_excRecordBytes (p : ExcPos) (x : ExcRecord) : (excRecordBytes p x).length ≤ 20 := by
  have hclosed := length_optional_u16 x.closedAt
  have hcause := length_optional_code ClosingCause.code x.cause
  simp only [excRecordBytes, List.length_append, length_u8, length_u16, length_slotSetByte]
  omega

theorem length_ringBytes {part total : Nat} {recs : List MinuteRecord} (h : recs.length ≤ 8) :
    (Items.ring part total recs).bytes.length ≤ 55 := by
  have hrecs := length_flatMap_le (f := minuteRecordBytes) (k := 6) (l := recs) (fun m _ => by
    have hlevel := length_optional_u16 m.level
    simp only [minuteRecordBytes, List.length_append, length_u16, length_u8]
    omega) h
  simp only [Items.bytes, List.length_append, length_u8]
  omega

theorem length_siteClock (mode : Mode) (isSet : Bool) (minute second : Nat) (zones : Vector Zone 4) :
    (Items.siteClock mode isSet minute second zones).bytes.length ≤ 55 := by
  have hzones := length_flatMap_le (f := fun z : ZoneId => u8 (zones.get z).state.code ++ u16 (zones.get z).licence ++
      u16 (zones.get z).effective ++ u16 (zones.get z).fade ++ u8 (zones.get z).grace ++ optional u8 (zones.get z).inForce) (k := 10) (n := 4) (l := allZones)
    (fun z _ => by
      have hforce := length_optional_u8 (zones.get z).inForce
      simp only [List.length_append, length_u16, length_u8]
      omega) (by decide)
  simp only [Items.bytes, List.length_append, length_u8, length_flagByte, length_timeBytes]
  exact (Nat.add_le_add_left hzones _).trans (by decide)

theorem length_siteAdmission {q debts : List SlotId} (phase : Option Phase) (timer : Option Nat) (hq : q.length ≤ 8) (hd : debts.length ≤ 8) :
    (Items.siteAdmission q phase debts timer).bytes.length ≤ 55 := by
  have hphase := length_optional_code Phase.code phase
  have htimer := length_optional_u16 timer
  simp only [Items.bytes, List.length_append, length_u8, length_slotListBytes]
  omega

theorem length_siteLatch (l : Latch) : (Items.siteLatch l).bytes.length ≤ 55 := by
  cases l <;> simp [Items.bytes]

theorem length_forecast {result : List (SlotId × Level)} (minute second : Nat) (h : result.length ≤ 8) :
    (Items.forecast result minute second).bytes.length ≤ 55 := by
  have hresult := length_flatMap_le (f := fun e : SlotId × Level => u8 (e.1.val + 1) ++ u16 e.2) (k := 3) (fun _ _ => by simp) h
  simp only [Items.bytes, List.length_append, length_u8, length_timeBytes]
  omega

theorem length_maskBytes (m : Vector Bool 10) : (Items.mask m).bytes.length ≤ 55 := by
  have hmask := length_flatMap_le (f := fun k => flagByte (m.get k)) (k := 1) (n := 10) (l := List.finRange 10) (fun _ _ => by simp) (by simp)
  simp only [Items.bytes]
  omega

/-- The notices that fit a room are no longer than it. -/
theorem length_take_fitting (room count : Nat) (ns : List Notice) :
    ((ns.take (fitting room count ns)).flatMap Notice.bytes).length ≤ room := by
  induction ns generalizing room count with
  | nil => simp
  | cons n ns ih =>
    cases count with
    | zero => simp [fitting]
    | succ count =>
      by_cases h : n.bytes.length ≤ room
      · have htail := ih (room - n.bytes.length) count
        simp only [fitting, h, if_true, List.take_succ_cons, List.flatMap_cons, List.length_append]
        omega
      · simp [fitting, h]

theorem length_returned {q : NoticeQueue} (h : ∀ n ∈ q.notices, n.bytes.length ≤ 53) (count : Nat) :
    ((q.notices.take (q.returnedCount count)).flatMap Notice.bytes).length ≤ 53 := by
  unfold NoticeQueue.returnedCount
  cases hns : q.notices with
  | nil => simp
  | cons n ns =>
    have hfirst : n.bytes.length ≤ 53 := h n (hns ▸ List.mem_cons_self)
    have hall := length_take_fitting noticeRoom count (n :: ns)
    rcases Nat.eq_zero_or_pos (fitting noticeRoom count (n :: ns)) with hzero | hpos
    · simpa [hzero] using hfirst
    · rw [List.isEmpty_cons, if_neg Bool.false_ne_true, Nat.max_eq_right hpos]
      exact hall

/-! ### The wrappers of an owner -/

theorem fits_handled {α : Type} {s : State} {params : Params α} {owner : α → Handler} {handler : Handler}
    (h : handled params owner = some handler) (howner : ∀ a, (owner a s).2.Fits) : (handler s).2.Fits := by
  cases params <;> cases h
  · exact howner _
  · exact fits_refuse s _

theorem fits_whenIdle {s : State} {owner : Handler} (h : (owner s).2.Fits) : (whenIdle owner s).2.Fits := by
  unfold whenIdle
  split
  · exact .of_none rfl
  · exact h

theorem fits_table {α : Type} {s : State} {params : Params α} {owner : α → Handler} {handler : Handler}
    (h : (handled params owner).map whenIdle = some handler) (howner : ∀ a, (owner a s).2.Fits) : (handler s).2.Fits := by
  cases params <;> cases h
  · exact fits_whenIdle (howner _)
  · exact fits_whenIdle (fits_refuse s _)

theorem fits_forBoundSlot {p : Port} {s : State} {owner : SlotId → Handler} (h : ∀ i, (owner i s).2.Fits) : (forBoundSlot p owner s).2.Fits := by
  unfold forBoundSlot
  split
  · exact h _
  · exact fits_refuse s _

theorem fits_forOccupied {n : Nat} {s : State} {owner : SlotId → Handler} (h : ∀ i, (owner i s).2.Fits) : (forOccupied n owner s).2.Fits := by
  unfold forOccupied
  split
  · exact fits_refuse s _
  · split
    · exact h _
    · exact fits_refuse s _

theorem fits_forReceptor {n : Nat} {s : State} {owner : ReceptorId → Receptor → Handler}
    (h : ∀ r x, s.receptor r = some x → (owner r x s).2.Fits) : (forReceptor n owner s).2.Fits := by
  unfold forReceptor
  split
  · exact fits_refuse s _
  · split
    · exact fits_refuse s _
    · exact h _ _ ‹_›

theorem fits_forPathKey {slot receptor : Nat} {s : State} {owner : SlotId → ReceptorId → Handler} (h : ∀ i r, (owner i r s).2.Fits) :
    (forPathKey slot receptor owner s).2.Fits := by
  unfold forPathKey
  split
  · exact h _ _
  · exact fits_refuse s _

/-! ### The answer of each owner -/

theorem fits_enrolSlot (s : State) (p : Port) (bound : Option SlotId) (a : EnrolArgs) : (s.enrolSlot p bound a).2.Fits := by
  unfold State.enrolSlot
  split
  · exact fits_refusedCheck _ _
  · split
    · exact fits_refusedCheck _ _
    · exact fits_enrolled _ _ _

theorem fits_takeEnrol (s : State) (p : Port) (a : EnrolArgs) : (State.takeEnrol p a s).2.Fits := by
  unfold State.takeEnrol
  split
  · split
    · exact fits_enrolled _ _ _
    · split
      · exact fits_refusedCheck _ _
      · exact fits_enrolSlot _ _ _ _
  · split
    · exact fits_refusedCheck _ _
    · exact fits_enrolSlot _ _ _ _

theorem fits_takeReport (s : State) (a : ReportArgs) (i : SlotId) : (State.takeReport a i s).2.Fits :=
  .of_short (by simp [State.takeReport, Answer.done, State.reportItems, Items.bytes])

theorem fits_takeGoLive (s : State) (i : SlotId) : (State.takeGoLive i s).2.Fits := by
  unfold State.takeGoLive
  split
  · split
    · split
      · exact fits_refuse s _
      · exact fits_position _ _
    · exact fits_refuse s _
  · exact fits_position _ _
  · exact fits_position _ _
  · exact .of_short (by simp [Answer.withStatus, Items.bytes])
  · exact fits_refuse s _

theorem fits_takeQuiet (s : State) (forced : Bool) (i : SlotId) : (State.takeQuiet forced i s).2.Fits :=
  .of_short (by simp [State.takeQuiet, Answer.done, Items.bytes])

theorem fits_takeForecastRequest {s : State} (hlatch : s.latch.small = true) (p : Port) (slots : List Nat) :
    (State.takeForecastRequest p slots s).2.Fits := by
  unfold State.takeForecastRequest
  split
  · exact .of_none rfl
  · split
    · exact fits_refuse s _
    · split
      · exact fits_refuse s _
      · unfold State.meetLatch
        split
        · exact fits_deferAnswer _ _
        · rename_i hready
          split
          · rw [hready] at hlatch
            simp only [Latch.small, Bool.and_eq_true, decide_eq_true_eq] at hlatch
            exact .of_short (length_forecast _ _ hlatch.2)
          · exact fits_deferAnswer _ _
        · exact fits_deferAnswer _ _

theorem fits_takeSiteStatus {s : State} (hqueue : s.arbiter.queue.length ≤ 8) (part : Nat) : (takeSiteStatus part s).2.Fits := by
  unfold takeSiteStatus
  split
  · exact .of_short (length_siteClock ..)
  · exact .of_short (length_siteAdmission _ _ hqueue (List.length_filter_le ..))
  · exact .of_short (length_siteLatch _)
  · exact fits_refuse s _

theorem fits_takeSetClock (s : State) (a : ClockArgs) : (takeSetClock a s).2.Fits := by
  unfold takeSetClock
  split
  · exact fits_refuse s _
  · exact .of_none rfl

theorem fits_takeEnterEnforce (s : State) : (takeEnterEnforce s).2.Fits := by
  unfold takeEnterEnforce
  split
  · exact .of_none rfl
  · split
    · exact .of_none rfl
    · split
      · exact fits_refuse s _
      · split
        · exact .of_none rfl
        · exact fits_refuse s _

theorem fits_takeReturnToSetup (s : State) : (takeReturnToSetup s).2.Fits := by
  unfold takeReturnToSetup
  split
  · split
    · exact .of_none rfl
    · exact fits_refuse s _
  · exact .of_none rfl

theorem fits_takeWarmRestart (s : State) : (takeWarmRestart s).2.Fits := by
  unfold takeWarmRestart
  split
  · exact fits_refuse s _
  · exact .of_none rfl

theorem fits_writeSite (s : State) (a : SiteArgs) : (writeSite a s).2.Fits := by
  unfold writeSite
  split
  · exact fits_refuse s _
  · dsimp only
    split
    · exact fits_refuse s _
    · exact .of_none rfl

theorem fits_deleteSite (s : State) : (deleteSite s).2.Fits := by
  unfold deleteSite
  split
  · exact fits_refuse s _
  · exact .of_none rfl

theorem fits_writeZone (s : State) (a : ZoneArgs) : (writeZone a s).2.Fits := by
  unfold writeZone
  dsimp only
  repeat' split
  all_goals exact .of_none rfl

theorem fits_deleteZone (s : State) (n : Nat) : (deleteZone n s).2.Fits := by
  unfold deleteZone
  repeat' split
  all_goals exact .of_none rfl

theorem fits_readZone {s : State} (h : s.ZonesSound) (n : Nat) : (readZone n s).2.Fits := by
  unfold readZone
  split
  · exact fits_refuse s _
  · rename_i z _
    obtain ⟨-, -, hlen, -⟩ := h z
    exact .of_short ((length_zoneBytes hlen).trans (by decide))

theorem fits_writeReceptor (s : State) (a : ReceptorArgs) : (writeReceptor a s).2.Fits := by
  unfold writeReceptor
  repeat' split
  all_goals exact .of_none rfl

theorem fits_deleteReceptor (s : State) (r : ReceptorId) (x : Receptor) : (deleteReceptor r x s).2.Fits := by
  unfold deleteReceptor
  repeat' split
  all_goals exact .of_none rfl

theorem fits_findReceptor (s : State) (n : Nat) : (findReceptor n s).2.Fits := fits_forReceptor fun _ _ _ => .of_none rfl

theorem fits_readReceptor (s : State) (n : Nat) : (readReceptor n s).2.Fits := fits_forReceptor fun _ x _ => .of_short (length_receptorBytes x)

theorem fits_writeStage (s : State) (a : StageArgs) : (writeStage a s).2.Fits := by
  unfold writeStage
  dsimp only
  repeat' split
  all_goals exact .of_none rfl

theorem fits_deleteStage (s : State) (n : Nat) : (deleteStage n s).2.Fits := by
  unfold deleteStage
  repeat' split
  all_goals exact .of_none rfl

theorem fits_findStage (s : State) (id : Identity) : (findStage id s).2.Fits := by
  unfold findStage
  split
  · exact .of_short (by simp [Answer.done, Items.bytes])
  · exact fits_refuse s _

theorem fits_readStage {s : State} (h : s.SlotsInRange) (n : Nat) : (readStage n s).2.Fits := by
  unfold readStage
  split
  · exact fits_refuse s _
  · rename_i i _
    obtain ⟨-, -, -, -, -, hcaps, -⟩ := h.1 i
    exact .of_short (length_slotBytes i hcaps)

theorem fits_writePath (s : State) (loss : Nat) (i : SlotId) (r : ReceptorId) : (writePath loss i r s).2.Fits := by
  unfold writePath
  dsimp only
  repeat' split
  all_goals exact .of_short (by simp [State.refuse, Answer.refused, Answer.doneAdjusted, Items.bytes])

theorem fits_deletePath (s : State) (i : SlotId) (r : ReceptorId) : (deletePath i r s).2.Fits := by
  unfold deletePath
  repeat' split
  all_goals exact .of_none rfl

theorem fits_findPath (s : State) (i : SlotId) (r : ReceptorId) : (findPath i r s).2.Fits := by
  unfold findPath
  split
  · exact fits_refuse s _
  · exact .of_short (by simp [Answer.done, Items.bytes])

theorem fits_readPath (s : State) (n : Nat) : (readPath n s).2.Fits := by
  unfold readPath
  split
  · exact fits_refuse s _
  · exact .of_short (by simp [Answer.done, Items.bytes])

theorem fits_findExceedance (s : State) (n : Nat) : (findExceedance n s).2.Fits := fits_forReceptor fun _ x _ => by
  split
  · exact .of_short (by simp [Answer.done, Items.bytes])
  · exact fits_refuse s _

theorem fits_readExceedance (s : State) (n : Nat) : (readExceedance n s).2.Fits := by
  unfold readExceedance
  split
  · exact fits_refuse s _
  · split
    · exact fits_refuse s _
    · rename_i p _ _ x _
      refine .of_short ?_
      have hrecord := length_excRecordBytes p x
      simp only [Answer.done, Items.bytes, List.length_append, length_u8]
      omega

theorem fits_readRing {s : State} (h : s.ReceptorsSound) (a : RingArgs) : (readRing a s).2.Fits := fits_forReceptor fun r x hx => by
  obtain ⟨-, -, -, -, -, -, hring, -⟩ := h.1 r x hx
  split
  · exact .of_short (length_ringBytes (List.length_take_le ..))
  · exact .of_short (length_ringBytes (by rw [List.length_drop]; omega))
  · exact fits_refuse s _

theorem fits_takeClear (s : State) (n : Nat) : (takeClear n s).2.Fits := by
  unfold takeClear
  repeat' split
  all_goals exact .of_none rfl

theorem fits_takePushCap (s : State) (cap : Nat) (i : SlotId) : (takePushCap cap i s).2.Fits := by
  unfold takePushCap
  split
  · exact fits_refuse s _
  · exact .of_short (by simp [Answer.doneAdjusted, Items.bytes])

theorem fits_takePopCap (s : State) (i : SlotId) : (takePopCap i s).2.Fits := by
  unfold takePopCap
  split
  · exact fits_refuse s _
  · rename_i rest _
    refine .of_short ?_
    have htop := length_optional_u16 rest.head?
    simp only [Answer.done, Items.bytes, List.length_append, length_u8]
    omega

theorem fits_setConsole (s : State) (i : SlotId) (present : Bool) (event : ClampEvent) : (s.setConsole i present event).2.Fits :=
  .of_short (by simp [State.setConsole, Answer.done, Items.bytes])

theorem fits_takeEvict (s : State) (n : Nat) : (takeEvict n s).2.Fits := by
  unfold takeEvict
  repeat' split
  all_goals exact .of_none rfl

theorem fits_takeReadNotices {s : State} (h : ∀ n ∈ s.notices.notices, n.bytes.length ≤ 53) (count : Nat) : (takeReadNotices count s).2.Fits := by
  refine .of_items rfl ?_
  have hreturned := length_returned h (clampSetting 1 8 count).value
  simp only [takeReadNotices, Answer.doneAdjusted, Items.bytes, List.length_append, length_u8, length_flagByte]
  omega

theorem fits_takeSetMask (s : State) (enables : Vector Nat 10) : (takeSetMask enables s).2.Fits := by
  unfold takeSetMask
  split
  · exact .of_short (length_maskBytes _)
  · exact fits_refuse s _

theorem fits_takeSaveSettings (s : State) : (takeSaveSettings s).2.Fits := by
  unfold takeSaveSettings
  repeat' split
  all_goals exact .of_none rfl

/-- The answer of the owner of any request row fits a frame. -/
theorem fits_of_request {c : Instr} {h : RequestHead} {owner : Handler} {s : State} (hc : requestHead c = some h) (ho : ownerOf c = some owner)
    (hzones : s.ZonesSound) (hreceptors : s.ReceptorsSound) (hslots : s.SlotsInRange) (hqueue : s.arbiter.queue.length ≤ 8)
    (hfit : s.RepliesFit) : (owner s).2.Fits := by
  obtain ⟨-, hnotices, hlatch⟩ := hfit
  cases c <;> cases hc
  case enrol => exact fits_handled ho fun a => fits_takeEnrol s _ a
  case report => exact fits_handled ho fun a => fits_forBoundSlot fun i => fits_takeReport s a i
  case goLive =>
    cases ho
    unfold notInSetup
    split
    · exact .of_none rfl
    · exact fits_forBoundSlot fun i => fits_takeGoLive s i
  case goQuiet => cases ho; exact fits_forBoundSlot fun i => fits_takeQuiet s _ i
  case forecast => exact fits_handled ho fun a => fits_takeForecastRequest hlatch _ a
  case identify => cases ho; exact .of_short (by simp [takeIdentify, Answer.done, Items.bytes])
  case siteStatus => exact fits_handled ho fun a => fits_takeSiteStatus hqueue a
  case setClock => exact fits_handled ho fun a => fits_takeSetClock s a
  case enterEnforce => cases ho; exact fits_takeEnterEnforce s
  case returnToSetup => cases ho; exact fits_takeReturnToSetup s
  case warmRestart => cases ho; exact fits_takeWarmRestart s
  case tableWriteSite => exact fits_table ho fun a => fits_writeSite s a
  case tableDeleteSite => exact fits_table ho fun _ => fits_deleteSite s
  case tableFindSite => exact fits_table ho fun _ => .of_none rfl
  case tableReadSite => exact fits_table ho fun _ => .of_short (by simp [Answer.done, Items.bytes])
  case tableWriteZone => exact fits_table ho fun a => fits_writeZone s a
  case tableDeleteZone => exact fits_table ho fun a => fits_deleteZone s a
  case tableFindZone => exact fits_table ho fun a => fits_readZone hzones a
  case tableReadZone => exact fits_table ho fun a => fits_readZone hzones a
  case tableWriteReceptor => exact fits_table ho fun a => fits_writeReceptor s a
  case tableDeleteReceptor => exact fits_table ho fun _ => fits_forReceptor fun r x _ => fits_deleteReceptor s r x
  case tableFindReceptor => exact fits_table ho fun a => fits_findReceptor s a
  case tableReadReceptor => exact fits_table ho fun a => fits_readReceptor s a
  case tableWriteStage => exact fits_table ho fun a => fits_writeStage s a
  case tableDeleteStage => exact fits_table ho fun a => fits_deleteStage s a
  case tableFindStage => exact fits_table ho fun a => fits_findStage s a
  case tableReadStage => exact fits_table ho fun a => fits_readStage hslots a
  case tableWritePath => exact fits_table ho fun a => fits_forPathKey fun i r => fits_writePath s a.loss i r
  case tableDeletePath => exact fits_table ho fun _ => fits_forPathKey fun i r => fits_deletePath s i r
  case tableFindPath => exact fits_table ho fun _ => fits_forPathKey fun i r => fits_findPath s i r
  case tableReadPath => exact fits_table ho fun a => fits_readPath s a
  case tableWriteExceedance => exact fits_table ho fun _ => .of_none rfl
  case tableDeleteExceedance => exact fits_table ho fun _ => .of_none rfl
  case tableFindExceedance => exact fits_table ho fun a => fits_findExceedance s a
  case tableReadExceedance => exact fits_table ho fun a => fits_readExceedance s a
  case tableWriteRing => exact fits_table ho fun _ => .of_none rfl
  case tableDeleteRing => exact fits_table ho fun _ => .of_none rfl
  case tableFindRing => exact fits_table ho fun a => fits_findReceptor s a
  case tableReadRing => exact fits_table ho fun a => fits_readRing hreceptors a
  case tableClear => exact fits_table ho fun a => fits_takeClear s a
  case pushCap => exact fits_handled ho fun a => fits_forOccupied fun i => fits_takePushCap s a.cap i
  case popCap => exact fits_handled ho fun _ => fits_forOccupied fun i => fits_takePopCap s i
  case forceClamp => exact fits_handled ho fun _ => fits_forOccupied fun i => fits_setConsole s i _ _
  case releaseClamp => exact fits_handled ho fun _ => fits_forOccupied fun i => fits_setConsole s i _ _
  case forceQuiet => exact fits_handled ho fun _ => fits_forOccupied fun i => fits_takeQuiet s _ i
  case evict => exact fits_handled ho fun a => fits_takeEvict s a
  case readNotices => exact fits_handled ho fun a => fits_takeReadNotices hnotices a
  case setAttentionMask => exact fits_handled ho fun a => fits_takeSetMask s a
  case saveSettings => cases ho; exact fits_takeSaveSettings s

end Sys2Proof.Machine
end

section
/-! SUPPORT. The replies held, the notices that wait and the latch stay within their frames through a step (R161). -/

namespace Sys2Proof.Machine

/-! ### The notices that wait -/

/-- Every notice that waits fits a READ NOTICES reply. -/
def State.NoticesFit (s : State) : Prop := ∀ n ∈ s.notices.notices, n.Fits

theorem State.NoticesFit.post {s : State} (h : s.NoticesFit) {n : Notice} (hn : n.Fits) : (s.post n).NoticesFit := by
  intro m hm
  simp only [State.post, NoticeQueue.post] at hm
  split at hm
  · obtain ⟨k, hk, rfl⟩ := List.mem_map.1 hm
    split
    · exact hn
    · exact h k hk
  · split at hm
    · rcases List.mem_append.1 hm with hm | hm
      · exact h m hm
      · exact (List.mem_singleton.1 hm) ▸ hn
    · exact h m hm

theorem State.Works.noticesFit {s t : State} (h : s.Works t) (hs : s.NoticesFit) : t.NoticesFit := by
  induction h with
  | refl => exact hs
  | records _ _ _ _ _ _ _ _ _ ih => exact ih
  | post _ hn ih => exact ih.post hn
  | send _ c ih => rw [State.send_eq]; exact ih
  | trigger _ ih => rw [State.trigger_eq]; exact ih

theorem OwnerWork.noticesFit {p : Port} {s t : State} (h : OwnerWork p s t) (hs : s.NoticesFit) : t.NoticesFit := by
  cases h with
  | works h => exact h.noticesFit hs
  | takesQuery q => rw [State.takeQuery_eq]; exact hs
  | handsForecast => exact hs
  | setsClock _ _ h => exact h.noticesFit hs
  | changesMode h _ _ k => exact k.noticesFit (h.noticesFit hs)
  | readsNotices n => exact fun m hm => hs m (List.mem_of_mem_drop hm)
  | setsMask mask => exact hs
  | replacesSite _ h => exact h.noticesFit hs
  | ordersTable x => exact hs

theorem noticesFit_discardForecast {s : State} (hs : s.NoticesFit) (hlatch : s.latch.small = true) : s.discardForecast.NoticesFit := by
  unfold State.discardForecast
  split
  · rename_i hready
    simp only [hready, Latch.small, Bool.and_eq_true, decide_eq_true_eq] at hlatch
    exact State.NoticesFit.post (s := { s with latch := .empty }) hs (Notice.fits_forecastDiscarded _ _ hlatch.1 _ _ _ _)
  · exact hs

theorem noticesFit_kept {s t : State} (h : StepWork s t) (hs : s.NoticesFit) (hlatch : s.latch.small = true) : t.NoticesFit := by
  cases h with
  | works h => exact h.noticesFit hs
  | hardReset start => exact fun _ hn => absurd hn (List.not_mem_nil)
  | warmRestart => exact fun _ hn => absurd hn (List.not_mem_nil)
  | released => exact hs
  | loadEnds _ h hv k =>
    rw [h.1] at hv
    exact k.noticesFit (hv.noticesFit hs)
  | passes n clock _ _ h => exact h.noticesFit hs
  | recalculationEnds c _ h => rw [State.chooseNext_eq]; exact h.noticesFit hs
  | forecastEnds c q m sec => rw [State.endForecast_eq]; exact hs
  | discards => exact noticesFit_discardForecast hs hlatch
  | @clearEnds u _ _ result _ _ h =>
    exact State.NoticesFit.post (s := { u with table := .idle }) (h.noticesFit hs) (Notice.fits_engine result)
  | saveEnds image _ ws result =>
    exact State.NoticesFit.post (s := { s with settings := s.settings.writeAll ws, table := .idle }) hs (Notice.fits_engine result)
  | receiver => exact hs
  | replySent => exact hs
  | busReceiver => exact hs
  | entrySent => exact hs
  | refuses => exact hs
  | answers _ _ _ _ _ _ hwork => exact hwork.noticesFit hs

/-! ### The latch -/

theorem length_forecastSet (c : Capture) (q : List SlotId) : (c.forecastSet q).length ≤ 8 := List.length_filter_le ..

theorem Latch.small_elapse (n : Nat) (l : Latch) : (l.elapse n).small = l.small := by cases l <;> rfl

theorem latchSmall_beginForecast {s : State} (h : s.latch.small = true) : s.beginForecast.latch.small = true := by
  unfold State.beginForecast
  split
  · rename_i hqueued
    simpa [hqueued, Latch.small] using h
  · exact h

theorem latchSmall_takeQuery {s : State} (p : Port) {q : List SlotId} (h : q.length ≤ 8) : (s.takeQuery p q).latch.small = true := by
  have hqueued : ({ s with latch := .queued p q } : State).latch.small = true := decide_eq_true h
  unfold State.takeQuery
  dsimp only
  split
  · exact latchSmall_beginForecast hqueued
  · exact hqueued

theorem latchSmall_chooseNext {s : State} (h : s.latch.small = true) : s.chooseNext.latch.small = true := by
  unfold State.chooseNext
  split
  · exact h
  · split
    · exact latchSmall_beginForecast h
    · exact h

theorem latchSmall_endForecast {s : State} (h : s.latch.small = true) (c : Capture) (q : List SlotId) (m sec : Nat) :
    (s.endForecast c q m sec).latch.small = true := by
  refine latchSmall_chooseNext ?_
  unfold State.takeForecast
  split
  · rename_i hcomputing
    have hresult : (c.forecast q).length ≤ 8 := (List.length_map ..).trans_le (length_forecastSet c q)
    simp only [hcomputing, Latch.small, decide_eq_true_eq] at h
    simp only [Latch.small, Bool.and_eq_true, decide_eq_true_eq]
    exact ⟨h, hresult⟩
  · exact h

theorem OwnerWork.latchSmall {p : Port} {s t : State} (h : OwnerWork p s t) (hs : s.latch.small = true) : t.latch.small = true := by
  cases h with
  | works h => rw [h.frame.latch_eq]; exact hs
  | takesQuery q _ hquery => exact latchSmall_takeQuery p hquery
  | handsForecast => rfl
  | setsClock _ _ h => rw [h.frame.latch_eq]; exact hs
  | changesMode h _ _ k => rw [k.frame.latch_eq]; exact h.frame.latch_eq ▸ hs
  | readsNotices n => exact hs
  | setsMask mask => exact hs
  | replacesSite _ h => rw [h.frame.latch_eq]; exact hs
  | ordersTable x => exact hs

theorem latchSmall_kept {s t : State} (h : StepWork s t) (hs : s.latch.small = true) : t.latch.small = true := by
  cases h with
  | works h => rw [h.frame.latch_eq]; exact hs
  | hardReset start => rfl
  | warmRestart => rfl
  | released => exact hs
  | loadEnds _ h hv k =>
    rw [h.1] at hv
    rw [k.frame.latch_eq]
    exact hv.frame.latch_eq ▸ hs
  | passes n clock _ _ h => rw [h.frame.latch_eq]; exact (Latch.small_elapse n s.latch).trans hs
  | recalculationEnds c _ h => exact latchSmall_chooseNext (h.frame.latch_eq ▸ hs)
  | forecastEnds c q m sec => exact latchSmall_endForecast hs c q m sec
  | discards =>
    unfold State.discardForecast
    split
    · rfl
    · exact hs
  | clearEnds _ _ _ h => exact show (State.latch _).small = true from h.frame.latch_eq ▸ hs
  | saveEnds => exact hs
  | receiver => exact hs
  | replySent => exact hs
  | busReceiver => exact hs
  | entrySent => exact hs
  | refuses => exact hs
  | answers _ _ _ _ _ _ hwork => exact show (State.latch _).small = true from hwork.latchSmall hs

/-! ### The links -/

/-- Every reply held fits a frame. -/
def State.LinksFit (s : State) : Prop := ∀ p, ∀ r ∈ (s.link p).buffer, r.body.length ≤ 60

theorem State.LinksFit.of_links {s t : State} (hs : s.LinksFit) (h : t.links = s.links) : t.LinksFit := by
  intro p r hr
  rw [State.link, h] at hr
  exact hs p r hr

theorem State.LinksFit.setLink {s : State} (h : s.LinksFit) (p : Port) {x : Link} (hx : ∀ r ∈ x.buffer, r.body.length ≤ 60) :
    (s.setLink p x).LinksFit := by
  intro q r hr
  by_cases hq : q = p
  · subst hq
    rw [State.link_setLink_same] at hr
    exact hx r hr
  · rw [State.link_setLink_ne _ _ _ _ hq] at hr
    exact h q r hr

theorem State.LinksFit.hold {s : State} (h : s.LinksFit) (p : Port) {r : Reply} (hr : r.answer.Fits) : (s.hold p r).LinksFit :=
  h.setLink p fun _ hq => (Option.some.inj hq) ▸ hr r.kind r.tag

theorem OwnerWork.links_eq {p : Port} {s t : State} (h : OwnerWork p s t) : t.links = s.links := by
  cases h with
  | works h => exact h.frame.links_eq
  | takesQuery q => rw [State.takeQuery_eq]
  | handsForecast => rfl
  | setsClock _ _ h => exact h.frame.links_eq
  | changesMode h _ _ k => exact k.frame.links_eq.trans h.frame.links_eq
  | readsNotices n => rfl
  | setsMask mask => rfl
  | replacesSite _ h => exact h.frame.links_eq
  | ordersTable x => rfl

theorem fits_refusal {a : Answer}
    (h : a = .notReady ∨ a = .refused .noSuch ∨ ∃ k, a = .withStatus .unknownKind (.kindReceived k)) : a.Fits := by
  obtain rfl | rfl | ⟨k, rfl⟩ := h
  · exact .of_none rfl
  · exact .of_none rfl
  · exact .of_short (by simp [Answer.withStatus, Items.bytes])

theorem linksFit_reset : State.reset.LinksFit := by
  intro p r hr
  have hbuffer : (State.reset.link p).buffer = none := by simp [State.reset, State.link, Vector.get, linkAtReset]
  rw [hbuffer] at hr
  cases hr

theorem linksFit_kept {s t : State} (h : StepWork s t) (hzones : s.ZonesSound) (hreceptors : s.ReceptorsSound) (hslots : s.SlotsInRange)
    (hqueue : s.arbiter.queue.length ≤ 8) (hfit : s.RepliesFit) : t.LinksFit := by
  have hs : s.LinksFit := hfit.1
  cases h with
  | works h => exact hs.of_links h.frame.links_eq
  | hardReset start => exact linksFit_reset
  | warmRestart => exact linksFit_reset
  | released => exact hs
  | loadEnds _ h hv k =>
    rw [h.1] at hv
    exact hs.of_links (k.frame.links_eq.trans hv.frame.links_eq)
  | passes n clock _ _ h => exact hs.of_links h.frame.links_eq
  | recalculationEnds c _ h => rw [State.chooseNext_eq]; exact hs.of_links h.frame.links_eq
  | forecastEnds c q m sec => rw [State.endForecast_eq]; exact hs
  | discards => rw [State.discardForecast_eq]; exact hs
  | clearEnds _ _ _ h => exact hs.of_links h.frame.links_eq
  | saveEnds => exact hs
  | receiver p r =>
    refine hs.setLink p ?_
    exact fun q hq => hs p q hq
  | replySent p =>
    refine hs.setLink p ?_
    exact fun q hq => nomatch hq
  | busReceiver => exact hs
  | entrySent => exact hs
  | refuses p r _ hr => exact hs.hold p (fits_refusal hr.2)
  | @answers t c h owner hc ho _ _ ht _ hwork =>
    exact (hs.of_links hwork.links_eq).hold h.port (fits_of_request hc ho hzones hreceptors hslots hqueue hfit)

/-! ### Every step -/

theorem State.QueueSound.length_le {s : State} (h : s.QueueSound) : s.arbiter.queue.length ≤ 8 :=
  (List.Nodup.length_le_card h.1).trans_eq (Fintype.card_fin 8)

/-- Settles O13: shared work posts notices that fit, the latch takes eight slots at most, and a reply held is the answer of an owner or a refusal. -/
theorem repliesFitSixtyBytes : Obligations.RepliesFitSixtyBytes := by
  intro s t hzones hreceptors hslots hadmission hfit h
  obtain ⟨-, -, hqueue, -⟩ := hadmission
  obtain ⟨rest, hwork⟩ := stepWork_step h
  obtain ⟨hlinks, hnotices, hlatch⟩ := hfit
  exact ⟨linksFit_kept hwork hzones hreceptors hslots (State.QueueSound.length_le hqueue) ⟨hlinks, hnotices, hlatch⟩,
    noticesFit_kept hwork hnotices hlatch, latchSmall_kept hwork hlatch⟩

end Sys2Proof.Machine
end

section
/-! SUPPORT. What the operations on slots and on the admission queue do beside the records: which notices they post, which copies they send, how many triggers
they raise, each in its order (`State.Did`). -/

namespace Sys2Proof.Machine

/-! ### Triggers, counted -/

/-- `t` comes after `s` with `n` triggers. -/
def State.TriggeredTimes (s t : State) (n : Nat) : Prop := if n = 0 then t.engine = s.engine else s.TriggersRaised t (decide (2 ≤ n))

namespace State.TriggeredTimes
variable {s t u : State} {n m : Nat}

theorem engine_eq (h : s.TriggeredTimes t 0) : t.engine = s.engine := h

theorem raised (h : s.TriggeredTimes t n) (hn : n ≠ 0) : s.TriggersRaised t (decide (2 ≤ n)) := by rwa [State.TriggeredTimes, if_neg hn] at h

theorem anyTrigger (h : s.TriggeredTimes t n) (hn : n ≠ 0) : s.AnyTrigger t := (h.raised hn).1

theorem not_idle (h : s.TriggeredTimes t n) (hn : n ≠ 0) : t.engine.activity ≠ .idle := State.AnyTrigger.not_idle (h.anyTrigger hn)

/-- Triggers of a busy engine set its pending flag. -/
theorem of_busy (h : s.TriggeredTimes t n) (hn : n ≠ 0) (hs : s.engine.activity ≠ .idle) : t.engine = { s.engine with pending := true } := by
  have hany := h.anyTrigger hn
  rwa [State.AnyTrigger, if_neg hs] at hany

theorem of_trigger (h : s.mode ≠ .boot) : s.TriggeredTimes s.trigger 1 := by
  by_cases hidle : s.engine.activity = .idle
  · rw [State.trigger_of_idle h hidle]
    exact ⟨by simp [State.AnyTrigger, hidle, State.beginRecalculation, Activity.recalculates], fun _ => by simp [State.beginRecalculation]⟩
  · rw [State.trigger_of_busy h hidle]
    exact ⟨by simp [State.AnyTrigger, hidle], fun hs => absurd hs hidle⟩

theorem trans (h : s.TriggeredTimes t n) (k : t.TriggeredTimes u m) : s.TriggeredTimes u (n + m) := by
  rcases Nat.eq_zero_or_pos m with rfl | hm
  · have hengine : u.engine = t.engine := k
    rw [Nat.add_zero]
    simpa only [State.TriggeredTimes, State.TriggersRaised, State.AnyTrigger, hengine] using h
  rcases Nat.eq_zero_or_pos n with rfl | hn
  · have hengine : t.engine = s.engine := h
    rw [Nat.zero_add]
    simpa only [State.TriggeredTimes, State.TriggersRaised, State.AnyTrigger, hengine] using k
  · have hu := k.of_busy (by omega) (h.not_idle (by omega))
    have hmany : decide (2 ≤ n + m) = true := decide_eq_true (by omega)
    rw [State.TriggeredTimes, if_neg (by omega), hmany]
    by_cases hs : s.engine.activity = .idle
    · have ht := h.anyTrigger (by omega)
      rw [State.AnyTrigger, if_pos hs] at ht
      exact ⟨by simp [State.AnyTrigger, hs, hu, ht], fun _ => by simp [hu]⟩
    · have ht := h.of_busy (by omega) hs
      exact ⟨by simp [State.AnyTrigger, hs, hu, ht], fun hidle => absurd hidle hs⟩

end State.TriggeredTimes

/-! ### Notices posted one after another -/

/-- The notices of a list are posted one after another. -/
def NoticeQueue.postAll (q : NoticeQueue) (ns : List Notice) : NoticeQueue := ns.foldl NoticeQueue.post q

theorem NoticeQueue.postAll_append (q : NoticeQueue) (ms ns : List Notice) : q.postAll (ms ++ ns) = (q.postAll ms).postAll ns := List.foldl_append ..

@[simp] theorem NoticeQueue.postAll_nil (q : NoticeQueue) : q.postAll [] = q := rfl

theorem NoticeQueue.postAll_cons (q : NoticeQueue) (n : Notice) (ns : List Notice) : q.postAll (n :: ns) = (q.post n).postAll ns := rfl

theorem NoticeQueue.lost_of_postAll {q : NoticeQueue} {ns : List Notice} (h : (q.postAll ns).lost = false) : q.lost = false := by
  induction ns generalizing q with
  | nil => exact h
  | cons n ns ih => exact NoticeQueue.lost_of_lost_post (ih h)

/-- A notice that waits still waits after another of a different kind or subject, or after itself. -/
theorem NoticeQueue.mem_post_of_same {q : NoticeQueue} {n m : Notice} (hn : n ∈ q.notices) (hm : n.sameSubject m = true → m = n) :
    n ∈ (q.post m).notices := by
  unfold NoticeQueue.post
  split
  · refine List.mem_map.2 ⟨n, hn, ?_⟩
    split
    · exact hm ‹_›
    · rfl
  · split
    · exact List.mem_append_left _ hn
    · exact hn

theorem NoticeQueue.mem_postAll_of_mem {q : NoticeQueue} {n : Notice} {ns : List Notice} (hn : n ∈ q.notices)
    (hns : ∀ m ∈ ns, n.sameSubject m = true → m = n) : n ∈ (q.postAll ns).notices := by
  induction ns generalizing q with
  | nil => exact hn
  | cons m ns ih =>
    exact ih (NoticeQueue.mem_post_of_same hn (hns m List.mem_cons_self)) fun k hk => hns k (List.mem_cons_of_mem _ hk)

/-- A notice posted waits at the end, unless one was lost, if no other of its kind and subject was posted. -/
theorem NoticeQueue.mem_postAll {q : NoticeQueue} {n : Notice} {ns : List Notice} (hlost : (q.postAll ns).lost = false) (hn : n ∈ ns)
    (hns : ∀ m ∈ ns, n.sameSubject m = true → m = n) : n ∈ (q.postAll ns).notices := by
  obtain ⟨before, after, rfl⟩ := List.append_of_mem hn
  rw [NoticeQueue.postAll_append, NoticeQueue.postAll_cons] at hlost ⊢
  exact NoticeQueue.mem_postAll_of_mem (NoticeQueue.mem_post (NoticeQueue.lost_of_postAll hlost)) fun m hm =>
    hns m (List.mem_append_right _ (List.mem_cons_of_mem _ hm))

/-! ### Copies sent one after another -/

/-- The copies of a list are sent one after another. -/
def State.sendAll (s : State) (cs : List Copy) : State := cs.foldl State.send s

@[simp] theorem State.sendAll_nil (s : State) : s.sendAll [] = s := rfl

theorem State.sendAll_append (s : State) (cs ds : List Copy) : s.sendAll (cs ++ ds) = (s.sendAll cs).sendAll ds := List.foldl_append ..

theorem State.sendAll_eq (s : State) (cs : List Copy) : s.sendAll cs = { s with witness := (s.sendAll cs).witness } := by
  induction cs generalizing s with
  | nil => rfl
  | cons c cs ih =>
    change (s.send c).sendAll cs = { s with witness := ((s.send c).sendAll cs).witness }
    rw [ih, State.send_eq]

/-- What the copies make of the transmitter depends on it, on the enables and on the clock alone. -/
theorem State.sendAll_witness_congr {s t : State} (hwitness : t.witness = s.witness) (hsite : t.site = s.site) (hclock : t.clock = s.clock)
    (cs : List Copy) : (t.sendAll cs).witness = (s.sendAll cs).witness := by
  induction cs generalizing s t with
  | nil => exact hwitness
  | cons c cs ih =>
    refine ih (s := s.send c) (t := t.send c) ?_ (by rw [State.send_eq, State.send_eq s]; exact hsite) (by rw [State.send_eq, State.send_eq s]; exact hclock)
    simp only [State.send_witness, hwitness, hsite, hclock]

/-! ### What an operation did -/

/-- From `s` to `t` the slots, the paths, the engine and the arbiter may have changed; the notices `ns` were posted and the copies `cs` sent, in order, and
`n` triggers raised. -/
structure State.Did (s t : State) (ns : List Notice) (cs : List Copy) (n : Nat) : Prop where
  frame : t = { s with
    slots := t.slots, paths := t.paths, engine := t.engine, arbiter := t.arbiter, notices := s.notices.postAll ns
    witness := (s.sendAll cs).witness }
  triggered : s.TriggeredTimes t n

namespace State.Did
variable {s t u : State} {ns ms : List Notice} {cs ds : List Copy} {n m : Nat}

theorem notices_eq (h : s.Did t ns cs n) : t.notices = s.notices.postAll ns := by rw [h.frame]
theorem witness_eq (h : s.Did t ns cs n) : t.witness = (s.sendAll cs).witness := by rw [h.frame]
theorem site_eq (h : s.Did t ns cs n) : t.site = s.site := by rw [h.frame]
theorem clock_eq (h : s.Did t ns cs n) : t.clock = s.clock := by rw [h.frame]
theorem mode_eq (h : s.Did t ns cs n) : t.mode = s.mode := by rw [h.frame]

/-- The frame with the notices and the witness left open. -/
theorem frame_eq (h : s.Did t ns cs n) : t = { s with
    slots := t.slots, paths := t.paths, engine := t.engine, arbiter := t.arbiter, notices := t.notices, witness := t.witness } := by
  rw [h.notices_eq, h.witness_eq]
  exact h.frame

theorem refl (s : State) : s.Did s [] [] 0 := ⟨rfl, rfl⟩

theorem trans (h : s.Did t ns cs n) (k : t.Did u ms ds m) : s.Did u (ns ++ ms) (cs ++ ds) (n + m) := by
  refine ⟨?_, h.triggered.trans k.triggered⟩
  have hwitness : (t.sendAll ds).witness = (s.sendAll (cs ++ ds)).witness := by
    rw [State.sendAll_append]
    refine State.sendAll_witness_congr h.witness_eq ?_ ?_ ds
    · rw [State.sendAll_eq]; exact h.site_eq
    · rw [State.sendAll_eq]; exact h.clock_eq
  rw [k.frame, hwitness, h.notices_eq, ← NoticeQueue.postAll_append, h.frame]

/-- The same with the lists and the count given by other expressions. -/
theorem congr (h : s.Did t ns cs n) (hns : ns = ms) (hcs : cs = ds) (hn : n = m) : s.Did t ms ds m := hns ▸ hcs ▸ hn ▸ h

/-- A change of slots, paths and the arbiter alone. -/
theorem of_records (s : State) (slots : Vector Slot 8) (paths : Vector (Option PathEntry) 64) (arbiter : Arbiter) :
    s.Did { s with slots := slots, paths := paths, arbiter := arbiter } [] [] 0 := ⟨rfl, rfl⟩

theorem updSlot (h : s.Did t ns cs n) (i : SlotId) (f : Slot → Slot) : s.Did (t.updSlot i f) ns cs n :=
  (h.trans (of_records t _ _ _)).congr (List.append_nil _) (List.append_nil _) rfl

theorem updSlots (h : s.Did t ns cs n) (f : Slot → Slot) : s.Did (t.updSlots f) ns cs n :=
  (h.trans (of_records t _ _ _)).congr (List.append_nil _) (List.append_nil _) rfl

theorem setArbiter (h : s.Did t ns cs n) (a : Arbiter) : s.Did { t with arbiter := a } ns cs n :=
  (h.trans (of_records t _ _ _)).congr (List.append_nil _) (List.append_nil _) rfl

theorem deletePathsOf (h : s.Did t ns cs n) (i : SlotId) : s.Did (t.deletePathsOf i) ns cs n :=
  (h.trans (of_records t _ _ _)).congr (List.append_nil _) (List.append_nil _) rfl

theorem setPath (h : s.Did t ns cs n) (p : PathPos) (e : Option PathEntry) : s.Did (t.setPath p e) ns cs n :=
  (h.trans (of_records t _ _ _)).congr (List.append_nil _) (List.append_nil _) rfl

theorem post (h : s.Did t ns cs n) (k : Notice) : s.Did (t.post k) (ns ++ [k]) cs n :=
  (h.trans (u := t.post k) (ms := [k]) (ds := []) (m := 0) ⟨rfl, rfl⟩).congr rfl (List.append_nil _) rfl

theorem send (h : s.Did t ns cs n) (c : Copy) : s.Did (t.send c) ns (cs ++ [c]) n := by
  refine (h.trans (ms := []) (ds := [c]) (m := 0) ⟨?_, ?_⟩).congr (List.append_nil _) rfl rfl
  · have hslots : (t.send c).slots = t.slots := by rw [State.send_eq]
    have hpaths : (t.send c).paths = t.paths := by rw [State.send_eq]
    have hengine : (t.send c).engine = t.engine := by rw [State.send_eq]
    rw [hslots, hpaths, hengine, State.send_arbiter]
    exact State.send_eq t c
  · exact show (t.send c).engine = t.engine by rw [State.send_eq]

theorem trigger (h : s.Did t ns cs n) (hmode : s.mode ≠ .boot) : s.Did t.trigger ns cs (n + 1) := by
  have hone : t.Did t.trigger [] [] 1 := ⟨State.trigger_eq t ▸ rfl, .of_trigger (h.mode_eq ▸ hmode)⟩
  exact (h.trans hone).congr (List.append_nil _) (List.append_nil _) rfl

theorem lost_eq_false (h : s.Did t ns cs n) (hlost : t.notices.lost = false) : (s.notices.postAll ns).lost = false := h.notices_eq ▸ hlost

/-- A notice posted waits at the end, unless one was lost, if no other of its kind and subject was posted. -/
theorem mem_notices (h : s.Did t ns cs n) (hlost : t.notices.lost = false) {k : Notice} (hk : k ∈ ns)
    (hns : ∀ m ∈ ns, k.sameSubject m = true → m = k) : k ∈ t.notices.notices := by
  rw [h.notices_eq]
  exact NoticeQueue.mem_postAll (h.lost_eq_false hlost) hk hns

/-- Two operations that posted and sent the same. -/
theorem samePosts (h : s.Did t ns cs n) (k : s.Did u ns cs m) : t.SamePosts u :=
  ⟨h.notices_eq.trans k.notices_eq.symm, h.witness_eq.trans k.witness_eq.symm⟩

/-- One operation for each slot of a list, each on its own slot alone. -/
theorem foldl {op : State → SlotId → State} {f : SlotId → Slot → Slot} {posts : SlotId → Slot → List Notice} {copies : SlotId → Slot → List Copy}
    {triggers : SlotId → Slot → Nat} (s : State)
    (hop : ∀ (u : State) i, u.clock = s.clock → u.site = s.site → u.mode = s.mode →
      u.Did (op u i) (posts i (u.slot i)) (copies i (u.slot i)) (triggers i (u.slot i)))
    (hslot : ∀ u i j, u.site = s.site → (op u i).slot j = if j = i then f i (u.slot i) else u.slot j) {l : List SlotId} (hl : l.Nodup) :
    s.Did (l.foldl op s) (l.flatMap fun i => posts i (s.slot i)) (l.flatMap fun i => copies i (s.slot i)) (l.map fun i => triggers i (s.slot i)).sum ∧
      ∀ j, (l.foldl op s).slot j = if j ∈ l then f j (s.slot j) else s.slot j := by
  suffices hgen : ∀ u : State, u.clock = s.clock → u.site = s.site → u.mode = s.mode →
      u.Did (l.foldl op u) (l.flatMap fun i => posts i (u.slot i)) (l.flatMap fun i => copies i (u.slot i)) (l.map fun i => triggers i (u.slot i)).sum ∧
        ∀ j, (l.foldl op u).slot j = if j ∈ l then f j (u.slot j) else u.slot j from hgen s rfl rfl rfl
  induction l with
  | nil => exact fun u _ _ _ => ⟨.refl u, fun j => by simp⟩
  | cons i l ih =>
    intro u hclock hsite hmode
    obtain ⟨hi, hnodup⟩ := List.nodup_cons.1 hl
    have hone := hop u i hclock hsite hmode
    obtain ⟨hrest, hslots⟩ := ih hnodup (op u i) (hone.clock_eq.trans hclock) (hone.site_eq.trans hsite) (hone.mode_eq.trans hmode)
    have hkept : ∀ j ∈ l, (op u i).slot j = u.slot j := fun j hj => by
      have hne : j ≠ i := fun h => hi (h ▸ hj)
      rw [hslot u i j hsite, if_neg hne]
    refine ⟨(hone.trans hrest).congr ?_ ?_ ?_, fun j => ?_⟩
    · rw [List.flatMap_cons]
      congr 1
      exact List.flatMap_congr fun j hj => by rw [hkept j hj]
    · rw [List.flatMap_cons]
      congr 1
      exact List.flatMap_congr fun j hj => by rw [hkept j hj]
    · rw [List.map_cons, List.sum_cons]
      congr 2
      exact List.map_congr_left fun j hj => by rw [hkept j hj]
    · rw [List.foldl_cons, hslots j]
      by_cases hj : j ∈ l
      · rw [if_pos hj, if_pos (List.mem_cons_of_mem _ hj), hkept j hj]
      · rw [if_neg hj, hslot u i j hsite]
        by_cases hji : j = i
        · subst hji
          rw [if_pos rfl, if_pos List.mem_cons_self]
        · rw [if_neg hji, if_neg (by simp [hji, hj])]

end State.Did

end Sys2Proof.Machine
end

section
/-! SUPPORT. What a slot's clamp report, a binding, an unbinding, an emptying, a stale slot and an aged one post and send; the timers; EVICT. -/

namespace Sys2Proof.Machine

/-! ### The notices and the copy of a slot record -/

/-- The STAGE_STATE notice of a slot record (R78). -/
def Slot.stateNotice (i : SlotId) (x : Slot) : Notice := .stageState i x.state x.kind x.identity x.port x.weight x.stageMax x.outcome

/-- The CLAMP notice of a slot record (R96). -/
def Slot.clampNotice (i : SlotId) (x : Slot) : Notice := .clamp i x.causes x.lineAsserted x.port x.overCount x.goodCount x.stale x.lastLevel

/-- The CLAMP copy of a slot record that has gone from `x` to `y` (R96, R97). -/
def clampCopy (c : Clock) (i : SlotId) (x y : Slot) (event : ClampEvent) (report : Option (Level × Nat × Level)) : Copy :=
  .clamp i y.port x.causes y.causes y.lineAsserted event y.lastLevel c.minute c.second report

/-- The causes and the clamp line of the record are the same. -/
abbrev Slot.SameClamp (x y : Slot) : Prop := y.causes = x.causes ∧ y.lineAsserted = x.lineAsserted

/-- The CLAMP notice that a change of the record from `x` to `y` posts, if any (R96). -/
def clampPosts (i : SlotId) (x y : Slot) : List Notice := if x.SameClamp y then [] else [y.clampNotice i]

/-- The CLAMP copy that a change of the record from `x` to `y` sends, if any (R96). -/
def clampCopies (c : Clock) (i : SlotId) (x y : Slot) (event : ClampEvent) (report : Option (Level × Nat × Level)) : List Copy :=
  if x.SameClamp y then [] else [clampCopy c i x y event report]

theorem Slot.sameClamp_of_causes_eq {x y : Slot} (hcauses : y.causes = x.causes) (hport : y.port = x.port) : x.SameClamp y :=
  ⟨hcauses, by simp only [Slot.lineAsserted, hcauses, hport]⟩

theorem clampPosts_of_same {i : SlotId} {x y : Slot} (h : x.SameClamp y) : clampPosts i x y = [] := if_pos h
theorem clampPosts_of_ne {i : SlotId} {x y : Slot} (h : y.causes ≠ x.causes) : clampPosts i x y = [y.clampNotice i] := if_neg fun hsame => h hsame.1
theorem clampCopies_of_same {c : Clock} {i : SlotId} {x y : Slot} (h : x.SameClamp y) (event : ClampEvent) (report : Option (Level × Nat × Level)) :
    clampCopies c i x y event report = [] := if_pos h
theorem clampCopies_of_ne {c : Clock} {i : SlotId} {x y : Slot} (h : y.causes ≠ x.causes) (event : ClampEvent)
    (report : Option (Level × Nat × Level)) : clampCopies c i x y event report = [clampCopy c i x y event report] := if_neg fun hsame => h hsame.1

theorem mem_clampPosts {i : SlotId} {x y : Slot} {n : Notice} (h : n ∈ clampPosts i x y) : n = y.clampNotice i := by
  unfold clampPosts at h
  split at h
  · cases h
  · exact List.mem_singleton.1 h

theorem State.stageStateNotice_eq (s : State) (i : SlotId) : s.stageStateNotice i = (s.slot i).stateNotice i := rfl
theorem State.clampNotice_eq (s : State) (i : SlotId) : s.clampNotice i = (s.slot i).clampNotice i := rfl

/-! ### The operations of the stage table -/

/-- What an operation reports of a slot whose record went from `x` to `y`: the STAGE_STATE notice and, where the causes or the line changed, the CLAMP one. -/
def bindingPosts (i : SlotId) (x y : Slot) : List Notice := y.stateNotice i :: clampPosts i x y

namespace State.Did
variable {s t : State} {ns : List Notice} {cs : List Copy} {n : Nat}

theorem of_reportClamp (s : State) (i : SlotId) (before : Slot) (event : ClampEvent) (report : Option (Level × Nat × Level)) :
    s.Did (s.reportClamp i before event report) (clampPosts i before (s.slot i)) (clampCopies s.clock i before (s.slot i) event report) 0 := by
  unfold State.reportClamp clampPosts clampCopies
  dsimp only
  split
  · exact .refl s
  · exact ((refl s).post _).send _

theorem of_updClamped (s : State) (i : SlotId) (f : Slot → Slot) (event : ClampEvent) (report : Option (Level × Nat × Level)) :
    s.Did (s.updClamped i f event report) (clampPosts i (s.slot i) (f (s.slot i)))
      (clampCopies s.clock i (s.slot i) (f (s.slot i)) event report) 0 := by
  have h := of_reportClamp (s.updSlot i f) i (s.slot i) event report
  rw [State.slot_updSlot, if_pos rfl] at h
  exact ((refl s).updSlot i f).trans h

theorem of_reportBinding (s : State) (i : SlotId) (x y : Slot) (event : ClampEvent) :
    s.Did (s.reportBinding i x y event) (bindingPosts i x y) (clampCopies s.clock i x y event none) 0 := by
  unfold State.reportBinding bindingPosts clampPosts clampCopies
  dsimp only
  split
  · exact (refl s).post _
  · exact (((refl s).post _).post _).send _

/-- A record written, then reported as a binding is. -/
theorem reportBinding (h : s.Did t ns cs n) (i : SlotId) (x : Slot) (event : ClampEvent) :
    s.Did ((t.post (t.stageStateNotice i)).reportClamp i x event none) (ns ++ bindingPosts i x (t.slot i))
      (cs ++ clampCopies s.clock i x (t.slot i) event none) n := by
  have hpost : t.Did (t.post (t.stageStateNotice i)) [(t.slot i).stateNotice i] [] 0 := (refl t).post _
  have hreport := of_reportClamp (t.post (t.stageStateNotice i)) i x event none
  rw [show (t.post (t.stageStateNotice i)).slot i = t.slot i from rfl, show (t.post (t.stageStateNotice i)).clock = s.clock from h.clock_eq] at hreport
  exact h.trans (hpost.trans hreport)

theorem of_bindSlot (s : State) (i : SlotId) (p : Port) (id : Identity) :
    s.Did (s.bindSlot i p id) (bindingPosts i (s.slot i) ((s.slot i).bound p id))
      (clampCopies s.clock i (s.slot i) ((s.slot i).bound p id) .bind none) 0 := by
  have h := ((refl s).updSlot i fun x => x.bound p id).reportBinding i (s.slot i) .bind
  rw [State.slot_updSlot, if_pos rfl] at h
  exact h

theorem of_unbindSlot (s : State) (i : SlotId) :
    s.Did (s.unbindSlot i) (bindingPosts i (s.slot i) (s.slot i).unbound) (clampCopies s.clock i (s.slot i) (s.slot i).unbound .unbind none) 0 := by
  have h := ((refl s).updSlot i Slot.unbound).reportBinding i (s.slot i) .unbind
  rw [State.slot_updSlot, if_pos rfl] at h
  exact h

theorem of_emptySlot {s : State} (hmode : s.mode ≠ .boot) (i : SlotId) :
    s.Did (s.emptySlot i) (bindingPosts i (s.slot i) (s.slot i).emptied) (clampCopies s.clock i (s.slot i) (s.slot i).emptied .empty none) 1 := by
  have h := ((((refl s).updSlot i Slot.emptied).deletePathsOf i).trigger hmode).reportBinding i (s.slot i) .empty
  rw [State.trigger_slot, State.deletePathsOf_slot, State.slot_updSlot, if_pos rfl] at h
  exact h

theorem of_becomeStale (s : State) (i : SlotId) :
    s.Did (s.becomeStale i) (clampPosts i (s.slot i) (s.slot i).staled) (clampCopies s.clock i (s.slot i) (s.slot i).staled .staleTime none) 0 :=
  of_updClamped s i _ .staleTime none

/-- What is posted and sent is that of the reports of a binding. -/
theorem samePosts_reportBinding {i : SlotId} {x y : Slot} {event : ClampEvent}
    (h : s.Did t (bindingPosts i x y) (clampCopies s.clock i x y event none) n) : t.SamePosts (s.reportBinding i x y event) :=
  h.samePosts (of_reportBinding s i x y event)

end State.Did

/-! ### Emptying (R77) -/

theorem Slot.emptied_eq (x : Slot) : x.emptied = x.afterEmptying := rfl

theorem State.emptySlot_slot_same (s : State) (i : SlotId) : (s.emptySlot i).slot i = (s.slot i).afterEmptying := by
  rw [State.emptySlot_slot, if_pos rfl, Slot.emptied_eq]

theorem State.emptySlot_slot_ne (s : State) {i j : SlotId} (h : j ≠ i) : (s.emptySlot i).slot j = s.slot j := by
  rw [State.emptySlot_slot, if_neg h]

theorem State.emptySlot_pathsLeft (s : State) (i : SlotId) : s.PathsLeft (s.emptySlot i) (· == i) := fun p => by
  simp only [State.emptySlot_path, beq_iff_eq]

theorem State.reportClamp_engine (s : State) (i : SlotId) (before : Slot) (event : ClampEvent) (report : Option (Level × Nat × Level)) :
    (s.reportClamp i before event report).engine = s.engine := by rw [State.reportClamp_eq]

/-- The pass that an emptying begins captures the slot emptied and its paths gone. -/
theorem State.emptySlot_engineTriggered {s : State} (hmode : s.mode ≠ .boot) (i : SlotId) : s.EngineTriggered (s.emptySlot i) := by
  have htrigger : State.EngineTriggered _ _ :=
    State.trigger_engineTriggered (s := (s.updSlot i Slot.emptied).deletePathsOf i) hmode
  have hcapture : (s.emptySlot i).capture = ((s.updSlot i Slot.emptied).deletePathsOf i).trigger.capture := by
    rw [State.trigger_eq]
    refine State.capture_congr ?_ ?_ ?_ ?_ fun r => ?_
    · rw [State.emptySlot_eq]; rfl
    · rw [State.emptySlot_eq]; rfl
    · rw [State.emptySlot_eq]; rfl
    · rw [State.emptySlot_eq]; rfl
    · rw [State.emptySlot_eq]; rfl
  have hengine : (s.emptySlot i).engine = ((s.updSlot i Slot.emptied).deletePathsOf i).trigger.engine := State.reportClamp_engine ..
  have harbiter : (s.emptySlot i).arbiter = ((s.updSlot i Slot.emptied).deletePathsOf i).trigger.arbiter := State.reportClamp_arbiter _ i (s.slot i) .empty none
  rw [State.EngineTriggered] at htrigger ⊢
  rw [hengine, harbiter, hcapture]
  exact htrigger

/-- An emptying in the words of the statements: everything but the slots, the paths, the engine, the pass flag, the notices and the copies is as it was. -/
theorem State.emptySlot_frame (s : State) (i : SlotId) : s.emptySlot i = { s with
    slots := (s.emptySlot i).slots, paths := (s.emptySlot i).paths, engine := (s.emptySlot i).engine
    arbiter := { s.arbiter with passSinceHead := (s.emptySlot i).arbiter.passSinceHead }
    notices := (s.emptySlot i).notices, witness := (s.emptySlot i).witness } := by
  have hslots : (s.emptySlot i).slots = s.slots.set i.val (s.slot i).emptied i.isLt := by rw [State.emptySlot_eq]
  have hpaths : (s.emptySlot i).paths = (s.deletePathsOf i).paths := by rw [State.emptySlot_eq]
  rw [hslots, hpaths]
  exact s.emptySlot_eq i

/-- While the part boots no trigger is taken; the posts and copies are the same. -/
theorem State.emptySlot_samePosts (s : State) (i : SlotId) :
    (s.emptySlot i).SamePosts (s.reportBinding i (s.slot i) ((s.emptySlot i).slot i) .empty) := by
  rw [State.emptySlot_slot_same]
  by_cases hmode : s.mode = .boot
  · have h := (((State.Did.refl s).updSlot i Slot.emptied).deletePathsOf i).reportBinding i (s.slot i) .empty
    rw [State.deletePathsOf_slot, State.slot_updSlot, if_pos rfl] at h
    have hempty : s.emptySlot i = ((((s.updSlot i Slot.emptied).deletePathsOf i).post
        (((s.updSlot i Slot.emptied).deletePathsOf i).stageStateNotice i)).reportClamp i (s.slot i) .empty none) := by
      unfold State.emptySlot
      dsimp only
      rw [State.trigger_of_boot (s := (s.updSlot i Slot.emptied).deletePathsOf i) hmode]
    rw [hempty]
    exact State.Did.samePosts_reportBinding h
  · exact (State.Did.of_emptySlot hmode i).samePosts_reportBinding

/-! ### The timers (R81, R94, R149) -/

theorem State.staleDue_eq_true_iff (s : State) (i : SlotId) : s.staleDue i = true ↔
    (s.slot i).port ≠ none ∧ (s.slot i).stale = false ∧ ∃ a ∈ (s.slot i).reportAge, 1000 * s.site.staleTime ≤ a := by
  have hport : (s.slot i).port ≠ none ↔ (s.slot i).port.isSome = true := Option.isSome_iff_ne_none.symm
  cases hage : (s.slot i).reportAge with
  | none => simp [State.staleDue, hage]
  | some a =>
    simp only [State.staleDue, State.staleMs, hport, hage, Bool.and_eq_true, Bool.not_eq_true', and_assoc, Option.mem_some_iff, exists_eq_left']
    exact and_congr_right fun _ => and_congr_right fun _ => decide_eq_true_iff

theorem State.ageDue_eq_true_iff (s : State) (i : SlotId) : s.ageDue i = true ↔
    (s.slot i).kind = .openKind ∧ (s.slot i).state = .quiet ∧ (s.slot i).published = 0 ∧ (s.slot i).port ≠ none ∧
      ∃ a ∈ (s.slot i).reportAge, 1000 * s.site.ageTime ≤ a := by
  have hport : (s.slot i).port ≠ none ↔ (s.slot i).port.isSome = true := Option.isSome_iff_ne_none.symm
  cases hage : (s.slot i).reportAge with
  | none => simp [State.ageDue, hage]
  | some a =>
    simp only [State.ageDue, State.mayAgeOut, State.ageMs, Slot.settledQuiet, hport, hage, Bool.and_eq_true, beq_iff_eq, and_assoc,
      Option.mem_some_iff, exists_eq_left']
    exact and_congr_right fun _ => and_congr_right fun _ => and_congr_right fun _ => and_congr_right fun _ => decide_eq_true_iff

theorem State.becomeStale_frame (s : State) (i : SlotId) : s.becomeStale i = { s with
    slots := (s.becomeStale i).slots, notices := (s.becomeStale i).notices, witness := (s.becomeStale i).witness } := by
  unfold State.becomeStale
  rw [State.updClamped_eq]

/-- Settles O31: the conditions of each row, then what the row does to the one record it names. -/
theorem timersMarkEmptyAndDiscard : Obligations.TimersMarkEmptyAndDiscard := by
  refine ⟨fun s i => ⟨fun hdue => ?_, fun hdue => ?_⟩, fun s i => ⟨fun hages => ?_, fun hages => ?_⟩, fun s => ⟨fun o q result m sec left h => ?_, fun h => ?_⟩⟩
  · have hstale : s.staleSlot i = s := if_neg (mt (s.staleDue_eq_true_iff i).1 hdue)
    exact congrArg Host.Outcome.next hstale
  · have hstale : s.staleSlot i = s.becomeStale i := if_pos ((s.staleDue_eq_true_iff i).2 hdue)
    have hslot : (s.becomeStale i).slot i = (s.slot i).staled := by rw [State.becomeStale_slot, if_pos rfl]
    have hdid := State.Did.of_becomeStale s i
    refine ⟨s.becomeStale i, congrArg Host.Outcome.next hstale, s.becomeStale_frame i, fun j hj => ?_, hslot, fun hnew => ?_, fun hold => ?_⟩
    · rw [State.becomeStale_slot, if_neg hj]
    · have hcauses : (s.slot i).staled.causes ≠ (s.slot i).causes := fun h => by
        have := congrArg Causes.hasStale h
        simp [Slot.staled, hnew] at this
      rw [clampPosts_of_ne hcauses, clampCopies_of_ne hcauses] at hdid
      rw [hdid.notices_eq, hdid.witness_eq, State.clampNotice_eq, hslot]
      exact ⟨rfl, rfl⟩
    · have hcauses : (s.slot i).staled.causes = (s.slot i).causes := by simp [Slot.staled, ← hold]
      have hsame : (s.slot i).SameClamp (s.slot i).staled := Slot.sameClamp_of_causes_eq hcauses rfl
      rw [clampPosts_of_same hsame, clampCopies_of_same hsame] at hdid
      exact ⟨hdid.notices_eq, hdid.witness_eq⟩
  · have hage : s.ageSlot i = s := if_neg (mt (s.ageDue_eq_true_iff i).1 hages)
    exact congrArg Host.Outcome.next hage
  · have hage : s.ageSlot i = s.emptySlot i := if_pos ((s.ageDue_eq_true_iff i).2 hages)
    exact ⟨s.emptySlot i, congrArg Host.Outcome.next hage, s.emptySlot_frame i, fun j hj => s.emptySlot_slot_ne hj, s.emptySlot_slot_same i,
      s.emptySlot_pathsLeft i, fun hmode => State.emptySlot_engineTriggered hmode i, s.emptySlot_samePosts i⟩
  · refine congrArg Host.Outcome.next ?_
    simp only [State.discardForecast, h]
    rfl
  · refine congrArg Host.Outcome.next ?_
    unfold State.discardForecast
    split
    · exact absurd ‹_› (h _ _ _ _ _ _)
    · rfl

/-! ### EVICT (R82) -/

theorem takeEvict_of_not_settled {s : State} {i : SlotId} (h : ¬((s.slot i).state = .quiet ∧ (s.slot i).published = 0)) :
    takeEvict (i.val + 1) s = (s, .refused .notQuiet) := by
  simp only [takeEvict, slotOf_succ, mt (Slot.settledQuiet_eq_true_iff _).1 h]
  rfl

theorem takeEvict_of_settled {s : State} {i : SlotId} (hstate : (s.slot i).state = .quiet) (hpub : (s.slot i).published = 0) :
    takeEvict (i.val + 1) s = (s.evictSlot i, .done .none) := by
  simp only [takeEvict, slotOf_succ, (Slot.settledQuiet_eq_true_iff _).2 ⟨hstate, hpub⟩, if_true]

theorem State.unbindSlot_frame (s : State) (i : SlotId) : s.unbindSlot i = { s with
    slots := (s.unbindSlot i).slots, notices := (s.unbindSlot i).notices, witness := (s.unbindSlot i).witness } := by
  rw [State.unbindSlot_eq]

theorem State.unbindSlot_slot_same (s : State) (i : SlotId) : (s.unbindSlot i).slot i = (s.slot i).unbound := by
  rw [State.unbindSlot_slot, if_pos rfl]

/-- Settles O50, by the kind and the port of a settled slot. -/
theorem evictFreesASettledSlot : Obligations.EvictFreesASettledSlot := by
  intro s tag hready
  have answered {n : Nat} {t : State} {a : Answer} (h : takeEvict n s = (t, a)) : Answered (.evict 0 tag (.whole n)) s t 0 0x25 tag a :=
    answered_of_ready hready rfl h
  refine ⟨fun n hn => answered (by simp only [takeEvict, slotOf_eq_none hn]; rfl), fun i => ⟨fun hsettled => answered (takeEvict_of_not_settled hsettled),
    fun hstate hpub hkind hport => ?_, fun hstate hpub hkind hport => ?_, fun hstate hpub hkind => ?_⟩⟩
  · have hevict : s.evictSlot i = s := by simp [State.evictSlot, hkind, hport]
    exact answered ((takeEvict_of_settled hstate hpub).trans (by rw [hevict]))
  · have hevict : s.evictSlot i = s.unbindSlot i := by simp [State.evictSlot, hkind, Option.isSome_iff_ne_none.2 hport]
    refine ⟨s.unbindSlot i, hevict ▸ answered (takeEvict_of_settled hstate hpub), s.unbindSlot_frame i, fun j hj => ?_, s.unbindSlot_slot_same i, ?_⟩
    · rw [State.unbindSlot_slot, if_neg hj]
    · rw [State.unbindSlot_slot_same]
      exact (State.Did.of_unbindSlot s i).samePosts_reportBinding
  · have hevict : s.evictSlot i = s.emptySlot i := by simp [State.evictSlot, hkind]
    exact ⟨s.emptySlot i, hevict ▸ answered (takeEvict_of_settled hstate hpub), s.emptySlot_frame i, fun j hj => s.emptySlot_slot_ne hj,
      s.emptySlot_slot_same i, s.emptySlot_pathsLeft i, State.emptySlot_engineTriggered hready.2.1 i, s.emptySlot_samePosts i⟩

end Sys2Proof.Machine
end

section
/-! SUPPORT. What the arbiter posts, sends and raises: a new head, a grant, a debt cleared, a report of a pass; the handover timer and the report of a pass. -/

namespace Sys2Proof.Machine

/-! ### Kinds and subjects -/

theorem sameSubject_state_state (i j : SlotId) (x y : Slot) : ((x.stateNotice i).sameSubject (y.stateNotice j)) = decide (i = j) := by
  simp [Notice.sameSubject, Slot.stateNotice, Notice.kindIndex, Notice.subject, Fin.ext_iff, Bool.beq_eq_decide_eq]

theorem sameSubject_clamp_clamp (i j : SlotId) (x y : Slot) : ((x.clampNotice i).sameSubject (y.clampNotice j)) = decide (i = j) := by
  simp [Notice.sameSubject, Slot.clampNotice, Notice.kindIndex, Notice.subject, Fin.ext_iff, Bool.beq_eq_decide_eq]

/-- The ADMISSION notice of a slot, whatever it says. -/
def Notice.isAdmissionOf (i : SlotId) : Notice → Bool
  | .admission j .. => decide (j = i)
  | _ => false

theorem sameSubject_admission {n : Notice} {i : SlotId} (h : n.isAdmissionOf i = true) (m : Notice) : n.sameSubject m = m.isAdmissionOf i := by
  cases n <;> simp only [Notice.isAdmissionOf, Bool.false_eq_true, decide_eq_true_eq] at h
  subst h
  cases m with
  | admission j _ _ _ _ _ _ =>
    simp [Notice.sameSubject, Notice.kindIndex, Notice.subject, Notice.isAdmissionOf, Fin.ext_iff, Bool.beq_eq_decide_eq, eq_comm]
  | _ => rfl

/-! ### Notices of the final state -/

/-- The notice is one that a slot's record in `t` gives, or an ADMISSION notice. -/
inductive State.OwnNotice (t : State) : Notice → Prop
  | state (i : SlotId) : State.OwnNotice t (t.stageStateNotice i)
  | clamp (i : SlotId) : State.OwnNotice t (t.clampNotice i)
  | admission {n : Notice} (i : SlotId) (h : n.isAdmissionOf i = true) : State.OwnNotice t n

theorem State.OwnNotice.of_admissionNotice (t s : State) (i : SlotId) (m : Option Manner) : t.OwnNotice (s.admissionNotice i m) :=
  .admission i (decide_eq_true rfl)

theorem State.OwnNotice.eq_state {t : State} {n : Notice} {i : SlotId} (h : t.OwnNotice n) (hsame : (t.stageStateNotice i).sameSubject n = true) :
    n = t.stageStateNotice i := by
  cases h with
  | state j =>
    have hij : i = j := of_decide_eq_true ((sameSubject_state_state i j (t.slot i) (t.slot j)).symm.trans hsame)
    rw [hij]
  | clamp j => cases hsame
  | admission j h =>
    cases n with
    | admission => cases hsame
    | _ => cases h

theorem State.OwnNotice.eq_clamp {t : State} {n : Notice} {i : SlotId} (h : t.OwnNotice n) (hsame : (t.clampNotice i).sameSubject n = true) :
    n = t.clampNotice i := by
  cases h with
  | state j => cases hsame
  | clamp j =>
    have hij : i = j := of_decide_eq_true ((sameSubject_clamp_clamp i j (t.slot i) (t.slot j)).symm.trans hsame)
    rw [hij]
  | admission j h =>
    cases n with
    | admission => cases hsame
    | _ => cases h

namespace State.Did
variable {s t : State} {ns : List Notice} {cs : List Copy} {n : Nat}

/-- Where all that was posted of a slot's record is what the record now gives, its STAGE_STATE notice waits. -/
theorem state_waits (h : s.Did t ns cs n) (hown : ∀ m ∈ ns, t.OwnNotice m) (hlost : t.notices.lost = false) {i : SlotId}
    (hi : t.stageStateNotice i ∈ ns) : t.stageStateNotice i ∈ t.notices.notices :=
  h.mem_notices hlost hi fun m hm hsame => (hown m hm).eq_state hsame

theorem clamp_waits (h : s.Did t ns cs n) (hown : ∀ m ∈ ns, t.OwnNotice m) (hlost : t.notices.lost = false) {i : SlotId}
    (hi : t.clampNotice i ∈ ns) : t.clampNotice i ∈ t.notices.notices :=
  h.mem_notices hlost hi fun m hm hsame => (hown m hm).eq_clamp hsame

/-- An ADMISSION notice waits if it is the only one of its slot that was posted. -/
theorem admission_waits (h : s.Did t ns cs n) (hlost : t.notices.lost = false) {k : Notice} {i : SlotId} (hk : k ∈ ns) (hi : k.isAdmissionOf i = true)
    (honly : ∀ m ∈ ns, m.isAdmissionOf i = true → m = k) : k ∈ t.notices.notices :=
  h.mem_notices hlost hk fun m hm hsame => honly m hm (sameSubject_admission hi m ▸ hsame)

end State.Did

/-! ### Where a notice stays the same -/

/-- The ADMISSION notice of a slot that is not the head rests on its record and on the queue. -/
theorem State.admissionNotice_congr {s t : State} {i : SlotId} (hslot : t.slot i = s.slot i) (hqueue : t.arbiter.queue = s.arbiter.queue)
    (hhead : s.arbiter.queue.head? ≠ some i) (m : Option Manner) : t.admissionNotice i m = s.admissionNotice i m := by
  simp [State.admissionNotice, State.queuePosition, hslot, hqueue, hhead]

theorem State.stageStateNotice_congr {s t : State} {i : SlotId} (h : t.slot i = s.slot i) : t.stageStateNotice i = s.stageStateNotice i := by
  rw [State.stageStateNotice_eq, h, ← State.stageStateNotice_eq]

/-- The CLAMP notice does not show the state, the outcome, the prospective ceiling or the debt. -/
theorem Slot.clampNotice_congr {x y : Slot} (hcauses : y.causes = x.causes) (hport : y.port = x.port) (hover : y.overCount = x.overCount)
    (hgood : y.goodCount = x.goodCount) (hstale : y.stale = x.stale) (hlast : y.lastLevel = x.lastLevel) (i : SlotId) :
    y.clampNotice i = x.clampNotice i := by
  simp only [Slot.clampNotice, Slot.lineAsserted, hcauses, hport, hover, hgood, hstale, hlast]

/-! ### The head of the queue (R130) -/

/-- What is posted of the slot that becomes the head, if any. -/
def State.headPosts (t : State) (head : Option SlotId) : List Notice := head.elim [] fun j => [t.stageStateNotice j, t.admissionNotice j none]

theorem State.mem_headPosts {t : State} {head : Option SlotId} {n : Notice} (h : n ∈ t.headPosts head) :
    ∃ j ∈ head, n = t.stageStateNotice j ∨ n = t.admissionNotice j none := by
  cases head with
  | none => cases h
  | some j => exact ⟨j, rfl, by simpa [State.headPosts] using h⟩

theorem State.ownNotice_of_headPosts {t : State} {head : Option SlotId} {n : Notice} (h : n ∈ t.headPosts head) : t.OwnNotice n := by
  obtain ⟨j, -, rfl | rfl⟩ := State.mem_headPosts h
  · exact .state j
  · exact .of_admissionNotice t t j none

namespace State.Did
variable {s : State}

theorem of_becomeHead (hmode : s.mode ≠ .boot) (i : SlotId) : s.Did (s.becomeHead i) ((s.becomeHead i).headPosts (some i)) [] 1 :=
  (((((refl s).updSlot i _).setArbiter _).trigger hmode).post _).post _

theorem of_promote (hmode : s.mode ≠ .boot) :
    s.Did s.promote (s.promote.headPosts s.arbiter.queue.head?) [] (if s.arbiter.queue = [] then 0 else 1) := by
  cases hqueue : s.arbiter.queue with
  | nil =>
    have hpromote : s.promote = s.setPhase none := by simp only [State.promote, hqueue]
    rw [hpromote]
    exact (refl s).setArbiter _
  | cons j rest =>
    have hpromote : s.promote = s.becomeHead j := by simp only [State.promote, hqueue]
    rw [hpromote]
    exact of_becomeHead hmode j

end State.Did

/-! ### A grant (R134) -/

/-- What step 1 of a grant posts of the slots in debt. -/
def State.settledPosts (s : State) : List Notice := allSlots.flatMap fun i => clampPosts i (s.slot i) (s.slot i).settled

/-- What step 1 of a grant sends of the slots in debt. -/
def State.settledCopies (s : State) : List Copy := allSlots.flatMap fun i => clampCopies s.clock i (s.slot i) (s.slot i).settled .grant none

theorem Slot.settled_of_no_debt {x : Slot} (h : x.debt = false) : x.settled = x := by simp [Slot.settled, h]

theorem Slot.settled_of_debt {x : Slot} (h : x.debt = true) : x.settled = { x with debt := false, causes := { x.causes with hasHandover := true } } := by
  simp [Slot.settled, h]

theorem Slot.sameClamp_refl (x : Slot) : x.SameClamp x := ⟨rfl, rfl⟩

theorem State.Did.of_settleDebtor (s : State) (i : SlotId) : s.Did (s.settleDebtor i) (clampPosts i (s.slot i) (s.slot i).settled)
    (clampCopies s.clock i (s.slot i) (s.slot i).settled .grant none) 0 := by
  unfold State.settleDebtor
  split
  · rename_i hdebt
    rw [Slot.settled_of_debt hdebt]
    exact State.Did.of_updClamped s i _ .grant none
  · rename_i hdebt
    rw [Slot.settled_of_no_debt (Bool.eq_false_iff.2 hdebt), clampPosts_of_same (Slot.sameClamp_refl _), clampCopies_of_same (Slot.sameClamp_refl _)]
    exact .refl s

theorem State.Did.of_settleDebtors (s : State) : s.Did (allSlots.foldl State.settleDebtor s) s.settledPosts s.settledCopies 0 := by
  have h := State.Did.foldl (op := State.settleDebtor) (f := fun _ => Slot.settled) (posts := fun i x => clampPosts i x x.settled)
    (copies := fun i x => clampCopies s.clock i x x.settled .grant none) (triggers := fun _ _ => 0) s
    (fun u i hclock _ _ => hclock ▸ State.Did.of_settleDebtor u i) (fun u i j _ => State.settleDebtor_slot u i j) (List.nodup_finRange 8)
  exact h.1.congr rfl rfl (by simp)

theorem State.settledPosts_of_no_debt {s : State} (h : ∀ i, (s.slot i).debt = false) : s.settledPosts = [] := by
  simp only [State.settledPosts, Slot.settled_of_no_debt (h _), clampPosts_of_same (Slot.sameClamp_refl _), List.flatMap_eq_nil_iff, implies_true]

theorem State.settledCopies_of_no_debt {s : State} (h : ∀ i, (s.slot i).debt = false) : s.settledCopies = [] := by
  simp only [State.settledCopies, Slot.settled_of_no_debt (h _), clampCopies_of_same (Slot.sameClamp_refl _), List.flatMap_eq_nil_iff, implies_true]

/-- The state in which the head of a grant is LIVE, nothing posted of it yet. -/
def State.headLive (s : State) (h : SlotId) (rest : List SlotId) : State :=
  ((((allSlots.foldl State.settleDebtor s).stopTimer).setQueue rest).updSlot h Slot.granted)

theorem State.grant_eq {s : State} {h : SlotId} {rest : List SlotId} (hqueue : s.arbiter.queue = h :: rest) (m : Manner) :
    s.grant m = ((((s.headLive h rest).postAdmission h (some m)).postStageState h).trigger).promote := by
  simp only [State.grant, hqueue]
  rfl

theorem State.headLive_queue (s : State) (h : SlotId) (rest : List SlotId) : (s.headLive h rest).arbiter.queue = rest := rfl

theorem State.Did.of_headLive (s : State) (h : SlotId) (rest : List SlotId) : s.Did (s.headLive h rest) s.settledPosts s.settledCopies 0 :=
  (((State.Did.of_settleDebtors s).setArbiter _).setArbiter _).updSlot h Slot.granted

/-- A slot that has left the head posts its ADMISSION and STAGE_STATE notices, then, with a trigger, the next member becomes the head. -/
theorem State.Did.postAdmission_promote {s b : State} {ns : List Notice} {cs : List Copy} {h : SlotId} {rest : List SlotId} (hb : s.Did b ns cs 0)
    (hmode : s.mode ≠ .boot) (hqueue : b.arbiter.queue = rest) (hnext : rest.head? ≠ some h) (m : Option Manner) {t : State}
    (ht : t = (((b.postAdmission h m).postStageState h).trigger).promote) :
    s.Did t (ns ++ ([t.admissionNotice h m, t.stageStateNotice h] ++ t.headPosts rest.head?)) cs (1 + if rest = [] then 0 else 1) := by
  have hc : s.Did ((b.postAdmission h m).postStageState h).trigger _ cs (0 + 1) := ((hb.post _).post _).trigger hmode
  have hqueue_c : ((b.postAdmission h m).postStageState h).trigger.arbiter.queue = rest := (State.trigger_queue _).trans hqueue
  have hslot : t.slot h = b.slot h := by
    rw [ht, State.promote_slot, hqueue_c, if_neg hnext, State.slot_of_trigger, State.postStageState_slot, State.postAdmission_slot]
  have hadmission : t.admissionNotice h m = b.admissionNotice h m :=
    State.admissionNotice_congr hslot (by rw [ht, State.promote_queue, hqueue_c, hqueue]) (hqueue ▸ hnext) m
  have hstate : t.stageStateNotice h = (b.postAdmission h m).stageStateNotice h :=
    State.stageStateNotice_congr (hslot.trans (State.postAdmission_slot ..).symm)
  have hpromote := State.Did.of_promote (hc.mode_eq ▸ hmode)
  rw [hqueue_c, ← ht] at hpromote
  refine (hc.trans hpromote).congr ?_ (List.append_nil _) rfl
  rw [hadmission, hstate]
  simp only [List.append_assoc, List.cons_append, List.nil_append]

section grant
variable {s : State} {h : SlotId} {rest : List SlotId} (hqueue : s.arbiter.queue = h :: rest) (hnodup : s.arbiter.queue.Nodup) (m : Manner)
include hqueue hnodup

theorem State.head_not_next : rest.head? ≠ some h := fun hhead =>
  (List.nodup_cons.1 (hqueue ▸ hnodup)).1 (List.mem_of_head? hhead)

theorem State.Did.of_grant (hmode : s.mode ≠ .boot) :
    s.Did (s.grant m)
      (s.settledPosts ++ ([(s.grant m).admissionNotice h (some m), (s.grant m).stageStateNotice h] ++ (s.grant m).headPosts rest.head?))
      s.settledCopies (1 + if rest = [] then 0 else 1) :=
  (State.Did.of_headLive s h rest).postAdmission_promote hmode (s.headLive_queue h rest) (State.head_not_next hqueue hnodup) (some m)
    (State.grant_eq hqueue m)

omit hnodup in
/-- What a grant posts is what the records then give. -/
theorem State.ownNotice_of_grant {n : Notice}
    (hn : n ∈ s.settledPosts ++ ([(s.grant m).admissionNotice h (some m), (s.grant m).stageStateNotice h] ++ (s.grant m).headPosts rest.head?)) :
    (s.grant m).OwnNotice n := by
  simp only [List.mem_append, List.mem_cons, List.not_mem_nil, or_false] at hn
  obtain hn | (rfl | rfl) | hn := hn
  · obtain ⟨i, -, hi⟩ := List.mem_flatMap.1 hn
    have hclamp : (s.slot i).settled.clampNotice i = (s.grant m).clampNotice i := by
      rw [State.clampNotice_eq, State.grant_slot hqueue]
      dsimp only
      refine (Slot.clampNotice_congr ?_ ?_ ?_ ?_ ?_ ?_ i).symm <;> split <;> split <;> rfl
    rw [mem_clampPosts hi, hclamp]
    exact .clamp i
  · exact .of_admissionNotice _ _ h _
  · exact .state h
  · exact State.ownNotice_of_headPosts hn

/-- A grant of a head that has no debt, in the words of the statements. -/
theorem State.grant_headGranted (hmode : s.mode ≠ .boot) (hdebt : (s.slot h).debt = false) : s.HeadGranted (s.grant m) h rest m := by
  have hnext := State.head_not_next hqueue hnodup
  have hdid := State.Did.of_grant hqueue hnodup m hmode
  have hown : ∀ n ∈ _, (s.grant m).OwnNotice n := fun n hn => State.ownNotice_of_grant hqueue m hn
  have hclamp_not {i j : SlotId} {x y : Slot} {n : Notice} (hn : n ∈ clampPosts i x y) : n.isAdmissionOf j = false := by rw [mem_clampPosts hn]; rfl
  have hsettled_not {j : SlotId} {n : Notice} (hn : n ∈ s.settledPosts) : n.isAdmissionOf j = false := by
    obtain ⟨i, -, hi⟩ := List.mem_flatMap.1 hn
    exact hclamp_not hi
  refine ⟨State.grant_queue hqueue m, State.grant_timer hqueue m, State.grant_phase hqueue m, ?_, fun hlost => ⟨?_, ?_⟩, fun hlost j hj => ⟨?_, ?_⟩⟩
  · rw [State.grant_slot hqueue]
    simp [hnext, Slot.settled_of_no_debt hdebt, Slot.granted]
  · refine hdid.admission_waits hlost (i := h) (by simp) (decide_eq_true rfl) fun n hn hadm => ?_
    simp only [List.mem_append, List.mem_cons, List.not_mem_nil, or_false] at hn
    obtain hn | (rfl | rfl) | hn := hn
    · rw [hsettled_not hn] at hadm; cases hadm
    · rfl
    · cases hadm
    · obtain ⟨k, hk, rfl | rfl⟩ := State.mem_headPosts hn
      · cases hadm
      · exact absurd (of_decide_eq_true hadm ▸ hk) hnext
  · exact hdid.state_waits hown hlost (by simp)
  · refine hdid.admission_waits hlost (i := j) ?_ (decide_eq_true rfl) fun n hn hadm => ?_
    · rw [Option.mem_def.1 hj]; simp [State.headPosts]
    · simp only [List.mem_append, List.mem_cons, List.not_mem_nil, or_false] at hn
      obtain hn | (rfl | rfl) | hn := hn
      · rw [hsettled_not hn] at hadm; cases hadm
      · exact absurd (of_decide_eq_true hadm ▸ hj) hnext
      · cases hadm
      · obtain ⟨k, hk, rfl | rfl⟩ := State.mem_headPosts hn
        · cases hadm
        · rw [show k = j from of_decide_eq_true hadm]
  · refine hdid.state_waits hown hlost ?_
    rw [Option.mem_def.1 hj]; simp [State.headPosts]

theorem State.grant_triggersRaised (hmode : s.mode ≠ .boot) : s.TriggersRaised (s.grant m) (!rest.isEmpty) := by
  have h := (State.Did.of_grant hqueue hnodup m hmode).triggered.raised (by omega)
  have hcount : decide (2 ≤ 1 + if rest = [] then 0 else 1) = !rest.isEmpty := by cases rest <;> simp
  rwa [hcount] at h

end grant

end Sys2Proof.Machine
end

section
/-! SUPPORT. The handover timer and the report of a pass (R131 to R134). -/

namespace Sys2Proof.Machine

/-! ### What a sound handover says of the head and of the debts -/

/-- A part that boots has an empty queue. -/
theorem State.mode_ne_boot_of_queue {s : State} (hboot : s.BootSound) {h : SlotId} {rest : List SlotId} (hqueue : s.arbiter.queue = h :: rest) :
    s.mode ≠ .boot := by
  intro hmode
  obtain ⟨-, -, -, -, -, -, -, harbiter, -⟩ := hboot.2 hmode
  rw [harbiter] at hqueue
  cases hqueue

theorem State.head_entering {s : State} (hq : s.QueueSound) {h : SlotId} {rest : List SlotId} (hqueue : s.arbiter.queue = h :: rest) :
    (s.slot h).state = .entering := (hq.2.2 h).2 (by rw [hqueue]; rfl)

theorem State.no_debt_of_not_live {s : State} (hh : s.HandoverSound) {i : SlotId} (hi : (s.slot i).state ≠ .live) : (s.slot i).debt = false := by
  obtain ⟨-, -, -, hlive, -⟩ := hh
  exact Bool.eq_false_iff.2 fun hdebt => hi (hlive i hdebt)

theorem State.head_no_debt {s : State} (hq : s.QueueSound) (hh : s.HandoverSound) {h : SlotId} {rest : List SlotId}
    (hqueue : s.arbiter.queue = h :: rest) : (s.slot h).debt = false :=
  State.no_debt_of_not_live hh (by rw [State.head_entering hq hqueue]; decide)

theorem State.no_debt_of_not_confirming {s : State} (hh : s.HandoverSound) (hphase : s.arbiter.phase ≠ some .confirming) (i : SlotId) :
    (s.slot i).debt = false := by
  obtain ⟨-, -, hdebt, -⟩ := hh
  exact Bool.eq_false_iff.2 fun hi => hphase (hdebt.2 ⟨i, hi⟩)

theorem State.debtSet_isEmpty_iff (s : State) : s.debtSet.isEmpty = true ↔ ∀ i, (s.slot i).debt = false := by
  simp [State.debtSet, List.isEmpty_iff, List.filter_eq_nil_iff]

/-! ### The timer (R133) -/

theorem Slot.settled_eq (x : Slot) :
    x.settled = { x with debt := false, causes := { x.causes with hasHandover := x.causes.hasHandover || x.debt } } := by
  cases hdebt : x.debt with
  | true => simp [Slot.settled_of_debt hdebt]
  | false => rw [Slot.settled_of_no_debt hdebt, Bool.or_false, ← hdebt]

theorem Slot.sameClamp_settled_iff (x : Slot) : x.SameClamp x.settled ↔ (x.debt && !x.causes.hasHandover) = false := by
  have hcauses : x.settled.causes = x.causes ↔ (x.debt && !x.causes.hasHandover) = false := by
    rw [Slot.settled_eq]
    cases x.causes with
    | mk o st hand con => cases hand <;> cases x.debt <;> simp
  exact ⟨fun h => hcauses.1 h.1, fun h => Slot.sameClamp_of_causes_eq (hcauses.2 h) (by rw [Slot.settled_eq])⟩

theorem flatMap_ite_singleton {α β : Type} (c : α → Prop) [DecidablePred c] (p : α → Bool) (g : α → β) (hp : ∀ a, c a ↔ p a = false) (l : List α) :
    (l.flatMap fun a => if c a then [] else [g a]) = (l.filter p).map g := by
  induction l with
  | nil => rfl
  | cons a l ih =>
    rw [List.flatMap_cons, ih, List.filter_cons]
    by_cases ha : c a
    · simp [ha, (hp a).1 ha]
    · have hpa : p a = true := Bool.not_eq_false _ ▸ fun h => ha ((hp a).2 h)
      simp [ha, hpa]

theorem State.settledCopies_eq (s : State) : s.settledCopies =
    (allSlots.filter fun i => (s.slot i).debt && !(s.slot i).causes.hasHandover).map fun i =>
      clampCopy s.clock i (s.slot i) (s.slot i).settled .grant none :=
  flatMap_ite_singleton _ _ _ (fun i => Slot.sameClamp_settled_iff (s.slot i)) allSlots

theorem State.settledPosts_eq (s : State) : s.settledPosts =
    (allSlots.filter fun i => (s.slot i).debt && !(s.slot i).causes.hasHandover).map fun i => (s.slot i).settled.clampNotice i :=
  flatMap_ite_singleton _ _ _ (fun i => Slot.sameClamp_settled_iff (s.slot i)) allSlots

theorem State.sendAll_map {α : Type} (s : State) (l : List α) (g : α → Copy) : s.sendAll (l.map g) = l.foldl (fun u a => u.send (g a)) s :=
  List.foldl_map ..

section grant
variable {s : State} {h : SlotId} {rest : List SlotId} (hqueue : s.arbiter.queue = h :: rest) (m : Manner)
include hqueue

theorem State.grant_slot_causes (i : SlotId) : ((s.grant m).slot i).causes = (s.slot i).settled.causes := by
  rw [State.grant_slot hqueue]
  dsimp only
  split <;> split <;> rfl

theorem State.grant_slot_port (i : SlotId) : ((s.grant m).slot i).port = (s.slot i).settled.port := by
  rw [State.grant_slot hqueue]
  dsimp only
  split <;> split <;> rfl

theorem State.grant_clampNotice (i : SlotId) : (s.grant m).clampNotice i = (s.slot i).settled.clampNotice i := by
  rw [State.clampNotice_eq, State.grant_slot hqueue]
  dsimp only
  refine Slot.clampNotice_congr ?_ ?_ ?_ ?_ ?_ ?_ i <;> split <;> split <;> rfl

theorem State.grant_slot_ne {i : SlotId} (hi : i ≠ h) : (s.grant m).slot i =
    { (s.slot i).settled with state := if rest.head? = some i then .entering else (s.slot i).state } := by
  have hstate : (s.slot i).settled.state = (s.slot i).state := by rw [Slot.settled_eq]
  rw [State.grant_slot hqueue]
  dsimp only
  rw [if_neg hi]
  split
  · rfl
  · rw [← hstate]

end grant

/-- Settles O30: the debts settled in ascending order, then the head LIVE, then the next head. -/
theorem handoverExpiryGrantsTheHead : Obligations.HandoverExpiryGrantsTheHead := by
  intro s
  refine ⟨fun htimer => ?_, fun left h rest hsound htimer hqueue => ?_⟩
  · simp [exec, execHandoverTimerExpiry, htimer]
  obtain ⟨hboot, -, hq, hh⟩ := hsound
  have hmode := State.mode_ne_boot_of_queue hboot hqueue
  have hdid := State.Did.of_grant hqueue hq.1 .byTimeout hmode
  refine ⟨s.grant .byTimeout, ?_, ?_, State.grant_headGranted hqueue hq.1 .byTimeout hmode (State.head_no_debt hq hh hqueue),
    State.grant_triggersRaised hqueue hq.1 .byTimeout hmode, fun i hi => ?_, ?_, fun hlost i hi => ?_⟩
  · simp [exec, execHandoverTimerExpiry, htimer]
  · have hpaths : (s.grant .byTimeout).paths = s.paths := (ArbiterFrame.of_grant s .byTimeout).paths_eq
    rw [← hpaths]
    exact hdid.frame_eq
  · rw [State.grant_slot_ne hqueue _ hi, Slot.settled_eq]
  · rw [hdid.witness_eq, State.settledCopies_eq, State.sendAll_map]
    refine congrArg State.witness (congrArg (fun f => List.foldl f s _) (funext fun u => funext fun i => congrArg u.send ?_))
    have hline : ((s.grant .byTimeout).slot i).lineAsserted = (s.slot i).settled.lineAsserted := by
      simp only [Slot.lineAsserted, State.grant_slot_causes hqueue, State.grant_slot_port hqueue]
    rw [hline, State.grant_slot_causes hqueue, clampCopy, Slot.settled_eq]
  · refine hdid.clamp_waits (fun n hn => State.ownNotice_of_grant hqueue _ hn) hlost ?_
    rw [State.grant_clampNotice hqueue, State.settledPosts_eq]
    exact List.mem_append_left _ (List.mem_map.2 ⟨i, hi, rfl⟩)

/-! ### The report of a pass (R131) -/

theorem State.setDebts_of_not_live {s : State} {l : List SlotId} (h : ∀ i ∈ l, (s.slot i).state ≠ .live) : l.foldl State.setDebt s = s := by
  induction l with
  | nil => rfl
  | cons i l ih =>
    have hi : s.setDebt i = s := if_neg (h i List.mem_cons_self)
    rw [List.foldl_cons, hi]
    exact ih fun j hj => h j (List.mem_cons_of_mem _ hj)

theorem State.takePassReport_of_acts {s : State} {h : SlotId} {rest : List SlotId} (hqueue : s.arbiter.queue = h :: rest)
    (hphase : s.arbiter.phase = some .counting) (hpass : s.arbiter.passSinceHead = true) (fallen : List SlotId) :
    s.takePassReport (some h) fallen =
      let a := fallen.foldl State.setDebt s
      if a.debtSet.isEmpty then a.grant .atOnce
      else ({ a with arbiter := { a.arbiter with phase := some .confirming, timer := some (1000 * a.site.handoverTime) } } : State).postAdmission h none := by
  simp only [State.takePassReport, hqueue, hphase, hpass, and_self, if_true]

theorem State.setDebts_eq (s : State) (l : List SlotId) : l.foldl State.setDebt s = { s with slots := (l.foldl State.setDebt s).slots } := by
  induction l generalizing s with
  | nil => rfl
  | cons i l ih =>
    rw [List.foldl_cons, ih]
    unfold State.setDebt
    split <;> rfl

/-- Settles O29, by whether the report is the head's, and by whether some LIVE slot has fallen. -/
theorem passReportSetsDebtsOrGrants : Obligations.PassReportSetsDebtsOrGrants := by
  rintro s entering fallen ⟨hboot, -, hq, hh⟩
  refine ⟨fun hacts => ?_, fun hacts hnone => ?_, fun hacts hsome => ?_⟩
  · unfold State.takePassReport
    split
    · rfl
    · rename_i h rest hqueue
      refine if_neg fun ⟨hphase, hentering, hpass⟩ => hacts ⟨by simp [hqueue], hphase, by rw [hqueue]; exact hentering, hpass⟩
  · obtain ⟨hne, hphase, hentering, hpass⟩ := hacts
    obtain ⟨h, rest, hqueue⟩ := List.exists_cons_of_ne_nil hne
    rw [hqueue, List.head?_cons] at hentering
    have hdebts := State.no_debt_of_not_confirming hh (by rw [hphase]; decide)
    have hgrant : s.takePassReport entering fallen = s.grant .atOnce := by
      rw [hentering, State.takePassReport_of_acts hqueue hphase hpass, State.setDebts_of_not_live hnone]
      exact if_pos ((State.debtSet_isEmpty_iff s).2 hdebts)
    have hmode := State.mode_ne_boot_of_queue hboot hqueue
    refine ⟨hgrant, fun h' rest' hqueue' => ?_⟩
    obtain ⟨rfl, rfl⟩ := List.cons.inj (hqueue.symm.trans hqueue')
    rw [hgrant]
    have hdid := State.Did.of_grant hqueue hq.1 .atOnce hmode
    refine ⟨?_, State.grant_headGranted hqueue hq.1 .atOnce hmode (hdebts h), State.grant_triggersRaised hqueue hq.1 .atOnce hmode, fun i hi => ?_⟩
    · have hpaths : (s.grant .atOnce).paths = s.paths := (ArbiterFrame.of_grant s .atOnce).paths_eq
      have hwitness : (s.grant .atOnce).witness = s.witness := by rw [hdid.witness_eq, State.settledCopies_of_no_debt hdebts]; rfl
      have hframe := hdid.frame_eq
      rwa [hpaths, hwitness] at hframe
    · rw [State.grant_slot_ne hqueue _ hi, Slot.settled_of_no_debt (hdebts i)]
  · obtain ⟨hne, hphase, hentering, hpass⟩ := hacts
    obtain ⟨h, rest, hqueue⟩ := List.exists_cons_of_ne_nil hne
    rw [hqueue, List.head?_cons] at hentering
    have hdebts := State.no_debt_of_not_confirming hh (by rw [hphase]; decide)
    have hslot (i : SlotId) : (fallen.foldl State.setDebt s).slot i =
        { s.slot i with debt := decide (i ∈ fallen) && (s.slot i).state == .live } := by
      rw [State.setDebts_slot]
      by_cases hi : i ∈ fallen ∧ (s.slot i).state = .live
      · simp [hi.1, hi.2, Slot.indebted]
      · have hsame : (if i ∈ fallen then (s.slot i).indebted else s.slot i) = s.slot i := by
          rw [not_and] at hi
          split
          · exact if_neg (hi ‹_›)
          · rfl
        have hkept : (decide (i ∈ fallen) && (s.slot i).state == .live) = (s.slot i).debt := by rw [hdebts i]; simpa using hi
        rw [hsame, hkept]
    obtain ⟨i, hi, hlive⟩ := hsome
    have hnonempty : (fallen.foldl State.setDebt s).debtSet.isEmpty ≠ true := fun hempty => by
      have hdebt := (State.debtSet_isEmpty_iff _).1 hempty i
      rw [hslot] at hdebt
      simp [hi, hlive] at hdebt
    have ht : s.takePassReport entering fallen =
        ({ fallen.foldl State.setDebt s with
          arbiter := { (fallen.foldl State.setDebt s).arbiter with
            phase := some .confirming, timer := some (1000 * (fallen.foldl State.setDebt s).site.handoverTime) } } : State).postAdmission h none := by
      rw [hentering, State.takePassReport_of_acts hqueue hphase hpass]
      exact if_neg hnonempty
    have hsite : (fallen.foldl State.setDebt s).site = s.site := by rw [State.setDebts_eq]
    have hnotices : (fallen.foldl State.setDebt s).notices = s.notices := by rw [State.setDebts_eq]
    dsimp only
    refine ⟨?_, fun j => ?_, fun k hk => ?_⟩
    · obtain ⟨slots, hset⟩ : ∃ slots, fallen.foldl State.setDebt s = { s with slots := slots } := ⟨_, State.setDebts_eq s fallen⟩
      rw [ht, hset]
      rfl
    · rw [ht]
      exact hslot j
    · rw [hqueue] at hk
      obtain rfl : h = k := Option.some.inj hk
      rw [ht]
      exact congrArg (fun q => NoticeQueue.post q _) hnotices

end Sys2Proof.Machine
end

section
/-! SUPPORT. GO LIVE and REPORT (R88 to R93, R127 to R132). -/

namespace Sys2Proof.Machine

/-! ### The position in the queue (R128) -/

theorem State.queuePosition_of_append {s : State} {i : SlotId} {before after : List SlotId} (h : s.arbiter.queue = before ++ i :: after)
    (hi : i ∉ before) : s.queuePosition i = some (before.length + 1) := by
  have hindex : (before ++ i :: after).idxOf? i = some before.length := by
    refine List.idxOf?_eq_some_iff.2 ⟨by simp, by simp, fun j hj he => hi ?_⟩
    rw [List.getElem_append_left hj] at he
    exact he ▸ List.getElem_mem hj
  rw [State.queuePosition, h, hindex]
  rfl

/-! ### Joining the queue (R130) -/

theorem State.joinQueue_of_empty {s : State} (h : s.arbiter.queue = []) (i : SlotId) :
    s.joinQueue i = ((s.updSlot i fun x => { x with outcome := .none }).setQueue [i]).becomeHead i := by
  simp only [State.joinQueue, h, List.isEmpty_nil, if_true, List.nil_append]

theorem State.joinQueue_of_ne {s : State} (h : s.arbiter.queue ≠ []) (i : SlotId) :
    s.joinQueue i = (((((s.updSlot i fun x => { x with outcome := .none }).setQueue (s.arbiter.queue ++ [i])).updSlot i
      fun x => { x with state := .waiting }).postStageState i).postAdmission i none) := by
  simp only [State.joinQueue, List.isEmpty_iff, h, if_false]

theorem State.Did.of_joinQueue {s : State} (hmode : s.mode ≠ .boot) (i : SlotId) :
    s.Did (s.joinQueue i) ((s.joinQueue i).headPosts (some i)) [] (if s.arbiter.queue = [] then 1 else 0) := by
  split
  · rename_i hqueue
    rw [State.joinQueue_of_empty hqueue]
    have hbefore : s.Did ((s.updSlot i fun x => { x with outcome := .none }).setQueue [i]) [] [] 0 :=
      ((State.Did.refl s).updSlot i _).setArbiter _
    exact hbefore.trans (State.Did.of_becomeHead (s := (s.updSlot i fun x => { x with outcome := .none }).setQueue [i]) hmode i)
  · rename_i hqueue
    rw [State.joinQueue_of_ne hqueue]
    exact (((((State.Did.refl s).updSlot i _).setArbiter _).updSlot i _).post _).post _

theorem State.joinQueue_paths (s : State) (i : SlotId) : (s.joinQueue i).paths = s.paths := by
  by_cases hqueue : s.arbiter.queue = []
  · rw [State.joinQueue_of_empty hqueue, State.becomeHead_eq]
    rfl
  · rw [State.joinQueue_of_ne hqueue]
    rfl

/-- The pass that a new head begins captures it ENTERING. -/
theorem State.becomeHead_engine {s : State} (hmode : s.mode ≠ .boot) (i : SlotId) :
    (s.engine.activity = .idle →
      (s.becomeHead i).engine = { activity := .recalculating (s.becomeHead i).capture, pending := s.engine.pending } ∧
        (s.becomeHead i).arbiter.passSinceHead = true) ∧
    (s.engine.activity ≠ .idle →
      (s.becomeHead i).engine = { s.engine with pending := true } ∧ (s.becomeHead i).arbiter.passSinceHead = false) := by
  have hbegun : ∃ b : State, b.engine = s.engine ∧ b.mode = s.mode ∧ b.arbiter.passSinceHead = false ∧
      s.becomeHead i = ((b.trigger.postStageState i).postAdmission i none) :=
    ⟨{ s.updSlot i fun x => { x with state := .entering } with
        arbiter := { s.arbiter with phase := some .counting, passSinceHead := false } }, rfl, rfl, rfl, rfl⟩
  obtain ⟨b, hengine, hbmode, hflag, heq⟩ := hbegun
  have htriggered := State.trigger_engineTriggered (s := b) (hbmode ▸ hmode)
  rw [State.EngineTriggered, hengine] at htriggered
  rw [heq]
  refine ⟨fun hidle => ?_, fun hbusy => ?_⟩
  · rw [if_pos hidle] at htriggered
    exact ⟨htriggered.1, congrArg Arbiter.passSinceHead htriggered.2⟩
  · rw [if_neg hbusy] at htriggered
    exact ⟨htriggered.1, (congrArg Arbiter.passSinceHead htriggered.2).trans hflag⟩

/-! ### GO LIVE -/

theorem answered_goLive {s t : State} {p : Port} {tag : Nat} {i : SlotId} {a : Answer} (hready : s.Ready p) (hp : p ≠ 0) (hmode : s.mode = .enforce)
    (hbind : s.BindingsSound) (hi : (s.slot i).port = some p) (h : State.takeGoLive i s = (t, a)) : Answered (.goLive p tag) s t p 0x03 tag a := by
  refine answered_of_stage hready hp rfl ?_
  rw [notInSetup, if_neg (by rw [hmode]; decide), forBoundSlot_of_bound hbind hp hi, h]

theorem takeGoLive_of_queued {s : State} {i : SlotId} (h : (s.slot i).state = .waiting ∨ (s.slot i).state = .entering) :
    State.takeGoLive i s = (s, s.pendingAnswer i) := by
  rcases h with h | h <;> simp only [State.takeGoLive, h]

theorem takeGoLive_of_joins {s : State} {i : SlotId} (hquiet : (s.slot i).state = .quiet) (hmapped : s.mapped i = true)
    (hcurfew : s.underCurfew i = false) : State.takeGoLive i s = (s.joinQueue i, (s.joinQueue i).pendingAnswer i) := by
  simp only [State.takeGoLive, hquiet, hmapped, hcurfew, if_true, Bool.false_eq_true, if_false]

theorem State.pendingAnswer_of_position {s : State} {i : SlotId} {n : Nat} (h : s.queuePosition i = some n) :
    s.pendingAnswer i = .withStatus .pending (.position n) := by rw [State.pendingAnswer, h]; rfl

/-- Settles O39, by the mode, the binding of the port, and the state of the bound slot. -/
theorem goLiveJoinsTheQueue : Obligations.GoLiveJoinsTheQueue := by
  intro s p tag hready hp
  refine ⟨fun hmode => ?_, fun hmode hnone => ?_, fun i hmode hbind hi => ?_⟩
  · refine answered_of_stage hready hp rfl ?_
    rw [notInSetup, if_pos hmode]
    rfl
  · refine answered_of_stage hready hp rfl ?_
    rw [notInSetup, if_neg (by rw [hmode]; decide), forBoundSlot_of_none hnone]
  have answered {t : State} {a : Answer} (h : State.takeGoLive i s = (t, a)) : Answered (.goLive p tag) s t p 0x03 tag a :=
    answered_goLive hready hp hmode hbind hi h
  refine ⟨fun hlive => answered ?_, fun before after hqueued hqueue hbefore => answered ?_, fun hquiet => ⟨fun hunmapped => answered ?_,
    fun q e x he hei hx hzone => answered ?_, fun hmapped hcurfew hnot => ?_⟩⟩
  · simp only [State.takeGoLive, hlive]
  · rw [takeGoLive_of_queued hqueued, State.pendingAnswer_of_position (State.queuePosition_of_append hqueue hbefore)]
  · have hmapped : s.mapped i = false := Bool.eq_false_iff.2 fun h => by
      obtain ⟨q, e, he, hei⟩ := State.mapped_iff.1 h
      exact hunmapped q e he hei
    simp only [State.takeGoLive, hquiet, hmapped, Bool.false_eq_true, if_false]
    rfl
  · have hmapped : s.mapped i = true := State.mapped_iff.2 ⟨q, e, he, hei⟩
    have hcurfew : s.underCurfew i = true := (State.underCurfew_iff (s := s)).2 ⟨q, e, x.zone, he, hei, by simp [State.home, hx], hzone⟩
    simp only [State.takeGoLive, hquiet, hmapped, hcurfew, if_true]
    rfl
  · have hposition : (s.joinQueue i).queuePosition i = some (s.arbiter.queue.length + 1) :=
      State.queuePosition_of_append (s.joinQueue_queue i) hnot
    have hdid := State.Did.of_joinQueue hready.2.1 i
    have hown : ∀ n ∈ (s.joinQueue i).headPosts (some i), (s.joinQueue i).OwnNotice n := fun n hn => State.ownNotice_of_headPosts hn
    refine ⟨s.joinQueue i, answered ((takeGoLive_of_joins hquiet hmapped hcurfew).trans (by rw [State.pendingAnswer_of_position hposition])), ?_,
      fun j hj => ?_, s.joinQueue_queue i, s.joinQueue_timer i, fun hlost => ⟨?_, ?_⟩, fun hempty => ⟨?_, ?_, ?_⟩, fun hne => ⟨?_, ?_, ?_⟩⟩
    · have hframe := hdid.frame_eq
      have hwitness : (s.joinQueue i).witness = s.witness := hdid.witness_eq
      rwa [s.joinQueue_paths i, hwitness] at hframe
    · rw [State.joinQueue_slot, if_neg hj]
    · refine hdid.admission_waits hlost (i := i) (by simp [State.headPosts]) (decide_eq_true rfl) fun n hn hadm => ?_
      obtain ⟨k, hk, rfl | rfl⟩ := State.mem_headPosts hn
      · cases hadm
      · rw [show k = i from of_decide_eq_true hadm]
    · exact hdid.state_waits hown hlost (by simp [State.headPosts])
    · rw [State.joinQueue_slot, if_pos rfl, if_pos hempty]
    · rw [State.joinQueue_phase, if_pos hempty]
    · rw [State.joinQueue_of_empty hempty]
      exact State.becomeHead_engine (s := (s.updSlot i fun x => { x with outcome := .none }).setQueue [i]) hready.2.1 i
    · rw [State.joinQueue_slot, if_pos rfl, if_neg hne]
    · rw [State.joinQueue_of_ne hne]
      rfl
    · rw [State.joinQueue_of_ne hne]
      rfl

/-! ### A debt cleared (R132) -/

theorem State.debtCleared_of_last {s : State} (hphase : s.arbiter.phase = some .confirming) (h : ∀ i, (s.slot i).debt = false) :
    s.debtCleared = s.grant .byConfirmation := by
  rw [State.debtCleared, if_pos hphase, if_pos ((State.debtSet_isEmpty_iff s).2 h)]

theorem State.debtCleared_of_more {s : State} (hphase : s.arbiter.phase = some .confirming) (h : ∃ i, (s.slot i).debt = true) {k : SlotId}
    {rest : List SlotId} (hqueue : s.arbiter.queue = k :: rest) : s.debtCleared = s.postAdmission k none := by
  have hnonempty : ¬s.debtSet.isEmpty = true := fun hempty => by
    obtain ⟨i, hi⟩ := h
    rw [(State.debtSet_isEmpty_iff s).1 hempty i] at hi
    cases hi
  rw [State.debtCleared, if_pos hphase, if_neg hnonempty, hqueue]

theorem State.queue_of_confirming {s : State} (hh : s.HandoverSound) (h : s.arbiter.phase = some .confirming) :
    ∃ k rest, s.arbiter.queue = k :: rest := by
  refine List.exists_cons_of_ne_nil fun hempty => ?_
  rw [hh.1.2 hempty] at h
  cases h

end Sys2Proof.Machine
end

section
/-! SUPPORT. REPORT (R88 to R93). -/

namespace Sys2Proof.Machine

/-! ### A change of a slot's causes, then more -/

/-- Where a slot's record changed with its report first, and what was posted later is what the records give at the end, the CLAMP copy was sent and the CLAMP
notice waits. -/
theorem State.Did.clamp_of_change {s t : State} {i : SlotId} {y : Slot} {more : List Notice} {event : ClampEvent}
    {report : Option (Level × Nat × Level)} {n : Nat}
    (h : s.Did t (clampPosts i (s.slot i) y ++ more) (clampCopies s.clock i (s.slot i) y event report) n) (hslot : t.slot i = y)
    (hport : y.port = (s.slot i).port) (hmore : ∀ m ∈ more, t.OwnNotice m) :
    t.witness = (if (t.slot i).causes = (s.slot i).causes then s.witness else (s.send (clampCopy s.clock i (s.slot i) y event report)).witness) ∧
      ((t.slot i).causes ≠ (s.slot i).causes → t.notices.lost = false → t.clampNotice i ∈ t.notices.notices) := by
  subst hslot
  refine ⟨?_, fun hcauses hlost => ?_⟩
  · rw [h.witness_eq]
    split
    · rename_i hcauses
      rw [clampCopies_of_same (Slot.sameClamp_of_causes_eq hcauses hport)]
      rfl
    · rename_i hcauses
      rw [clampCopies_of_ne hcauses]
      rfl
  · refine h.clamp_waits (fun m hm => ?_) hlost ?_
    · rcases List.mem_append.1 hm with hm | hm
      · rw [mem_clampPosts hm, ← State.clampNotice_eq]
        exact .clamp i
      · exact hmore m hm
    · rw [clampPosts_of_ne hcauses]
      exact List.mem_append_left _ (List.mem_singleton_self _)

theorem State.HandoverSound.confirming_of_debt {s : State} (hh : s.HandoverSound) {i : SlotId} (hi : (s.slot i).debt = true) :
    s.arbiter.phase = some .confirming := hh.2.2.1.2 ⟨i, hi⟩

/-! ### The record after a report -/

theorem Slot.confirms_eq (x : Slot) (level serial : Nat) : x.confirms level serial = decide (serial = x.serial ∧ level ≤ x.published) := by
  simp [Slot.confirms, Bool.decide_and, Bool.beq_eq_decide_eq]

/-- The state after the record of a REPORT and its CLAMP posts, before what the arbiter does. -/
def State.reportTaken (s : State) (i : SlotId) (a : ReportArgs) : State :=
  s.updClamped i (fun y => y.reported s.site (saturate a.level) a.serial) .report
    (some (saturate a.level, a.serial, (s.slot i).judgementLimit a.serial))

/-- The state after a REPORT: what the arbiter does of a debt cleared comes last. -/
def State.reportDone (s : State) (i : SlotId) (a : ReportArgs) : State :=
  if (s.slot i).debt && (s.slot i).confirms (saturate a.level) a.serial then (s.reportTaken i a).debtCleared else s.reportTaken i a

theorem takeReport_eq (s : State) (i : SlotId) (a : ReportArgs) :
    State.takeReport a i s = (s.reportDone i a, .done ((s.reportDone i a).reportItems i)) := rfl

theorem State.reportTaken_slot (s : State) (i j : SlotId) (a : ReportArgs) :
    (s.reportTaken i a).slot j = if j = i then (s.slot i).reported s.site (saturate a.level) a.serial else s.slot j :=
  (State.updClamped_slot s i j _ .report _).trans (State.slot_updSlot s i j _)

theorem State.reportTaken_arbiter (s : State) (i : SlotId) (a : ReportArgs) : (s.reportTaken i a).arbiter = s.arbiter := State.updClamped_arbiter ..

theorem State.Did.of_reportTaken (s : State) (i : SlotId) (a : ReportArgs) :
    let y := (s.slot i).reported s.site (saturate a.level) a.serial
    s.Did (s.reportTaken i a) (clampPosts i (s.slot i) y)
      (clampCopies s.clock i (s.slot i) y .report (some (saturate a.level, a.serial, (s.slot i).judgementLimit a.serial))) 0 :=
  State.Did.of_updClamped s i _ .report _

theorem Slot.reported_eq (x : Slot) (site : Site) (level serial : Nat) : x.reported site level serial =
    let isOver := (if serial = x.serial then x.published else max x.published x.previous) + site.tolerance < level
    let confirms := serial = x.serial ∧ level ≤ x.published
    let overCount := if isOver then min 32 (x.overCount + 1) else 0
    let goodCount := if isOver then 0 else min 255 (x.goodCount + 1)
    { x with
      lastLevel := some level
      reportAge := some 0
      stale := false
      overCount := overCount
      goodCount := goodCount
      causes :=
        { hasOver := if isOver then x.causes.hasOver || decide (site.overLimit ≤ overCount)
                     else x.causes.hasOver && decide (goodCount < site.releaseCount)
          hasStale := x.causes.hasStale && !x.stale
          hasHandover := x.causes.hasHandover && !decide confirms
          hasConsole := x.causes.hasConsole }
      debt := x.debt && !decide confirms } := by
  by_cases hover : (if serial = x.serial then x.published else max x.published x.previous) + site.tolerance < level
  · simp only [Slot.reported, Slot.judgedOver, Slot.judgementLimit, Slot.nextOver, Slot.nextGood, Slot.nextHasOver, Slot.confirms_eq, hover, decide_true,
      if_true]
  · have hgood (g : Nat) : (!decide (site.releaseCount ≤ g)) = decide (g < site.releaseCount) := by rw [← decide_not]; simp only [Nat.not_le]
    simp only [Slot.reported, Slot.judgedOver, Slot.judgementLimit, Slot.nextOver, Slot.nextGood, Slot.nextHasOver, Slot.confirms_eq, hover, decide_false,
      Bool.false_eq_true, if_false, hgood]

/-! ### A debt cleared, with what it posts (R132) -/

theorem State.not_queued_of_live {s : State} (hq : s.QueueSound) {i : SlotId} (hi : (s.slot i).state = .live) : i ∉ s.arbiter.queue := fun hmem => by
  have hqueued := (hq.2.1 i).1 hmem
  rw [hi] at hqueued
  cases hqueued

/-- A debt cleared posts what the records at the end give, none of it an ADMISSION notice of a slot outside the queue, and sends nothing; with the last debt
gone it raises triggers, else none. -/
theorem State.Did.of_debtCleared {s : State} (hmode : s.mode ≠ .boot) (hphase : s.arbiter.phase = some .confirming) {k : SlotId} {rest : List SlotId}
    (hqueue : s.arbiter.queue = k :: rest) (hnodup : s.arbiter.queue.Nodup) {i : SlotId} (hi : i ∉ s.arbiter.queue) :
    ∃ more n, s.Did s.debtCleared more [] n ∧ (∀ m ∈ more, s.debtCleared.OwnNotice m ∧ m.isAdmissionOf i = false) ∧
      s.debtCleared.slot i = s.slot i ∧ s.debtCleared.paths = s.paths ∧ (n = 0 ↔ ∃ j, (s.slot j).debt = true) := by
  have hik : k ≠ i := fun h => hi (by rw [hqueue, h]; exact List.mem_cons_self)
  have hinext : rest.head? ≠ some i := fun h => hi (by rw [hqueue]; exact List.mem_cons_of_mem _ (List.mem_of_head? h))
  by_cases hmore : ∃ j, (s.slot j).debt = true
  · rw [State.debtCleared_of_more hphase hmore hqueue]
    refine ⟨_, _, (State.Did.refl _).post _, fun m hm => ?_, rfl, rfl, iff_of_true rfl hmore⟩
    rw [List.nil_append, List.mem_singleton] at hm
    exact hm ▸ ⟨.of_admissionNotice _ _ k none, decide_eq_false hik⟩
  · have hnodebt : ∀ j, (s.slot j).debt = false := by simpa using hmore
    rw [State.debtCleared_of_last hphase hnodebt]
    refine ⟨_, _, (State.Did.of_grant hqueue hnodup .byConfirmation hmode).congr rfl (State.settledCopies_of_no_debt hnodebt) rfl,
      fun m hm => ⟨State.ownNotice_of_grant hqueue _ hm, ?_⟩, ?_, (ArbiterFrame.of_grant _ _).paths_eq, iff_of_false (by omega) hmore⟩
    · rw [State.settledPosts_of_no_debt hnodebt] at hm
      simp only [List.nil_append, List.mem_append, List.mem_cons, List.not_mem_nil, or_false] at hm
      obtain (rfl | rfl) | hm := hm
      · exact decide_eq_false hik
      · rfl
      · obtain ⟨j, hj, rfl | rfl⟩ := State.mem_headPosts hm
        · rfl
        · exact decide_eq_false fun h => hinext (h ▸ hj)
    · rw [State.grant_slot_ne hqueue _ (Ne.symm hik), if_neg hinext, Slot.settled_of_no_debt (hnodebt i)]

/-! ### What follows the record -/

section reportDone
variable {s : State} {i : SlotId} {a : ReportArgs}

theorem State.reportTaken_slot_ne {j : SlotId} (hj : j ≠ i) : (s.reportTaken i a).slot j = s.slot j := by rw [State.reportTaken_slot, if_neg hj]

theorem State.reportTaken_slot_same : (s.reportTaken i a).slot i = (s.slot i).reported s.site (saturate a.level) a.serial := by
  rw [State.reportTaken_slot, if_pos rfl]

theorem State.reportDone_of_not
    (h : (s.slot i).debt = false ∨ ¬(a.serial = (s.slot i).serial ∧ saturate a.level ≤ (s.slot i).published)) :
    s.reportDone i a = s.reportTaken i a := by
  rw [State.reportDone, Slot.confirms_eq]
  refine if_neg fun hcleared => ?_
  rw [Bool.and_eq_true, decide_eq_true_eq] at hcleared
  exact h.elim (fun hdebt => by rw [hdebt] at hcleared; exact Bool.false_ne_true hcleared.1) fun hconfirms => hconfirms hcleared.2

theorem State.reportDone_of_confirmed (hdebt : (s.slot i).debt = true)
    (h : a.serial = (s.slot i).serial ∧ saturate a.level ≤ (s.slot i).published) : s.reportDone i a = (s.reportTaken i a).debtCleared := by
  rw [State.reportDone, Slot.confirms_eq]
  exact if_pos (by simp only [Bool.and_eq_true, decide_eq_true_eq]; exact ⟨hdebt, h⟩)

theorem State.reportDone_of_more (hh : s.HandoverSound) (hdebt : (s.slot i).debt = true)
    (h : a.serial = (s.slot i).serial ∧ saturate a.level ≤ (s.slot i).published) (hmore : ∃ j, j ≠ i ∧ (s.slot j).debt = true) {k : SlotId}
    {rest : List SlotId} (hqueue : s.arbiter.queue = k :: rest) : s.reportDone i a = (s.reportTaken i a).postAdmission k none := by
  obtain ⟨j, hj, hjdebt⟩ := hmore
  have hconfirming := State.HandoverSound.confirming_of_debt hh hdebt
  rw [State.reportDone_of_confirmed hdebt h]
  refine State.debtCleared_of_more ?_ ⟨j, ?_⟩ (rest := rest) ?_
  · rwa [State.reportTaken_arbiter]
  · rwa [State.reportTaken_slot_ne hj]
  · rwa [State.reportTaken_arbiter]

theorem State.reportTaken_no_debt (h : a.serial = (s.slot i).serial ∧ saturate a.level ≤ (s.slot i).published)
    (hlast : ∀ j, j ≠ i → (s.slot j).debt = false) (j : SlotId) : ((s.reportTaken i a).slot j).debt = false := by
  by_cases hj : j = i
  · rw [hj, State.reportTaken_slot_same]
    simp [Slot.reported, Slot.confirms_eq, h]
  · rw [State.reportTaken_slot_ne hj, hlast j hj]

theorem State.reportDone_of_last (hh : s.HandoverSound) (hdebt : (s.slot i).debt = true)
    (h : a.serial = (s.slot i).serial ∧ saturate a.level ≤ (s.slot i).published) (hlast : ∀ j, j ≠ i → (s.slot j).debt = false) :
    s.reportDone i a = (s.reportTaken i a).grant .byConfirmation := by
  have hconfirming := State.HandoverSound.confirming_of_debt hh hdebt
  rw [State.reportDone_of_confirmed hdebt h]
  exact State.debtCleared_of_last (by rwa [State.reportTaken_arbiter]) (State.reportTaken_no_debt h hlast)

/-- After the record a REPORT posts what the records at the end give, sends nothing, and leaves the record. -/
theorem State.reportDone_did (hs : s.AdmissionSound) :
    ∃ more n, (s.reportTaken i a).Did (s.reportDone i a) more [] n ∧ (∀ m ∈ more, (s.reportDone i a).OwnNotice m) ∧
      (s.reportDone i a).slot i = (s.reportTaken i a).slot i ∧ (s.reportDone i a).paths = s.paths := by
  obtain ⟨hboot, -, hq, hh⟩ := hs
  have hpaths : (s.reportTaken i a).paths = s.paths := by rw [State.reportTaken, State.updClamped_eq]
  by_cases hcleared : (s.slot i).debt = true ∧ (a.serial = (s.slot i).serial ∧ saturate a.level ≤ (s.slot i).published)
  · obtain ⟨hdebt, hconfirms⟩ := hcleared
    have hconfirming := State.HandoverSound.confirming_of_debt hh hdebt
    obtain ⟨k, rest, hqueue⟩ := State.queue_of_confirming hh hconfirming
    obtain ⟨-, -, -, hlive, -⟩ := hh
    have harbiter := State.reportTaken_arbiter s i a
    have hmode : (s.reportTaken i a).mode ≠ .boot := by
      rw [(State.Did.of_reportTaken s i a).mode_eq]
      exact State.mode_ne_boot_of_queue hboot hqueue
    obtain ⟨more, n, hdid, hmore, hslot, hafter, -⟩ := State.Did.of_debtCleared (s := s.reportTaken i a) hmode (i := i) (rest := rest) (k := k)
      (by rw [harbiter]; exact hconfirming) (by rw [harbiter]; exact hqueue) (by rw [harbiter]; exact hq.1)
      (by rw [harbiter]; exact State.not_queued_of_live hq (hlive i hdebt))
    rw [State.reportDone_of_confirmed hdebt hconfirms]
    exact ⟨more, n, hdid, fun m hm => (hmore m hm).1, hslot, hafter.trans hpaths⟩
  · rw [State.reportDone_of_not (by rwa [not_and_or, Bool.not_eq_true] at hcleared)]
    exact ⟨[], 0, .refl _, fun m hm => absurd hm List.not_mem_nil, rfl, hpaths⟩

end reportDone

theorem answered_report {s : State} {p : Port} (tag : Nat) (a : ReportArgs) {i : SlotId} (hready : s.Ready p) (hp : p ≠ 0)
    (hbind : s.BindingsSound) (hi : (s.slot i).port = some p) :
    Answered (.report p tag (.whole a)) s (s.reportDone i a) p 0x02 tag (.done ((s.reportDone i a).reportItems i)) := by
  refine answered_of_stage hready hp rfl ?_
  exact (forBoundSlot_of_bound hbind hp hi _).trans (takeReport_eq s i a)

/-- Settles O38, by whether the report clears a debt, and by whether debts remain. -/
theorem reportIsJudgedAgainstItsLimit : Obligations.ReportIsJudgedAgainstItsLimit := by
  rintro s p tag a hready hp hs
  have hsound := hs
  obtain ⟨hboot, hbind, hq, hh⟩ := hsound
  refine ⟨fun hnone => answered_of_stage hready hp rfl (forBoundSlot_of_none hnone _), fun i hi => ?_⟩
  obtain ⟨more, n, hafter, hown, hkept, hpaths⟩ := State.reportDone_did (i := i) (a := a) hs
  have hrecord := State.Did.of_reportTaken s i a
  have hslot : (s.reportDone i a).slot i = (s.slot i).reported s.site (saturate a.level) a.serial := hkept.trans State.reportTaken_slot_same
  have hdid := (hrecord.trans hafter).congr rfl (List.append_nil _) rfl
  obtain ⟨hwitness, hclamp⟩ := hdid.clamp_of_change hslot rfl hown
  have hengine : (s.reportTaken i a).engine = s.engine := hrecord.triggered
  refine ⟨s.reportDone i a, ?_, ?_, hslot.trans (Slot.reported_eq ..), ?_, hclamp, fun h => ?_, fun hdebt hconfirms hmore hlost k hk => ?_,
    fun h => ?_, fun hdebt hconfirms hlast k rest hqueue => ?_⟩
  · have hanswered := answered_report tag a hready hp hbind hi
    have hitems : (s.reportDone i a).reportItems i = .report i (s.slot i).published (s.slot i).serial (s.slot i).state
        ((s.reportDone i a).slot i).causes ((s.reportDone i a).slot i).debt (s.slot i).outcome := by
      rw [State.reportItems, hslot]
      rfl
    rwa [hitems] at hanswered
  · have hframe := hdid.frame_eq
    rwa [hpaths] at hframe
  · rw [hwitness, hslot]
    rfl
  · rw [hslot, State.clampNotice_eq, hslot, State.reportDone_of_not h, hrecord.notices_eq]
    split
    · rename_i hcauses
      rw [clampPosts_of_same (Slot.sameClamp_of_causes_eq hcauses rfl)]
      rfl
    · rename_i hcauses
      rw [clampPosts_of_ne hcauses]
      rfl
  · obtain ⟨rest, hqueue⟩ : ∃ rest, s.arbiter.queue = k :: rest := List.head?_eq_some_iff.1 hk
    have ht := State.reportDone_of_more hh hdebt hconfirms hmore hqueue
    rw [ht] at hlost ⊢
    exact NoticeQueue.mem_post hlost
  · rcases or_assoc.2 h with h | hmore
    · rw [State.reportDone_of_not h]
      exact ⟨fun j hj => State.reportTaken_slot_ne hj, State.reportTaken_arbiter s i a, hengine⟩
    · by_cases hcleared : (s.slot i).debt = true ∧ (a.serial = (s.slot i).serial ∧ saturate a.level ≤ (s.slot i).published)
      · obtain ⟨hdebt, hconfirms⟩ := hcleared
        obtain ⟨k, rest, hqueue⟩ := State.queue_of_confirming hh (State.HandoverSound.confirming_of_debt hh hdebt)
        rw [State.reportDone_of_more hh hdebt hconfirms hmore hqueue]
        exact ⟨fun j hj => State.reportTaken_slot_ne hj, State.reportTaken_arbiter s i a, hengine⟩
      · rw [State.reportDone_of_not (by rwa [not_and_or, Bool.not_eq_true] at hcleared)]
        exact ⟨fun j hj => State.reportTaken_slot_ne hj, State.reportTaken_arbiter s i a, hengine⟩
  · have hmode : (s.reportTaken i a).mode ≠ .boot := by
      rw [hrecord.mode_eq]
      exact State.mode_ne_boot_of_queue hboot hqueue
    have hqueue' : (s.reportTaken i a).arbiter.queue = k :: rest := by rwa [State.reportTaken_arbiter]
    have hnodup : (s.reportTaken i a).arbiter.queue.Nodup := by rw [State.reportTaken_arbiter]; exact hq.1
    have hnodebt := State.reportTaken_no_debt hconfirms hlast
    have hki : k ≠ i := fun h => by
      have hkdebt := State.head_no_debt hq hh hqueue
      rw [h, hdebt] at hkdebt
      cases hkdebt
    have hgranted := State.grant_headGranted hqueue' hnodup .byConfirmation hmode (hnodebt k)
    have hraised := State.grant_triggersRaised hqueue' hnodup .byConfirmation hmode
    rw [State.HeadGranted, State.reportTaken_slot_ne hki] at hgranted
    rw [State.TriggersRaised, State.AnyTrigger, hengine] at hraised
    rw [State.reportDone_of_last hh hdebt hconfirms hlast]
    refine ⟨hgranted, hraised, fun j hji hjk => ?_⟩
    rw [State.grant_slot_ne hqueue' _ hjk, Slot.settled_of_no_debt (hnodebt j), State.reportTaken_slot_ne hji]

end Sys2Proof.Machine
end

section
/-! SUPPORT. A slot that ages out at once after what settled it (R81): what it leaves of the notices, the copies and the other slots. -/

namespace Sys2Proof.Machine

/-! ### What an emptying posts and sends -/

theorem Slot.sameClamp_emptied_iff (x : Slot) : x.SameClamp x.emptied ↔ x.causes = causesNone := by
  refine ⟨fun h => h.1.symm, fun h => ⟨h.symm, ?_⟩⟩
  simp [Slot.lineAsserted, Slot.emptied, h, Causes.any, causesNone]

theorem clampPosts_emptied (i : SlotId) (x : Slot) :
    clampPosts i x x.emptied = if x.causes = causesNone then [] else [x.emptied.clampNotice i] := by
  simp only [clampPosts, Slot.sameClamp_emptied_iff]

theorem clampCopies_emptied (c : Clock) (i : SlotId) (x : Slot) : clampCopies c i x x.emptied .empty none =
    if x.causes = causesNone then [] else [.clamp i none x.causes causesNone false .empty none c.minute c.second none] := by
  simp only [clampCopies, Slot.sameClamp_emptied_iff]
  rfl

/-! ### One slot ages out, or does not -/

section age
variable {s : State} {i : SlotId} {ages : Bool} (hages : s.ageDue i = ages)
include hages

theorem State.ageSlot_of : s.ageSlot i = if ages then s.emptySlot i else s := by rw [State.ageSlot, hages]

theorem State.Did.of_ageSlot (hmode : s.mode ≠ .boot) : s.Did (s.ageSlot i) (if ages then bindingPosts i (s.slot i) (s.slot i).emptied else [])
    (if ages then clampCopies s.clock i (s.slot i) (s.slot i).emptied .empty none else []) (if ages then 1 else 0) := by
  rw [State.ageSlot_of hages]
  cases ages with
  | true => exact State.Did.of_emptySlot hmode i
  | false => exact State.Did.refl s

theorem State.ageSlot_slot_same : (s.ageSlot i).slot i = if ages then (s.slot i).afterEmptying else s.slot i := by
  rw [State.ageSlot_of hages]
  cases ages with
  | true => exact s.emptySlot_slot_same i
  | false => rfl

omit hages in
theorem State.ageSlot_slot_ne {j : SlotId} (hj : j ≠ i) : (s.ageSlot i).slot j = s.slot j := by
  unfold State.ageSlot
  split
  · exact s.emptySlot_slot_ne hj
  · rfl

theorem State.ageSlot_path (p : PathPos) : (s.ageSlot i).path p = (s.path p).bind fun e => if ages = true ∧ e.slot = i then none else some e := by
  rw [State.ageSlot_of hages]
  cases ages with
  | true => rw [if_pos rfl, State.emptySlot_path]; simp only [true_and]
  | false => simp

omit hages in
theorem State.ageSlot_arbiter : (s.ageSlot i).arbiter = { s.arbiter with passSinceHead := (s.ageSlot i).arbiter.passSinceHead } := by
  unfold State.ageSlot
  split
  · exact congrArg State.arbiter (s.emptySlot_frame i)
  · rfl

omit hages in
theorem State.ageSlot_queue : (s.ageSlot i).arbiter.queue = s.arbiter.queue := by rw [State.ageSlot_arbiter]

omit hages in
/-- A slot without a debt that ages out changes no debt. -/
theorem State.ageSlot_debtSet (hdebt : (s.slot i).debt = false) : (s.ageSlot i).debtSet = s.debtSet := by
  refine List.filter_congr fun j _ => ?_
  by_cases hj : j = i
  · subst hj
    rw [State.ageSlot_slot_same rfl, hdebt]
    split
    · rfl
    · exact hdebt
  · rw [State.ageSlot_slot_ne hj]

omit hages in
theorem State.ageSlot_admissionNotice (hdebt : (s.slot i).debt = false) {j : SlotId} (hj : j ≠ i) (m : Option Manner) :
    (s.ageSlot i).admissionNotice j m = s.admissionNotice j m := by
  simp only [State.admissionNotice, State.queuePosition, State.ageSlot_queue, State.ageSlot_slot_ne hj, State.ageSlot_debtSet hdebt]
  rw [State.ageSlot_arbiter]

theorem State.ownNotice_of_ageSlot {n : Notice} (hn : n ∈ if ages then bindingPosts i (s.slot i) (s.slot i).emptied else []) : (s.ageSlot i).OwnNotice n := by
  cases ages with
  | false => cases hn
  | true =>
    have hslot : (s.ageSlot i).slot i = (s.slot i).emptied := State.ageSlot_slot_same hages
    rcases List.mem_cons.1 hn with rfl | hn
    · rw [← hslot]; exact .state i
    · rw [mem_clampPosts hn, ← hslot]; exact .clamp i

/-- The notices of an ageing are of its own slot. -/
theorem State.ageSlot_keeps_notice (hmode : s.mode ≠ .boot) {k : Notice} (hk : k ∈ s.notices.notices)
    (hother : ∀ x y : Slot, k.sameSubject (x.stateNotice i) = false ∧ k.sameSubject (y.clampNotice i) = false) :
    k ∈ (s.ageSlot i).notices.notices := by
  rw [(State.Did.of_ageSlot hages hmode).notices_eq]
  refine NoticeQueue.mem_postAll_of_mem hk fun m hm hsame => ?_
  cases ages with
  | false => cases hm
  | true =>
    rcases List.mem_cons.1 hm with rfl | hm
    · rw [(hother _ (s.slot i)).1] at hsame; cases hsame
    · rw [mem_clampPosts hm, (hother (s.slot i) _).2] at hsame; cases hsame

theorem State.ageSlot_keeps_admission (hmode : s.mode ≠ .boot) {k : Notice} {j : SlotId} (hk : k.isAdmissionOf j = true) (h : k ∈ s.notices.notices) :
    k ∈ (s.ageSlot i).notices.notices :=
  State.ageSlot_keeps_notice hages hmode h fun _ _ => ⟨sameSubject_admission hk _, sameSubject_admission hk _⟩

theorem State.ageSlot_keeps_state (hmode : s.mode ≠ .boot) {j : SlotId} (hj : j ≠ i) (h : s.stageStateNotice j ∈ s.notices.notices) :
    (s.ageSlot i).stageStateNotice j ∈ (s.ageSlot i).notices.notices := by
  rw [State.stageStateNotice_congr (State.ageSlot_slot_ne hj)]
  refine State.ageSlot_keeps_notice hages hmode h fun x y => ⟨?_, rfl⟩
  exact (sameSubject_state_state j i _ x).trans (decide_eq_false hj)

theorem State.ageSlot_lost (hmode : s.mode ≠ .boot) (hlost : (s.ageSlot i).notices.lost = false) : s.notices.lost = false :=
  NoticeQueue.lost_of_postAll ((State.Did.of_ageSlot hages hmode).lost_eq_false hlost)

/-- The slot's STAGE_STATE notice waits after it as before. -/
theorem State.ageSlot_stageState_waits (hmode : s.mode ≠ .boot) (h : s.notices.lost = false → s.stageStateNotice i ∈ s.notices.notices)
    (hlost : (s.ageSlot i).notices.lost = false) : (s.ageSlot i).stageStateNotice i ∈ (s.ageSlot i).notices.notices := by
  have hdid := State.Did.of_ageSlot hages hmode
  cases ages with
  | true =>
    have hslot : (s.ageSlot i).slot i = (s.slot i).emptied := State.ageSlot_slot_same hages
    refine hdid.state_waits (fun m hm => State.ownNotice_of_ageSlot hages hm) hlost ?_
    rw [State.stageStateNotice_eq, hslot]
    exact List.mem_cons_self
  | false =>
    have hsame : s.ageSlot i = s := State.ageSlot_of hages
    rw [hsame] at hlost ⊢
    exact h hlost

/-- So does the CLAMP notice of a slot that keeps its record, or that has causes to lose. -/
theorem State.ageSlot_clamp_waits (hmode : s.mode ≠ .boot) (h : s.notices.lost = false → ages = false → s.clampNotice i ∈ s.notices.notices)
    (hcauses : ages = true → (s.slot i).causes ≠ causesNone) (hlost : (s.ageSlot i).notices.lost = false) :
    (s.ageSlot i).clampNotice i ∈ (s.ageSlot i).notices.notices := by
  have hdid := State.Did.of_ageSlot hages hmode
  cases ages with
  | true =>
    have hslot : (s.ageSlot i).slot i = (s.slot i).emptied := State.ageSlot_slot_same hages
    refine hdid.clamp_waits (fun m hm => State.ownNotice_of_ageSlot hages hm) hlost ?_
    rw [State.clampNotice_eq, hslot, if_pos rfl, bindingPosts, clampPosts_emptied, if_neg (hcauses rfl)]
    exact List.mem_cons_of_mem _ List.mem_cons_self
  | false =>
    have hsame : s.ageSlot i = s := State.ageSlot_of hages
    rw [hsame] at hlost ⊢
    exact h hlost rfl

/-- The CLAMP notice of a slot that ages out with no cause stays as it was posted. -/
theorem State.ageSlot_keeps_clamp (hmode : s.mode ≠ .boot) (h : s.clampNotice i ∈ s.notices.notices) (hcauses : (s.slot i).causes = causesNone) :
    s.clampNotice i ∈ (s.ageSlot i).notices.notices := by
  rw [(State.Did.of_ageSlot hages hmode).notices_eq]
  refine NoticeQueue.mem_postAll_of_mem h fun m hm hsame => ?_
  cases ages with
  | false => cases hm
  | true =>
    rw [if_pos rfl, bindingPosts, clampPosts_emptied, if_pos hcauses, List.mem_singleton] at hm
    rw [hm] at hsame
    cases hsame

end age

/-! ### What a grant leaves after the ageing of another slot -/

section headAged
variable {u : State} {i : SlotId} {ages : Bool}

theorem State.headPosted_ageSlot (hages : u.ageDue i = ages) (hmode : u.mode ≠ .boot) (hdebt : (u.slot i).debt = false) {head : Option SlotId}
    (hhead : head ≠ some i) (h : u.HeadPosted head) : (u.ageSlot i).HeadPosted head := fun hlost j hj => by
  have hne : j ≠ i := fun hji => hhead (hji ▸ hj)
  obtain ⟨hadmission, hstate⟩ := h (State.ageSlot_lost hages hmode hlost) j hj
  refine ⟨?_, State.ageSlot_keeps_state hages hmode hne hstate⟩
  rw [State.ageSlot_admissionNotice hdebt hne]
  exact State.ageSlot_keeps_admission hages hmode (decide_eq_true rfl) hadmission

theorem State.headGranted_ageSlot (hages : u.ageDue i = ages) (hmode : u.mode ≠ .boot) (hdebt : (u.slot i).debt = false) {s : State} {k : SlotId}
    {rest : List SlotId} {m : Manner} (hk : k ≠ i) (hhead : rest.head? ≠ some i) (h : s.HeadGranted u k rest m) :
    s.HeadGranted (u.ageSlot i) k rest m := by
  obtain ⟨hqueue, htimer, hphase, hslot, hwaits, hposted⟩ := h
  refine ⟨?_, ?_, ?_, (State.ageSlot_slot_ne hk).trans hslot, fun hlost => ?_, State.headPosted_ageSlot hages hmode hdebt hhead hposted⟩
  · rw [State.ageSlot_arbiter]; exact hqueue
  · rw [State.ageSlot_arbiter]; exact htimer
  · rw [State.ageSlot_arbiter]; exact hphase
  · obtain ⟨hadmission, hstate⟩ := hwaits (State.ageSlot_lost hages hmode hlost)
    rw [State.ageSlot_admissionNotice hdebt hk]
    exact ⟨State.ageSlot_keeps_admission hages hmode (decide_eq_true rfl) hadmission, State.ageSlot_keeps_state hages hmode hk hstate⟩

end headAged

end Sys2Proof.Machine
end

section
/-! SUPPORT. GO QUIET and FORCE QUIET (R135 to R138). -/

namespace Sys2Proof.Machine

/-! ### The ADMISSION notice of a slot outside the queue -/

theorem State.admissionNotice_of_not_queued {s : State} {i : SlotId} (hi : i ∉ s.arbiter.queue) (m : Option Manner) :
    s.admissionNotice i m = .admission i (s.slot i).state (s.slot i).outcome none s.arbiter.queue.length none m := by
  have hindex : s.arbiter.queue.idxOf? i = none := List.idxOf?_eq_none_iff.2 hi
  have hhead : s.arbiter.queue.head? ≠ some i := fun h => hi (List.mem_of_head? h)
  simp [State.admissionNotice, State.queuePosition, hindex, hhead]

/-! ### A slot that has just become QUIET, and what ageing does of it -/

/-- The conditions of R81 for a slot that has become QUIET, read from its record before. -/
def State.quietAges (s : State) (i : SlotId) : Bool :=
  (s.slot i).kind == .openKind && (s.slot i).published == 0 && (s.slot i).port.isSome &&
    (s.slot i).reportAge.any fun a => decide (1000 * s.site.ageTime ≤ a)

theorem State.ageDue_of_quiet {s u : State} {i : SlotId} (hsite : u.site = s.site) (hstate : (u.slot i).state = .quiet)
    (hkind : (u.slot i).kind = (s.slot i).kind) (hpub : (u.slot i).published = (s.slot i).published) (hport : (u.slot i).port = (s.slot i).port)
    (hage : (u.slot i).reportAge = (s.slot i).reportAge) : u.ageDue i = s.quietAges i := by
  simp only [State.ageDue, State.mayAgeOut, Slot.settledQuiet, State.ageMs, State.quietAges, hsite, hstate, hkind, hpub, hport, hage]
  cases (s.slot i).reportAge <;> simp

theorem State.ageSlot_witness {u v : State} {i : SlotId} {ages : Bool} (hages : u.ageDue i = ages) (hmode : u.mode ≠ .boot)
    (hwitness : u.witness = v.witness) (hsite : u.site = v.site) (hclock : u.clock = v.clock) :
    (u.ageSlot i).witness = (if ages && (u.slot i).causes != causesNone then
      v.send (.clamp i none (u.slot i).causes causesNone false .empty none v.clock.minute v.clock.second none) else v).witness := by
  rw [(State.Did.of_ageSlot hages hmode).witness_eq, clampCopies_emptied, hclock]
  cases ages with
  | false => exact hwitness
  | true =>
    by_cases hcauses : (u.slot i).causes = causesNone
    · simp only [hcauses, if_true, bne_self_eq_false, Bool.and_false, Bool.false_eq_true, if_false]
      exact hwitness
    · simp only [hcauses, if_true, if_false, bne_iff_ne.2 hcauses, Bool.and_self]
      exact State.sendAll_witness_congr hwitness hsite hclock _

theorem Slot.afterEmptying_of_not_entering {x : Slot} (h : x.prospective = none) : x.afterEmptying =
    { slotDefault with weight := x.weight, stageMax := x.stageMax, published := x.published, previous := x.previous, serial := x.serial } := by
  rw [Slot.afterEmptying, h]
  rfl

/-! ### What the withdrawals do -/

section withdraw
variable {s : State} {i : SlotId}

theorem State.Did.of_withdrawWaiting (o : Admission) : s.Did (s.withdrawWaiting i o)
    [(s.withdrawWaiting i o).stageStateNotice i, (s.withdrawWaiting i o).admissionNotice i none] [] 0 :=
  (((((State.Did.refl s).setArbiter _).updSlot i _).post _).post _)

/-- A trigger, then the next member becomes the head. -/
theorem State.Did.trigger_promote {c : State} {ns : List Notice} {cs : List Copy} {n : Nat} (hc : s.Did c ns cs n) (hmode : s.mode ≠ .boot) :
    s.Did c.trigger.promote (ns ++ c.trigger.promote.headPosts c.arbiter.queue.head?) cs (n + 1 + if c.arbiter.queue = [] then 0 else 1) := by
  have htriggered := hc.trigger hmode
  have hpromote := State.Did.of_promote (s := c.trigger) (htriggered.mode_eq ▸ hmode)
  rw [State.trigger_queue] at hpromote
  exact (htriggered.trans hpromote).congr rfl (List.append_nil _) rfl

theorem State.Did.of_withdrawHead (hmode : s.mode ≠ .boot) (o : Admission) (hnodup : s.arbiter.queue.Nodup) {rest : List SlotId}
    (hqueue : s.arbiter.queue = i :: rest) :
    s.Did (s.withdrawHead i o)
      ([(s.withdrawHead i o).stageStateNotice i, (s.withdrawHead i o).admissionNotice i none] ++ (s.withdrawHead i o).headPosts rest.head?) []
      (1 + if rest = [] then 0 else 1) := by
  have herase : s.arbiter.queue.erase i = rest := by rw [hqueue, List.erase_cons_head]
  have hnext := State.head_not_next hqueue hnodup
  obtain ⟨a, ha, haq, haslot⟩ : ∃ a : State, s.Did a [] [] 0 ∧ a.arbiter.queue = rest ∧
      s.withdrawHead i o = (((a.postStageState i).postAdmission i none).trigger).promote :=
    ⟨(s.stopTimer.clearDebts.setQueue (s.arbiter.queue.erase i)).updSlot i fun x => { x with state := .quiet, prospective := none, outcome := o },
      ((((State.Did.refl s).setArbiter _).updSlots _).setArbiter _).updSlot i _, herase, rfl⟩
  rw [haslot]
  have hdid := ((ha.post (a.stageStateNotice i)).post ((a.postStageState i).admissionNotice i none)).trigger_promote hmode
  have hqueue_c : ((a.postStageState i).postAdmission i none).trigger.arbiter.queue = rest := (State.trigger_queue _).trans haq
  have hslot : (((a.postStageState i).postAdmission i none).trigger.promote).slot i = a.slot i := by
    rw [State.promote_slot, hqueue_c, if_neg hnext, State.slot_of_trigger, State.postAdmission_slot, State.postStageState_slot]
  refine hdid.congr ?_ rfl ?_
  · rw [State.stageStateNotice_congr (s := a) hslot, State.admissionNotice_congr (s := a.postStageState i) hslot
      (by rw [State.promote_queue, hqueue_c]; exact haq.symm) (by rw [State.postStageState_arbiter, haq]; exact hnext)]
    exact congrArg (fun q : List SlotId => _ ++ State.headPosts _ q.head?) haq
  · exact congrArg (fun q : List SlotId => 1 + if q = [] then 0 else 1) haq

end withdraw

/-! ### Leaving LIVE (R135) -/

section leave
variable {s : State} {i : SlotId} {forced : Bool}

theorem State.Did.of_leftLive (hmode : s.mode ≠ .boot) :
    s.Did (s.leftLive i forced)
      (clampPosts i (s.slot i) ((s.slot i).leftLive forced) ++
        ((s.leftLive i forced).stageStateNotice i :: if forced then [(s.leftLive i forced).admissionNotice i none] else []))
      (clampCopies s.clock i (s.slot i) ((s.slot i).leftLive forced) .leaveLive none) 1 := by
  obtain ⟨a, ha, heq⟩ : ∃ a : State,
      s.Did a (clampPosts i (s.slot i) ((s.slot i).leftLive forced)) (clampCopies s.clock i (s.slot i) ((s.slot i).leftLive forced) .leaveLive none) 1 ∧
        s.leftLive i forced = if forced then (a.postStageState i).postAdmission i none else a.postStageState i :=
    ⟨_, (State.Did.of_updClamped s i (·.leftLive forced) .leaveLive none).trigger hmode, rfl⟩
  rw [heq]
  cases forced with
  | false => exact ha.post _
  | true => exact ((ha.post _).post _).congr (List.append_assoc ..) rfl rfl

theorem State.leftLive_slot_same : (s.leftLive i forced).slot i = (s.slot i).leftLive forced := by rw [State.leftLive_slot, if_pos rfl]

theorem State.leftLive_slot_ne {j : SlotId} (hj : j ≠ i) : (s.leftLive i forced).slot j = s.slot j := by rw [State.leftLive_slot, if_neg hj]

theorem State.leftLive_paths : (s.leftLive i forced).paths = s.paths := by
  have hclamped : (s.updClamped i (·.leftLive forced) .leaveLive none).trigger.paths = s.paths := by rw [State.trigger_eq, State.updClamped_eq]
  cases forced <;> exact hclamped

theorem State.leftLive_arbiter : (s.leftLive i forced).arbiter = { s.arbiter with passSinceHead := (s.leftLive i forced).arbiter.passSinceHead } := by
  have hqueue := State.leftLive_queue s i forced
  have hphase := State.leftLive_phase s i forced
  have htimer := State.leftLive_timer s i forced
  cases harbiter : (s.leftLive i forced).arbiter
  simp_all

/-- The leaver's debt, if it had one, has been cleared: what the arbiter does of it posts what the records at the end give, and leaves the leaver's. -/
theorem State.Did.of_leaveLive (hboot : s.BootSound) (hq : s.QueueSound) (hh : s.HandoverSound) (hlive : (s.slot i).state = .live) :
    ∃ more n, (s.leftLive i forced).Did (s.leaveLive i forced) more [] n ∧
      (∀ m ∈ more, (s.leaveLive i forced).OwnNotice m ∧ m.isAdmissionOf i = false) ∧
      (s.leaveLive i forced).slot i = (s.slot i).leftLive forced ∧ (s.leaveLive i forced).paths = s.paths ∧
      (n = 0 ↔ (s.slot i).debt = false ∨ ∃ j, j ≠ i ∧ (s.slot j).debt = true) := by
  rw [State.leaveLive_eq]
  by_cases hdebt : (s.slot i).debt = true
  · have hconfirming := State.HandoverSound.confirming_of_debt hh hdebt
    obtain ⟨k, rest, hqueue⟩ := State.queue_of_confirming hh hconfirming
    have hmode := State.mode_ne_boot_of_queue hboot hqueue
    obtain ⟨more, n, hdid, hmore, hslot, hpaths, hn⟩ := State.Did.of_debtCleared (s := s.leftLive i forced) (i := i) (rest := rest) (k := k)
      ((State.Did.of_leftLive hmode).mode_eq ▸ hmode) (by rw [State.leftLive_phase]; exact hconfirming) (by rw [State.leftLive_queue]; exact hqueue)
      (by rw [State.leftLive_queue]; exact hq.1) (by rw [State.leftLive_queue]; exact State.not_queued_of_live hq hlive)
    rw [if_pos hdebt]
    refine ⟨more, n, hdid, hmore, hslot.trans State.leftLive_slot_same, hpaths.trans State.leftLive_paths, hn.trans ?_⟩
    refine ⟨fun ⟨j, hj⟩ => ?_, fun h => h.elim (fun h => absurd h (by rw [hdebt]; decide)) fun ⟨j, hji, hj⟩ => ⟨j, by rwa [State.leftLive_slot_ne hji]⟩⟩
    by_cases hji : j = i
    · rw [hji, State.leftLive_slot_same] at hj
      cases hj
    · exact .inr ⟨j, hji, by rwa [State.leftLive_slot_ne hji] at hj⟩
  · rw [if_neg hdebt]
    exact ⟨[], 0, .refl _, fun m hm => absurd hm List.not_mem_nil, State.leftLive_slot_same, State.leftLive_paths,
      iff_of_true rfl (.inl (Bool.eq_false_iff.2 hdebt))⟩

/-- What the arbiter makes of the leaver's debt. -/
theorem State.leaveLive_of_not (h : (s.slot i).debt = false) : s.leaveLive i forced = s.leftLive i forced := by
  rw [State.leaveLive_eq, h]
  rfl

theorem State.leaveLive_of_more (hh : s.HandoverSound) (hdebt : (s.slot i).debt = true) (hmore : ∃ j, j ≠ i ∧ (s.slot j).debt = true) {k : SlotId}
    {rest : List SlotId} (hqueue : s.arbiter.queue = k :: rest) : s.leaveLive i forced = (s.leftLive i forced).postAdmission k none := by
  obtain ⟨j, hj, hjdebt⟩ := hmore
  rw [State.leaveLive_eq, if_pos hdebt]
  refine State.debtCleared_of_more ?_ ⟨j, ?_⟩ (rest := rest) ?_
  · rw [State.leftLive_phase]; exact State.HandoverSound.confirming_of_debt hh hdebt
  · rwa [State.leftLive_slot_ne hj]
  · rwa [State.leftLive_queue]

theorem State.leftLive_no_debt (hlast : ∀ j, j ≠ i → (s.slot j).debt = false) (j : SlotId) : ((s.leftLive i forced).slot j).debt = false := by
  by_cases hj : j = i
  · rw [hj, State.leftLive_slot_same]; rfl
  · rw [State.leftLive_slot_ne hj, hlast j hj]

theorem State.leaveLive_of_last (hh : s.HandoverSound) (hdebt : (s.slot i).debt = true) (hlast : ∀ j, j ≠ i → (s.slot j).debt = false) :
    s.leaveLive i forced = (s.leftLive i forced).grant .byConfirmation := by
  rw [State.leaveLive_eq, if_pos hdebt]
  refine State.debtCleared_of_last ?_ (State.leftLive_no_debt hlast)
  rw [State.leftLive_phase]; exact State.HandoverSound.confirming_of_debt hh hdebt

end leave

/-! ### The requests -/

theorem takeQuiet_of_quiet {s : State} {i : SlotId} (h : (s.slot i).state = .quiet) (forced : Bool) :
    State.takeQuiet forced i s = (s, .done (.slotState .quiet)) := by
  simp only [State.takeQuiet, State.quietSlot, h, if_true]

theorem takeQuiet_of_ne {s : State} {i : SlotId} {forced : Bool} (h : (s.slot i).state ≠ .quiet) (hquiet : ((s.quietSlot i forced).slot i).state = .quiet) :
    State.takeQuiet forced i s = ((s.quietSlot i forced).ageSlot i, .done (.slotState .quiet)) := by
  simp only [State.takeQuiet, h, hquiet, if_false]

/-- The two requests are answered by `takeQuiet`, and an EMPTY slot by NO_SUCH. -/
theorem answered_quiet {s : State} {c : Instr} {p : Port} {kind tag : Nat} {outcome : Admission} {i : SlotId} (hready : s.Ready p) (hbind : s.BindingsSound)
    (h : (c = .goQuiet p tag ∧ p ≠ 0 ∧ kind = 0x04 ∧ outcome = .withdrawn ∧ (s.slot i).port = some p) ∨
      (c = .forceQuiet 0 tag (.whole (i.val + 1)) ∧ p = 0 ∧ kind = 0x24 ∧ outcome = .forcedQuiet)) :
    ∃ forced, outcome = (if forced then .forcedQuiet else .withdrawn) ∧
      ((s.slot i).state = .empty → Answered c s s p kind tag (.refused .noSuch)) ∧
      ∀ t a, (s.slot i).state ≠ .empty → State.takeQuiet forced i s = (t, a) → Answered c s t p kind tag a := by
  rcases h with ⟨rfl, hp, rfl, rfl, hport⟩ | ⟨rfl, rfl, rfl, rfl⟩
  · refine ⟨false, rfl, fun hempty => ?_, fun t a _ h => answered_of_stage hready hp rfl ((forBoundSlot_of_bound hbind hp hport _).trans h)⟩
    have hbound : (s.slot i).port = none := by
      obtain ⟨hopen, hfixed, -, -⟩ := hbind.1 i
      cases hkind : (s.slot i).kind with
      | openKind => exact ((hopen hkind).2.1 hempty)
      | fixed => exact absurd hempty (hfixed hkind).2
    rw [hport] at hbound
    cases hbound
  · refine ⟨true, rfl, fun hempty => answered_of_ready hready rfl ?_, fun t a hne h => answered_of_occupied hready rfl hne h⟩
    simp only [forOccupied, slotOf_succ, hempty]
    rfl

end Sys2Proof.Machine
end

section
/-! SUPPORT. GO QUIET and FORCE QUIET put together (R135 to R138). -/

namespace Sys2Proof.Machine

/-- The paths after an ageing that follows what left them alone. -/
theorem State.ageSlot_path_of {s u : State} {i : SlotId} {ages : Bool} (hages : u.ageDue i = ages) (hpaths : u.paths = s.paths) (q : PathPos) :
    (u.ageSlot i).path q = (s.path q).bind fun e => if ages = true ∧ e.slot = i then none else some e := by
  rw [State.ageSlot_path hages, State.path, hpaths]
  rfl

/-- The record after an ageing of a slot without a prospective ceiling. -/
theorem State.ageSlot_settled {u : State} {i : SlotId} {ages : Bool} (hages : u.ageDue i = ages) {y : Slot} (hslot : u.slot i = y)
    (hprospective : y.prospective = none) : (u.ageSlot i).slot i = if ages then
      { slotDefault with weight := y.weight, stageMax := y.stageMax, published := y.published, previous := y.previous, serial := y.serial } else y := by
  rw [State.ageSlot_slot_same hages, hslot, Slot.afterEmptying_of_not_entering hprospective]

theorem State.TriggeredTimes.raised_eq {s t : State} {n : Nat} (h : s.TriggeredTimes t n) (hn : n ≠ 0) {again : Bool} (hagain : decide (2 ≤ n) = again) :
    s.TriggersRaised t again := hagain ▸ h.raised hn

theorem State.isAdmissionOf_self (s : State) (i : SlotId) (m : Option Manner) : (s.admissionNotice i m).isAdmissionOf i = true := decide_eq_true rfl

/-- What the new head posted last waits, if no ADMISSION notice of it was posted before. -/
theorem State.Did.headPosted {s t : State} {before : List Notice} {cs : List Copy} {n : Nat} {head : Option SlotId}
    (h : s.Did t (before ++ t.headPosts head) cs n) (hown : ∀ m ∈ before, t.OwnNotice m) (hbefore : ∀ j ∈ head, ∀ m ∈ before, m.isAdmissionOf j = false) :
    t.HeadPosted head := fun hlost j hj => by
  have hposted : t.headPosts head = [t.stageStateNotice j, t.admissionNotice j none] := by rw [Option.mem_def.1 hj]; rfl
  rw [hposted] at h
  refine ⟨h.admission_waits hlost (i := j) (by simp) (State.isAdmissionOf_self ..) fun m hm hadm => ?_, h.state_waits (fun m hm => ?_) hlost (by simp)⟩
  · simp only [List.mem_append, List.mem_cons, List.not_mem_nil, or_false] at hm
    obtain hm | rfl | rfl := hm
    · rw [hbefore j hj m hm] at hadm; cases hadm
    · cases hadm
    · rfl
  · simp only [List.mem_append, List.mem_cons, List.not_mem_nil, or_false] at hm
    obtain hm | rfl | rfl := hm
    · exact hown m hm
    · exact .state j
    · exact .of_admissionNotice _ _ j none

theorem Slot.sameClamp_leftLive_iff (x : Slot) (forced : Bool) : x.SameClamp (x.leftLive forced) ↔ x.causes.hasHandover = false := by
  refine ⟨fun h => by rw [← h.1]; rfl, fun h => Slot.sameClamp_of_causes_eq ?_ rfl⟩
  rw [Slot.leftLive, ← h]

theorem Slot.leftLive_causes_ne {x : Slot} (h : x.causes.hasHandover = true) (forced : Bool) : (x.leftLive forced).causes ≠ x.causes := fun heq => by
  rw [← heq] at h
  cases h

section leave
variable {s : State} {i : SlotId}

/-- What a slot that leaves LIVE posts and sends: its CLAMP notice and copy first, then what the records at the end give. -/
theorem State.leaveLive_did (hmode : s.mode ≠ .boot) (hboot : s.BootSound) (hq : s.QueueSound) (hh : s.HandoverSound) (hlive : (s.slot i).state = .live)
    (forced : Bool) :
    ∃ tail n, s.Did (s.leaveLive i forced) (clampPosts i (s.slot i) ((s.slot i).leftLive forced) ++ tail)
        (clampCopies s.clock i (s.slot i) ((s.slot i).leftLive forced) .leaveLive none) (1 + n) ∧
      (∀ m ∈ tail, (s.leaveLive i forced).OwnNotice m) ∧ (s.leaveLive i forced).stageStateNotice i ∈ tail ∧
      (forced = true → Notice.admission i .quiet .forcedQuiet none s.arbiter.queue.length none none ∈ tail) ∧
      (∀ m ∈ tail, m.isAdmissionOf i = true → m = .admission i .quiet ((s.slot i).leftLive forced).outcome none s.arbiter.queue.length none none) ∧
      (s.leaveLive i forced).slot i = (s.slot i).leftLive forced ∧ (s.leaveLive i forced).paths = s.paths ∧
      (n = 0 ↔ (s.slot i).debt = false ∨ ∃ j, j ≠ i ∧ (s.slot j).debt = true) := by
  obtain ⟨more, n, hmore, hposts, hslot, hpaths, hn⟩ := State.Did.of_leaveLive (forced := forced) hboot hq hh hlive
  have hdid := ((State.Did.of_leftLive (i := i) (forced := forced) hmode).trans hmore).congr (List.append_assoc ..) (List.append_nil _) rfl
  have hstate : (s.leftLive i forced).stageStateNotice i = (s.leaveLive i forced).stageStateNotice i :=
    (State.stageStateNotice_congr (hslot.trans State.leftLive_slot_same.symm)).symm
  have hadmission : (s.leftLive i forced).admissionNotice i none =
      .admission i .quiet ((s.slot i).leftLive forced).outcome none s.arbiter.queue.length none none := by
    rw [State.admissionNotice_of_not_queued (by rw [State.leftLive_queue]; exact State.not_queued_of_live hq hlive), State.leftLive_slot_same,
      State.leftLive_queue]
    rfl
  rw [hstate, hadmission] at hdid
  refine ⟨_, n, hdid, fun m hm => ?_, List.mem_cons_self, fun hforced => ?_, fun m hm hadm => ?_, hslot, hpaths, hn⟩
  · simp only [List.cons_append, List.mem_cons, List.mem_append] at hm
    obtain rfl | hm | hm := hm
    · exact .state i
    · cases forced with
      | false => cases hm
      | true => rw [List.mem_singleton.1 hm]; exact .admission i (decide_eq_true rfl)
    · exact (hposts m hm).1
  · subst hforced
    exact List.mem_cons_of_mem _ List.mem_cons_self
  · simp only [List.cons_append, List.mem_cons, List.mem_append] at hm
    obtain rfl | hm | hm := hm
    · cases hadm
    · cases forced with
      | false => cases hm
      | true => exact List.mem_singleton.1 hm
    · rw [(hposts m hm).2] at hadm; cases hadm

end leave

/-- With no debt of its own, or with debts remaining, the leaver leaves the other slots and the arbiter as they were. -/
theorem State.leaveLive_others {s : State} {i : SlotId} {forced : Bool} (hh : s.HandoverSound)
    (h : (s.slot i).debt = false ∨ ∃ j, j ≠ i ∧ (s.slot j).debt = true) :
    (∀ j, j ≠ i → (s.leaveLive i forced).slot j = s.slot j) ∧
      (s.leaveLive i forced).arbiter = { s.arbiter with passSinceHead := (s.leaveLive i forced).arbiter.passSinceHead } := by
  by_cases hdebt : (s.slot i).debt = true
  · have hmore : ∃ j, j ≠ i ∧ (s.slot j).debt = true := h.resolve_left (by rw [hdebt]; decide)
    obtain ⟨k, rest, hqueue⟩ := State.queue_of_confirming hh (State.HandoverSound.confirming_of_debt hh hdebt)
    rw [State.leaveLive_of_more hh hdebt hmore hqueue]
    exact ⟨fun j hj => State.leftLive_slot_ne hj, State.leftLive_arbiter⟩
  · rw [State.leaveLive_of_not (Bool.eq_false_iff.2 hdebt)]
    exact ⟨fun j hj => State.leftLive_slot_ne hj, State.leftLive_arbiter⟩

/-- Settles O40, by the state of the slot. -/
theorem quietTakesASlotOutOfPlay : Obligations.QuietTakesASlotOutOfPlay := by
  rintro s c p kind tag outcome i hready ⟨hboot, hbind, hq, hh⟩ hc
  obtain ⟨forced, houtcome, hempty, hanswered⟩ := answered_quiet hready hbind hc
  refine ⟨hempty, fun hquiet => hanswered _ _ (by rw [hquiet]; decide) (takeQuiet_of_quiet hquiet forced), fun hne hnq => ?_⟩
  have hmode := hready.2.1
  have hages_eq : ((s.slot i).kind == .openKind && (s.slot i).published == 0 && (s.slot i).port.isSome &&
    (s.slot i).reportAge.any fun a => decide (1000 * s.site.ageTime ≤ a)) = s.quietAges i := rfl
  dsimp only
  rw [hages_eq]
  have hanswer {u : State} (hquietSlot : s.quietSlot i forced = u) (hstate : (u.slot i).state = .quiet) :
      Answered c s (u.ageSlot i) p kind tag (.done (.slotState .quiet)) := by
    subst hquietSlot
    exact hanswered _ _ hne (takeQuiet_of_ne hnq hstate)
  have hprospective (h : (s.slot i).state ≠ .entering) : (s.slot i).prospective = none := by
    obtain ⟨-, -, -, -, hentering⟩ := hh
    exact Option.not_isSome_iff_eq_none.1 fun hsome => h (hentering i hsome)
  cases hstate : (s.slot i).state with
  | empty => exact absurd hstate hne
  | quiet => exact absurd hstate hnq
  | waiting =>
    have hquietSlot : s.quietSlot i forced = s.withdrawWaiting i outcome := by simp only [State.quietSlot, hstate, houtcome]
    have hslot : (s.withdrawWaiting i outcome).slot i = { s.slot i with state := .quiet, outcome := outcome } := by
      rw [State.withdrawWaiting_slot, if_pos rfl]
    have hages : (s.withdrawWaiting i outcome).ageDue i = s.quietAges i :=
      State.ageDue_of_quiet rfl (by rw [hslot]) (by rw [hslot]) (by rw [hslot]) (by rw [hslot]) (by rw [hslot])
    have hdid := State.Did.of_withdrawWaiting (s := s) (i := i) outcome
    have hout : i ∉ (s.withdrawWaiting i outcome).arbiter.queue := by
      rw [State.withdrawWaiting_arbiter]
      exact fun h => (hq.1.mem_erase_iff.1 h).1 rfl
    have hboth := hdid.trans (State.Did.of_ageSlot hages hmode)
    have hown : ∀ m ∈ [(s.withdrawWaiting i outcome).stageStateNotice i, (s.withdrawWaiting i outcome).admissionNotice i none],
        (s.withdrawWaiting i outcome).OwnNotice m := by
      simp only [List.mem_cons, List.not_mem_nil, or_false, forall_eq_or_imp, forall_eq]
      exact ⟨.state i, .of_admissionNotice _ _ i none⟩
    refine ⟨(s.withdrawWaiting i outcome).ageSlot i, hanswer hquietSlot (by rw [hslot]), hboth.frame_eq, State.ageSlot_path_of hages rfl,
      State.ageSlot_stageState_waits hages hmode fun hlost => hdid.state_waits hown hlost List.mem_cons_self, fun _ => ?_,
      fun _ h => absurd h (by decide), fun h => absurd h (by decide)⟩
    refine ⟨?_, fun hnot => ⟨?_, ?_⟩, fun hdue => ?_, ?_, fun hlost => ?_, State.ageSlot_settled hages hslot (hprospective (by rw [hstate]; decide)),
      fun j hj => ?_⟩
    · rw [State.ageSlot_arbiter, State.withdrawWaiting_arbiter]
    · rw [State.ageSlot_of hages, hnot]
      rfl
    · rw [State.ageSlot_of hages, hnot]
      rfl
    · rw [hdue] at hboth
      exact hboth.triggered.raised_eq (by simp) rfl
    · have hw := State.ageSlot_witness (v := s) hages hmode hdid.witness_eq rfl rfl
      rwa [hslot] at hw
    · have hwaits := hdid.admission_waits (State.ageSlot_lost hages hmode hlost) (k := (s.withdrawWaiting i outcome).admissionNotice i none) (i := i)
        (List.mem_cons_of_mem _ List.mem_cons_self) (decide_eq_true rfl) fun m hm hadm => by
          simp only [List.mem_cons, List.not_mem_nil, or_false] at hm
          rcases hm with rfl | rfl
          · cases hadm
          · rfl
      have hkept := State.ageSlot_keeps_admission hages hmode (State.isAdmissionOf_self ..) hwaits
      rw [State.admissionNotice_of_not_queued hout, hslot] at hkept
      rwa [State.ageSlot_queue]
    · rw [State.ageSlot_slot_ne hj, State.withdrawWaiting_slot, if_neg hj]
  | entering =>
    have hquietSlot : s.quietSlot i forced = s.withdrawHead i outcome := by simp only [State.quietSlot, hstate, houtcome]
    obtain ⟨rest, hqueue⟩ : ∃ rest, s.arbiter.queue = i :: rest := List.head?_eq_some_iff.1 ((hq.2.2 i).1 hstate)
    have hnext := State.head_not_next hqueue hq.1
    have herase : s.arbiter.queue.erase i = rest := by rw [hqueue, List.erase_cons_head]
    have hslot : (s.withdrawHead i outcome).slot i =
        { s.slot i with state := .quiet, outcome := outcome, prospective := none, debt := false } := by
      rw [State.withdrawHead_slot, herase]
      simp only [hnext, if_true, if_false]
    have hother {j : SlotId} (hj : j ≠ i) : (s.withdrawHead i outcome).slot j =
        { s.slot j with state := if rest.head? = some j then .entering else (s.slot j).state, debt := false } := by
      rw [State.withdrawHead_slot, herase]
      simp only [hj, if_false]
      split <;> rfl
    have hdid := State.Did.of_withdrawHead hmode outcome hq.1 hqueue
    have hages : (s.withdrawHead i outcome).ageDue i = s.quietAges i :=
      State.ageDue_of_quiet hdid.site_eq (by rw [hslot]) (by rw [hslot]) (by rw [hslot]) (by rw [hslot]) (by rw [hslot])
    have hmode' : (s.withdrawHead i outcome).mode ≠ .boot := hdid.mode_eq ▸ hmode
    have hrest : (s.withdrawHead i outcome).arbiter.queue = rest := (State.withdrawHead_queue ..).trans herase
    have hout : i ∉ (s.withdrawHead i outcome).arbiter.queue := by rw [hrest]; exact (List.nodup_cons.1 (hqueue ▸ hq.1)).1
    have hpaths : (s.withdrawHead i outcome).paths = s.paths := (hquietSlot ▸ ArbiterFrame.of_quietSlot s i forced : ArbiterFrame s _).paths_eq
    have hboth := hdid.trans (State.Did.of_ageSlot hages hmode')
    have hown : ∀ m ∈ [(s.withdrawHead i outcome).stageStateNotice i, (s.withdrawHead i outcome).admissionNotice i none] ++
        (s.withdrawHead i outcome).headPosts rest.head?, (s.withdrawHead i outcome).OwnNotice m := fun m hm => by
      simp only [List.mem_append, List.mem_cons, List.not_mem_nil, or_false] at hm
      obtain (rfl | rfl) | hm := hm
      · exact .state i
      · exact .of_admissionNotice _ _ i none
      · exact State.ownNotice_of_headPosts hm
    refine ⟨(s.withdrawHead i outcome).ageSlot i, hanswer hquietSlot (by rw [hslot]), hboth.frame_eq, State.ageSlot_path_of hages hpaths,
      State.ageSlot_stageState_waits hages hmode' fun hlost => hdid.state_waits hown hlost (List.mem_append_left _ List.mem_cons_self),
      fun h => absurd h (by decide), fun rest' _ hqueue' => ?_, fun h => absurd h (by decide)⟩
    obtain rfl : rest = rest' := (List.cons.inj (hqueue.symm.trans hqueue')).2
    refine ⟨State.ageSlot_queue.trans hrest, ?_, ?_, ?_, ?_, fun hlost => ?_, ?_, State.ageSlot_settled hages hslot rfl, fun j hj => ?_⟩
    · rw [State.ageSlot_arbiter, State.withdrawHead_timer]
    · rw [State.ageSlot_arbiter, State.withdrawHead_phase, herase]
    · refine hboth.triggered.raised_eq (by omega) ?_
      cases rest <;> cases s.quietAges i <;> rfl
    · have hw := State.ageSlot_witness (v := s) hages hmode' hdid.witness_eq hdid.site_eq hdid.clock_eq
      rwa [hslot] at hw
    · have hwaits := hdid.admission_waits (State.ageSlot_lost hages hmode' hlost) (k := (s.withdrawHead i outcome).admissionNotice i none) (i := i)
        (List.mem_append_left _ (List.mem_cons_of_mem _ List.mem_cons_self)) (State.isAdmissionOf_self ..) fun m hm hadm => by
          simp only [List.mem_append, List.mem_cons, List.not_mem_nil, or_false] at hm
          obtain (rfl | rfl) | hm := hm
          · cases hadm
          · rfl
          · obtain ⟨j, hj, rfl | rfl⟩ := State.mem_headPosts hm
            · cases hadm
            · exact absurd (of_decide_eq_true hadm ▸ hj) hnext
      have hkept := State.ageSlot_keeps_admission hages hmode' (State.isAdmissionOf_self ..) hwaits
      rwa [State.admissionNotice_of_not_queued hout, hslot, hrest] at hkept
    · refine State.headPosted_ageSlot hages hmode' (by rw [hslot]) hnext (hdid.headPosted (fun m hm => hown m (List.mem_append_left _ hm)) ?_)
      intro j hj m hm
      simp only [List.mem_cons, List.not_mem_nil, or_false] at hm
      obtain rfl | rfl := hm
      · rfl
      · exact decide_eq_false fun h => hnext (h ▸ hj)
    · rw [State.ageSlot_slot_ne hj, hother hj]
  | live =>
    have hquietSlot : s.quietSlot i forced = s.leaveLive i forced := by simp only [State.quietSlot, hstate]
    obtain ⟨tail, n, hdid, hown, htail, hforcedTail, honly, hslot, hpaths, hn⟩ := State.leaveLive_did hmode hboot hq hh hstate forced
    have hages : (s.leaveLive i forced).ageDue i = s.quietAges i :=
      State.ageDue_of_quiet hdid.site_eq (by rw [hslot]; rfl) (by rw [hslot]; rfl) (by rw [hslot]; rfl) (by rw [hslot]; rfl) (by rw [hslot]; rfl)
    have hmode' : (s.leaveLive i forced).mode ≠ .boot := hdid.mode_eq ▸ hmode
    have hboth := hdid.trans (State.Did.of_ageSlot hages hmode')
    obtain ⟨hwitness, hclamp⟩ := hdid.clamp_of_change hslot rfl hown
    have hcausesSlot : ((s.leaveLive i forced).slot i).causes = { (s.slot i).causes with hasHandover := false } := by rw [hslot]; rfl
    have hnone : (s.slot i).prospective = none := hprospective (by rw [hstate]; decide)
    have hownAll : ∀ m ∈ clampPosts i (s.slot i) ((s.slot i).leftLive forced) ++ tail, (s.leaveLive i forced).OwnNotice m := fun m hm => by
      rcases List.mem_append.1 hm with hm | hm
      · rw [mem_clampPosts hm, ← hslot]; exact .clamp i
      · exact hown m hm
    have hnodebt : ((s.leaveLive i forced).slot i).debt = false := by rw [hslot]; rfl
    refine ⟨(s.leaveLive i forced).ageSlot i, hanswer hquietSlot (by rw [hslot]; rfl), hboth.frame_eq, State.ageSlot_path_of hages hpaths,
      State.ageSlot_stageState_waits hages hmode' fun hlost => hdid.state_waits hownAll hlost (List.mem_append_right _ htail),
      fun h => absurd h (by decide), fun _ h => absurd h (by decide), fun _ => ?_⟩
    refine ⟨?_, ?_, fun hlost hor => ?_, fun hlost hforced => ?_, fun h => ⟨fun j hj => ?_, ?_, ?_⟩, fun hdebt hmore hlost k hk => ?_,
      fun hdebt hlast k rest hqueue => ⟨?_, ?_, fun j hji hjk => ?_⟩⟩
    · rw [State.ageSlot_settled hages hslot hnone]
      cases forced <;> simp only [houtcome, Slot.leftLive] <;> rfl
    · obtain ⟨w, hw⟩ : ∃ w, w = if (s.slot i).causes.hasHandover then
          s.send (.clamp i (s.slot i).port (s.slot i).causes { (s.slot i).causes with hasHandover := false }
            ({ s.slot i with causes := { (s.slot i).causes with hasHandover := false } } : Slot).lineAsserted .leaveLive (s.slot i).lastLevel
            s.clock.minute s.clock.second none)
        else s := ⟨_, rfl⟩
      have hsite : w.site = s.site := by rw [hw]; split <;> [rw [State.send_eq]; rfl]
      have hclock : w.clock = s.clock := by rw [hw]; split <;> [rw [State.send_eq]; rfl]
      have hsent : (s.leaveLive i forced).witness = w.witness := by
        rw [hwitness, hslot, hw]
        by_cases hhand : (s.slot i).causes.hasHandover = true
        · rw [if_neg (Slot.leftLive_causes_ne hhand forced), if_pos hhand]
          rfl
        · rw [if_pos ((Slot.sameClamp_leftLive_iff _ forced).2 (Bool.eq_false_iff.2 hhand)).1, if_neg hhand]
      have hgone := State.ageSlot_witness hages hmode' hsent (hdid.site_eq.trans hsite.symm) (hdid.clock_eq.trans hclock.symm)
      rw [hcausesSlot, hclock] at hgone
      subst hw
      exact hgone
    · have hposted (hhand : (s.slot i).causes.hasHandover = true) :
          (s.leaveLive i forced).clampNotice i ∈ (s.leaveLive i forced).notices.notices :=
        hclamp (hslot ▸ Slot.leftLive_causes_ne hhand forced) (State.ageSlot_lost hages hmode' hlost)
      split
      · rename_i hnow
        obtain ⟨hdue, hleft⟩ := hnow
        have hhand : (s.slot i).causes.hasHandover = true := hor.resolve_right fun h => h.2 hleft
        have hkept := State.ageSlot_keeps_clamp hages hmode' (hposted hhand) (hcausesSlot.trans hleft)
        have hnotice : (s.leaveLive i forced).clampNotice i = .clamp i { (s.slot i).causes with hasHandover := false } false (s.slot i).port
            (s.slot i).overCount (s.slot i).goodCount (s.slot i).stale (s.slot i).lastLevel := by
          have hline : ((s.slot i).leftLive forced).lineAsserted = false := by
            rw [Slot.lineAsserted, show ((s.slot i).leftLive forced).causes = causesNone from hleft]
            exact Bool.and_false _
          rw [State.clampNotice_eq, hslot, Slot.clampNotice, hline]
          rfl
        rwa [hnotice] at hkept
      · rename_i hnow
        refine State.ageSlot_clamp_waits hages hmode' (fun _ hnot => hposted ?_) (fun hdue hleft => hnow ⟨hdue, hcausesSlot.symm.trans hleft⟩) hlost
        exact hor.resolve_right fun h => Bool.false_ne_true (hnot.symm.trans h.1)
    · have hforce : forced = true := by
        cases forced with
        | true => rfl
        | false => rw [houtcome] at hforced; cases hforced
      refine State.ageSlot_keeps_admission hages hmode' (decide_eq_true rfl) (hdid.admission_waits (State.ageSlot_lost hages hmode' hlost)
        (List.mem_append_right _ (hforcedTail hforce)) (decide_eq_true rfl) fun m hm hadm => ?_)
      rcases List.mem_append.1 hm with hm | hm
      · rw [mem_clampPosts hm] at hadm; cases hadm
      · rw [honly m hm hadm, hforce]
        rfl
    · rw [State.ageSlot_slot_ne hj, (State.leaveLive_others hh h).1 j hj]
    · rw [State.ageSlot_arbiter, (State.leaveLive_others hh h).2]
    · refine hboth.triggered.raised_eq (by omega) ?_
      rw [hn.2 h]
      cases s.quietAges i <;> rfl
    · obtain ⟨rest, hqueue⟩ : ∃ rest, s.arbiter.queue = k :: rest := List.head?_eq_some_iff.1 hk
      have hki : k ≠ i := fun h => State.not_queued_of_live hq hstate (by rw [hqueue, h]; exact List.mem_cons_self)
      rw [State.ageSlot_admissionNotice hnodebt hki]
      refine State.ageSlot_keeps_admission hages hmode' (State.isAdmissionOf_self ..) ?_
      have hlost' := State.ageSlot_lost hages hmode' hlost
      rw [State.leaveLive_of_more hh hdebt hmore hqueue] at hlost' ⊢
      exact NoticeQueue.mem_post hlost'
    · have hki : k ≠ i := fun h => State.not_queued_of_live hq hstate (by rw [hqueue, h]; exact List.mem_cons_self)
      have hinext : rest.head? ≠ some i := fun h =>
        State.not_queued_of_live hq hstate (by rw [hqueue]; exact List.mem_cons_of_mem _ (List.mem_of_head? h))
      refine State.headGranted_ageSlot hages hmode' hnodebt hki hinext ?_
      have hgranted := State.grant_headGranted (s := s.leftLive i forced) ((State.leftLive_queue ..).trans hqueue)
        (by rw [State.leftLive_queue]; exact hq.1) .byConfirmation (by rw [(State.Did.of_leftLive hmode).mode_eq]; exact hmode)
        (State.leftLive_no_debt hlast k)
      rw [State.HeadGranted, State.leftLive_slot_ne hki] at hgranted
      rw [State.leaveLive_of_last hh hdebt hlast]
      exact hgranted
    · have hpos : n ≠ 0 := fun h => (hn.1 h).elim (fun hnot => by rw [hdebt] at hnot; cases hnot) fun ⟨j, hj, hjdebt⟩ => by
        rw [hlast j hj] at hjdebt; cases hjdebt
      exact hboth.triggered.raised_eq (by omega) (decide_eq_true (by omega))
    · rw [State.ageSlot_slot_ne hji, State.leaveLive_of_last hh hdebt hlast,
        State.grant_slot_ne (s := s.leftLive i forced) ((State.leftLive_queue ..).trans hqueue) _ hjk,
        Slot.settled_of_no_debt (State.leftLive_no_debt hlast j), State.leftLive_slot_ne hji]

end Sys2Proof.Machine
end

section
/-! SUPPORT. ENROL taken (R75 to R80). -/

namespace Sys2Proof.Machine

/-! ### The slot chosen (R80) -/

section chosen
variable {s : State} {bound : Option SlotId} {id : Identity} {i : SlotId}

theorem State.chosenSlot_of_fixed (hbind : s.BindingsSound) (hkind : (s.slot i).kind = .fixed) (hid : (s.slot i).identity = some id)
    (hport : (s.slot i).port = none) : s.chosenSlot bound id = some i := by
  have hfind : (allSlots.find? fun j => (s.slot j).kind == .fixed && (s.slot j).identity == some id && (s.slot j).port.isNone) = some i :=
    find?_finRange_of_unique (by simp [hkind, hid, hport]) fun j hj => hbind.identity_unique (id := id) (by simp at hj; exact hj.1.2) hid
  simp only [State.chosenSlot, hfind]

theorem State.chosenSlot_of_open (hid : ∀ j, (s.slot j).identity ≠ some id) (hkind : (s.slot i).kind = .openKind)
    (hfree : (s.slot i).state = .empty ∨ bound = some i)
    (hfirst : ∀ j, j < i → ¬((s.slot j).kind = .openKind ∧ ((s.slot j).state = .empty ∨ bound = some j))) : s.chosenSlot bound id = some i := by
  have hfixed : (allSlots.find? fun j => (s.slot j).kind == .fixed && (s.slot j).identity == some id && (s.slot j).port.isNone) = none := by
    simp [hid]
  have hopen : (allSlots.find? fun j => (s.slot j).kind == .openKind && ((s.slot j).state == .empty || bound == some j)) = some i :=
    find?_finRange_of_first (by simpa [hkind] using hfree) fun j hj => by
      have := hfirst j hj
      simpa [Bool.eq_false_iff] using this
  simp only [State.chosenSlot, hfixed, hopen]

end chosen

/-! ### The checks passed (R79) -/

theorem enrolSlot_of_taken {s : State} {p : Port} {bound : Option SlotId} {a : EnrolArgs} {i : SlotId}
    (hsettled : ∀ j ∈ bound, (s.slot j).settledQuiet = true) (h : s.chosenSlot bound a.identity = some i) :
    s.enrolSlot p bound a = ((s.releaseSlot bound).bindSlot i p a.identity, ((s.releaseSlot bound).bindSlot i p a.identity).enrolled i a.check) := by
  have hno : ¬(bound.any fun j => !(s.slot j).settledQuiet) = true := by
    rw [Option.any_eq_true]
    exact fun ⟨j, hj, hnot⟩ => by simp [hsettled j hj] at hnot
  simp [State.enrolSlot, hno, h]

/-- An unbound FIXED slot keeps its identity from every other. -/
theorem takeEnrol_of_unbound {s : State} {p : Port} {a : EnrolArgs} {i : SlotId} (hbind : s.BindingsSound) (hid : (s.slot i).identity = some a.identity)
    (hport : (s.slot i).port = none) : s.takeEnrol p a = s.enrolSlot p (s.boundSlot p) a := by
  have hnone {j : SlotId} {q : Port} (hj : (s.slot j).identity = some a.identity) : (s.slot j).port ≠ some q := by
    rw [hbind.identity_unique hj hid, hport]
    exact nofun
  exact takeEnrol_of_not_elsewhere (fun ⟨j, q, hj, hq, _⟩ => hnone hj hq) fun j hq hj => hnone hj hq

theorem takeEnrol_of_unknown {s : State} {p : Port} {a : EnrolArgs} (hid : ∀ j, (s.slot j).identity ≠ some a.identity) :
    s.takeEnrol p a = s.enrolSlot p (s.boundSlot p) a :=
  takeEnrol_of_not_elsewhere (fun ⟨j, _, hj, _⟩ => hid j hj) fun j _ => hid j

/-! ### The record bound (R75) -/

theorem Slot.bound_eq {x : Slot} {id : Identity} (h : x.kind = .fixed → x.identity = some id) (p : Port) : x.bound p id = { x with
    identity := some id
    port := some p
    state := .quiet
    reportAge := some 0
    stale := false
    lastLevel := none
    overCount := 0
    goodCount := 0
    outcome := .none } := by
  cases hkind : x.kind with
  | openKind => simp only [Slot.bound, hkind]
  | fixed => simp only [Slot.bound, hkind, h hkind]

theorem State.bindSlot_slot_same (s : State) (i : SlotId) (p : Port) (id : Identity) : (s.bindSlot i p id).slot i = (s.slot i).bound p id := by
  rw [State.bindSlot_slot, if_pos rfl]

theorem State.bindSlot_slot_ne (s : State) {i j : SlotId} (h : j ≠ i) (p : Port) (id : Identity) : (s.bindSlot i p id).slot j = s.slot j := by
  rw [State.bindSlot_slot, if_neg h]

theorem State.bindSlot_frame (s : State) (i : SlotId) (p : Port) (id : Identity) : s.bindSlot i p id = { s with
    slots := (s.bindSlot i p id).slots, notices := (s.bindSlot i p id).notices, witness := (s.bindSlot i p id).witness } := by
  rw [State.bindSlot_eq]

/-- A change of one slot reported, then the binding of another, against the reports alone. -/
theorem State.Did.samePosts_two {s b t : State} {old i : SlotId} {x y x' y' : Slot} {event event' : ClampEvent} {n m : Nat}
    (h : s.Did b (bindingPosts old x y) (clampCopies s.clock old x y event none) n)
    (k : b.Did t (bindingPosts i x' y') (clampCopies b.clock i x' y' event' none) m) :
    t.SamePosts ((s.reportBinding old x y event).reportBinding i x' y' event') := by
  have hreport := State.Did.of_reportBinding s old x y event
  have hreport' := State.Did.of_reportBinding (s.reportBinding old x y event) i x' y' event'
  rw [hreport.clock_eq] at hreport'
  rw [h.clock_eq] at k
  exact (h.trans k).samePosts (hreport.trans hreport')

theorem State.enrolled_bindSlot (b : State) (i : SlotId) (p : Port) (id : Identity) (check : Nat) :
    (b.bindSlot i p id).enrolled i check = .done (.enrolled i (b.slot i).weight (b.slot i).stageMax check) := by
  rw [State.enrolled, State.bindSlot_slot_same]
  rfl

/-- A slot emptied, then another bound, in the words of the statement. -/
theorem State.emptySlot_bindSlot_frame (s : State) (old i : SlotId) (p : Port) (id : Identity) : (s.emptySlot old).bindSlot i p id = { s with
    slots := ((s.emptySlot old).bindSlot i p id).slots, paths := ((s.emptySlot old).bindSlot i p id).paths
    engine := ((s.emptySlot old).bindSlot i p id).engine
    arbiter := { s.arbiter with passSinceHead := ((s.emptySlot old).bindSlot i p id).arbiter.passSinceHead }
    notices := ((s.emptySlot old).bindSlot i p id).notices, witness := ((s.emptySlot old).bindSlot i p id).witness } := by
  have hbind := (s.emptySlot old).bindSlot_frame i p id
  have hpaths : ((s.emptySlot old).bindSlot i p id).paths = (s.emptySlot old).paths := by rw [State.bindSlot_eq]
  have hengine : ((s.emptySlot old).bindSlot i p id).engine = (s.emptySlot old).engine := by rw [State.bindSlot_eq]
  rw [hpaths, hengine, State.bindSlot_arbiter]
  refine hbind.trans ?_
  have hempty := s.emptySlot_frame old
  generalize s.emptySlot old = b at hempty ⊢
  rw [hempty]

theorem State.emptySlot_bindSlot_pathsLeft (s : State) (old i : SlotId) (p : Port) (id : Identity) :
    s.PathsLeft ((s.emptySlot old).bindSlot i p id) (· == old) := fun q => by
  rw [State.path, State.bindSlot_eq]
  exact s.emptySlot_pathsLeft old q

/-! ### The statement -/

section enrol
variable {s : State} {p : Port} {tag : Nat} {a : EnrolArgs} {i : SlotId}

/-- The answer of an ENROL taken, the port's present slot released first. -/
theorem answered_enrol {bound : Option SlotId} {b : State} (hready : s.Ready p) (hp : p ≠ 0) (htake : s.takeEnrol p a = s.enrolSlot p (s.boundSlot p) a)
    (hbound : s.boundSlot p = bound) (hsettled : ∀ j ∈ bound, (s.slot j).state = .quiet ∧ (s.slot j).published = 0)
    (hchosen : s.chosenSlot bound a.identity = some i) (hrelease : s.releaseSlot bound = b) (hweight : (b.slot i).weight = (s.slot i).weight)
    (hmax : (b.slot i).stageMax = (s.slot i).stageMax) :
    Answered (.enrol p tag (.whole a)) s (b.bindSlot i p a.identity) p 0x01 tag (.done (.enrolled i (s.slot i).weight (s.slot i).stageMax a.check)) := by
  refine answered_of_stage hready hp rfl ?_
  rw [← hweight, ← hmax, ← State.enrolled_bindSlot]
  refine htake.trans ?_
  rw [hbound, enrolSlot_of_taken (fun j hj => (Slot.settledQuiet_eq_true_iff _).2 (hsettled j hj)) hchosen, hrelease]

end enrol

/-- Settles O37: the slot chosen, the port's present slot released where there is one, then the binding. -/
theorem enrolBindsTheChosenSlot : Obligations.EnrolBindsTheChosenSlot := by
  intro s p tag a i hready hp hbind
  have hmode := hready.2.1
  have hlone (hnone : ∀ j, (s.slot j).port ≠ some p) (htake : s.takeEnrol p a = s.enrolSlot p (s.boundSlot p) a)
      (hchosen : s.chosenSlot none a.identity = some i) :=
    answered_enrol (tag := tag) hready hp htake (State.boundSlot_of_none hnone) (by simp) hchosen rfl rfl rfl
  have hsettled {old : SlotId} (hquiet : (s.slot old).state = .quiet) (hpub : (s.slot old).published = 0) :
      ∀ j ∈ some old, (s.slot j).state = .quiet ∧ (s.slot j).published = 0 := by rintro _ ⟨⟩; exact ⟨hquiet, hpub⟩
  refine ⟨fun hnone => ⟨fun hkind hid hport => ?_, fun hkind hempty hfirst hid => ?_⟩, fun old hold hquiet hpub holdKind hchoice => ?_,
    fun old hold hquiet hpub holdKind hkind hid hport => ?_, fun old hold hquiet hpub holdKind hid hle hfree hfirst => ?_⟩
  · refine ⟨s.bindSlot i p a.identity, hlone hnone (takeEnrol_of_unbound hbind hid hport) (State.chosenSlot_of_fixed hbind hkind hid hport), s.bindSlot_frame .., ?_,
      fun j hj => s.bindSlot_slot_ne hj .., ?_⟩
    · rw [State.bindSlot_slot_same, Slot.bound_eq fun _ => hid]
    · rw [State.bindSlot_slot_same]
      exact (State.Did.of_bindSlot s i p a.identity).samePosts_reportBinding
  · refine ⟨s.bindSlot i p a.identity, hlone hnone (takeEnrol_of_unknown hid) (State.chosenSlot_of_open hid hkind (.inl hempty) (by simpa using hfirst)), s.bindSlot_frame .., ?_,
      fun j hj => s.bindSlot_slot_ne hj .., ?_⟩
    · rw [State.bindSlot_slot_same, Slot.bound_eq fun h => by rw [hkind] at h; cases h]
    · rw [State.bindSlot_slot_same]
      exact (State.Did.of_bindSlot s i p a.identity).samePosts_reportBinding
  · have hkinds : i ≠ old := by
      rintro rfl
      rcases hchoice with ⟨-, -, hport⟩ | ⟨hkind, -⟩
      · rw [hold] at hport; cases hport
      · rw [holdKind] at hkind; cases hkind
    have hchosen : s.chosenSlot (some old) a.identity = some i := by
      rcases hchoice with ⟨hkind, hid, hport⟩ | ⟨hkind, hempty, hfirst, hid⟩
      · exact State.chosenSlot_of_fixed hbind hkind hid hport
      · refine State.chosenSlot_of_open hid hkind (.inl hempty) fun j hj hopen => hfirst j hj ⟨hopen.1, hopen.2.resolve_right fun h => ?_⟩
        rw [← Option.some.inj h, holdKind] at hopen
        cases hopen.1
    have htake : s.takeEnrol p a = s.enrolSlot p (s.boundSlot p) a := by
      rcases hchoice with ⟨-, hid, hport⟩ | ⟨-, -, -, hid⟩
      · exact takeEnrol_of_unbound hbind hid hport
      · exact takeEnrol_of_unknown hid
    have hrelease : s.releaseSlot (some old) = s.unbindSlot old := by simp only [State.releaseSlot, holdKind]
    have hslot : (s.unbindSlot old).slot i = s.slot i := by rw [State.unbindSlot_slot, if_neg hkinds]
    have hfixed : (s.slot i).kind = .fixed → (s.slot i).identity = some a.identity := fun hkind =>
      hchoice.elim (fun h => h.2.1) fun h => by rw [h.1] at hkind; cases hkind
    have hunbind := State.Did.of_unbindSlot s old
    have hbound := State.Did.of_bindSlot (s.unbindSlot old) i p a.identity
    rw [hslot] at hbound
    refine ⟨(s.unbindSlot old).bindSlot i p a.identity, answered_enrol hready hp htake (State.boundSlot_of_bound hbind hp hold) (hsettled hquiet hpub)
      hchosen hrelease (by rw [hslot]) (by rw [hslot]), ?_, ?_, ?_, fun j hji hjo => ?_, ?_⟩
    · rw [State.bindSlot_eq, State.unbindSlot_eq]
    · rw [State.bindSlot_slot_same, hslot, Slot.bound_eq hfixed]
    · rw [State.bindSlot_slot_ne _ (Ne.symm hkinds), State.unbindSlot_slot_same]
      rfl
    · rw [State.bindSlot_slot_ne _ hji, State.unbindSlot_slot, if_neg hjo]
    · rw [State.bindSlot_slot_ne _ (Ne.symm hkinds), State.unbindSlot_slot_same, State.bindSlot_slot_same, hslot]
      exact hunbind.samePosts_two hbound
  · have hkinds : i ≠ old := by rintro rfl; rw [hold] at hport; cases hport
    have hrelease : s.releaseSlot (some old) = s.emptySlot old := by simp only [State.releaseSlot, holdKind]
    have hslot : (s.emptySlot old).slot i = s.slot i := s.emptySlot_slot_ne hkinds
    have hempty := State.Did.of_emptySlot hmode old
    have hbound := State.Did.of_bindSlot (s.emptySlot old) i p a.identity
    rw [hslot] at hbound
    refine ⟨(s.emptySlot old).bindSlot i p a.identity, answered_enrol hready hp (takeEnrol_of_unbound hbind hid hport)
      (State.boundSlot_of_bound hbind hp hold) (hsettled hquiet hpub) (State.chosenSlot_of_fixed hbind hkind hid hport) hrelease (by rw [hslot])
      (by rw [hslot]), ?_, ?_, ?_, fun j hji hjo => ?_, (hempty.trans hbound).triggered.raised_eq (by omega) rfl, ?_, ?_⟩
    · exact s.emptySlot_bindSlot_frame old i p a.identity
    · rw [State.bindSlot_slot_same, hslot, Slot.bound_eq fun _ => hid]
    · rw [State.bindSlot_slot_ne _ (Ne.symm hkinds), State.emptySlot_slot_same]
    · rw [State.bindSlot_slot_ne _ hji, State.emptySlot_slot_ne _ hjo]
    · exact s.emptySlot_bindSlot_pathsLeft old i p a.identity
    · rw [State.bindSlot_slot_ne _ (Ne.symm hkinds), State.emptySlot_slot_same, State.bindSlot_slot_same, hslot]
      exact hempty.samePosts_two hbound
  · have hrelease : s.releaseSlot (some old) = s.emptySlot old := by simp only [State.releaseSlot, holdKind]
    have hchosen : s.chosenSlot (some old) a.identity = some i := by
      refine State.chosenSlot_of_open hid ?_ ?_ fun j hj hopen => hfirst j hj ⟨hopen.1, hopen.2.resolve_right fun h => ?_⟩
      · exact hfree.elim (fun h => h ▸ holdKind) (·.1)
      · exact hfree.elim (fun h => .inr (congrArg some h.symm)) fun h => .inl h.2
      · exact absurd (Option.some.inj h ▸ hj) (not_lt.2 hle)
    have hslot : (s.emptySlot old).slot i = if i = old then (s.slot old).afterEmptying else s.slot i := State.emptySlot_slot s old i
    have hopen : ((s.emptySlot old).slot i).kind = .openKind := by
      rw [hslot]
      split
      · rfl
      · exact (hfree.resolve_left ‹_›).1
    have hempty := State.Did.of_emptySlot hmode old
    have hbound := State.Did.of_bindSlot (s.emptySlot old) i p a.identity
    have hkept {β : Type} (f : Slot → β) (h : f (s.slot old).afterEmptying = f (s.slot old)) : f ((s.emptySlot old).slot i) = f (s.slot i) := by
      rw [hslot]
      split
      · rw [h, ‹i = old›]
      · rfl
    refine ⟨(s.emptySlot old).bindSlot i p a.identity, answered_enrol hready hp (takeEnrol_of_unknown hid)
      (State.boundSlot_of_bound hbind hp hold) (hsettled hquiet hpub) hchosen hrelease (hkept Slot.weight rfl) (hkept Slot.stageMax rfl), ?_, ?_,
      fun hne => ?_, fun j hji hjo => ?_, (hempty.trans hbound).triggered.raised_eq (by omega) rfl, ?_, ?_⟩
    · exact s.emptySlot_bindSlot_frame old i p a.identity
    · rw [State.bindSlot_slot_same, Slot.bound_eq fun h => (by rw [hopen] at h; cases h), hslot]
    · rw [State.bindSlot_slot_ne _ (Ne.symm hne), State.emptySlot_slot_same]
    · rw [State.bindSlot_slot_ne _ hji, State.emptySlot_slot_ne _ hjo]
    · exact s.emptySlot_bindSlot_pathsLeft old i p a.identity
    · rw [State.bindSlot_slot_same, hslot] at *
      exact hempty.samePosts_two hbound

end Sys2Proof.Machine
end

section
/-! SUPPORT. Several slots age out one after another (R81), and a removal at curfew (R139, R140). -/

namespace Sys2Proof.Machine

/-! ### Several slots age out -/

/-- The slot record ages out now under the site parameters (R81). -/
def Slot.agesOut (x : Slot) (site : Site) : Bool :=
  x.kind == .openKind && x.settledQuiet && x.port.isSome && x.reportAge.any fun a => decide (1000 * site.ageTime ≤ a)

theorem State.ageDue_eq (s : State) (i : SlotId) : s.ageDue i = (s.slot i).agesOut s.site := by
  unfold State.ageDue State.mayAgeOut Slot.agesOut State.ageMs
  cases (s.slot i).reportAge <;> rfl

/-- What a slot that ages out, if it does, posts and sends. -/
def agedPosts (site : Site) (i : SlotId) (x : Slot) : List Notice := if x.agesOut site then bindingPosts i x x.emptied else []

def agedCopies (site : Site) (c : Clock) (i : SlotId) (x : Slot) : List Copy := if x.agesOut site then clampCopies c i x x.emptied .empty none else []

theorem agedCopies_eq (site : Site) (c : Clock) (i : SlotId) (x : Slot) : agedCopies site c i x =
    if x.agesOut site && x.causes != causesNone then [.clamp i none x.causes causesNone false .empty none c.minute c.second none] else [] := by
  unfold agedCopies
  rw [clampCopies_emptied]
  cases x.agesOut site with
  | false => rfl
  | true => by_cases hcauses : x.causes = causesNone <;> simp [hcauses]

theorem not_isAdmissionOf_agedPosts {site : Site} {i j : SlotId} {x : Slot} {n : Notice} (h : n ∈ agedPosts site i x) : n.isAdmissionOf j = false := by
  unfold agedPosts at h
  split at h
  · rcases List.mem_cons.1 h with rfl | h
    · rfl
    · rw [mem_clampPosts h]; rfl
  · cases h

section ages
variable {v : State} {l : List SlotId}

theorem State.Did.of_ageSlots (hmode : l ≠ [] → v.mode ≠ .boot) (hl : l.Nodup) :
    v.Did (l.foldl State.ageSlot v) (l.flatMap fun i => agedPosts v.site i (v.slot i)) (l.flatMap fun i => agedCopies v.site v.clock i (v.slot i))
        (l.map fun i => if (v.slot i).agesOut v.site then 1 else 0).sum ∧
      ∀ j, (l.foldl State.ageSlot v).slot j = if j ∈ l ∧ (v.slot j).agesOut v.site = true then (v.slot j).afterEmptying else v.slot j := by
  rcases l.eq_nil_or_concat with rfl | hconcat
  · exact ⟨.refl v, fun j => by simp⟩
  have hne : l ≠ [] := by obtain ⟨_, _, rfl⟩ := hconcat; simp
  have h := State.Did.foldl (op := State.ageSlot) (f := fun _ x => if x.agesOut v.site then x.afterEmptying else x)
    (posts := fun i x => agedPosts v.site i x) (copies := fun i x => agedCopies v.site v.clock i x)
    (triggers := fun _ x => if x.agesOut v.site then 1 else 0) v
    (fun u i hclock hsite hmode' => hclock ▸ hsite ▸ State.Did.of_ageSlot (u.ageDue_eq i) (hmode' ▸ hmode hne))
    (fun u i j hsite => by
      by_cases hj : j = i
      · rw [hj, State.ageSlot_slot_same (u.ageDue_eq i), if_pos rfl, hsite]
      · rw [State.ageSlot_slot_ne hj, if_neg hj]) hl
  refine ⟨h.1, fun j => (h.2 j).trans ?_⟩
  by_cases hj : j ∈ l <;> simp [hj]

theorem State.ageSlots_path (hl : l.Nodup) (p : PathPos) : (l.foldl State.ageSlot v).path p =
    (v.path p).bind fun e => if e.slot ∈ l ∧ (v.slot e.slot).agesOut v.site = true then none else some e := by
  induction l generalizing v with
  | nil => simp
  | cons i l ih =>
    obtain ⟨hi, hnodup⟩ := List.nodup_cons.1 hl
    have hsite : (v.ageSlot i).site = v.site := by rcases v.ageSlot_eq i with ⟨h, -⟩ | ⟨h, -⟩ <;> rw [h]; rw [State.emptySlot_eq]
    rw [List.foldl_cons, ih hnodup, State.ageSlot_path (v.ageDue_eq i), hsite]
    cases v.path p with
    | none => rfl
    | some e =>
      by_cases hei : e.slot = i
      · by_cases hdue : (v.slot i).agesOut v.site = true
        · simp [hei, hdue]
        · simp [hei, hdue, hi]
      · simp [hei, State.ageSlot_slot_ne hei]

theorem State.ageSlots_arbiter (l : List SlotId) (v : State) :
    (l.foldl State.ageSlot v).arbiter = { v.arbiter with passSinceHead := (l.foldl State.ageSlot v).arbiter.passSinceHead } := by
  induction l generalizing v with
  | nil => rfl
  | cons i l ih =>
    rw [List.foldl_cons, ih, State.ageSlot_arbiter]

theorem State.ownNotice_of_ageSlots (hmode : l ≠ [] → v.mode ≠ .boot) (hl : l.Nodup) {n : Notice}
    (hn : n ∈ l.flatMap fun i => agedPosts v.site i (v.slot i)) : (l.foldl State.ageSlot v).OwnNotice n := by
  obtain ⟨i, hi, hmem⟩ := List.mem_flatMap.1 hn
  unfold agedPosts at hmem
  split at hmem
  · rename_i hdue
    have hslot : (l.foldl State.ageSlot v).slot i = (v.slot i).emptied := by rw [(State.Did.of_ageSlots hmode hl).2 i, if_pos ⟨hi, hdue⟩, Slot.emptied_eq]
    rcases List.mem_cons.1 hmem with rfl | hmem
    · rw [← hslot]; exact .state i
    · rw [mem_clampPosts hmem, ← hslot]; exact .clamp i
  · cases hmem

/-- Slots without debts that age out change no debt. -/
theorem State.ageSlots_debtSet (hmode : l ≠ [] → v.mode ≠ .boot) (hl : l.Nodup) (hdebt : ∀ i ∈ l, (v.slot i).debt = false) :
    (l.foldl State.ageSlot v).debtSet = v.debtSet := by
  refine List.filter_congr fun j _ => ?_
  rw [(State.Did.of_ageSlots hmode hl).2 j]
  split
  · rename_i h
    rw [hdebt j h.1]
    rfl
  · rfl

theorem State.ageSlots_admissionNotice (hmode : l ≠ [] → v.mode ≠ .boot) (hl : l.Nodup) (hdebt : ∀ i ∈ l, (v.slot i).debt = false) {j : SlotId}
    (hj : j ∉ l) (m : Option Manner) : (l.foldl State.ageSlot v).admissionNotice j m = v.admissionNotice j m := by
  have hslot : (l.foldl State.ageSlot v).slot j = v.slot j := by rw [(State.Did.of_ageSlots hmode hl).2 j, if_neg fun h => hj h.1]
  simp only [State.admissionNotice, State.queuePosition, hslot, State.ageSlots_debtSet hmode hl hdebt]
  rw [State.ageSlots_arbiter]

/-- An ADMISSION notice waits after the ageings as before. -/
theorem State.ageSlots_keeps_admission (hmode : l ≠ [] → v.mode ≠ .boot) (hl : l.Nodup) {k : Notice} {j : SlotId} (hk : k.isAdmissionOf j = true)
    (h : k ∈ v.notices.notices) : k ∈ (l.foldl State.ageSlot v).notices.notices := by
  rw [(State.Did.of_ageSlots hmode hl).1.notices_eq]
  refine NoticeQueue.mem_postAll_of_mem h fun m hm hsame => ?_
  obtain ⟨i, -, hm⟩ := List.mem_flatMap.1 hm
  rw [sameSubject_admission hk, not_isAdmissionOf_agedPosts hm] at hsame
  cases hsame

theorem State.ageSlots_lost (hmode : l ≠ [] → v.mode ≠ .boot) (hl : l.Nodup) (hlost : (l.foldl State.ageSlot v).notices.lost = false) :
    v.notices.lost = false := NoticeQueue.lost_of_postAll ((State.Did.of_ageSlots hmode hl).1.lost_eq_false hlost)

/-- The STAGE_STATE notice of every slot that had one waiting waits, as it is after the ageings. -/
theorem State.ageSlots_stageState_waits (hmode : l ≠ [] → v.mode ≠ .boot) (hl : l.Nodup) {i : SlotId}
    (h : v.stageStateNotice i ∈ v.notices.notices ∨ i ∈ l ∧ (v.slot i).agesOut v.site = true)
    (hlost : (l.foldl State.ageSlot v).notices.lost = false) :
    (l.foldl State.ageSlot v).stageStateNotice i ∈ (l.foldl State.ageSlot v).notices.notices := by
  obtain ⟨hdid, hslots⟩ := State.Did.of_ageSlots hmode hl
  by_cases hdue : i ∈ l ∧ (v.slot i).agesOut v.site = true
  · refine hdid.state_waits (fun m hm => State.ownNotice_of_ageSlots hmode hl hm) hlost (List.mem_flatMap.2 ⟨i, hdue.1, ?_⟩)
    rw [State.stageStateNotice_eq, hslots i, if_pos hdue, agedPosts, if_pos hdue.2]
    exact List.mem_cons_self
  · have hsame : (l.foldl State.ageSlot v).stageStateNotice i = v.stageStateNotice i :=
      State.stageStateNotice_congr (by rw [hslots i, if_neg hdue])
    have hkept : (l.foldl State.ageSlot v).stageStateNotice i ∈ (v.notices.postAll (l.flatMap fun i => agedPosts v.site i (v.slot i))).notices :=
      NoticeQueue.mem_postAll_of_mem (hsame ▸ h.resolve_right hdue) fun m hm hs => (State.ownNotice_of_ageSlots hmode hl hm).eq_state hs
    rwa [← hdid.notices_eq] at hkept

end ages

end Sys2Proof.Machine
end

section
/-! SUPPORT. A removal at curfew (R139, R140): the queue, the records, what is posted and sent, and the ageings after it. -/

namespace Sys2Proof.Machine

/-! ### The members refused -/

/-- What a member removed posts; `left` is the length of the queue it left. -/
def refusalPosts (left : Nat) (i : SlotId) (x : Slot) : List Notice :=
  [x.refusedCurfew.stateNotice i, .admission i .quiet .refusedCurfew none left none none]

theorem State.Did.of_refuseCurfew {s : State} {i : SlotId} (hi : i ∉ s.arbiter.queue) :
    s.Did (s.refuseCurfew i) (refusalPosts s.arbiter.queue.length i (s.slot i)) [] 0 := by
  obtain ⟨a, ha, hslot, hqueue, heq⟩ : ∃ a : State, s.Did a [] [] 0 ∧ a.slot i = (s.slot i).refusedCurfew ∧ a.arbiter.queue = s.arbiter.queue ∧
      s.refuseCurfew i = (a.postStageState i).postAdmission i none :=
    ⟨s.updSlot i Slot.refusedCurfew, (State.Did.refl s).updSlot i _, by rw [State.slot_updSlot, if_pos rfl], rfl, rfl⟩
  have hadmission : (a.postStageState i).admissionNotice i none = .admission i .quiet .refusedCurfew none s.arbiter.queue.length none none := by
    rw [State.admissionNotice_of_not_queued (by rw [State.postStageState_arbiter, hqueue]; exact hi), State.postStageState_slot, hslot,
      State.postStageState_arbiter, hqueue]
    rfl
  have hposts := (ha.post (a.stageStateNotice i)).post ((a.postStageState i).admissionNotice i none)
  rw [heq]
  refine hposts.congr ?_ rfl rfl
  rw [hadmission, State.stageStateNotice_eq, hslot]
  rfl

theorem State.Did.of_refuseAll {s : State} {l : List SlotId} (hl : l.Nodup) (hout : ∀ i ∈ l, i ∉ s.arbiter.queue) :
    s.Did (l.foldl State.refuseCurfew s) (l.flatMap fun i => refusalPosts s.arbiter.queue.length i (s.slot i)) [] 0 := by
  induction l generalizing s with
  | nil => exact .refl s
  | cons i l ih =>
    obtain ⟨hi, hnodup⟩ := List.nodup_cons.1 hl
    have hqueue : (s.refuseCurfew i).arbiter = s.arbiter := s.refuseCurfew_arbiter i
    have hrest := ih (s := s.refuseCurfew i) hnodup fun j hj => by rw [hqueue]; exact hout j (List.mem_cons_of_mem _ hj)
    refine ((State.Did.of_refuseCurfew (hout i List.mem_cons_self)).trans hrest).congr ?_ rfl rfl
    rw [List.flatMap_cons, hqueue]
    congr 1
    refine List.flatMap_congr fun j hj => ?_
    rw [State.refuseCurfew_slot, if_neg fun h : j = i => hi (h ▸ hj)]

/-! ### The removal -/

section remove
variable {s : State} {removed : SlotId → Bool}

/-- The members that a removal takes from the queue. -/
def State.goneAt (s : State) (removed : SlotId → Bool) : List SlotId := s.arbiter.queue.filter removed

/-- The members that stay. -/
def State.leftAt (s : State) (removed : SlotId → Bool) : List SlotId := s.arbiter.queue.filter fun i => !removed i

theorem State.mem_goneAt {i : SlotId} : i ∈ s.goneAt removed ↔ i ∈ s.arbiter.queue ∧ removed i = true := List.mem_filter

theorem State.mem_leftAt {i : SlotId} : i ∈ s.leftAt removed ↔ i ∈ s.arbiter.queue ∧ removed i = false := by simp [State.leftAt]

theorem State.not_left_of_gone {i : SlotId} (h : i ∈ s.goneAt removed) : i ∉ s.leftAt removed := fun hleft => by
  exact absurd (State.mem_leftAt.1 hleft).2 (by rw [(State.mem_goneAt.1 h).2]; decide)

/-- The state in which the members to go have left the queue, their records and notices still to come. -/
def State.unqueued (s : State) (removed : SlotId → Bool) : State :=
  if s.headGone removed then ((s.setQueue (s.leftAt removed)).stopTimer).clearDebts else s.setQueue (s.leftAt removed)

theorem State.unqueued_queue : (s.unqueued removed).arbiter.queue = s.leftAt removed := by
  unfold State.unqueued
  split <;> rfl

theorem State.removeAtCurfew_eq_unqueued : s.removeAtCurfew removed =
    if s.headGone removed then ((s.goneAt removed).foldl State.refuseCurfew (s.unqueued removed)).trigger.promote
    else (s.goneAt removed).foldl State.refuseCurfew (s.unqueued removed) := by
  rw [State.removeAtCurfew_eq]
  rfl

theorem State.Did.of_unqueued : s.Did (s.unqueued removed) [] [] 0 := by
  unfold State.unqueued
  split
  · exact (((State.Did.refl s).setArbiter _).setArbiter _).updSlots _
  · exact (State.Did.refl s).setArbiter _

theorem State.unqueued_stateNotice (i j : SlotId) : ((s.unqueued removed).slot i).refusedCurfew.stateNotice j = (s.slot i).refusedCurfew.stateNotice j := by
  unfold State.unqueued
  split
  · simp only [State.slot_clearDebts, State.stopTimer_slot, State.setQueue_slot]
    rfl
  · rfl

/-- What the members that go post, in the order of the queue. -/
def State.gonePosts (s : State) (removed : SlotId → Bool) : List Notice :=
  (s.goneAt removed).flatMap fun i => refusalPosts (s.leftAt removed).length i (s.slot i)

theorem State.Did.of_removeAtCurfew (hmode : s.mode ≠ .boot) (hnodup : s.arbiter.queue.Nodup) :
    s.Did (s.removeAtCurfew removed)
      (s.gonePosts removed ++ if s.headGone removed then (s.removeAtCurfew removed).headPosts (s.leftAt removed).head? else []) []
      (if s.headGone removed then 1 + if s.leftAt removed = [] then 0 else 1 else 0) := by
  have hout : ∀ i ∈ s.goneAt removed, i ∉ (s.unqueued removed).arbiter.queue := fun i hi => by
    rw [State.unqueued_queue]
    exact State.not_left_of_gone hi
  have hrefused := State.Did.of_unqueued.trans (State.Did.of_refuseAll (s := s.unqueued removed) (l := s.goneAt removed) (hnodup.filter removed) hout)
  have hposts : ((s.goneAt removed).flatMap fun i => refusalPosts (s.unqueued removed).arbiter.queue.length i ((s.unqueued removed).slot i)) =
      s.gonePosts removed := by
    simp only [State.gonePosts, refusalPosts, State.unqueued_queue, State.unqueued_stateNotice]
  have hqueue : ((s.goneAt removed).foldl State.refuseCurfew (s.unqueued removed)).arbiter.queue = s.leftAt removed := by
    rw [State.refuseAll_arbiter, State.unqueued_queue]
  have hgone := hrefused.congr hposts rfl rfl
  rw [State.removeAtCurfew_eq_unqueued]
  cases s.headGone removed with
  | false => exact hgone.congr (List.append_nil _).symm rfl rfl
  | true =>
    have hpromoted := hgone.trigger_promote hmode
    rw [hqueue] at hpromoted
    exact hpromoted.congr rfl rfl (by simp only [if_true])

/-- With no member there is nothing to remove. -/
theorem State.removeAtCurfew_of_empty (h : s.arbiter.queue = []) : s.removeAtCurfew removed = s := by
  have hsame : s.setQueue [] = s := by
    have harbiter : ({ s.arbiter with queue := [] } : Arbiter) = s.arbiter := by rw [← h]
    exact congrArg (fun a => ({ s with arbiter := a } : State)) harbiter
  simp only [State.removeAtCurfew, h, List.filter_nil, List.foldl_nil, Bool.false_eq_true, if_false]
  exact hsame

theorem State.Did.of_removal (hs : s.AdmissionSound) :
    s.Did (s.removeAtCurfew removed)
      (s.gonePosts removed ++ if s.headGone removed then (s.removeAtCurfew removed).headPosts (s.leftAt removed).head? else []) []
      (if s.headGone removed then 1 + if s.leftAt removed = [] then 0 else 1 else 0) := by
  by_cases hqueue : s.arbiter.queue = []
  · rw [State.removeAtCurfew_of_empty hqueue]
    simp only [State.gonePosts, State.goneAt, State.headGone, hqueue, List.filter_nil, List.flatMap_nil, List.head?_nil, Option.any_none,
      Bool.false_eq_true, if_false, List.append_nil]
    exact .refl s
  · obtain ⟨hboot, -, hq, -⟩ := hs
    obtain ⟨k, rest, hcons⟩ := List.exists_cons_of_ne_nil hqueue
    exact State.Did.of_removeAtCurfew (State.mode_ne_boot_of_queue hboot hcons) hq.1

theorem State.removeAtCurfew_slot_of_gone_member (hs : s.AdmissionSound) {i : SlotId} (hi : i ∈ s.goneAt removed) : (s.removeAtCurfew removed).slot i =
    { s.slot i with state := .quiet, prospective := none, outcome := .refusedCurfew, debt := false } := by
  obtain ⟨-, -, hq, hh⟩ := hs
  have hmem := State.mem_goneAt.1 hi
  cases hhead : s.headGone removed with
  | true =>
    have hnext : (s.leftAt removed).head? ≠ some i := fun h => State.not_left_of_gone hi (List.mem_of_head? h)
    have hslot := State.removeAtCurfew_slot_of_gone hq.1 hhead i
    dsimp only at hslot
    rw [if_pos hmem] at hslot
    exact hslot.trans (if_neg hnext)
  | false =>
    have hdebt : (s.slot i).debt = false := State.no_debt_of_not_live hh fun hlive => State.not_queued_of_live hq hlive hmem.1
    rw [State.removeAtCurfew_slot_of_stays hq.1 hhead, if_pos hmem, Slot.refusedCurfew, ← hdebt]

/-- A slot that does not go keeps its record where the head stays; with the head gone its debt is cleared, and the first member left becomes the head. -/
theorem State.removeAtCurfew_slot_of_stayer (hq : s.QueueSound) {i : SlotId} (hi : i ∉ s.goneAt removed) : (s.removeAtCurfew removed).slot i =
    if s.headGone removed then
      { s.slot i with state := if (s.leftAt removed).head? = some i then .entering else (s.slot i).state, debt := false }
    else s.slot i := by
  have hmem := mt State.mem_goneAt.2 hi
  cases hhead : s.headGone removed with
  | true =>
    have hslot := State.removeAtCurfew_slot_of_gone hq.1 hhead i
    dsimp only at hslot
    rw [if_neg hmem] at hslot
    rw [if_pos rfl]
    by_cases hnext : (s.leftAt removed).head? = some i
    · rw [if_pos hnext]
      exact hslot.trans (if_pos hnext)
    · rw [if_neg hnext]
      exact hslot.trans (if_neg hnext)
  | false => rw [State.removeAtCurfew_slot_of_stays hq.1 hhead, if_neg hmem]; rfl

end remove

/-! ### The removal with its ageings -/

/-- The copies of the members that age out. -/
def State.goneCopies (s : State) (removed : SlotId → Bool) : List Copy :=
  (s.arbiter.queue.filter fun i => removed i && s.quietAges i && (s.slot i).causes != causesNone).map fun i =>
    .clamp i none (s.slot i).causes causesNone false .empty none s.clock.minute s.clock.second none

section curfew
variable {s : State} {removed : SlotId → Bool} (hs : s.AdmissionSound)

theorem State.curfewRemoval_eq : s.curfewRemoval removed = (s.goneAt removed).foldl State.ageSlot (s.removeAtCurfew removed) := rfl

include hs

theorem State.goneAt_nodup : (s.goneAt removed).Nodup := by
  obtain ⟨-, -, hq, -⟩ := hs
  exact hq.1.filter removed

theorem State.removeAtCurfew_mode (h : s.goneAt removed ≠ []) : (s.removeAtCurfew removed).mode ≠ .boot := by
  rw [(State.Did.of_removal hs).mode_eq]
  obtain ⟨hboot, -⟩ := hs
  have hqueue : s.arbiter.queue ≠ [] := fun hempty => h (by rw [State.goneAt, hempty]; rfl)
  obtain ⟨k, rest, hcons⟩ := List.exists_cons_of_ne_nil hqueue
  exact State.mode_ne_boot_of_queue hboot hcons

/-- A member removed ages out at once exactly where the conditions of R81 held of its record but for its state. -/
theorem State.agesOut_of_removed {i : SlotId} (hi : i ∈ s.goneAt removed) :
    ((s.removeAtCurfew removed).slot i).agesOut (s.removeAtCurfew removed).site = s.quietAges i := by
  rw [(State.Did.of_removal hs).site_eq, State.removeAtCurfew_slot_of_gone_member hs hi]
  simp [Slot.agesOut, Slot.settledQuiet, State.quietAges]

theorem State.Did.of_curfewRemoval : ∃ ns, s.Did (s.curfewRemoval removed) ns (s.goneCopies removed)
    ((if s.headGone removed then 1 + if s.leftAt removed = [] then 0 else 1 else 0) +
      ((s.goneAt removed).map fun i => if s.quietAges i then 1 else 0).sum) := by
  have hages := (State.Did.of_ageSlots (State.removeAtCurfew_mode hs) (State.goneAt_nodup hs (removed := removed))).1
  refine ⟨_, ((State.Did.of_removal hs).trans hages).congr rfl ?_ ?_⟩
  · rw [List.nil_append, (State.Did.of_removal hs).clock_eq]
    have hcopies : ∀ i ∈ s.goneAt removed, agedCopies (s.removeAtCurfew removed).site s.clock i ((s.removeAtCurfew removed).slot i) =
        if ¬(s.quietAges i && (s.slot i).causes != causesNone) = true then [] else
          [.clamp i none (s.slot i).causes causesNone false .empty none s.clock.minute s.clock.second none] := fun i hi => by
      rw [agedCopies_eq, State.agesOut_of_removed hs hi, State.removeAtCurfew_slot_of_gone_member hs hi]
      dsimp only
      rw [ite_not]
    rw [List.flatMap_congr hcopies, flatMap_ite_singleton _ (fun i => s.quietAges i && (s.slot i).causes != causesNone) _ (fun _ => iff_of_eq (Bool.not_eq_true _))]
    rw [State.goneCopies, State.goneAt, List.filter_filter]
    refine congrArg (List.map _) (List.filter_congr fun i _ => ?_)
    cases removed i <;> cases s.quietAges i <;> simp
  · refine congrArg (_ + ·) (congrArg List.sum (List.map_congr_left fun i hi => ?_))
    rw [State.agesOut_of_removed hs hi]

end curfew

end Sys2Proof.Machine
end

section
/-! SUPPORT. A removal at curfew in the words of the statements (R139, R140). -/

namespace Sys2Proof.Machine

/-- Where no slot of the list is due, nothing ages out. -/
theorem State.ageSlots_of_none {v : State} {l : List SlotId} (h : ∀ i ∈ l, (v.slot i).agesOut v.site = false) : l.foldl State.ageSlot v = v := by
  induction l with
  | nil => rfl
  | cons i l ih =>
    have hi : v.ageSlot i = v := State.ageSlot_of (ages := false) ((v.ageDue_eq i).trans (h i List.mem_cons_self))
    rw [List.foldl_cons, hi]
    exact ih fun j hj => h j (List.mem_cons_of_mem _ hj)

section curfew
variable {s : State} {removed : SlotId → Bool} (hs : s.AdmissionSound)
include hs

omit hs in
theorem State.curfewRemoval_queue : (s.curfewRemoval removed).arbiter.queue = s.leftAt removed := by
  rw [State.curfewRemoval_eq, State.ageSlots_arbiter]
  exact State.removeAtCurfew_queue s removed

theorem State.curfewRemoval_slot (i : SlotId) : (s.curfewRemoval removed).slot i =
    if i ∈ s.goneAt removed ∧ s.quietAges i = true then ((s.removeAtCurfew removed).slot i).afterEmptying else (s.removeAtCurfew removed).slot i := by
  rw [State.curfewRemoval_eq, (State.Did.of_ageSlots (State.removeAtCurfew_mode hs) (State.goneAt_nodup hs)).2 i]
  by_cases hi : i ∈ s.goneAt removed
  · rw [State.agesOut_of_removed hs hi]
  · rw [if_neg fun h => hi h.1, if_neg fun h => hi h.1]

theorem State.curfewRemoval_slot_of_aged {i : SlotId} (hi : i ∈ s.goneAt removed) (hages : s.quietAges i = true) : (s.curfewRemoval removed).slot i =
    { slotDefault with
      weight := (s.slot i).weight, stageMax := (s.slot i).stageMax, previous := (s.slot i).previous, serial := (s.slot i).serial } := by
  have hpublished : (s.slot i).published = 0 := by
    simp only [State.quietAges, Bool.and_eq_true, beq_iff_eq] at hages
    exact hages.1.1.2
  rw [State.curfewRemoval_slot hs, if_pos ⟨hi, hages⟩, State.removeAtCurfew_slot_of_gone_member hs hi, Slot.afterEmptying, hpublished]
  rfl

theorem State.curfewRemoval_slot_of_kept {i : SlotId} (hi : i ∈ s.goneAt removed) (hages : s.quietAges i = false) : (s.curfewRemoval removed).slot i =
    { s.slot i with state := .quiet, prospective := none, outcome := .refusedCurfew, debt := false } := by
  rw [State.curfewRemoval_slot hs, if_neg fun h => Bool.false_ne_true (hages.symm.trans h.2), State.removeAtCurfew_slot_of_gone_member hs hi]

theorem State.curfewRemoval_slot_of_stayer {i : SlotId} (hi : i ∉ s.goneAt removed) : (s.curfewRemoval removed).slot i =
    if s.headGone removed then
      { s.slot i with state := if (s.leftAt removed).head? = some i then .entering else (s.slot i).state, debt := false }
    else s.slot i := by
  rw [State.curfewRemoval_slot hs, if_neg fun h => hi h.1]
  obtain ⟨-, -, hq, -⟩ := hs
  exact State.removeAtCurfew_slot_of_stayer hq hi

theorem State.curfewRemoval_path (p : PathPos) : (s.curfewRemoval removed).path p =
    (s.path p).bind fun e => if e.slot ∈ s.goneAt removed ∧ s.quietAges e.slot = true then none else some e := by
  rw [State.curfewRemoval_eq, State.ageSlots_path (State.goneAt_nodup hs), State.path, (ArbiterFrame.of_removeAtCurfew s removed).paths_eq]
  refine congrArg (Option.bind _) (funext fun e => ?_)
  by_cases he : e.slot ∈ s.goneAt removed
  · rw [State.agesOut_of_removed hs he]
  · rw [if_neg fun h => he h.1, if_neg fun h => he h.1]

/-- What the members that went posted is what their records then give. -/
theorem State.ownNotice_of_gonePosts {n : Notice} (hn : n ∈ s.gonePosts removed) : (s.removeAtCurfew removed).OwnNotice n := by
  obtain ⟨i, hi, hmem⟩ := List.mem_flatMap.1 hn
  have hstate : (s.slot i).refusedCurfew.stateNotice i = (s.removeAtCurfew removed).stageStateNotice i := by
    rw [State.stageStateNotice_eq, State.removeAtCurfew_slot_of_gone_member hs hi]
    rfl
  simp only [refusalPosts, List.mem_cons, List.not_mem_nil, or_false] at hmem
  rcases hmem with rfl | rfl
  · rw [hstate]; exact .state i
  · exact .admission i (decide_eq_true rfl)

omit hs in
theorem State.admission_of_gonePosts {n : Notice} {j : SlotId} (hn : n ∈ s.gonePosts removed) (hj : n.isAdmissionOf j = true) :
    j ∈ s.goneAt removed ∧ n = .admission j .quiet .refusedCurfew none (s.leftAt removed).length none none := by
  obtain ⟨i, hi, hmem⟩ := List.mem_flatMap.1 hn
  simp only [refusalPosts, List.mem_cons, List.not_mem_nil, or_false] at hmem
  rcases hmem with rfl | rfl
  · cases hj
  · obtain rfl : i = j := of_decide_eq_true hj
    exact ⟨hi, rfl⟩

/-- The notices of a member that went wait before the ageings. -/
theorem State.removeAtCurfew_waits {i : SlotId} (hi : i ∈ s.goneAt removed) (hlost : (s.removeAtCurfew removed).notices.lost = false) :
    (s.removeAtCurfew removed).stageStateNotice i ∈ (s.removeAtCurfew removed).notices.notices ∧
      .admission i .quiet .refusedCurfew none (s.leftAt removed).length none none ∈ (s.removeAtCurfew removed).notices.notices := by
  have hdid := State.Did.of_removal hs (removed := removed)
  have hstate : (s.slot i).refusedCurfew.stateNotice i = (s.removeAtCurfew removed).stageStateNotice i := by
    rw [State.stageStateNotice_eq, State.removeAtCurfew_slot_of_gone_member hs hi]
    rfl
  have hheads {n : Notice} (hn : n ∈ if s.headGone removed then (s.removeAtCurfew removed).headPosts (s.leftAt removed).head? else []) :
      n ∈ (s.removeAtCurfew removed).headPosts (s.leftAt removed).head? := by
    split at hn
    · exact hn
    · cases hn
  refine ⟨hdid.state_waits (fun m hm => ?_) hlost (List.mem_append_left _ (List.mem_flatMap.2 ⟨i, hi, ?_⟩)),
    hdid.admission_waits hlost (i := i) (List.mem_append_left _ (List.mem_flatMap.2 ⟨i, hi, ?_⟩)) (decide_eq_true rfl) fun m hm hadm => ?_⟩
  · rcases List.mem_append.1 hm with hm | hm
    · exact State.ownNotice_of_gonePosts hs hm
    · exact State.ownNotice_of_headPosts (hheads hm)
  · rw [← hstate]
    exact List.mem_cons_self
  · exact List.mem_cons_of_mem _ List.mem_cons_self
  · rcases List.mem_append.1 hm with hm | hm
    · exact (State.admission_of_gonePosts hm hadm).2
    · obtain ⟨k, hk, rfl | rfl⟩ := State.mem_headPosts (hheads hm)
      · cases hadm
      · obtain rfl : k = i := of_decide_eq_true hadm
        exact absurd (List.mem_of_head? hk) (State.not_left_of_gone hi)

theorem State.curfewRemoval_waits {i : SlotId} (hi : i ∈ s.goneAt removed) (hlost : (s.curfewRemoval removed).notices.lost = false) :
    (s.curfewRemoval removed).stageStateNotice i ∈ (s.curfewRemoval removed).notices.notices ∧
      .admission i .quiet .refusedCurfew none (s.leftAt removed).length none none ∈ (s.curfewRemoval removed).notices.notices := by
  have hmode := State.removeAtCurfew_mode hs (removed := removed)
  have hnodup := State.goneAt_nodup hs (removed := removed)
  obtain ⟨hstate, hadmission⟩ := State.removeAtCurfew_waits hs hi (State.ageSlots_lost hmode hnodup hlost)
  exact ⟨State.ageSlots_stageState_waits hmode hnodup (.inl hstate) hlost, State.ageSlots_keeps_admission hmode hnodup (decide_eq_true rfl) hadmission⟩

theorem State.curfewRemoval_headPosted (hgone : s.headGone removed = true) : (s.curfewRemoval removed).HeadPosted (s.leftAt removed).head? := by
  have hmode := State.removeAtCurfew_mode hs (removed := removed)
  have hnodup := State.goneAt_nodup hs (removed := removed)
  have hdid := State.Did.of_removal hs (removed := removed)
  rw [hgone, if_pos rfl] at hdid
  have hposted := hdid.headPosted (fun m hm => State.ownNotice_of_gonePosts hs hm) fun j hj m hm => Bool.eq_false_iff.2 fun hadm =>
    State.not_left_of_gone (State.admission_of_gonePosts hm hadm).1 (List.mem_of_head? hj)
  intro hlost j hj
  have hjgone : j ∉ s.goneAt removed := fun h => State.not_left_of_gone h (List.mem_of_head? hj)
  obtain ⟨hadmission, hstate⟩ := hposted (State.ageSlots_lost hmode hnodup hlost) j hj
  refine ⟨?_, State.ageSlots_stageState_waits hmode hnodup (.inl hstate) hlost⟩
  have hsame := State.ageSlots_admissionNotice hmode hnodup
    (fun i hi => by rw [State.removeAtCurfew_slot_of_gone_member hs hi]) hjgone none
  rw [State.curfewRemoval_eq, hsame]
  exact State.ageSlots_keeps_admission hmode hnodup (State.isAdmissionOf_self ..) hadmission

omit hs in
theorem State.curfewRemoval_arbiter_of_stays (hgone : s.headGone removed = false) : (s.curfewRemoval removed).arbiter =
    { s.arbiter with queue := s.leftAt removed, passSinceHead := (s.curfewRemoval removed).arbiter.passSinceHead } := by
  rw [State.curfewRemoval_eq, State.ageSlots_arbiter, State.removeAtCurfew_arbiter_of_stays hgone]
  rfl

omit hs in
theorem State.curfewRemoval_arbiter_of_gone (hgone : s.headGone removed = true) : (s.curfewRemoval removed).arbiter.timer = none ∧
    (s.curfewRemoval removed).arbiter.phase = if s.leftAt removed = [] then none else some .counting := by
  rw [State.curfewRemoval_eq, State.ageSlots_arbiter]
  exact ⟨State.removeAtCurfew_timer_of_gone hgone, State.removeAtCurfew_phase_of_gone hgone⟩

theorem State.curfewRemoval_of_no_ages (hages : ∀ i ∈ s.goneAt removed, s.quietAges i = false) : s.curfewRemoval removed = s.removeAtCurfew removed :=
  State.ageSlots_of_none fun i hi => by rw [State.agesOut_of_removed hs hi, hages i hi]

end curfew

end Sys2Proof.Machine
end

section
/-! SUPPORT. The evaluation of a zone in every mode (R24 to R26, R29). -/

namespace Sys2Proof.Machine

/-! ### What a removal at curfew may change, whatever the state -/

/-- From `s` to `t` some notices were posted, some copies sent, some triggers raised, and nothing but the slots, the paths, the engine and the arbiter
changed beside. -/
def State.DidSome (s t : State) : Prop := ∃ ns cs n, s.Did t ns cs n

namespace State.DidSome
variable {s t u : State}

theorem refl (s : State) : s.DidSome s := ⟨_, _, _, .refl s⟩

theorem trans (h : s.DidSome t) (k : t.DidSome u) : s.DidSome u := by
  obtain ⟨_, _, _, h⟩ := h
  obtain ⟨_, _, _, k⟩ := k
  exact ⟨_, _, _, h.trans k⟩

theorem mode_eq (h : s.DidSome t) : t.mode = s.mode := by
  obtain ⟨_, _, _, h⟩ := h
  exact h.mode_eq

theorem foldl {α : Type} {op : State → α → State} (hop : ∀ (u : State) a, u.mode ≠ .boot → u.DidSome (op u a)) {s : State} (hmode : s.mode ≠ .boot)
    (l : List α) : s.DidSome (l.foldl op s) := by
  induction l generalizing s with
  | nil => exact refl s
  | cons a l ih =>
    have ha := hop s a hmode
    exact ha.trans (ih (ha.mode_eq ▸ hmode))

theorem of_ageSlot {s : State} (hmode : s.mode ≠ .boot) (i : SlotId) : s.DidSome (s.ageSlot i) := ⟨_, _, _, State.Did.of_ageSlot rfl hmode⟩

theorem of_removeAtCurfew {s : State} (hmode : s.mode ≠ .boot) (removed : SlotId → Bool) : s.DidSome (s.removeAtCurfew removed) := by
  have hrefused : s.DidSome ((s.goneAt removed).foldl State.refuseCurfew (s.unqueued removed)) := by
    refine trans ⟨_, _, _, State.Did.of_unqueued⟩ (foldl (fun u i _ => ?_) ((State.Did.of_unqueued (s := s)).mode_eq ▸ hmode) _)
    exact ⟨_, _, _, (((State.Did.refl u).updSlot i _).post _).post _⟩
  rw [State.removeAtCurfew_eq_unqueued]
  split
  · obtain ⟨_, _, _, h⟩ := hrefused
    exact ⟨_, _, _, h.trigger_promote hmode⟩
  · exact hrefused

theorem of_curfewZone {s : State} (hmode : s.mode ≠ .boot) (z : ZoneId) : s.DidSome (s.curfewZone z) :=
  (of_removeAtCurfew hmode _).trans (foldl (fun _ i h => of_ageSlot h i) ((of_removeAtCurfew hmode _).mode_eq ▸ hmode) _)

end State.DidSome

/-- A trigger taken is still one after more triggers. -/
theorem State.AnyTrigger.of_didSome {s t u : State} (h : s.AnyTrigger t) (k : t.DidSome u) : s.AnyTrigger u := by
  obtain ⟨_, _, n, k⟩ := k
  rcases Nat.eq_zero_or_pos n with rfl | hn
  · exact h.of_engine_eq k.triggered
  · exact h.trans (k.triggered.anyTrigger (by omega))

/-! ### One zone's record written, in every mode -/

/-- `t` is `s` with the record `x` in zone `z`, with a trigger where `changed` holds, which is not taken in BOOT. -/
structure State.ZoneSet (s t : State) (z : ZoneId) (x : Zone) (changed : Prop) : Prop where
  written : ∃ e p, t = { s.setZone z x with engine := e, arbiter := { s.arbiter with passSinceHead := p } }
  raised : s.mode ≠ .boot → s.Raised t changed
  kept : s.mode = .boot → t.engine = s.engine

namespace State.ZoneSet
variable {s t u : State} {z : ZoneId} {x y : Zone} {p q : Prop}

theorem of_written (h : s.ZoneWritten t z x p) (hmode : s.mode ≠ .boot) : s.ZoneSet t z x p := ⟨h.written, fun _ => h.raised, fun hboot => absurd hboot hmode⟩

theorem zone_same (h : s.ZoneSet t z x p) : t.zone z = x := by
  obtain ⟨_, _, rfl⟩ := h.written
  exact State.zone_setZone_same s z x

theorem zone_ne (h : s.ZoneSet t z x p) {w : ZoneId} (hw : w ≠ z) : t.zone w = s.zone w := by
  obtain ⟨_, _, rfl⟩ := h.written
  exact State.zone_setZone_ne s z w x hw

theorem mode_eq (h : s.ZoneSet t z x p) : t.mode = s.mode := by
  obtain ⟨_, _, rfl⟩ := h.written
  rfl

theorem congr (h : s.ZoneSet t z x p) (hx : x = y) (hpq : p ↔ q) : s.ZoneSet t z y q := by
  rwa [← hx, ← propext hpq]

theorem refl (s : State) (z : ZoneId) : s.ZoneSet s z (s.zone z) False :=
  ⟨(State.ZoneWritten.refl s z).written, fun _ => .of_engine_eq rfl, fun _ => rfl⟩

theorem trans (h : s.ZoneSet t z x p) (k : t.ZoneSet u z y q) : s.ZoneSet u z y (p ∨ q) := by
  have hmode := h.mode_eq
  refine ⟨?_, fun hm => (h.raised hm).trans (k.raised (hmode ▸ hm)), fun hm => (k.kept (hmode.trans hm)).trans (h.kept hm)⟩
  obtain ⟨_, _, rfl⟩ := h.written
  obtain ⟨e, b, rfl⟩ := k.written
  refine ⟨e, b, ?_⟩
  rw [← State.setZone_setZone s z x y]
  rfl

theorem of_updZone (s : State) (z : ZoneId) (f : Zone → Zone) : s.ZoneSet (s.updZone z f) z (f (s.zone z)) False :=
  ⟨(State.ZoneWritten.of_updZone s z f).written, fun _ => .of_engine_eq rfl, fun _ => rfl⟩

theorem of_triggerIf (s : State) (z : ZoneId) (changed : Bool) : s.ZoneSet (s.triggerIf changed) z (s.zone z) (changed = true) := by
  by_cases hmode : s.mode = .boot
  · have hsame : s.triggerIf changed = s := by
      unfold State.triggerIf
      rw [State.trigger_of_boot hmode, ite_self]
    rw [hsame]
    exact ⟨(State.ZoneWritten.refl s z).written, fun h => absurd hmode h, fun _ => rfl⟩
  · exact of_written (State.ZoneWritten.of_triggerIf hmode z changed) hmode

theorem of_setEffective (s : State) (z : ZoneId) (v : Level) :
    s.ZoneSet (s.setEffective z v) z { s.zone z with effective := v } ((s.zone z).effective ≠ v) := by
  unfold State.setEffective
  split
  next heq => exact (refl s z).congr (by rw [← heq]) (by simp [heq])
  next hne =>
    have hupd := of_updZone s z fun x => { x with effective := v }
    exact (hupd.trans (of_triggerIf (s.updZone z _) z true)).congr hupd.zone_same (by simp [hne])

/-- The zone state and the fade offset written, with their triggers; a zone that becomes FADING is then handed to the arbiter (R29). -/
theorem of_setCurfew (s : State) (z : ZoneId) (st : ZoneState) (fade : Nat) :
    ∃ b, s.ZoneSet b z { s.zone z with state := st, fade := fade } ((s.zone z).state ≠ st ∨ (s.zone z).fade ≠ fade) ∧
      s.setCurfew z st fade = if (s.zone z).state ≠ .fading ∧ st = .fading then b.curfewZone z else b := by
  refine ⟨_, ?_, rfl⟩
  have hupd := of_updZone s z fun x => { x with state := st, fade := fade }
  have hstate := hupd.trans (of_triggerIf (s.updZone z _) z ((s.zone z).state != st))
  have hfade := hstate.trans (of_triggerIf _ z ((s.zone z).fade != fade))
  exact hfade.congr (hstate.zone_same.trans hupd.zone_same) (by simp)

end State.ZoneSet

/-! ### The evaluation (R24 to R26) -/

/-- The zone state that the curfew flag of a breakpoint that comes into force gives (R25, Table 2-3). -/
def curfewState (mode : Mode) (curfew : Bool) (st : ZoneState) : ZoneState :=
  if curfew = false then .opened
  else if mode = .enforce ∧ st ≠ .silenced then .fading
  else .silenced

/-- The fade offset that goes with it. -/
def curfewFade (mode : Mode) (curfew : Bool) (st : ZoneState) (fade : Nat) : Nat :=
  if curfew = false then 0
  else if mode = .enforce ∧ st = .opened then 0
  else if mode = .enforce ∧ st = .fading then fade
  else 600

/-- The grace count that goes with it (Table 2-3). -/
def curfewGrace (mode : Mode) (curfew : Bool) (st : ZoneState) (grace : Nat) : Nat :=
  if mode = .enforce ∧ curfew = true ∧ st = .opened then 15 else grace

/-- The record of a zone after a breakpoint comes into force (R25, R26). -/
def Zone.entered (mode : Mode) (k : Nat) (bp : Breakpoint) (x : Zone) : Zone :=
  { x with
    inForce := some k
    licence := bp.limit
    effective := max x.effective bp.limit
    grace := curfewGrace mode bp.curfew x.state (graceAfter mode x.licence bp.limit x.grace)
    state := curfewState mode bp.curfew x.state
    fade := curfewFade mode bp.curfew x.state x.fade }

/-- The record of a zone after its evaluation in a mode at a minute of the day. -/
def Zone.evaluated (mode : Mode) (minute : Nat) (x : Zone) : Zone :=
  match inForceAt x.breakpoints minute with
  | none => { x with inForce := none, licence := 0, effective := 0, state := .opened, fade := 0 }
  | some k =>
    match x.breakpoints[k - 1]? with
    | none => x
    | some bp =>
      if x.inForce = some k then
        if bp.limit < x.licence then { x with licence := bp.limit, grace := if mode = .enforce then 15 else x.grace } else x
      else x.entered mode k bp

theorem State.ZoneSet.of_enterBreakpoint (s : State) (z : ZoneId) (number : Nat) (limit : Level) :
    s.ZoneSet (s.enterBreakpoint z number limit) z
      { s.zone z with
        inForce := some number, licence := limit, effective := max (s.zone z).effective limit
        grace := graceAfter s.mode (s.zone z).licence limit (s.zone z).grace }
      ((s.zone z).effective < limit) := by
  unfold State.enterBreakpoint
  dsimp only
  have hupd := State.ZoneSet.of_updZone s z fun x =>
    { x with inForce := some number, licence := limit, grace := graceAfter s.mode (s.zone z).licence limit x.grace }
  split
  next hle =>
    have heff := hupd.trans (State.ZoneSet.of_setEffective _ z limit)
    exact heff.congr (by simp [hupd.zone_same, hle]) (by simp [hupd.zone_same, hle.lt_iff_ne])
  next hlt => exact hupd.congr (by simp [le_of_not_ge hlt]) (by simp [le_of_not_ge hlt])

end Sys2Proof.Machine
end

section
/-! SUPPORT. The evaluation of a zone put together, and two states alike in all that a removal at curfew reads (R24 to R29, R139). -/

namespace Sys2Proof.Machine

/-! ### The evaluation -/

/-- From `s`, the zone's record was written as `y` with the triggers of its changes, and a zone that became FADING was then handed to the arbiter. -/
def State.Handed (s u : State) (z : ZoneId) (y : Zone) (changed : Prop) : Prop :=
  ∃ b, s.ZoneSet b z y changed ∧ u = if (s.zone z).state ≠ .fading ∧ y.state = .fading then b.curfewZone z else b

namespace State.Handed
variable {s t u : State} {z : ZoneId} {x y : Zone} {p q : Prop}

theorem of_set (h : s.ZoneSet t z y p) (hst : y.state = .fading → (s.zone z).state = .fading) : s.Handed t z y p :=
  ⟨t, h, (if_neg fun hnew => hnew.1 (hst hnew.2)).symm⟩

theorem congr (h : s.Handed u z x p) (hx : x = y) (hpq : p ↔ q) : s.Handed u z y q := by rwa [← hx, ← propext hpq]

theorem of_setCurfew (s : State) (z : ZoneId) (st : ZoneState) (fade : Nat) :
    s.Handed (s.setCurfew z st fade) z { s.zone z with state := st, fade := fade } ((s.zone z).state ≠ st ∨ (s.zone z).fade ≠ fade) :=
  State.ZoneSet.of_setCurfew s z st fade

/-- After a change of the record that leaves its state. -/
theorem after (h : s.ZoneSet t z x p) (hx : x.state = (s.zone z).state) (k : t.Handed u z y q) : s.Handed u z y (p ∨ q) := by
  obtain ⟨b, hb, hu⟩ := k
  rw [h.zone_same, hx] at hu
  exact ⟨b, h.trans hb, hu⟩

theorem of_curfewFlag (s : State) (z : ZoneId) (curfew : Bool) :
    s.Handed (if curfew then s.curfewBreakpoint z else s.openZone z) z
      { s.zone z with
        grace := curfewGrace s.mode curfew (s.zone z).state (s.zone z).grace
        state := curfewState s.mode curfew (s.zone z).state
        fade := curfewFade s.mode curfew (s.zone z).state (s.zone z).fade }
      ((s.zone z).state ≠ curfewState s.mode curfew (s.zone z).state ∨ (s.zone z).fade ≠ curfewFade s.mode curfew (s.zone z).state (s.zone z).fade) := by
  cases curfew with
  | false => exact (of_setCurfew s z .opened 0).congr (by simp [curfewGrace, curfewState, curfewFade]) (by simp [curfewState, curfewFade])
  | true =>
    rw [if_pos rfl]
    unfold State.curfewBreakpoint
    by_cases hmode : s.mode = .enforce
    · rw [if_pos hmode]
      cases hstate : (s.zone z).state with
      | opened =>
        have hgrace := State.ZoneSet.of_updZone s z fun x => { x with grace := 15 }
        have hfading := of_setCurfew (s.updZone z fun x => { x with grace := 15 }) z .fading 0
        rw [hgrace.zone_same] at hfading
        refine (after hgrace rfl hfading).congr ?_ ?_ <;> simp [hmode, hstate, curfewGrace, curfewState, curfewFade]
      | fading =>
        refine of_set ((State.ZoneSet.refl s z).congr ?_ ?_) fun _ => hstate
        · refine (show s.zone z = { s.zone z with state := .fading } by rw [← hstate]).trans ?_
          simp [hmode, curfewGrace, curfewState, curfewFade]
        · simp [hmode, curfewState, curfewFade]
      | silenced =>
        refine (of_setCurfew s z .silenced 600).congr ?_ ?_ <;> simp [hmode, hstate, curfewGrace, curfewState, curfewFade]
    · rw [if_neg hmode]
      exact (of_setCurfew s z .silenced 600).congr (by simp [hmode, curfewGrace, curfewState, curfewFade]) (by simp [hmode, curfewState, curfewFade])

theorem of_noBreakpoint (s : State) (z : ZoneId) :
    s.Handed (s.noBreakpoint z) z { s.zone z with inForce := none, licence := 0, effective := 0, state := .opened, fade := 0 }
      ((s.zone z).effective ≠ 0 ∨ (s.zone z).state ≠ .opened ∨ (s.zone z).fade ≠ 0) := by
  have hupd := State.ZoneSet.of_updZone s z fun x => { x with inForce := none, licence := 0 }
  have heff := hupd.trans (State.ZoneSet.of_setEffective _ z 0)
  have hcurfew := of_setCurfew (((s.updZone z fun x => { x with inForce := none, licence := 0 })).setEffective z 0) z .opened 0
  have hall := after heff (by rw [hupd.zone_same]) hcurfew
  exact hall.congr (by rw [heff.zone_same, hupd.zone_same]) (by rw [heff.zone_same, hupd.zone_same]; simp)

end State.Handed

/-- The evaluation of a zone: its record, the triggers of its changes, the hand-off, then its notice where one is due. -/
theorem State.evaluateZone_eq (s : State) (z : ZoneId) :
    ∃ u, s.Handed u z ((s.zone z).evaluated s.mode s.clock.minute)
        (((s.zone z).evaluated s.mode s.clock.minute).TriggersFrom (s.zone z)) ∧
      s.evaluateZone z = u.postZoneIfChanged z (s.zone z) := by
  refine ⟨_, ?_, rfl⟩
  unfold Zone.evaluated Zone.TriggersFrom
  cases inForceAt (s.zone z).breakpoints s.clock.minute with
  | none => exact (State.Handed.of_noBreakpoint s z).congr rfl (by dsimp only; tauto)
  | some k =>
    dsimp only
    cases (s.zone z).breakpoints[k - 1]? with
    | none => exact (State.Handed.of_set (.refl s z) id).congr rfl (by simp)
    | some bp =>
      dsimp only
      by_cases hk : (s.zone z).inForce = some k
      · simp only [if_pos hk]
        by_cases hlow : bp.limit < (s.zone z).licence
        · simp only [if_pos hlow]
          exact (State.Handed.of_set (.of_updZone s z _) id).congr rfl (by simp)
        · simp only [if_neg hlow]
          exact (State.Handed.of_set (.refl s z) id).congr rfl (by simp)
      · simp only [if_neg hk]
        have henter := State.ZoneSet.of_enterBreakpoint s z k bp.limit
        have hflag := State.Handed.of_curfewFlag (s.enterBreakpoint z k bp.limit) z bp.curfew
        rw [henter.zone_same, henter.mode_eq] at hflag
        refine (State.Handed.after henter rfl hflag).congr rfl ?_
        simp only [Zone.entered, ne_eq, max_eq_left_iff, not_le]
        tauto

/-! ### Two states alike for the arbiter -/

/-- The two states agree in all that a removal at curfew reads: the slots, the paths, the queue with its phase and timer, the site parameters and the
receptors. -/
structure State.Alike (s t : State) : Prop where
  slots_eq : s.slots = t.slots
  paths_eq : s.paths = t.paths
  queue_eq : s.arbiter.queue = t.arbiter.queue
  phase_eq : s.arbiter.phase = t.arbiter.phase
  timer_eq : s.arbiter.timer = t.arbiter.timer
  site_eq : s.site = t.site
  receptors_eq : s.receptors = t.receptors

namespace State.Alike
variable {s t u : State}

theorem symm (h : s.Alike t) : t.Alike s :=
  ⟨h.slots_eq.symm, h.paths_eq.symm, h.queue_eq.symm, h.phase_eq.symm, h.timer_eq.symm, h.site_eq.symm, h.receptors_eq.symm⟩

theorem trans (h : s.Alike t) (k : t.Alike u) : s.Alike u :=
  ⟨h.slots_eq.trans k.slots_eq, h.paths_eq.trans k.paths_eq, h.queue_eq.trans k.queue_eq, h.phase_eq.trans k.phase_eq, h.timer_eq.trans k.timer_eq,
    h.site_eq.trans k.site_eq, h.receptors_eq.trans k.receptors_eq⟩

theorem slot_eq (h : s.Alike t) (i : SlotId) : s.slot i = t.slot i := by rw [State.slot, h.slots_eq]; rfl

theorem updSlot (h : s.Alike t) (i : SlotId) (f : Slot → Slot) : (s.updSlot i f).Alike (t.updSlot i f) where
  slots_eq := by
    show s.slots.set i.val (f (s.slot i)) i.isLt = t.slots.set i.val (f (t.slot i)) i.isLt
    rw [h.slots_eq, h.slot_eq]
  paths_eq := h.paths_eq
  queue_eq := h.queue_eq
  phase_eq := h.phase_eq
  timer_eq := h.timer_eq
  site_eq := h.site_eq
  receptors_eq := h.receptors_eq

theorem updSlots (h : s.Alike t) (f : Slot → Slot) : (s.updSlots f).Alike (t.updSlots f) where
  slots_eq := congrArg Vector.ofFn (funext fun i => by rw [h.slot_eq])
  paths_eq := h.paths_eq
  queue_eq := h.queue_eq
  phase_eq := h.phase_eq
  timer_eq := h.timer_eq
  site_eq := h.site_eq
  receptors_eq := h.receptors_eq

theorem setQueue (h : s.Alike t) (q : List SlotId) : (s.setQueue q).Alike (t.setQueue q) where
  slots_eq := h.slots_eq
  paths_eq := h.paths_eq
  queue_eq := rfl
  phase_eq := h.phase_eq
  timer_eq := h.timer_eq
  site_eq := h.site_eq
  receptors_eq := h.receptors_eq

theorem stopTimer (h : s.Alike t) : s.stopTimer.Alike t.stopTimer where
  slots_eq := h.slots_eq
  paths_eq := h.paths_eq
  queue_eq := h.queue_eq
  phase_eq := h.phase_eq
  timer_eq := rfl
  site_eq := h.site_eq
  receptors_eq := h.receptors_eq

theorem setPhase (h : s.Alike t) (p : Option Phase) : (s.setPhase p).Alike (t.setPhase p) where
  slots_eq := h.slots_eq
  paths_eq := h.paths_eq
  queue_eq := h.queue_eq
  phase_eq := rfl
  timer_eq := h.timer_eq
  site_eq := h.site_eq
  receptors_eq := h.receptors_eq

theorem deletePathsOf (h : s.Alike t) (i : SlotId) : (s.deletePathsOf i).Alike (t.deletePathsOf i) := by
  obtain ⟨ps, hs, ht⟩ : ∃ ps, s.deletePathsOf i = { s with paths := ps } ∧ t.deletePathsOf i = { t with paths := ps } := by
    refine ⟨_, rfl, ?_⟩
    simp only [State.deletePathsOf, State.path, h.paths_eq]
  rw [hs, ht]
  exact ⟨h.slots_eq, rfl, h.queue_eq, h.phase_eq, h.timer_eq, h.site_eq, h.receptors_eq⟩

/-- A post, a copy, a trigger and a report of a clamp leave the state alike. -/
theorem post (s : State) (n : Notice) : (s.post n).Alike s := ⟨rfl, rfl, rfl, rfl, rfl, rfl, rfl⟩

theorem trigger (s : State) : s.trigger.Alike s := by rw [State.trigger_eq]; exact ⟨rfl, rfl, rfl, rfl, rfl, rfl, rfl⟩

theorem reportClamp (s : State) (i : SlotId) (x : Slot) (event : ClampEvent) (report : Option (Level × Nat × Level)) :
    (s.reportClamp i x event report).Alike s := by rw [State.reportClamp_eq]; exact ⟨rfl, rfl, rfl, rfl, rfl, rfl, rfl⟩

theorem emptySlot (h : s.Alike t) (i : SlotId) : (s.emptySlot i).Alike (t.emptySlot i) := by
  have hemptied (u : State) : (u.emptySlot i).Alike ((u.updSlot i Slot.emptied).deletePathsOf i) :=
    (reportClamp _ i _ _ _).trans ((post _ _).trans (trigger _))
  exact (hemptied s).trans (((h.updSlot i _).deletePathsOf i).trans (hemptied t).symm)

theorem ageSlot (h : s.Alike t) (i : SlotId) : (s.ageSlot i).Alike (t.ageSlot i) := by
  have hdue : s.ageDue i = t.ageDue i := by rw [State.ageDue_eq, State.ageDue_eq, h.slot_eq, h.site_eq]
  rw [State.ageSlot_of hdue, State.ageSlot_of (ages := t.ageDue i) rfl]
  split
  · exact h.emptySlot i
  · exact h

theorem becomeHead (h : s.Alike t) (i : SlotId) : (s.becomeHead i).Alike (t.becomeHead i) := by
  have hbegun (u : State) : (u.becomeHead i).Alike ((u.updSlot i fun x => { x with state := .entering }).setPhase (some .counting)) :=
    (post _ _).trans ((post _ _).trans ((trigger _).trans ⟨rfl, rfl, rfl, rfl, rfl, rfl, rfl⟩))
  exact (hbegun s).trans (((h.updSlot i _).setPhase _).trans (hbegun t).symm)

theorem promote (h : s.Alike t) : s.promote.Alike t.promote := by
  unfold State.promote
  rw [h.queue_eq]
  cases t.arbiter.queue with
  | nil => exact h.setPhase none
  | cons i rest => exact h.becomeHead i

theorem refuseCurfew (h : s.Alike t) (i : SlotId) : (s.refuseCurfew i).Alike (t.refuseCurfew i) := by
  have hrefused (u : State) : (u.refuseCurfew i).Alike (u.updSlot i Slot.refusedCurfew) := (post _ _).trans (post _ _)
  exact (hrefused s).trans ((h.updSlot i _).trans (hrefused t).symm)

theorem foldl {α : Type} {op : State → α → State} (hop : ∀ (u v : State) a, u.Alike v → (op u a).Alike (op v a)) (l : List α) (h : s.Alike t) :
    (l.foldl op s).Alike (l.foldl op t) := by
  induction l generalizing s t with
  | nil => exact h
  | cons a l ih => exact ih (hop s t a h)

theorem removeAtCurfew (h : s.Alike t) (removed : SlotId → Bool) : (s.removeAtCurfew removed).Alike (t.removeAtCurfew removed) := by
  have hgone : s.goneAt removed = t.goneAt removed := by rw [State.goneAt, h.queue_eq]; rfl
  have hleft : s.leftAt removed = t.leftAt removed := by rw [State.leftAt, h.queue_eq]; rfl
  have hhead : s.headGone removed = t.headGone removed := by rw [State.headGone, h.queue_eq]; rfl
  have hunqueued : (s.unqueued removed).Alike (t.unqueued removed) := by
    unfold State.unqueued
    rw [hhead, hleft]
    split
    · exact ((h.setQueue _).stopTimer).updSlots _
    · exact h.setQueue _
  rw [State.removeAtCurfew_eq_unqueued, State.removeAtCurfew_eq_unqueued, hhead, hgone]
  have hrefused := foldl (op := State.refuseCurfew) (fun _ _ i k => k.refuseCurfew i) (t.goneAt removed) hunqueued
  split
  · exact ((trigger _).trans (hrefused.trans (trigger _).symm)).promote
  · exact hrefused

theorem curfewZone (h : s.Alike t) (z : ZoneId) : (s.curfewZone z).Alike (t.curfewZone z) := by
  have hheard : (fun i => s.audibleInZone i z) = fun i => t.audibleInZone i z := by
    funext i
    refine List.any_congr rfl fun r => ?_
    simp only [State.receptor, h.receptors_eq, State.audible, State.pathLoss, State.path, h.paths_eq]
  unfold State.curfewZone
  rw [hheard, State.curfewRemoval_eq, State.curfewRemoval_eq, State.goneAt, h.queue_eq]
  exact foldl (op := State.ageSlot) (fun _ _ i k => k.ageSlot i) _ (h.removeAtCurfew _)

theorem of_zoneSet {z : ZoneId} {x : Zone} {p : Prop} (h : s.ZoneSet t z x p) : t.Alike s := by
  obtain ⟨_, _, rfl⟩ := h.written
  exact ⟨rfl, rfl, rfl, rfl, rfl, rfl, rfl⟩

end State.Alike

end Sys2Proof.Machine
end

section
/-! SUPPORT. The breakpoint in force, the evaluation and the hand-off at curfew in the words of the statement (R24 to R29, R139). -/

namespace Sys2Proof.Machine

/-! ### The breakpoint in force (R24) -/

theorem filter_append_of_ascending {m : Nat} {bps : List Breakpoint} (h : bps.Pairwise fun a b => a.minute < b.minute) :
    bps = (bps.filter fun b => b.minute ≤ m) ++ bps.filter fun b => m < b.minute := by
  induction bps with
  | nil => rfl
  | cons b bps ih =>
    obtain ⟨hb, hrest⟩ := List.pairwise_cons.1 h
    by_cases hle : b.minute ≤ m
    · simp only [List.filter_cons, decide_eq_true hle, if_true, decide_eq_false (not_lt.2 hle), Bool.false_eq_true, if_false, List.cons_append]
      exact congrArg (b :: ·) (ih hrest)
    · have hnone : (bps.filter fun b => b.minute ≤ m) = [] := List.filter_eq_nil_iff.2 fun c hc => by
        have := hb c hc
        simp only [decide_eq_true_eq]
        omega
      have hall : (bps.filter fun b => m < b.minute) = bps := List.filter_eq_self.2 fun c hc => by
        have := hb c hc
        exact decide_eq_true (by omega)
      simp [hnone, hall, hle, not_le.1 hle]

/-- The last of an ascending list has the greatest minute. -/
theorem last_of_ascending {l : List Breakpoint} (hne : l ≠ []) (h : l.Pairwise fun a b => a.minute < b.minute) :
    ∃ bp, l[l.length - 1]? = some bp ∧ bp ∈ l ∧ ∀ b ∈ l, b.minute ≤ bp.minute := by
  obtain ⟨init, bp, rfl⟩ := (List.eq_nil_or_concat l).resolve_left hne
  rw [List.concat_eq_append] at h ⊢
  obtain ⟨-, -, hlast⟩ := List.pairwise_append.1 h
  refine ⟨bp, by simp, by simp, fun b hb => ?_⟩
  rcases List.mem_append.1 hb with hb | hb
  · exact (hlast b hb bp (List.mem_singleton_self bp)).le
  · rw [List.mem_singleton.1 hb]

theorem inForceAt_spec {bps : List Breakpoint} (m : Nat) (hascending : bps.Pairwise fun a b => a.minute < b.minute) (hne : bps ≠ []) :
    ∃ k bp, inForceAt bps m = some k ∧ 1 ≤ k ∧ bps[k - 1]? = some bp ∧
      (∀ b ∈ bps, b.minute ≤ m → bp.minute ≤ m ∧ b.minute ≤ bp.minute) ∧
      ((∀ b ∈ bps, m < b.minute) → ∀ b ∈ bps, b.minute ≤ bp.minute) := by
  have hnonempty : bps.isEmpty = false := by rw [Bool.eq_false_iff, ne_eq, List.isEmpty_iff]; exact hne
  by_cases hreached : (bps.filter fun b => b.minute ≤ m) = []
  · have hlater : ∀ b ∈ bps, m < b.minute := fun b hb => by
      have := List.filter_eq_nil_iff.1 hreached b hb
      simpa using this
    obtain ⟨bp, hget, -, hmax⟩ := last_of_ascending hne hascending
    refine ⟨bps.length, bp, by simp [inForceAt, hne, hreached], List.length_pos_of_ne_nil hne, hget, fun b hb hle => ?_, fun _ => hmax⟩
    exact absurd hle (not_le.2 (hlater b hb))
  · obtain ⟨bp, hget, hmem, hmax⟩ := last_of_ascending hreached (hascending.filter _)
    have hlen : 0 < (bps.filter fun b => b.minute ≤ m).length := List.length_pos_of_ne_nil hreached
    have hle : bp.minute ≤ m := of_decide_eq_true (List.mem_filter.1 hmem).2
    refine ⟨(bps.filter fun b => b.minute ≤ m).length, bp, ?_, Nat.succ_le_of_lt hlen, ?_, fun b hb hbm => ⟨hle, hmax b ?_⟩, fun hlater => ?_⟩
    · simp only [inForceAt, hnonempty, Bool.false_eq_true, if_false, if_neg hlen.ne']
    · have hprefix : bps[(bps.filter fun b => b.minute ≤ m).length - 1]? = _ :=
        congrArg (·[(bps.filter fun b => b.minute ≤ m).length - 1]?) (filter_append_of_ascending (m := m) hascending)
      rw [hprefix, List.getElem?_append_left (by omega)]
      exact hget
    · exact List.mem_filter.2 ⟨hb, decide_eq_true hbm⟩
    · exact absurd hle (not_le.2 (hlater bp (List.mem_filter.1 hmem).1))

/-! ### The evaluation -/

theorem State.curfewZone_zone (s : State) (z w : ZoneId) : (s.curfewZone z).zone w = s.zone w := by
  have hage (u : State) (i : SlotId) : (u.ageSlot i).zones = u.zones := by
    rcases u.ageSlot_eq i with ⟨h, -⟩ | ⟨h, -⟩
    · rw [h]
    · rw [h, State.emptySlot_eq]
  have hzones : (s.curfewZone z).zones = s.zones :=
    (foldl_keeps (g := State.zones) hage _ _).trans (ArbiterFrame.of_removeAtCurfew s _).zones_eq
  rw [State.zone, hzones]
  rfl

section handed
variable {s u : State} {z : ZoneId} {y : Zone} {changed : Prop}

theorem State.Handed.zone_same (h : s.Handed u z y changed) : u.zone z = y := by
  obtain ⟨b, hb, rfl⟩ := h
  split
  · rw [State.curfewZone_zone, hb.zone_same]
  · exact hb.zone_same

theorem State.Handed.zone_ne (h : s.Handed u z y changed) {w : ZoneId} (hw : w ≠ z) : u.zone w = s.zone w := by
  obtain ⟨b, hb, rfl⟩ := h
  split
  · rw [State.curfewZone_zone, hb.zone_ne hw]
  · exact hb.zone_ne hw

/-- A change of what the engine reads raises a trigger; with none the engine is as it was. -/
theorem State.Handed.raised (h : s.Handed u z y changed) (hstate : y.state ≠ (s.zone z).state → changed) :
    (changed → s.mode ≠ .boot → s.AnyTrigger u) ∧ (¬changed → u.engine = s.engine) := by
  obtain ⟨b, hb, rfl⟩ := h
  refine ⟨fun hchanged hmode => ?_, fun hnot => ?_⟩
  · have htrigger := (hb.raised hmode).1 hchanged
    split
    · exact htrigger.of_didSome (.of_curfewZone (hb.mode_eq ▸ hmode) z)
    · exact htrigger
  · rw [if_neg fun hnew => hnot (hstate fun heq => hnew.1 (heq.symm.trans hnew.2))]
    by_cases hmode : s.mode = .boot
    · exact hb.kept hmode
    · exact (hb.raised hmode).2 hnot

theorem State.Handed.alike (h : s.Handed u z y changed) : u.Alike (if (s.zone z).state ≠ .fading ∧ y.state = .fading then s.curfewZone z else s) := by
  obtain ⟨b, hb, rfl⟩ := h
  have halike := State.Alike.of_zoneSet hb
  split
  · exact halike.curfewZone z
  · exact halike

end handed

theorem State.postZoneIfChanged_alike (s : State) (z : ZoneId) (before : Zone) : (s.postZoneIfChanged z before).Alike s := by
  rw [State.postZoneIfChanged_eq]
  exact ⟨rfl, rfl, rfl, rfl, rfl, rfl, rfl⟩

theorem State.evaluateZone_zone_same (s : State) (z : ZoneId) : (s.evaluateZone z).zone z = (s.zone z).evaluated s.mode s.clock.minute := by
  obtain ⟨u, hu, heq⟩ := s.evaluateZone_eq z
  rw [heq, State.postZoneIfChanged_zone, hu.zone_same]

theorem State.evaluateZone_zone_ne (s : State) {z w : ZoneId} (hw : w ≠ z) : (s.evaluateZone z).zone w = s.zone w := by
  obtain ⟨u, hu, heq⟩ := s.evaluateZone_eq z
  rw [heq, State.postZoneIfChanged_zone, hu.zone_ne hw]

theorem State.evaluateZone_raised (s : State) (z : ZoneId) :
    (((s.evaluateZone z).zone z).TriggersFrom (s.zone z) → s.mode ≠ .boot → s.AnyTrigger (s.evaluateZone z)) ∧
      (¬((s.evaluateZone z).zone z).TriggersFrom (s.zone z) → (s.evaluateZone z).engine = s.engine) := by
  rw [State.evaluateZone_zone_same]
  obtain ⟨u, hu, heq⟩ := s.evaluateZone_eq z
  obtain ⟨htrigger, hsame⟩ := hu.raised fun hne => .inr (.inr hne)
  have hengine := u.postZoneIfChanged_engine z (s.zone z)
  rw [← heq] at hengine
  exact ⟨fun h hmode => (htrigger h hmode).of_engine_eq hengine, fun h => hengine.trans (hsame h)⟩

theorem State.evaluateZone_notice {s : State} {z : ZoneId} (hdue : ((s.evaluateZone z).zone z).ReportedFrom (s.zone z))
    (hlost : (s.evaluateZone z).notices.lost = false) : (s.evaluateZone z).zoneNotice z ∈ (s.evaluateZone z).notices.notices := by
  obtain ⟨u, -, heq⟩ := s.evaluateZone_eq z
  rw [heq] at hlost hdue ⊢
  rw [State.postZoneIfChanged_zone] at hdue
  rw [State.zoneNotice_congr (u.postZoneIfChanged_zone z z _)]
  exact State.zoneNotice_mem_postZoneIfChanged hlost hdue

theorem State.evaluateZone_alike (s : State) (z : ZoneId) : (s.evaluateZone z).Alike
    (if (s.zone z).state ≠ .fading ∧ ((s.evaluateZone z).zone z).state = .fading then s.curfewZone z else s) := by
  rw [State.evaluateZone_zone_same]
  obtain ⟨u, hu, heq⟩ := s.evaluateZone_eq z
  rw [heq]
  exact (u.postZoneIfChanged_alike z _).trans hu.alike

/-- The entered record in the words of the statement: the grace count of R25 and that of Table 2-3 are one. -/
theorem Zone.entered_eq (mode : Mode) (k : Nat) (bp : Breakpoint) (x : Zone) : x.entered mode k bp =
    { x with
      inForce := some k
      licence := bp.limit
      effective := max x.effective bp.limit
      grace := if mode = .enforce ∧ (bp.limit < x.licence ∨ bp.curfew = true ∧ x.state = .opened) then 15 else x.grace
      state := curfewState mode bp.curfew x.state
      fade := curfewFade mode bp.curfew x.state x.fade } := by
  have hgrace : curfewGrace mode bp.curfew x.state (graceAfter mode x.licence bp.limit x.grace) =
      if mode = .enforce ∧ (bp.limit < x.licence ∨ bp.curfew = true ∧ x.state = .opened) then 15 else x.grace := by
    unfold curfewGrace graceAfter
    by_cases hmode : mode = .enforce <;> by_cases hlow : bp.limit < x.licence <;> simp [hmode, hlow]
  rw [Zone.entered, hgrace]

/-! ### The statement -/

theorem State.any_path_eq_audibleInZone (s : State) (z : ZoneId) (i : SlotId) : (allPathPos.any fun p =>
      (s.path p).any fun e => e.slot == i && (s.receptor e.receptor).any fun x => x.zone == z) = s.audibleInZone i z := by
  rw [Bool.eq_iff_iff, State.audibleInZone_iff]
  simp only [List.any_eq_true, Option.any_eq_true, Bool.and_eq_true, beq_iff_eq, State.home, Option.map_eq_some_iff]
  constructor
  · rintro ⟨p, -, e, he, hslot, x, hx, hz⟩
    exact ⟨p, e, he, hslot, x, hx, hz⟩
  · rintro ⟨p, e, he, hslot, x, hx, hz⟩
    exact ⟨p, List.mem_finRange p, e, he, hslot, x, hx, hz⟩

theorem State.headGone_iff (s : State) (removed : SlotId → Bool) :
    (∃ h, s.arbiter.queue.head? = some h ∧ removed h = true) ↔ s.headGone removed = true := by
  rw [State.headGone, Option.any_eq_true]

theorem sum_map_ite_eq_zero {α : Type} {l : List α} {p : α → Bool} (h : ∀ a ∈ l, p a = false) : (l.map fun a => if p a then 1 else 0).sum = 0 := by
  rw [List.sum_eq_zero_iff]
  intro n hn
  obtain ⟨a, ha, rfl⟩ := List.mem_map.1 hn
  rw [h a ha]
  rfl

theorem sum_map_ite_ne_zero {α : Type} {l : List α} {p : α → Bool} (h : ∃ a ∈ l, p a = true) : (l.map fun a => if p a then 1 else 0).sum ≠ 0 := by
  obtain ⟨a, ha, hp⟩ := h
  rw [ne_eq, List.sum_eq_zero_iff]
  intro hall
  have := hall _ (List.mem_map.2 ⟨a, ha, rfl⟩)
  rw [hp] at this
  cases this

/-- Settles O21: the breakpoint in force of an ascending list; the record, the triggers, the notice and the hand-off of an evaluation; the removal that a zone
that becomes FADING brings. -/
theorem evaluationPutsABreakpointInForce : Obligations.EvaluationPutsABreakpointInForce := by
  refine ⟨⟨fun bps m hsound hne => inForceAt_spec m hsound.2.1 hne, fun s z => ⟨fun w hw => s.evaluateZone_zone_ne hw, ?_, ?_, fun hempty => ?_,
    fun k bp hk hbp => ⟨fun hin => ?_, fun hin => ?_⟩⟩⟩, fun s z hs => ?_⟩
  · obtain ⟨htrigger, hsame⟩ := s.evaluateZone_raised z
    exact ⟨htrigger, hsame, fun hdue => State.evaluateZone_notice hdue⟩
  · have halike := s.evaluateZone_alike z
    exact ⟨halike.slots_eq, halike.paths_eq, halike.queue_eq, halike.phase_eq, halike.timer_eq⟩
  · have hnone : inForceAt (s.zone z).breakpoints s.clock.minute = none := by rw [hempty]; rfl
    simp only [State.evaluateZone_zone_same, Zone.evaluated, hnone]
  · rw [State.evaluateZone_zone_same, Zone.evaluated, hk]
    simp only [hbp, hin, if_true]
  · rw [State.evaluateZone_zone_same, Zone.evaluated, hk]
    simp only [hbp, hin, if_false, Zone.entered_eq]
    rfl
  · have hages (i : SlotId) : ((s.slot i).kind == .openKind && (s.slot i).published == 0 && (s.slot i).port.isSome &&
        (s.slot i).reportAge.any fun a => decide (1000 * s.site.ageTime ≤ a)) = s.quietAges i := rfl
    dsimp only
    simp only [State.any_path_eq_audibleInZone, hages]
    obtain ⟨ns, hdid⟩ := State.Did.of_curfewRemoval hs (removed := fun i => s.audibleInZone i z)
    have hmem {i : SlotId} : i ∈ s.goneAt (fun i => s.audibleInZone i z) ↔ i ∈ s.arbiter.queue ∧ s.audibleInZone i z = true := State.mem_goneAt
    have hstays {i : SlotId} (h : i ∉ s.arbiter.queue ∨ s.audibleInZone i z = false) : i ∉ s.goneAt fun i => s.audibleInZone i z := fun hi =>
      h.elim (fun hq => hq (hmem.1 hi).1) fun hne => Bool.false_ne_true (hne.symm.trans (hmem.1 hi).2)
    rw [s.headGone_iff fun i => s.audibleInZone i z]
    refine ⟨hdid.frame_eq, State.curfewRemoval_queue, fun i hi hheard => ⟨fun hkept => ?_, fun haged => ?_, fun hlost => ?_⟩, ?_, fun p => ?_,
      fun hgone => ⟨?_, fun i hi => ?_, fun hnone => ?_, fun ⟨i, hi, hheard, haged⟩ => ?_⟩, fun hgone => ⟨?_, ?_, ?_, ?_, fun i hi => ?_⟩⟩
    · exact State.curfewRemoval_slot_of_kept hs (hmem.2 ⟨hi, hheard⟩) hkept
    · exact State.curfewRemoval_slot_of_aged hs (hmem.2 ⟨hi, hheard⟩) haged
    · exact State.curfewRemoval_waits hs (hmem.2 ⟨hi, hheard⟩) hlost
    · exact hdid.witness_eq.trans (congrArg State.witness (State.sendAll_map s _ _))
    · refine (State.curfewRemoval_path hs p).trans (congrArg (Option.bind _) (funext fun e => ?_))
      simp only [hmem, and_assoc]
    · exact State.curfewRemoval_arbiter_of_stays (Bool.eq_false_iff.2 hgone)
    · exact (State.curfewRemoval_slot_of_stayer hs (hstays hi)).trans (if_neg hgone)
    · have hno : ∀ i ∈ s.goneAt (fun i => s.audibleInZone i z), s.quietAges i = false := fun i hi => hnone i (hmem.1 hi).1 (hmem.1 hi).2
      refine ⟨?_, ?_⟩
      · rw [sum_map_ite_eq_zero hno, if_neg hgone] at hdid
        exact hdid.triggered
      · have harbiter := State.removeAtCurfew_arbiter_of_stays (Bool.eq_false_iff.2 hgone)
        rw [← State.curfewRemoval_of_no_ages hs hno] at harbiter
        have hpass := congrArg Arbiter.passSinceHead harbiter
        exact hpass
    · exact hdid.triggered.anyTrigger (fun h => sum_map_ite_ne_zero ⟨i, hmem.2 ⟨hi, hheard⟩, haged⟩ (Nat.eq_zero_of_add_eq_zero_left h))
    · exact (State.curfewRemoval_arbiter_of_gone hgone).1
    · exact (State.curfewRemoval_arbiter_of_gone hgone).2
    · refine hdid.triggered.anyTrigger ?_
      rw [if_pos hgone]
      omega
    · exact State.curfewRemoval_headPosted hs hgone
    · exact (State.curfewRemoval_slot_of_stayer hs (hstays hi)).trans (if_pos hgone)

end Sys2Proof.Machine
end

section
/-! SUPPORT. TABLE WRITE and TABLE DELETE of PATH (R104, R105, R140). -/

namespace Sys2Proof.Machine

/-! ### A path entry written, with its trigger -/

section pathWritten
variable {s : State} {p : PathPos} {o : Option PathEntry}

theorem State.setPath_trigger_engineTriggered (hmode : s.mode ≠ .boot) : s.EngineTriggered (s.setPath p o).trigger :=
  State.trigger_engineTriggered (s := s.setPath p o) hmode

theorem State.trigger_path (s : State) (q : PathPos) : s.trigger.path q = s.path q := by
  rw [State.trigger_eq]
  rfl

theorem State.setPath_trigger_frame : (s.setPath p o).trigger = { s with
    paths := (s.setPath p o).trigger.paths, engine := (s.setPath p o).trigger.engine, arbiter := (s.setPath p o).trigger.arbiter } := by
  rw [State.trigger_eq]
  rfl

theorem State.setPath_trigger_path_same : (s.setPath p o).trigger.path p = o := by rw [State.trigger_path, State.path_setPath_same]

theorem State.setPath_trigger_path_ne {q : PathPos} (hq : q ≠ p) : (s.setPath p o).trigger.path q = s.path q := by
  rw [State.trigger_path, State.path_setPath_ne _ _ _ _ hq]

theorem State.Did.of_setPath_trigger (hmode : s.mode ≠ .boot) : s.Did (s.setPath p o).trigger [] [] 1 := ((State.Did.refl s).setPath p o).trigger hmode

theorem State.setPath_trigger_slots : (s.setPath p o).trigger.slots = s.slots := State.trigger_slots _

theorem State.setPath_trigger_arbiter :
    (s.setPath p o).trigger.arbiter = { s.arbiter with passSinceHead := (s.setPath p o).trigger.arbiter.passSinceHead } := by
  rw [State.trigger_eq]
  rfl

/-- The admission stays sound: a path entry is none of its business. -/
theorem State.admissionSound_setPath_trigger (hmode : s.mode ≠ .boot) (hs : s.AdmissionSound) : (s.setPath p o).trigger.AdmissionSound := by
  obtain ⟨hboot, hbind, hq, hh⟩ := hs
  have hslot (i : SlotId) : (s.setPath p o).trigger.slot i = s.slot i := State.trigger_slot ..
  refine ⟨⟨?_, fun h => absurd ?_ hmode⟩, ?_, ?_, ?_⟩
  · rw [State.trigger_eq]
    exact hboot.1
  · rw [State.trigger_eq] at h
    exact h
  · simp only [State.BindingsSound, hslot]
    exact hbind
  · simp only [State.QueueSound, hslot, State.trigger_queue]
    exact hq
  · simp only [State.HandoverSound, hslot, State.trigger_queue, State.trigger_phase, State.trigger_timer]
    exact hh

theorem State.quietAges_setPath_trigger (i : SlotId) : (s.setPath p o).trigger.quietAges i = s.quietAges i := by
  simp only [State.quietAges, State.slot_of_trigger, State.setPath_slot]
  rw [State.trigger_eq]
  rfl

end pathWritten

/-! ### The removal of one member -/

section one
variable {s : State} {i : SlotId}

theorem State.goneAt_one (hnodup : s.arbiter.queue.Nodup) (hi : i ∈ s.arbiter.queue) : s.goneAt (· == i) = [i] := by
  rw [State.goneAt, List.filter_beq, List.count_eq_one_of_mem hnodup hi]
  rfl

theorem State.leftAt_one (hnodup : s.arbiter.queue.Nodup) : s.leftAt (· == i) = s.arbiter.queue.erase i := (hnodup.erase_eq_filter i).symm

theorem State.headGone_one : s.headGone (· == i) = true ↔ s.arbiter.queue.head? = some i := by
  rw [← State.headGone_iff]
  constructor
  · rintro ⟨h, hh, heq⟩
    rw [hh, beq_iff_eq.1 heq]
  · exact fun h => ⟨i, h, beq_self_eq_true i⟩

theorem State.goneCopies_one (hnodup : s.arbiter.queue.Nodup) (hi : i ∈ s.arbiter.queue) : s.goneCopies (· == i) =
    if s.quietAges i && (s.slot i).causes != causesNone then
      [.clamp i none (s.slot i).causes causesNone false .empty none s.clock.minute s.clock.second none] else [] := by
  have hfilter : (s.arbiter.queue.filter fun j => j == i && s.quietAges j && (s.slot j).causes != causesNone) =
      [i].filter fun j => s.quietAges j && (s.slot j).causes != causesNone := by
    rw [← State.goneAt_one hnodup hi, State.goneAt, List.filter_filter]
    refine List.filter_congr fun j _ => ?_
    cases (j == i) <;> cases s.quietAges j <;> simp
  rw [State.goneCopies, hfilter, List.filter_singleton]
  cases (s.quietAges i && (s.slot i).causes != causesNone) <;> rfl

end one

/-! ### The handlers -/

section handlers
variable {s : State} {i : SlotId} {r : ReceptorId} {loss : Nat}

theorem writePath_of_empty (h : (s.slot i).state = .empty ∨ s.receptor r = none) : writePath loss i r s = (s, .refused .noSuch) := by
  unfold writePath
  rcases h with h | h
  · rw [if_pos h]; rfl
  · by_cases hstate : (s.slot i).state = .empty
    · rw [if_pos hstate]; rfl
    · rw [if_neg hstate, h]; rfl

theorem writePath_of_present (hstate : (s.slot i).state ≠ .empty) (hr : s.receptor r ≠ none) {p : PathPos} {old : Nat}
    (hposition : s.pathPosition i r = some p) (hloss : s.pathLoss i r = some old) : writePath loss i r s =
    if s.mode = .enforce ∧ old < min 1200 loss then (s, .refused .isProtected)
    else (s.changeLoss p i r old (min 1200 loss), .doneAdjusted (decide (1200 < loss)) (.pathPosition p)) := by
  have hsome : ¬(s.receptor r).isNone = true := fun h => hr (Option.isNone_iff_eq_none.1 h)
  simp only [writePath, if_neg hstate, if_neg hsome, clampSetting_zero_value, clampSetting_zero_adjusted, hposition, hloss, Option.getD_some]
  rfl

theorem writePath_of_full (hstate : (s.slot i).state ≠ .empty) (hr : s.receptor r ≠ none) (hposition : s.pathPosition i r = none)
    (hfree : s.freePathPosition = none) : writePath loss i r s = (s, .refused .full) := by
  have hsome : ¬(s.receptor r).isNone = true := fun h => hr (Option.isNone_iff_eq_none.1 h)
  simp only [writePath, if_neg hstate, if_neg hsome, hposition, hfree]
  rfl

theorem writePath_of_free (hstate : (s.slot i).state ≠ .empty) (hr : s.receptor r ≠ none) (hposition : s.pathPosition i r = none) {p : PathPos}
    (hfree : s.freePathPosition = some p) : writePath loss i r s =
    (s.createPath p i r (min 1200 loss), .doneAdjusted (decide (1200 < loss)) (.pathPosition p)) := by
  have hsome : ¬(s.receptor r).isNone = true := fun h => hr (Option.isNone_iff_eq_none.1 h)
  simp only [writePath, if_neg hstate, if_neg hsome, clampSetting_zero_value, clampSetting_zero_adjusted, hposition, hfree]

theorem deletePath_of_present {p : PathPos} (hposition : s.pathPosition i r = some p) : deletePath i r s =
    if s.mode = .enforce then (s, .refused .isProtected) else ((s.setPath p none).trigger, .done .none) := by
  simp only [deletePath, hposition]
  rfl

theorem State.changeLoss_of_same {p : PathPos} {e : PathEntry} (he : s.path p = some e) : s.changeLoss p e.slot e.receptor e.loss e.loss = s := by
  have hsame : s.setPath p (some e) = s := by
    rw [← he]
    simp [State.setPath, State.path, Vector.get_eq_getElem]
  rw [State.changeLoss, State.triggerIf, bne_self_eq_false]
  exact hsame

theorem State.changeLoss_of_ne (s : State) (p : PathPos) (i : SlotId) (r : ReceptorId) {old new : Nat} (h : old ≠ new) :
    s.changeLoss p i r old new = (s.setPath p (some { slot := i, receptor := r, loss := new })).trigger := by
  rw [State.changeLoss, State.triggerIf, if_pos (bne_iff_ne.2 h)]

/-- An entry created puts its slot under curfew, or does not (R140). -/
theorem State.createPath_eq {x : Receptor} (hx : s.receptor r = some x) (p : PathPos) (loss : Nat) : s.createPath p i r loss =
    if i ∈ s.arbiter.queue ∧ (s.zone x.zone).state ≠ .opened then
      ((s.setPath p (some { slot := i, receptor := r, loss := loss })).trigger).curfewRemoval (· == i)
    else (s.setPath p (some { slot := i, receptor := r, loss := loss })).trigger := by
  have hreceptor : (s.setPath p (some { slot := i, receptor := r, loss := loss })).trigger.receptor r = some x := by rw [State.trigger_eq]; exact hx
  have hzone : (s.setPath p (some { slot := i, receptor := r, loss := loss })).trigger.zone x.zone = s.zone x.zone := by rw [State.trigger_eq]; rfl
  simp only [State.createPath, State.pathCreated, hreceptor, hzone, State.trigger_queue, State.setPath_arbiter, List.contains_eq_mem, Bool.and_eq_true,
    decide_eq_true_eq, bne_iff_ne]

theorem State.freePathPosition_eq_some {p : PathPos} (hp : s.path p = none) (hfirst : ∀ q, q < p → s.path q ≠ none) : s.freePathPosition = some p :=
  find?_finRange_of_first (by rw [hp]; rfl) fun q hq => by
    rw [Option.isNone_eq_false_iff, Option.isSome_iff_ne_none]
    exact hfirst q hq

theorem State.freePathPosition_eq_none (h : ∀ p, s.path p ≠ none) : s.freePathPosition = none := by
  simpa [State.freePathPosition] using h

end handlers

/-! ### The statement -/

/-- Settles O57, by the key, the entry present or not, and whether the slot is queued under curfew. -/
theorem pathWritesAndDeletes : Obligations.PathWritesAndDeletes := by
  rintro s tag slot receptor loss hready hsound
  obtain ⟨hs, hpaths, -, -⟩ := hsound
  have hmode := hready.1.2.1
  have writes {t : State} {a : Answer} (h : forPathKey slot receptor (writePath loss) s = (t, a)) :
      Answered (.tableWritePath 0 tag (.whole { slot := slot, receptor := receptor, loss := loss })) s t 0 0x18 tag a :=
    answered_of_tableReady hready rfl h
  have deletes {t : State} {a : Answer} (h : forPathKey slot receptor deletePath s = (t, a)) :
      Answered (.tableDeletePath 0 tag (.whole { slot := slot, receptor := receptor })) s t 0 0x19 tag a := answered_of_tableReady hready rfl h
  refine ⟨fun hout => ⟨writes (forPathKey_of_out_of_range hout _ s), deletes (forPathKey_of_out_of_range hout _ s)⟩, ?_⟩
  rintro i r rfl rfl
  rw [forPathKey_of_keys] at writes deletes
  refine ⟨fun h => writes (writePath_of_empty h), fun habsent => deletes ?_, fun p e he hslot hreceptor => ?_, fun hstate hr habsent => ⟨fun hfull => ?_,
    fun p x hfree hfirst hx => ?_⟩⟩
  · rw [deletePath, State.pathPosition_eq_none.2 habsent]
    rfl
  · subst hslot hreceptor
    have hposition := State.pathPosition_of_entry hpaths he ⟨rfl, rfl⟩
    have hloss := State.pathLoss_of_entry hpaths he ⟨rfl, rfl⟩
    obtain ⟨-, hoccupied, hsome⟩ := hpaths.2.1 p e he
    have hwrite := writePath_of_present (loss := loss) hoccupied (Option.isSome_iff_ne_none.1 hsome) hposition hloss
    have hdelete := deletePath_of_present hposition
    refine ⟨fun henforce => deletes (hdelete.trans (if_pos henforce)), fun hsetup => ?_,
      fun henforce hlow => writes (hwrite.trans (if_pos ⟨henforce, hlow⟩)), fun hallowed => ?_⟩
    · exact ⟨_, deletes (hdelete.trans (if_neg (by rw [hsetup]; decide))), State.setPath_trigger_frame, State.setPath_trigger_path_same,
        fun q hq => State.setPath_trigger_path_ne hq, State.setPath_trigger_engineTriggered hmode⟩
    · have hnot : ¬(s.mode = .enforce ∧ e.loss < min 1200 loss) := fun h => hallowed.elim (fun hsetup => by rw [hsetup] at h; cases h.1)
        fun hle => absurd h.2 (not_lt.2 hle)
      rw [if_neg hnot] at hwrite
      refine ⟨_, writes hwrite, ?_⟩
      by_cases hsame : e.loss = min 1200 loss
      · rw [← hsame, State.changeLoss_of_same he]
        exact ⟨rfl, he, fun _ _ => rfl, fun _ => rfl, fun h => absurd rfl h⟩
      · rw [State.changeLoss_of_ne s p e.slot e.receptor hsame]
        exact ⟨State.setPath_trigger_frame, State.setPath_trigger_path_same, fun q hq => State.setPath_trigger_path_ne hq,
          fun h => absurd h hsame, fun _ => State.setPath_trigger_engineTriggered hmode⟩
  · exact writes (writePath_of_full hstate hr (State.pathPosition_eq_none.2 habsent) (State.freePathPosition_eq_none hfull))
  · have hanswer := writes (writePath_of_free (loss := loss) hstate hr (State.pathPosition_eq_none.2 habsent)
      (State.freePathPosition_eq_some hfree hfirst))
    rw [State.createPath_eq hx] at hanswer
    refine ⟨_, hanswer, ?_⟩
    split
    case isFalse hkeeps =>
      exact ⟨(State.Did.of_setPath_trigger hmode).frame_eq, fun _ => ⟨State.setPath_trigger_path_same, fun q hq => State.setPath_trigger_path_ne hq, by rw [State.trigger_eq]; rfl⟩,
        fun _ => ⟨State.setPath_trigger_slots, by rw [State.trigger_eq]; rfl, State.setPath_trigger_engineTriggered hmode⟩, fun h => absurd h hkeeps⟩
    case isTrue hremoved =>
    obtain ⟨-, -, hq, -⟩ := id hs
    obtain ⟨w, hw⟩ : ∃ w, w = (s.setPath p (some { slot := i, receptor := r, loss := min 1200 loss })).trigger := ⟨_, rfl⟩
    have hws : w.AdmissionSound := hw ▸ State.admissionSound_setPath_trigger hmode hs
    have hwdid : s.Did w [] [] 1 := hw ▸ State.Did.of_setPath_trigger hmode
    have hwages : w.quietAges i = s.quietAges i := hw ▸ State.quietAges_setPath_trigger i
    have hwslot (j : SlotId) : w.slot j = s.slot j := by rw [hw]; exact State.trigger_slot ..
    have hwqueue : w.arbiter.queue = s.arbiter.queue := by rw [hw, State.trigger_queue]; rfl
    have hwnodup : w.arbiter.queue.Nodup := hwqueue ▸ hq.1
    have hwmem : i ∈ w.arbiter.queue := hwqueue ▸ hremoved.1
    have hgone : w.goneAt (· == i) = [i] := State.goneAt_one hwnodup hwmem
    have hleft : w.leftAt (· == i) = s.arbiter.queue.erase i := (State.leftAt_one hwnodup).trans (by rw [hwqueue])
    have higone : i ∈ w.goneAt (· == i) := hgone ▸ List.mem_singleton_self i
    have hstays {j : SlotId} (hj : j ≠ i) : j ∉ w.goneAt (· == i) := by rw [hgone, List.mem_singleton]; exact hj
    have hhead : w.headGone (· == i) = true ↔ s.arbiter.queue.head? = some i := State.headGone_one.trans (by rw [hwqueue])
    obtain ⟨ns, hremove⟩ := State.Did.of_curfewRemoval hws (removed := (· == i))
    rw [hgone, hleft, List.map_singleton, List.sum_singleton, hwages, State.goneCopies_one hwnodup hwmem, hwages, hwslot i, hwdid.clock_eq] at hremove
    have hdid := hwdid.trans hremove
    have hpath (q : PathPos) : (w.curfewRemoval (· == i)).path q = (w.path q).bind fun e => if e.slot = i ∧ s.quietAges i = true then none else some e := by
      rw [State.curfewRemoval_path hws, hgone]
      refine congrArg (Option.bind _) (funext fun e => ?_)
      by_cases hei : e.slot = i
      · rw [hei, hwages]; simp
      · simp [hei]
    have hwpath : w.path p = some { slot := i, receptor := r, loss := min 1200 loss } := by rw [hw]; exact State.setPath_trigger_path_same
    have hwpath_ne {q : PathPos} (hq : q ≠ p) : w.path q = s.path q := by rw [hw]; exact State.setPath_trigger_path_ne hq
    rw [← hw]
    refine ⟨hdid.frame_eq, fun h => ?_, fun h => absurd hremoved h, fun _ => ⟨?_, fun hlost => ?_, fun hkept => ?_, fun haged => ⟨?_, fun q => ?_, ?_⟩,
      fun hnot => ⟨fun j hj => ?_, ?_, ?_⟩, fun hgoneHead => ⟨?_, ?_, ?_, ?_, fun j hj => ?_⟩⟩⟩
    · have hkept : s.quietAges i = false := h.resolve_left fun h => h hremoved
      rw [hkept] at hpath hdid
      refine ⟨?_, fun q hq => ?_, hdid.witness_eq⟩
      · rw [hpath, hwpath]; simp
      · rw [hpath, hwpath_ne hq]; simp
    · exact State.curfewRemoval_queue.trans hleft
    · have hwaits := State.curfewRemoval_waits hws higone hlost
      rwa [hleft] at hwaits
    · rw [State.curfewRemoval_slot_of_kept hws higone (hwages.trans hkept), hwslot]
    · rw [State.curfewRemoval_slot_of_aged hws higone (hwages.trans haged), hwslot]
    · rw [hpath]
      by_cases hq : q = p
      · rw [hq, hwpath, hfree]
        simp [show s.quietAges i = true from haged]
      · rw [hwpath_ne hq]
        simp [show s.quietAges i = true from haged]
    · rw [hdid.witness_eq, show s.quietAges i = true from haged]
      by_cases hcauses : (s.slot i).causes = causesNone
      · simp [hcauses]
      · simp [hcauses, State.sendAll]
    · rw [State.curfewRemoval_slot_of_stayer hws (hstays hj), if_neg (mt hhead.1 hnot), hwslot]
    · refine hdid.triggered.raised_eq (by omega) ?_
      rw [if_neg (mt hhead.1 hnot)]
      cases hages : s.quietAges i <;> exact hages.symm
    · rw [State.curfewRemoval_arbiter_of_stays (Bool.eq_false_iff.2 (mt hhead.1 hnot)), hleft, hw, State.setPath_trigger_arbiter]
    · exact (State.curfewRemoval_arbiter_of_gone (hhead.2 hgoneHead)).1
    · rw [(State.curfewRemoval_arbiter_of_gone (hhead.2 hgoneHead)).2, hleft]
    · refine hdid.triggered.raised_eq (by omega) (decide_eq_true ?_)
      rw [if_pos (hhead.2 hgoneHead)]
      omega
    · have hposted := State.curfewRemoval_headPosted hws (hhead.2 hgoneHead)
      rwa [hleft] at hposted
    · rw [State.curfewRemoval_slot_of_stayer hws (hstays hj), if_pos (hhead.2 hgoneHead), hwslot, hleft]

end Sys2Proof.Machine
end

section
/-! SUPPORT. New SITE parameters: the slots they make stale and those they age out (R81, R94, R168). -/

namespace Sys2Proof.Machine

/-! ### Every slot that is due becomes stale -/

/-- The slot record becomes stale under the site parameters (R94). -/
def Slot.turnsStale (x : Slot) (site : Site) : Bool :=
  x.port.isSome && !x.stale && x.reportAge.any fun a => decide (1000 * site.staleTime ≤ a)

/-- The slot record, marked stale where it is due. -/
def Slot.markedStale (x : Slot) (site : Site) : Slot := if x.turnsStale site then x.staled else x

theorem State.staleDue_eq (s : State) (i : SlotId) : s.staleDue i = (s.slot i).turnsStale s.site := by
  unfold State.staleDue Slot.turnsStale State.staleMs
  dsimp only
  cases (s.slot i).reportAge <;> rfl

theorem Slot.markedStale_agesOut (x : Slot) (site : Site) : (x.markedStale site).agesOut site = x.agesOut site := by
  unfold Slot.markedStale
  split <;> rfl

theorem Slot.markedStale_port (x : Slot) (site : Site) : (x.markedStale site).port = x.port := by
  unfold Slot.markedStale
  split <;> rfl

theorem Slot.markedStale_lastLevel (x : Slot) (site : Site) : (x.markedStale site).lastLevel = x.lastLevel := by
  unfold Slot.markedStale
  split <;> rfl

theorem Slot.markedStale_afterEmptying (x : Slot) (site : Site) : (x.markedStale site).afterEmptying = x.afterEmptying := by
  unfold Slot.markedStale
  split <;> rfl

theorem Slot.markedStale_causes (x : Slot) (site : Site) (h : (x.markedStale site).causes ≠ x.causes) : (x.markedStale site).causes ≠ causesNone := by
  unfold Slot.markedStale at h ⊢
  split
  · exact fun hnone => by
      have := congrArg Causes.hasStale hnone
      cases this
  · rename_i hnot
    rw [if_neg hnot] at h
    exact absurd rfl h

theorem State.Did.of_staleAll (a : State) :
    a.Did a.staleAll (allSlots.flatMap fun i => clampPosts i (a.slot i) ((a.slot i).markedStale a.site))
        (allSlots.flatMap fun i => clampCopies a.clock i (a.slot i) ((a.slot i).markedStale a.site) .staleTime none) 0 ∧
      ∀ i, a.staleAll.slot i = (a.slot i).markedStale a.site := by
  have h := State.Did.foldl (op := State.staleSlot) (f := fun _ x => x.markedStale a.site) (posts := fun i x => clampPosts i x (x.markedStale a.site))
    (copies := fun i x => clampCopies a.clock i x (x.markedStale a.site) .staleTime none) (triggers := fun _ _ => 0) a
    (fun u i hclock hsite _ => by
      rw [State.staleSlot, State.staleDue_eq, hsite, Slot.markedStale]
      split
      · exact hclock ▸ State.Did.of_becomeStale u i
      · rw [clampPosts_of_same (Slot.sameClamp_refl _), clampCopies_of_same (Slot.sameClamp_refl _)]
        exact .refl u)
    (fun u i j hsite => by
      rw [State.staleSlot, State.staleDue_eq, hsite, Slot.markedStale]
      split
      · exact State.becomeStale_slot u i j
      · split
        · rename_i hj
          rw [hj]
        · rfl) (List.nodup_finRange 8)
  exact ⟨h.1.congr rfl rfl (by simp), fun i => (h.2 i).trans (if_pos (List.mem_finRange i))⟩

/-- The CLAMP notice of a slot that had one waiting and does not age out, or that ages out with causes to lose, waits after the ageings. -/
theorem State.ageSlots_clamp_waits {v : State} {l : List SlotId} (hmode : l ≠ [] → v.mode ≠ .boot) (hl : l.Nodup) {i : SlotId}
    (h : (v.notices.lost = false → v.clampNotice i ∈ v.notices.notices) ∨ i ∈ l ∧ (v.slot i).agesOut v.site = true)
    (hcauses : i ∈ l → (v.slot i).agesOut v.site = true → (v.slot i).causes ≠ causesNone) (hlost : (l.foldl State.ageSlot v).notices.lost = false) :
    (l.foldl State.ageSlot v).clampNotice i ∈ (l.foldl State.ageSlot v).notices.notices := by
  obtain ⟨hdid, hslots⟩ := State.Did.of_ageSlots hmode hl
  by_cases hdue : i ∈ l ∧ (v.slot i).agesOut v.site = true
  · refine hdid.clamp_waits (fun m hm => State.ownNotice_of_ageSlots hmode hl hm) hlost (List.mem_flatMap.2 ⟨i, hdue.1, ?_⟩)
    rw [State.clampNotice_eq, hslots i, if_pos hdue, agedPosts, if_pos hdue.2, bindingPosts, clampPosts_emptied, if_neg (hcauses hdue.1 hdue.2)]
    exact List.mem_cons_of_mem _ List.mem_cons_self
  · have hsame : (l.foldl State.ageSlot v).clampNotice i = v.clampNotice i := by rw [State.clampNotice_eq, hslots i, if_neg hdue]; rfl
    have hkept : (l.foldl State.ageSlot v).clampNotice i ∈ (v.notices.postAll (l.flatMap fun i => agedPosts v.site i (v.slot i))).notices :=
      NoticeQueue.mem_postAll_of_mem (hsame ▸ h.resolve_right hdue (State.ageSlots_lost hmode hl hlost))
        fun m hm hs => (State.ownNotice_of_ageSlots hmode hl hm).eq_clamp hs
    rwa [← hdid.notices_eq] at hkept

/-! ### New SITE parameters -/

/-- The state in which the new parameters stand, with the trigger of a new blind margin and the SITE notice, the slots still to follow. -/
def State.siteChanged (s : State) (x : Site) : State :=
  (({ s with site := x } : State).triggerIf (x.blindMargin != s.site.blindMargin)).post (.site (.fields x))

theorem State.triggerIf_arbiter (s : State) (c : Bool) :
    (s.triggerIf c).arbiter = { s.arbiter with passSinceHead := (s.triggerIf c).arbiter.passSinceHead } := by rw [State.triggerIf_eq]

theorem State.triggerIf_paths (s : State) (c : Bool) : (s.triggerIf c).paths = s.paths := by rw [State.triggerIf_eq]

section site
variable {s : State} {x : Site}

theorem State.replaceSite_eq : s.replaceSite x = allSlots.foldl State.ageSlot (s.siteChanged x).staleAll := rfl

theorem State.Did.of_triggerIf {t : State} {ns : List Notice} {cs : List Copy} {n : Nat} (h : s.Did t ns cs n) (hmode : s.mode ≠ .boot) (c : Bool) :
    s.Did (t.triggerIf c) ns cs (n + if c then 1 else 0) := by
  cases c with
  | false => exact h
  | true => exact h.trigger hmode

theorem State.Did.of_siteChanged (hmode : s.mode ≠ .boot) : ({ s with site := x } : State).Did (s.siteChanged x) [.site (.fields x)] []
    (if x.blindMargin != s.site.blindMargin then 1 else 0) := by
  have h := (State.Did.of_triggerIf (.refl ({ s with site := x } : State)) hmode (x.blindMargin != s.site.blindMargin)).post (.site (.fields x))
  exact h.congr rfl rfl (Nat.zero_add _)

theorem State.siteChanged_slot (i : SlotId) : (s.siteChanged x).slot i = s.slot i :=
  State.triggerIf_slot ({ s with site := x } : State) (x.blindMargin != s.site.blindMargin) i

theorem State.siteChanged_site (hmode : s.mode ≠ .boot) : (s.siteChanged x).site = x := (State.Did.of_siteChanged hmode).site_eq

theorem State.siteChanged_arbiter : (s.siteChanged x).arbiter = { s.arbiter with passSinceHead := (s.siteChanged x).arbiter.passSinceHead } :=
  State.triggerIf_arbiter ({ s with site := x } : State) (x.blindMargin != s.site.blindMargin)

theorem State.siteChanged_paths : (s.siteChanged x).paths = s.paths :=
  State.triggerIf_paths ({ s with site := x } : State) (x.blindMargin != s.site.blindMargin)

theorem State.staleAll_keeps (a : State) : a.staleAll.paths = a.paths ∧ a.staleAll.arbiter = a.arbiter := by
  have hone (u : State) (i : SlotId) : ((u.staleSlot i).paths, (u.staleSlot i).arbiter) = (u.paths, u.arbiter) := by
    unfold State.staleSlot
    split
    · rw [State.becomeStale_arbiter, State.becomeStale_frame]
    · rfl
  exact Prod.mk.inj (foldl_keeps (g := fun u : State => (u.paths, u.arbiter)) hone allSlots a)

/-- With the parameters in place: what is posted, sent and raised, in order. -/
theorem State.Did.of_replaceSite (hmode : s.mode ≠ .boot) : ∃ aged,
    ({ s with site := x } : State).Did (s.replaceSite x)
      (.site (.fields x) :: ((allSlots.flatMap fun i => clampPosts i (s.slot i) ((s.slot i).markedStale x)) ++ aged))
      ((allSlots.flatMap fun i => clampCopies s.clock i (s.slot i) ((s.slot i).markedStale x) .staleTime none) ++
        allSlots.flatMap fun i => agedCopies x s.clock i ((s.slot i).markedStale x))
      ((if x.blindMargin != s.site.blindMargin then 1 else 0) + (allSlots.map fun i => if (s.slot i).agesOut x then 1 else 0).sum) ∧
    (∀ m ∈ aged, (s.replaceSite x).OwnNotice m) ∧ (∀ m ∈ aged, (Notice.site (.fields x)).sameSubject m = false) ∧
    ∀ i, (s.replaceSite x).slot i = if (s.slot i).agesOut x then (s.slot i).afterEmptying else (s.slot i).markedStale x := by
  have hchanged := State.Did.of_siteChanged (x := x) hmode
  obtain ⟨hstale, hstaleSlot⟩ := State.Did.of_staleAll (s.siteChanged x)
  simp only [State.siteChanged_slot, State.siteChanged_site hmode, hchanged.clock_eq] at hstale hstaleSlot
  have hboot : (s.siteChanged x).staleAll.mode ≠ .boot := by rw [hstale.mode_eq, hchanged.mode_eq]; exact hmode
  have hsite : (s.siteChanged x).staleAll.site = x := hstale.site_eq.trans (State.siteChanged_site hmode)
  have hclock : (s.siteChanged x).staleAll.clock = s.clock := hstale.clock_eq.trans hchanged.clock_eq
  obtain ⟨hages, hagesSlot⟩ := State.Did.of_ageSlots (v := (s.siteChanged x).staleAll) (l := allSlots) (fun _ => hboot) (List.nodup_finRange 8)
  refine ⟨_, ((hchanged.trans hstale).trans hages).congr (List.append_assoc ..) ?_ ?_, fun m hm =>
    State.ownNotice_of_ageSlots (fun _ => hboot) (List.nodup_finRange 8) hm, fun m hm => ?_, fun i => ?_⟩
  · rw [List.nil_append, hsite, hclock]
    simp only [hstaleSlot]
  · simp only [hsite, hstaleSlot, Slot.markedStale_agesOut]
    rw [Nat.add_zero]
  · obtain ⟨i, -, hm⟩ := List.mem_flatMap.1 hm
    unfold agedPosts at hm
    split at hm
    · rcases List.mem_cons.1 hm with rfl | hm
      · rfl
      · rw [mem_clampPosts hm]; rfl
    · cases hm
  · refine (hagesSlot i).trans ?_
    rw [hsite, hstaleSlot, Slot.markedStale_agesOut, Slot.markedStale_afterEmptying]
    by_cases hdue : (s.slot i).agesOut x = true
    · rw [if_pos ⟨List.mem_finRange i, hdue⟩, if_pos hdue]
    · rw [if_neg fun h => hdue h.2, if_neg hdue]

theorem State.replaceSite_frame (hmode : s.mode ≠ .boot) : s.replaceSite x = { s with
    site := x, slots := (s.replaceSite x).slots, paths := (s.replaceSite x).paths, engine := (s.replaceSite x).engine
    arbiter := { s.arbiter with passSinceHead := (s.replaceSite x).arbiter.passSinceHead }
    notices := (s.replaceSite x).notices, witness := (s.replaceSite x).witness } := by
  obtain ⟨_, hdid, -⟩ := State.Did.of_replaceSite (x := x) hmode
  have harbiter : (s.replaceSite x).arbiter = { s.arbiter with passSinceHead := (s.replaceSite x).arbiter.passSinceHead } := by
    rw [State.replaceSite_eq, State.ageSlots_arbiter, (State.staleAll_keeps _).2, State.siteChanged_arbiter]
  rw [← harbiter]
  exact hdid.frame_eq

theorem State.replaceSite_path (hmode : s.mode ≠ .boot) (p : PathPos) :
    (s.replaceSite x).path p = (s.path p).bind fun e => if (s.slot e.slot).agesOut x then none else some e := by
  have hchanged := State.Did.of_siteChanged (x := x) hmode
  obtain ⟨hstale, hstaleSlot⟩ := State.Did.of_staleAll (s.siteChanged x)
  simp only [State.siteChanged_slot, State.siteChanged_site hmode] at hstaleSlot
  have hsite : (s.siteChanged x).staleAll.site = x := hstale.site_eq.trans (State.siteChanged_site hmode)
  rw [State.replaceSite_eq, State.ageSlots_path (List.nodup_finRange 8), State.path, (State.staleAll_keeps _).1, State.siteChanged_paths, hsite]
  refine congrArg (Option.bind _) (funext fun e => ?_)
  rw [hstaleSlot, Slot.markedStale_agesOut]
  simp only [List.mem_finRange, true_and]

/-- The copies of the slots made stale, sent one by one as the statement folds them. -/
theorem foldl_sends {α : Type} (c : α → Prop) [DecidablePred c] (g : α → Copy) (l : List α) (s : State) :
    l.foldl (fun (u : State) a => if c a then u else u.send (g a)) s = s.sendAll (l.flatMap fun a => if c a then [] else [g a]) := by
  induction l generalizing s with
  | nil => rfl
  | cons a l ih =>
    rw [List.foldl_cons, ih, List.flatMap_cons, State.sendAll_append]
    split <;> rfl

theorem clampCopies_markedStale (c : Clock) (i : SlotId) (y : Slot) (site : Site) : clampCopies c i y (y.markedStale site) .staleTime none =
    if (y.markedStale site).causes = y.causes then [] else
      [.clamp i y.port y.causes (y.markedStale site).causes (y.markedStale site).lineAsserted .staleTime y.lastLevel c.minute c.second none] := by
  by_cases hcauses : (y.markedStale site).causes = y.causes
  · rw [if_pos hcauses, clampCopies_of_same (Slot.sameClamp_of_causes_eq hcauses (y.markedStale_port site))]
  · rw [if_neg hcauses, clampCopies_of_ne hcauses, clampCopy, Slot.markedStale_port, Slot.markedStale_lastLevel]

theorem State.agedCopies_map (s : State) : (allSlots.flatMap fun i => agedCopies x s.clock i ((s.slot i).markedStale x)) =
    (allSlots.filter fun i => (s.slot i).agesOut x && ((s.slot i).markedStale x).causes != causesNone).map fun i =>
      .clamp i none ((s.slot i).markedStale x).causes causesNone false .empty none s.clock.minute s.clock.second none := by
  simp only [agedCopies_eq, Slot.markedStale_agesOut]
  rw [← flatMap_ite_singleton (fun i => ¬((s.slot i).agesOut x && ((s.slot i).markedStale x).causes != causesNone) = true) _ _
    (fun _ => iff_of_eq (Bool.not_eq_true _))]
  exact List.flatMap_congr fun i _ => (ite_not ..).symm

end site

end Sys2Proof.Machine
end

section
/-! SUPPORT. TABLE WRITE and TABLE DELETE of SITE (R81, R94, R96, R168). -/

namespace Sys2Proof.Machine

theorem State.triggerIf_slots (s : State) (c : Bool) : (s.triggerIf c).slots = s.slots := by rw [State.triggerIf_eq]

section site
variable {s : State} {x : Site}

theorem Slot.agesOut_eq (y : Slot) (site : Site) : (y.kind == .openKind && y.state == .quiet && y.published == 0 && y.port.isSome &&
    y.reportAge.any fun a => decide (1000 * site.ageTime ≤ a)) = y.agesOut site := by
  simp only [Slot.agesOut, Slot.settledQuiet, Bool.and_assoc]

/-- The state with the new parameters and the slots made stale, before the ageings. -/
theorem State.staleAll_siteChanged (hmode : s.mode ≠ .boot) : (s.siteChanged x).staleAll.mode ≠ .boot ∧ (s.siteChanged x).staleAll.site = x ∧
    ∀ i, (s.siteChanged x).staleAll.slot i = (s.slot i).markedStale x := by
  have hchanged := State.Did.of_siteChanged (x := x) hmode
  obtain ⟨hstale, hslot⟩ := State.Did.of_staleAll (s.siteChanged x)
  simp only [State.siteChanged_slot, State.siteChanged_site hmode] at hslot
  exact ⟨by rw [hstale.mode_eq, hchanged.mode_eq]; exact hmode, hstale.site_eq.trans (State.siteChanged_site hmode), hslot⟩

theorem State.replaceSite_state_waits (hmode : s.mode ≠ .boot) {i : SlotId} (hages : (s.slot i).agesOut x = true)
    (hlost : (s.replaceSite x).notices.lost = false) : (s.replaceSite x).stageStateNotice i ∈ (s.replaceSite x).notices.notices := by
  obtain ⟨hboot, hsite, hslot⟩ := State.staleAll_siteChanged (x := x) hmode
  rw [State.replaceSite_eq] at hlost ⊢
  refine State.ageSlots_stageState_waits (v := (s.siteChanged x).staleAll) (l := allSlots) (fun _ => hboot) (List.nodup_finRange 8) (.inr ⟨List.mem_finRange i, ?_⟩) hlost
  rw [hsite, hslot, Slot.markedStale_agesOut, hages]

theorem State.replaceSite_clamp_waits (hmode : s.mode ≠ .boot) {i : SlotId}
    (h : ((s.slot i).markedStale x).causes ≠ (s.slot i).causes ∨ (s.slot i).agesOut x = true ∧ ((s.slot i).markedStale x).causes ≠ causesNone)
    (hlost : (s.replaceSite x).notices.lost = false) : (s.replaceSite x).clampNotice i ∈ (s.replaceSite x).notices.notices := by
  obtain ⟨hboot, hsite, hslot⟩ := State.staleAll_siteChanged (x := x) hmode
  obtain ⟨hstale, -⟩ := State.Did.of_staleAll (s.siteChanged x)
  simp only [State.siteChanged_slot, State.siteChanged_site hmode] at hstale
  have hnone : ((s.slot i).markedStale x).causes ≠ causesNone := h.elim (Slot.markedStale_causes _ x) (·.2)
  rw [State.replaceSite_eq] at hlost ⊢
  refine State.ageSlots_clamp_waits (v := (s.siteChanged x).staleAll) (l := allSlots) (fun _ => hboot) (List.nodup_finRange 8) ?_ (fun _ _ => by rw [hslot]; exact hnone) hlost
  rw [hsite, hslot, Slot.markedStale_agesOut]
  by_cases hages : (s.slot i).agesOut x = true
  · exact .inr ⟨List.mem_finRange i, hages⟩
  · have hnew : ((s.slot i).markedStale x).causes ≠ (s.slot i).causes := h.resolve_right fun h => hages h.1
    refine .inl fun hlost => hstale.clamp_waits (fun m hm => ?_) hlost (List.mem_flatMap.2 ⟨i, List.mem_finRange i, ?_⟩)
    · obtain ⟨j, -, hm⟩ := List.mem_flatMap.1 hm
      rw [mem_clampPosts hm, ← hslot]
      exact .clamp j
    · rw [clampPosts_of_ne hnew, State.clampNotice_eq, hslot]
      exact List.mem_singleton_self _

theorem State.replaceSite_site_waits (hmode : s.mode ≠ .boot) (hlost : (s.replaceSite x).notices.lost = false) :
    .site (.fields x) ∈ (s.replaceSite x).notices.notices := by
  obtain ⟨aged, hdid, -, hother, -⟩ := State.Did.of_replaceSite (x := x) hmode
  refine hdid.mem_notices hlost List.mem_cons_self fun m hm hsame => ?_
  rcases List.mem_cons.1 hm with rfl | hm
  · rfl
  · rcases List.mem_append.1 hm with hm | hm
    · obtain ⟨i, -, hm⟩ := List.mem_flatMap.1 hm
      rw [mem_clampPosts hm] at hsame
      cases hsame
    · rw [hother m hm] at hsame
      cases hsame

theorem State.siteReplaced_replaceSite (hmode : s.mode ≠ .boot) : s.SiteReplaced (s.replaceSite x) x := by
  obtain ⟨aged, hdid, hown, hother, hslot⟩ := State.Did.of_replaceSite (x := x) hmode
  have hmarked (i : SlotId) : (if (s.slot i).port.isSome && !(s.slot i).stale && (s.slot i).reportAge.any fun a => decide (1000 * x.staleTime ≤ a) then
      { s.slot i with stale := true, causes := { (s.slot i).causes with hasStale := true } } else s.slot i) = (s.slot i).markedStale x := rfl
  unfold State.SiteReplaced
  simp only [Slot.agesOut_eq, hmarked]
  refine ⟨State.replaceSite_frame hmode, hslot, State.replaceSite_path hmode, fun h => ?_, fun hsame hnone => ?_, fun hlost => ⟨?_, fun i => ⟨?_, ?_⟩⟩, ?_⟩
  · refine hdid.triggered.anyTrigger fun hzero => ?_
    rcases h with hne | ⟨i, hi⟩
    · rw [if_pos (bne_iff_ne.2 hne)] at hzero
      omega
    · exact sum_map_ite_ne_zero ⟨i, List.mem_finRange i, hi⟩ (Nat.eq_zero_of_add_eq_zero_left hzero)
  · rw [hsame, bne_self_eq_false, sum_map_ite_eq_zero fun i _ => hnone i] at hdid
    exact hdid.triggered
  · exact State.replaceSite_site_waits hmode hlost
  · exact fun hages => State.replaceSite_state_waits hmode hages hlost
  · exact fun h => State.replaceSite_clamp_waits hmode h hlost
  · rw [hdid.witness_eq, State.sendAll_append, State.agedCopies_map]
    simp only [clampCopies_markedStale]
    rw [foldl_sends (fun i => ((s.slot i).markedStale x).causes = (s.slot i).causes), State.sendAll_map]

/-- With no slot bound nothing follows the SITE notice. -/
theorem State.replaceSite_of_unbound (h : ∀ i, (s.slot i).port = none) : s.replaceSite x = s.siteChanged x := by
  have hstale : (s.siteChanged x).staleAll = s.siteChanged x := by
    have hone (i : SlotId) : (s.siteChanged x).staleSlot i = s.siteChanged x := by
      rw [State.staleSlot, State.staleDue_eq, State.siteChanged_slot, Slot.turnsStale, h i]
      rfl
    have hall (l : List SlotId) : l.foldl State.staleSlot (s.siteChanged x) = s.siteChanged x := by
      induction l with
      | nil => rfl
      | cons i l ih => rw [List.foldl_cons, hone, ih]
    exact hall allSlots
  rw [State.replaceSite_eq, hstale]
  refine State.ageSlots_of_none fun i _ => ?_
  rw [State.siteChanged_slot, Slot.agesOut, h i]
  simp

end site

/-! ### The write -/

theorem flagOf_eq (v : Nat) : flagOf v = if v = 0 ∨ v = 1 then some (v == 1) else none := by
  match v with
  | 0 => rfl
  | 1 => rfl
  | n + 2 => simp [flagOf]

theorem siteEnables_eq (a : SiteArgs) : siteEnables a =
    if (a.stationReply = 0 ∨ a.stationReply = 1) ∧ (a.minute = 0 ∨ a.minute = 1) ∧ (a.exceedance = 0 ∨ a.exceedance = 1) ∧
        (a.ceiling = 0 ∨ a.ceiling = 1) ∧ (a.clamp = 0 ∨ a.clamp = 1) then
      some { stationReply := a.stationReply == 1, minute := a.minute == 1, exceedance := a.exceedance == 1, ceiling := a.ceiling == 1,
             clamp := a.clamp == 1 }
    else none := by
  simp only [siteEnables, flagOf_eq]
  by_cases h1 : a.stationReply = 0 ∨ a.stationReply = 1 <;> by_cases h2 : a.minute = 0 ∨ a.minute = 1 <;>
    by_cases h3 : a.exceedance = 0 ∨ a.exceedance = 1 <;> by_cases h4 : a.ceiling = 0 ∨ a.ceiling = 1 <;>
    by_cases h5 : a.clamp = 0 ∨ a.clamp = 1 <;> simp only [h1, h2, h3, h4, h5, if_true, if_false, and_self, and_true, and_false]

theorem clampSetting_adjusted_eq {low high : Nat} (h : low ≤ high) (v : Nat) :
    (clampSetting low high v).adjusted = true ↔ ¬clampNat low high v = v := by
  simp only [clampSetting, clampNat, Bool.not_eq_true', Bool.and_eq_false_iff, decide_eq_false_iff_not]
  omega

/-- Some field of a SITE write was clamped. -/
theorem siteClamped_adjusted (a : SiteArgs) (e : WitnessEnables) : 0 < (siteClamped a e).2 ↔
    ¬(clampNat 0 60 a.blindMargin = a.blindMargin ∧ clampNat 1 30 a.correctionRise = a.correctionRise ∧
      clampNat 1 30 a.correctionFall = a.correctionFall ∧ clampNat 0 30 a.tolerance = a.tolerance ∧ clampNat 1 32 a.overLimit = a.overLimit ∧
      clampNat 1 255 a.releaseCount = a.releaseCount ∧ clampNat 1 10 a.staleTime = a.staleTime ∧ clampNat 10 600 a.ageTime = a.ageTime ∧
      clampNat 1 30 a.handoverTime = a.handoverTime ∧ clampNat 2 30 a.discardTime = a.discardTime) := by
  have hkept {low high v : Nat} (h : low ≤ high) : ¬(clampSetting low high v).adjusted = true ↔ clampNat low high v = v :=
    (not_congr (clampSetting_adjusted_eq h v)).trans not_not
  simp only [siteClamped, clampSite, List.length_pos_iff, ne_eq, List.filter_eq_nil_iff, List.forall_mem_cons, List.not_mem_nil, false_implies,
    implies_true, and_true]
  rw [hkept (by decide), hkept (by decide), hkept (by decide), hkept (by decide), hkept (by decide), hkept (by decide), hkept (by decide),
    hkept (by decide), hkept (by decide), hkept (by decide)]

theorem Site.loosenedBy_eq_true_iff (old new : Site) : old.loosenedBy new = true ↔
    new.blindMargin < old.blindMargin ∨ new.correctionRise < old.correctionRise ∨ old.correctionFall < new.correctionFall ∨
      (old.enables.stationReply = true ∧ new.enables.stationReply = false) ∨ (old.enables.minute = true ∧ new.enables.minute = false) ∨
      (old.enables.exceedance = true ∧ new.enables.exceedance = false) ∨ (old.enables.ceiling = true ∧ new.enables.ceiling = false) ∨
      (old.enables.clamp = true ∧ new.enables.clamp = false) := by
  simp only [Site.loosenedBy, WitnessEnables.keeps, Bool.or_eq_true, decide_eq_true_eq, Bool.not_eq_true', Bool.and_eq_false_iff, Bool.or_eq_false_iff,
    Bool.not_eq_false', or_assoc]

theorem writeSite_of_enables {a : SiteArgs} {e : WitnessEnables} (h : siteEnables a = some e) (s : State) : writeSite a s =
    if s.mode = .enforce ∧ s.site.loosenedBy (siteClamped a e).1 = true then (s, .refused .isProtected)
    else (s.replaceSite (siteClamped a e).1, .doneAdjusted (decide (0 < (siteClamped a e).2)) .none) := by
  simp only [writeSite, h]
  rfl

/-- Settles O52: the checks of the write, then the parameters replaced. -/
theorem siteWritesReplaceEveryField : Obligations.SiteWritesReplaceEveryField := by
  intro s tag hready
  have hmode := hready.1.2.1
  refine ⟨⟨answered_of_tableReady hready rfl rfl, answered_of_tableReady hready rfl rfl⟩, fun henforce => answered_of_tableReady hready rfl (if_pos henforce),
    fun hsetup => ⟨_, answered_of_tableReady hready rfl (if_neg (by rw [hsetup]; decide)), State.siteReplaced_replaceSite hmode⟩, fun a => ?_⟩
  intro c isEnable enablesGood new unclamped loosens
  have writes {t : State} {b : Answer} (h : writeSite a s = (t, b)) : Answered c s t 0 0x18 tag b := answered_of_tableReady hready rfl h
  have hclamped : (siteClamped a new.enables).1 = new := by
    simp only [new, siteClamped, clampSite, clampNat, Nat.zero_max]
  have hadjusted : 0 < (siteClamped a new.enables).2 ↔ ¬unclamped := by
    rw [siteClamped_adjusted]
    simp only [unclamped, new, clampNat, Nat.zero_max]
  have hloosens : s.site.loosenedBy new = true ↔ loosens := Site.loosenedBy_eq_true_iff s.site new
  refine ⟨fun hbad => writes ?_, fun hgood henforce hloose => writes ?_, fun hgood hallowed => ?_⟩
  · rw [writeSite, siteEnables_eq, if_neg hbad]
    rfl
  · rw [writeSite_of_enables ((siteEnables_eq a).trans (if_pos hgood)), hclamped]
    exact if_pos ⟨henforce, hloosens.2 hloose⟩
  · have hnot : ¬(s.mode = .enforce ∧ s.site.loosenedBy new = true) := fun h =>
      hallowed.elim (fun hsetup => by rw [hsetup] at h; cases h.1) fun hnot => hnot (hloosens.1 h.2)
    have hwrite := writeSite_of_enables ((siteEnables_eq a).trans (if_pos hgood)) s
    rw [hclamped, if_neg hnot] at hwrite
    refine ⟨s.replaceSite new, writes (hwrite.trans ?_), State.siteReplaced_replaceSite hmode, fun hunbound => ?_⟩
    · rw [decide_eq_decide.2 hadjusted, decide_not]
      rfl
    · rw [State.replaceSite_of_unbound hunbound]
      have hdid := State.Did.of_siteChanged (x := new) hmode
      refine ⟨?_, State.siteChanged_paths, hdid.witness_eq, hdid.notices_eq, fun hsame => ?_, fun hne => ?_⟩
      · exact State.triggerIf_slots ({ s with site := new } : State) _
      · rw [hsame, bne_self_eq_false] at hdid
        exact hdid.triggered
      · have htriggered := State.trigger_engineTriggered (s := ({ s with site := new } : State)) hmode
        have hchanged : s.siteChanged new = ({ s with site := new } : State).trigger.post (.site (.fields new)) := by
          rw [State.siteChanged, State.triggerIf, if_pos (bne_iff_ne.2 hne)]
        rw [hchanged]
        exact htriggered

end Sys2Proof.Machine
end

section
/-! SUPPORT. TABLE WRITE of ZONE (R29, R30, R33, R139). -/

namespace Sys2Proof.Machine

theorem State.Alike.arbiter_eq {s t : State} (h : s.Alike t) : s.arbiter = { t.arbiter with passSinceHead := s.arbiter.passSinceHead } :=
  (Arbiter.mk.injEq ..).mpr ⟨h.queue_eq, h.phase_eq, h.timer_eq, rfl⟩

/-! ### What a hand-off changes, in frame and in copies -/

section handed
variable {s t u : State} {z : ZoneId} {y : Zone} {changed : Prop}

theorem State.Handed.frame (h : s.Handed u z y changed) (hmode : s.mode ≠ .boot) : u = { s with
    zones := u.zones, slots := u.slots, paths := u.paths, engine := u.engine, arbiter := u.arbiter, notices := u.notices, witness := u.witness } := by
  obtain ⟨b, hb, hu⟩ := h
  have hdid : b.DidSome u := by
    rw [hu]
    split
    · exact .of_curfewZone (hb.mode_eq ▸ hmode) z
    · exact .refl b
  obtain ⟨_, _, _, hdid⟩ := hdid
  have hframe := hdid.frame_eq
  have hzones : u.zones = b.zones := by rw [hframe]
  obtain ⟨e, p, rfl⟩ := hb.written
  rw [hzones]
  exact hframe

theorem State.removeAtCurfew_witness (s : State) (removed : SlotId → Bool) : (s.removeAtCurfew removed).witness = s.witness := by
  have hunqueued : (s.unqueued removed).witness = s.witness := by
    unfold State.unqueued
    split <;> rfl
  have hrefused : ((s.goneAt removed).foldl State.refuseCurfew (s.unqueued removed)).witness = s.witness :=
    (foldl_keeps (op := State.refuseCurfew) (g := State.witness) (fun _ _ => rfl) _ _).trans hunqueued
  have htrigger (v : State) : v.trigger.witness = v.witness := by rw [State.trigger_eq]
  have hpromote (v : State) : v.promote.witness = v.witness := by
    unfold State.promote
    cases v.arbiter.queue with
    | nil => rfl
    | cons i rest => exact htrigger _
  rw [State.removeAtCurfew_eq_unqueued]
  split
  · rw [hpromote, htrigger, hrefused]
  · exact hrefused

/-- Two states alike, with the same clock and the same copies on the way. -/
structure State.AlikeSent (s t : State) : Prop where
  alike : s.Alike t
  clock_eq : s.clock = t.clock
  mode_eq : s.mode = t.mode
  witness_eq : s.witness = t.witness

theorem State.AlikeSent.ageSlot (h : s.AlikeSent t) (hmode : t.mode ≠ .boot) (i : SlotId) : (s.ageSlot i).AlikeSent (t.ageSlot i) := by
  have hdue : s.ageDue i = t.ageDue i := by rw [State.ageDue_eq, State.ageDue_eq, h.alike.slot_eq, h.alike.site_eq]
  have hs := State.Did.of_ageSlot (s := s) (i := i) rfl (h.mode_eq ▸ hmode)
  have ht := State.Did.of_ageSlot (s := t) (i := i) rfl hmode
  refine ⟨h.alike.ageSlot i, ?_, ?_, ?_⟩
  · rw [hs.clock_eq, ht.clock_eq, h.clock_eq]
  · rw [hs.mode_eq, ht.mode_eq, h.mode_eq]
  · rw [hs.witness_eq, ht.witness_eq, hdue, h.clock_eq, h.alike.slot_eq]
    exact State.sendAll_witness_congr h.witness_eq h.alike.site_eq h.clock_eq _

theorem State.AlikeSent.curfewZone (h : s.AlikeSent t) (hmode : t.mode ≠ .boot) (z : ZoneId) :
    (s.curfewZone z).witness = (t.curfewZone z).witness := by
  have hages (l : List SlotId) {u v : State} (huv : u.AlikeSent v) (hv : v.mode ≠ .boot) : (l.foldl State.ageSlot u).AlikeSent (l.foldl State.ageSlot v) := by
    induction l generalizing u v with
    | nil => exact huv
    | cons i l ih => exact ih (huv.ageSlot hv i) ((State.DidSome.of_ageSlot hv i).mode_eq ▸ hv)
  have hheard : (fun i => s.audibleInZone i z) = fun i => t.audibleInZone i z := by
    funext i
    refine List.any_congr rfl fun r => ?_
    simp only [State.receptor, h.alike.receptors_eq, State.audible, State.pathLoss, State.path, h.alike.paths_eq]
  have hframe (v : State) := ArbiterFrame.of_removeAtCurfew v fun i => t.audibleInZone i z
  unfold State.curfewZone
  rw [hheard, State.curfewRemoval_eq, State.curfewRemoval_eq, State.goneAt, h.alike.queue_eq]
  refine (hages _ ⟨h.alike.removeAtCurfew _, ?_, ?_, ?_⟩ ?_).witness_eq
  · rw [(hframe s).clock_eq, (hframe t).clock_eq, h.clock_eq]
  · rw [(hframe s).mode_eq, (hframe t).mode_eq, h.mode_eq]
  · rw [State.removeAtCurfew_witness, State.removeAtCurfew_witness, h.witness_eq]
  · rw [(hframe t).mode_eq]
    exact hmode

theorem State.Handed.witness_eq (h : s.Handed u z y changed) (hmode : s.mode ≠ .boot) :
    u.witness = (if (s.zone z).state ≠ .fading ∧ y.state = .fading then s.curfewZone z else s).witness := by
  obtain ⟨b, hb, rfl⟩ := h
  have halike := State.Alike.of_zoneSet hb
  obtain ⟨e, p, rfl⟩ := hb.written
  split
  · exact State.AlikeSent.curfewZone ⟨halike, rfl, rfl, rfl⟩ hmode z
  · rfl

end handed

/-! ### The write taken -/

theorem Zone.evaluated_recoveryMargin (mode : Mode) (minute : Nat) (x : Zone) : (x.evaluated mode minute).recoveryMargin = x.recoveryMargin := by
  unfold Zone.evaluated
  cases inForceAt x.breakpoints minute with
  | none => rfl
  | some k =>
    dsimp only
    cases x.breakpoints[k - 1]? with
    | none => rfl
    | some bp =>
      dsimp only
      by_cases hk : x.inForce = some k
      · by_cases hlow : bp.limit < x.licence <;> simp only [hk, hlow, if_true, if_false]
      · simp only [hk, if_false, Zone.entered]

/-- The record as a write stores it, before its evaluation (R30). -/
def Zone.rewritten (x : Zone) (mode : Mode) (bps : List Breakpoint) (ramp margin : Nat) : Zone :=
  { x with breakpoints := bps, rampRate := ramp, recoveryMargin := margin, inForce := if mode = .enforce then x.inForce else none }

/-- A ZONE write taken: the record stored and evaluated, the triggers of its changes, the hand-off of a zone that became FADING, and then notices. -/
theorem State.replaceZone_handed (s : State) (z : ZoneId) (bps : List Breakpoint) (ramp margin : Nat) :
    ∃ u ns, s.Handed u z (((s.zone z).rewritten s.mode bps ramp margin).evaluated s.mode s.clock.minute)
        (margin ≠ (s.zone z).recoveryMargin ∨
          (((s.zone z).rewritten s.mode bps ramp margin).evaluated s.mode s.clock.minute).TriggersFrom (s.zone z)) ∧
      s.replaceZone z bps ramp margin = ({ u with notices := ns } : State).postZone z := by
  obtain ⟨a, hset, heq⟩ : ∃ a, s.ZoneSet a z ((s.zone z).rewritten s.mode bps ramp margin) (margin ≠ (s.zone z).recoveryMargin) ∧
      s.replaceZone z bps ramp margin = (a.evaluateZone z).postZone z := by
    have hupd := State.ZoneSet.of_updZone s z fun x => x.rewritten s.mode bps ramp margin
    have hraised := hupd.trans (State.ZoneSet.of_triggerIf _ z ((s.zone z).recoveryMargin != margin))
    exact ⟨_, hraised.congr hupd.zone_same (by rw [false_or, bne_iff_ne, ne_comm]), rfl⟩
  obtain ⟨u, hu, heval⟩ := a.evaluateZone_eq z
  have hclock : a.clock = s.clock := by
    obtain ⟨e, p, rfl⟩ := hset.written
    rfl
  rw [hset.zone_same, hset.mode_eq, hclock] at hu
  have hafter := State.Handed.after hset rfl hu
  exact ⟨u, (u.postZoneIfChanged z (a.zone z)).notices, hafter, by rw [heq, heval, ← State.postZoneIfChanged_eq]⟩

/-! ### The checks -/

theorem repeatsMinute_iff {l : List BreakpointArgs} : repeatsMinute l = true ↔ ¬(l.map (·.minute)).Nodup := by
  induction l with
  | nil => simp [repeatsMinute]
  | cons b l ih =>
    rw [repeatsMinute, Bool.or_eq_true, ih, List.map_cons, List.nodup_cons, not_and_or, not_not, List.any_eq_true, List.mem_map]
    simp only [beq_iff_eq]

theorem breakpointsTighten_iff {old new : List Breakpoint} : breakpointsTighten old new = true ↔
    new.length = old.length ∧ ∀ (k : Nat) (o n : Breakpoint), old[k]? = some o → new[k]? = some n →
      n.minute = o.minute ∧ n.curfew = o.curfew ∧ n.limit ≤ o.limit := by
  induction old generalizing new with
  | nil => cases new <;> simp [breakpointsTighten]
  | cons o os ih =>
    cases new with
    | nil => simp [breakpointsTighten]
    | cons n ns =>
      simp only [breakpointsTighten, Bool.and_eq_true, beq_iff_eq, decide_eq_true_eq, ih, List.length_cons, Nat.add_right_cancel_iff]
      constructor
      · rintro ⟨⟨⟨hminute, hcurfew⟩, hlimit⟩, hlen, hall⟩
        refine ⟨hlen, fun k => ?_⟩
        cases k with
        | zero =>
          rintro o' n' ho hn
          cases ho
          cases hn
          exact ⟨hminute.symm, hcurfew.symm, hlimit⟩
        | succ k => exact hall k
      · rintro ⟨hlen, hall⟩
        obtain ⟨hminute, hcurfew, hlimit⟩ := hall 0 o n rfl rfl
        exact ⟨⟨⟨hminute.symm, hcurfew.symm⟩, hlimit⟩, hlen, fun k => hall (k + 1)⟩

theorem Zone.tightenedBy_iff {old : Zone} {bps : List Breakpoint} {ramp margin : Nat} : old.tightenedBy bps ramp margin = true ↔
    bps.length = old.breakpoints.length ∧ old.rampRate ≤ ramp ∧ old.recoveryMargin ≤ margin ∧
      ∀ (k : Nat) (o n : Breakpoint), old.breakpoints[k]? = some o → bps[k]? = some n →
        n.minute = o.minute ∧ n.curfew = o.curfew ∧ n.limit ≤ o.limit := by
  rw [Zone.tightenedBy, Bool.and_eq_true, Bool.and_eq_true, breakpointsTighten_iff, decide_eq_true_eq, decide_eq_true_eq]
  tauto

/-- A breakpoint that a write spells, as it is stored. -/
def storedBreakpoint (b : BreakpointArgs) : Breakpoint := { minute := b.minute, limit := min 1400 b.limit, curfew := b.curfew == 1 }

theorem clampBreakpoints_of_bad {l : List BreakpointArgs} (h : ∃ b ∈ l, 1 < b.curfew) : clampBreakpoints l = none := by
  obtain ⟨b, hb, hcurfew⟩ := h
  obtain ⟨before, after, rfl⟩ := List.append_of_mem hb
  have hflag : flagOf b.curfew = none := by rw [flagOf_eq, if_neg (by omega)]
  simp [clampBreakpoints, List.mapM_append, List.mapM_cons, hflag]

theorem clampBreakpoints_of_good {l : List BreakpointArgs} (h : ∀ b ∈ l, b.curfew ≤ 1) :
    clampBreakpoints l = some (sortBreakpoints (l.map storedBreakpoint)) := by
  have hmap : (l.mapM fun b => (flagOf b.curfew).map fun c => ({ minute := b.minute, limit := clampNat 0 1400 b.limit, curfew := c } : Breakpoint)) =
      some (l.map storedBreakpoint) := by
    induction l with
    | nil => rfl
    | cons b l ih =>
      obtain ⟨hb, hl⟩ := List.forall_mem_cons.1 h
      have hflag : flagOf b.curfew = some (b.curfew == 1) := by rw [flagOf_eq, if_pos (by omega)]
      rw [List.mapM_cons, ih hl, hflag]
      simp [storedBreakpoint, clampNat]
  rw [clampBreakpoints, hmap]
  rfl

/-- The breakpoints stored stand in ascending order of minute, and are those of the write. -/
theorem sortBreakpoints_stored {l : List BreakpointArgs} (h : (l.map (·.minute)).Nodup) :
    (sortBreakpoints (l.map storedBreakpoint)).Pairwise (fun x y => x.minute < y.minute) ∧
      (sortBreakpoints (l.map storedBreakpoint)).length = l.length ∧ ∀ b ∈ l, storedBreakpoint b ∈ sortBreakpoints (l.map storedBreakpoint) := by
  obtain ⟨hascending, hlength, hmem⟩ := sortBreakpoints_spec (l := l.map storedBreakpoint) (List.pairwise_map.2 (List.pairwise_map.1 h))
  exact ⟨hascending, hlength.trans (List.length_map _), fun b hb => (hmem _).2 (List.mem_map_of_mem hb)⟩

theorem State.zoneUsed_iff {s : State} {z : ZoneId} : s.zoneUsed z = true ↔ ∃ r x, s.receptor r = some x ∧ x.zone = z := by
  rw [← not_iff_not, Bool.not_eq_true, State.zoneUsed_eq_false_iff]
  simp only [State.home, ne_eq, Option.map_eq_some_iff, not_exists]

section write
variable {s : State} {a : ZoneArgs} {z : ZoneId}

theorem writeZone_of_zone (h : a.zone = z.val + 1) : writeZone a s =
    if 8 < a.breakpoints.length then (s, .refused .full)
    else if (∃ b ∈ a.breakpoints, 1439 < b.minute ∨ 1 < b.curfew) then (s, .refused .noSuch)
    else if ¬(a.breakpoints.map (·.minute)).Nodup then (s, .refused .duplicate)
    else if a.breakpoints = [] ∧ ∃ r x, s.receptor r = some x ∧ x.zone = z then (s, .refused .notEmpty)
    else if s.mode = .enforce ∧ (s.zone z).tightenedBy (sortBreakpoints (a.breakpoints.map storedBreakpoint))
        (max 1 (min 50 a.rampRate)) (min 60 a.recoveryMargin) = false then (s, .refused .isProtected)
    else (s.replaceZone z (sortBreakpoints (a.breakpoints.map storedBreakpoint)) (max 1 (min 50 a.rampRate)) (min 60 a.recoveryMargin),
      .doneAdjusted (decide (max 1 (min 50 a.rampRate) ≠ a.rampRate ∨ min 60 a.recoveryMargin ≠ a.recoveryMargin ∨
        ∃ b ∈ a.breakpoints, 1400 < b.limit)) .none) := by
  have hkey : zoneOf a.zone = some z := keyFromOne_eq_some.2 h
  have hramp := clampSetting_adjusted_eq (low := 1) (high := 50) (by decide) a.rampRate
  have hmargin := clampSetting_adjusted_eq (low := 0) (high := 60) (by decide) a.recoveryMargin
  have hadjusted : ((clampSetting 1 50 a.rampRate).adjusted || (clampSetting 0 60 a.recoveryMargin).adjusted ||
      a.breakpoints.any fun b => decide (1400 < b.limit)) = decide (max 1 (min 50 a.rampRate) ≠ a.rampRate ∨
        min 60 a.recoveryMargin ≠ a.recoveryMargin ∨ ∃ b ∈ a.breakpoints, 1400 < b.limit) := by
    rw [Bool.eq_iff_iff, Bool.or_eq_true, Bool.or_eq_true, hramp, hmargin, decide_eq_true_iff, List.any_eq_true]
    simp only [clampNat, Nat.zero_max, decide_eq_true_eq, or_assoc, ne_eq]
  simp only [writeZone, hkey, State.refuse]
  by_cases hlen : 8 < a.breakpoints.length
  · rw [if_pos hlen, if_pos hlen]
  rw [if_neg hlen, if_neg hlen]
  by_cases hminute : ∃ b ∈ a.breakpoints, 1439 < b.minute
  · obtain ⟨b, hb, hlate⟩ := hminute
    rw [if_pos (List.any_eq_true.2 ⟨b, hb, decide_eq_true hlate⟩), if_pos ⟨b, hb, .inl hlate⟩]
  have hany : (a.breakpoints.any fun b => decide (1439 < b.minute)) = false := by
    rw [List.any_eq_false]
    exact fun b hb hlate => hminute ⟨b, hb, of_decide_eq_true hlate⟩
  rw [hany, if_neg Bool.false_ne_true]
  by_cases hcurfew : ∃ b ∈ a.breakpoints, 1 < b.curfew
  · obtain ⟨b, hb, hbad⟩ := hcurfew
    rw [clampBreakpoints_of_bad ⟨b, hb, hbad⟩, if_pos ⟨b, hb, .inr hbad⟩]
  have hgood : ∀ b ∈ a.breakpoints, b.curfew ≤ 1 := fun b hb => not_lt.1 fun hbad => hcurfew ⟨b, hb, hbad⟩
  have hneither : ¬∃ b ∈ a.breakpoints, 1439 < b.minute ∨ 1 < b.curfew := fun ⟨b, hb, hbad⟩ =>
    hbad.elim (fun h => hminute ⟨b, hb, h⟩) fun h => hcurfew ⟨b, hb, h⟩
  rw [clampBreakpoints_of_good hgood, if_neg hneither]
  dsimp only
  simp only [repeatsMinute_iff, List.isEmpty_iff, State.zoneUsed_iff, hadjusted, Bool.not_eq_true', clampSetting_value, clampNat, Nat.zero_max]

end write

/-- Settles O53: the checks of the write, then the record stored and evaluated, with its hand-off. -/
theorem zoneWritesReplaceTheSchedule : Obligations.ZoneWritesReplaceTheSchedule := by
  intro s tag a hready
  have hmode := hready.1.2.1
  intro c ramp margin
  have writes {t : State} {b : Answer} (h : writeZone a s = (t, b)) : Answered c s t 0 0x18 tag b := answered_of_tableReady hready rfl h
  refine ⟨fun hbad => writes ?_, fun z hz => ⟨fun hlong => writes ?_, fun hlen hbad => writes ?_, fun hlen hgood => ⟨fun hrepeats => writes ?_,
    fun hempty hused => writes ?_, fun hnodup hfree => ?_⟩⟩⟩
  · have hkey : zoneOf a.zone = none := Option.eq_none_iff_forall_ne_some.2 fun z hz => by
      have := keyFromOne_eq_some.1 hz
      omega
    simp only [writeZone, hkey, State.refuse]
  · rw [writeZone_of_zone hz, if_pos hlong]
  · rw [writeZone_of_zone hz, if_neg (not_lt.2 hlen), if_pos hbad]
  all_goals
    have hnot : ¬∃ b ∈ a.breakpoints, 1439 < b.minute ∨ 1 < b.curfew := fun ⟨b, hb, hbad⟩ => by
      have := hgood b hb
      omega
    have hwrite := writeZone_of_zone (s := s) hz
    rw [if_neg (not_lt.2 hlen), if_neg hnot] at hwrite
  · rw [hwrite, if_pos hrepeats]
  · rw [hwrite, hempty, if_neg (by simp), if_pos ⟨rfl, hused⟩]
  · have hnotEmpty : ¬(a.breakpoints = [] ∧ ∃ r x, s.receptor r = some x ∧ x.zone = z) := fun ⟨hempty, r, x, hx, hxz⟩ =>
      hfree.elim (fun hne => hne hempty) fun hnone => hnone r x hx hxz
    rw [if_neg (not_not.2 hnodup), if_neg hnotEmpty] at hwrite
    obtain ⟨hascending, hlength, hmem⟩ := sortBreakpoints_stored hnodup
    refine ⟨sortBreakpoints (a.breakpoints.map storedBreakpoint), hascending, hlength, hmem, ?_⟩
    generalize sortBreakpoints (a.breakpoints.map storedBreakpoint) = bps at hwrite
    intro tightens stored
    have htightens : (s.zone z).tightenedBy bps ramp margin = true ↔ tightens := Zone.tightenedBy_iff
    refine ⟨fun henforce hloose => writes (hwrite.trans (if_pos ⟨henforce, Bool.eq_false_iff.2 (mt htightens.1 hloose)⟩)), fun hallowed => ?_⟩
    rw [if_neg fun h => hallowed.elim (fun hsetup => by rw [hsetup] at h; cases h.1) fun ht => Bool.false_ne_true (h.2.symm.trans (htightens.2 ht))] at hwrite
    refine ⟨_, writes hwrite, ?_⟩
    obtain ⟨u, ns, hu, heq⟩ := s.replaceZone_handed z bps ramp margin
    have hstored : (stored.evaluateZone z).zone z = ((s.zone z).rewritten s.mode bps ramp margin).evaluated s.mode s.clock.minute := by
      rw [State.evaluateZone_zone_same]
      show Zone.evaluated s.mode s.clock.minute (stored.zone z) = _
      rw [State.zone_setZone_same]
      rfl
    have hmargin : (((s.zone z).rewritten s.mode bps ramp margin).evaluated s.mode s.clock.minute).recoveryMargin = margin :=
      Zone.evaluated_recoveryMargin ..
    rw [heq, hstored]
    generalize ((s.zone z).rewritten s.mode bps ramp margin).evaluated s.mode s.clock.minute = y at hu hmargin
    have hzone : (({ u with notices := ns } : State).postZone z).zone z = y := hu.zone_same
    obtain ⟨htrigger, hsame⟩ := hu.raised fun hne => .inr (.inr (.inr hne))
    rw [hzone, hmargin]
    refine ⟨?_, rfl, fun w hw => hu.zone_ne hw, NoticeQueue.mem_post, ⟨fun h => (htrigger h hmode).of_engine_eq rfl, hsame⟩, ?_⟩
    · exact congrArg (fun v : State => ({ v with notices := ns } : State).postZone z) (hu.frame hmode)
    · have halike := hu.alike
      refine ⟨halike.slots_eq, halike.paths_eq, hu.witness_eq hmode, ?_⟩
      exact halike.arbiter_eq

end Sys2Proof.Machine
end

section
/-! SUPPORT. Triggers with what the first pass captures; the closing of an exceedance (R53, R65, R67, R70, R71, R108). -/

namespace Sys2Proof.Machine

/-! ### Triggers, with the capture of a pass begun -/

/-- `t` comes after `s` with `n` triggers, the first of which an IDLE engine takes with the capture `first`. -/
structure State.RaisedOn (s t : State) (n : Nat) (first : Capture) : Prop where
  begun : s.engine.activity = .idle → 0 < n →
    t.engine = { activity := .recalculating first, pending := s.engine.pending || decide (1 < n) } ∧ t.arbiter = { s.arbiter with passSinceHead := true }
  held : s.engine.activity ≠ .idle ∨ n = 0 →
    t.engine = { s.engine with pending := s.engine.pending || decide (0 < n) } ∧ t.arbiter = s.arbiter

namespace State.RaisedOn
variable {s t u : State} {n m : Nat} {c d : Capture}

theorem congr (h : s.RaisedOn t n c) (hn : n = m) (hc : 0 < n → c = d) : s.RaisedOn t m d := by
  subst hn
  exact ⟨fun hidle hpos => hc hpos ▸ h.begun hidle hpos, h.held⟩

theorem of_same (hengine : t.engine = s.engine) (harbiter : t.arbiter = s.arbiter) : s.RaisedOn t 0 c :=
  ⟨fun _ hpos => absurd hpos (lt_irrefl 0), fun _ => ⟨by simp [hengine], harbiter⟩⟩

theorem of_triggerIf (hmode : s.mode ≠ .boot) (b : Bool) : s.RaisedOn (s.triggerIf b) (if b then 1 else 0) s.capture := by
  cases b with
  | false => exact of_same rfl rfl
  | true =>
    refine ⟨fun hidle _ => ?_, fun h => ?_⟩
    · rw [State.triggerIf, if_pos rfl, State.trigger_of_idle hmode hidle]
      simp [State.beginRecalculation]
    · have hbusy : s.engine.activity ≠ .idle := h.resolve_right Nat.one_ne_zero
      rw [State.triggerIf, if_pos rfl, State.trigger_of_busy hmode hbusy]
      simp

theorem trans (h : s.RaisedOn t n c) (k : t.RaisedOn u m d) : s.RaisedOn u (n + m) (if n = 0 then d else c) := by
  rcases Nat.eq_zero_or_pos n with rfl | hn
  · obtain ⟨hengine, harbiter⟩ := h.held (.inr rfl)
    have hsame : t.engine = s.engine := by simpa using hengine
    rw [Nat.zero_add, if_pos rfl]
    exact ⟨fun hidle => harbiter ▸ hsame ▸ k.begun (hsame ▸ hidle), fun hbusy => harbiter ▸ hsame ▸ k.held (hsame ▸ hbusy)⟩
  · rw [if_neg hn.ne']
    refine ⟨fun hidle _ => ?_, fun hbusy => ?_⟩
    · obtain ⟨hengine, harbiter⟩ := h.begun hidle hn
      obtain ⟨hengine', harbiter'⟩ := k.held (.inl (by simp [hengine]))
      refine ⟨?_, harbiter'.trans harbiter⟩
      have hcount : (decide (1 < n) || decide (0 < m)) = decide (1 < n + m) := by
        rw [← Bool.decide_or, decide_eq_decide]
        omega
      rw [hengine', hengine, ← hcount, ← Bool.or_assoc]
    · have hs : s.engine.activity ≠ .idle := hbusy.resolve_right (by omega)
      obtain ⟨hengine, harbiter⟩ := h.held (.inl hs)
      obtain ⟨hengine', harbiter'⟩ := k.held (.inl (by simpa [hengine] using hs))
      refine ⟨?_, harbiter'.trans harbiter⟩
      have hcount : (decide (0 < n) || decide (0 < m)) = decide (0 < n + m) := by
        rw [← Bool.decide_or, decide_eq_decide]
        omega
      rw [hengine', hengine, ← hcount, ← Bool.or_assoc]

/-- The records around may differ: only the engine and the arbiter count. -/
theorem transport {s' t' : State} (h : s.RaisedOn t n c) (hs : s'.engine = s.engine) (hsa : s'.arbiter = s.arbiter) (ht : t'.engine = t.engine)
    (hta : t'.arbiter = t.arbiter) : s'.RaisedOn t' n c := by
  refine ⟨?_, ?_⟩
  · rw [hs, hsa, ht, hta]
    exact h.begun
  · rw [hs, hsa, ht, hta]
    exact h.held

theorem engineTriggered (h : s.RaisedOn t 1 c) (hc : c = t.capture) : s.EngineTriggered t := by
  unfold State.EngineTriggered
  split
  next hidle => simpa [hc] using h.begun hidle Nat.one_pos
  next hbusy => simpa using h.held (.inl hbusy)

theorem arbiter_frame (h : s.RaisedOn t n c) : t.arbiter = { s.arbiter with passSinceHead := t.arbiter.passSinceHead } := by
  by_cases hidle : s.engine.activity = .idle ∧ 0 < n
  · rw [(h.begun hidle.1 hidle.2).2]
  · rw [(h.held (by rw [not_and, not_lt, Nat.le_zero] at hidle; tauto)).2]

end State.RaisedOn

/-! ### The closing of an exceedance -/

/-- A record as it is closed (R65, R67). -/
def ExcRecord.closedBy (y : ExcRecord) (minute : Nat) (cause : ClosingCause) : ExcRecord :=
  { y with state := .closed, closedAt := some minute, cause := some cause }

/-- The open record of a receptor as it is closed, with its position. -/
def State.closedRecord (s : State) (x : Receptor) (minute : Nat) (cause : ClosingCause) : Option (ExcPos × ExcRecord) :=
  x.exceedance.bind fun p => (s.excRecord p).map fun y => (p, y.closedBy minute cause)

/-- What the closing of a receptor's exceedance makes of the state. -/
structure State.ExcClosed (s t : State) (r : ReceptorId) (x : Receptor) (minute : Nat) (cause : ClosingCause) (withTrigger : Bool) : Prop where
  frame : t = { s with
    receptors := t.receptors, exceedances := t.exceedances, engine := t.engine, arbiter := t.arbiter, notices := t.notices, witness := t.witness }
  receptor_same : t.receptor r = some { x with exceedance := none }
  receptor_ne : ∀ q, q ≠ r → t.receptor q = s.receptor q
  excRecord : ∀ p, t.excRecord p = if x.exceedance = some p then (s.excRecord p).map fun y => y.closedBy minute cause else s.excRecord p
  created : t.exceedances.created = s.exceedances.created
  raised : s.mode ≠ .boot → s.RaisedOn t (if withTrigger && x.exceedance.isSome then 1 else 0) (s.setReceptor r (some { x with exceedance := none })).capture
  silent : s.closedRecord x minute cause = none → t.notices = s.notices ∧ t.witness = s.witness
  told : ∀ e ∈ s.closedRecord x minute cause, t.notices = s.notices.post (exceedanceNotice e.1 e.2) ∧
    t.witness = (s.send (.exceedance false s.clock.minute s.clock.second e.1 e.2 none)).witness

theorem State.send_witness_congr {s t : State} (hwitness : t.witness = s.witness) (hsite : t.site = s.site) (hclock : t.clock = s.clock) (c : Copy) :
    (t.send c).witness = (s.send c).witness := State.sendAll_witness_congr hwitness hsite hclock [c]

theorem State.excRecord_congr {s t : State} (h : t.exceedances = s.exceedances) (p : ExcPos) : t.excRecord p = s.excRecord p := by
  rw [State.excRecord, h]
  rfl

section closing
variable {s : State} {r : ReceptorId} {x : Receptor} {p : ExcPos} {minute : Nat} {cause : ClosingCause} {withTrigger : Bool}

/-- The records as the closing writes them: the exceedance CLOSED, the receptor's link to it gone. -/
def State.closedTo (s : State) (r : ReceptorId) (x : Receptor) (p : ExcPos) (minute : Nat) (cause : ClosingCause) : State :=
  (s.updExcRecord p fun y => y.closedBy minute cause).setReceptor r (some { x with exceedance := none })

theorem State.closedTo_excRecord (q : ExcPos) : (s.closedTo r x p minute cause).excRecord q =
    if p = q then (s.excRecord q).map fun y => y.closedBy minute cause else s.excRecord q := by
  rw [State.closedTo, State.setReceptor_excRecord]
  by_cases hq : p = q
  · subst hq
    rw [State.excRecord_updExcRecord_same, if_pos rfl]
  · rw [State.excRecord_updExcRecord_ne s p q _ (Ne.symm hq), if_neg hq]

/-- The notice and the copy of a record just closed (R70, R71). -/
def State.tellClosed (s : State) (p : ExcPos) (y : ExcRecord) : State :=
  (s.post (exceedanceNotice p y)).send (.exceedance false s.clock.minute s.clock.second p y none)

theorem State.closeExceedance_of_none (h : s.receptor r = some x) (hexc : x.exceedance = none) : s.closeExceedance r minute cause withTrigger = s := by
  simp [State.closeExceedance, h, hexc]

theorem State.closeExceedance_of_some (h : s.receptor r = some x) (hexc : x.exceedance = some p) : s.closeExceedance r minute cause withTrigger =
    ((s.excRecord p).map fun y => y.closedBy minute cause).elim ((s.closedTo r x p minute cause).triggerIf withTrigger)
      (((s.closedTo r x p minute cause).triggerIf withTrigger).tellClosed p) := by
  have hwritten : (s.updExcRecord p fun y => { y with state := .closed, closedAt := some minute, cause := some cause }).updReceptor r
      (fun y => { y with exceedance := none }) = s.closedTo r x p minute cause := State.updReceptor_of_some (x := x) (by exact h) _
  have hrecord : ((s.closedTo r x p minute cause).triggerIf withTrigger).excRecord p = (s.excRecord p).map fun y => y.closedBy minute cause := by
    rw [State.triggerIf_eq]
    exact (State.closedTo_excRecord (r := r) (x := x) p).trans (if_pos rfl)
  simp only [State.closeExceedance, h, Option.bind_some, hexc, hwritten, hrecord]
  cases s.excRecord p <;> rfl

theorem State.triggerIf_frame (s : State) (c : Bool) : s.triggerIf c = { s with engine := (s.triggerIf c).engine, arbiter := (s.triggerIf c).arbiter } := by
  cases c with
  | false => rfl
  | true =>
    rw [State.triggerIf, if_pos rfl, State.trigger_eq]

/-- The state after the trigger of a closing, before its notice and copy. -/
theorem State.triggerIf_closedTo : ∃ b, (s.closedTo r x p minute cause).triggerIf withTrigger = b ∧
    b = { s with receptors := b.receptors, exceedances := b.exceedances, engine := b.engine, arbiter := b.arbiter } ∧
    b.receptor r = some { x with exceedance := none } ∧ (∀ q, q ≠ r → b.receptor q = s.receptor q) ∧
    (∀ q, b.excRecord q = if p = q then (s.excRecord q).map fun y => y.closedBy minute cause else s.excRecord q) ∧
    b.exceedances.created = s.exceedances.created ∧
    (s.mode ≠ .boot → s.RaisedOn b (if withTrigger then 1 else 0) (s.setReceptor r (some { x with exceedance := none })).capture) := by
  obtain ⟨e, a, hframe⟩ : ∃ e a, (s.closedTo r x p minute cause).triggerIf withTrigger = { s.closedTo r x p minute cause with engine := e, arbiter := a } :=
    ⟨_, _, State.triggerIf_frame _ _⟩
  refine ⟨_, hframe, rfl, State.receptor_setReceptor_same _ r _, fun q hq => State.receptor_setReceptor_ne _ _ _ _ hq, State.closedTo_excRecord (r := r) (x := x), rfl,
    fun hmode => ?_⟩
  rw [← hframe]
  exact (State.RaisedOn.of_triggerIf (s := s.closedTo r x p minute cause) hmode withTrigger).transport rfl rfl rfl rfl

theorem State.tellClosed_eq {b : State} (hclock : b.clock = s.clock) (hsite : b.site = s.site) (hwitness : b.witness = s.witness)
    (hnotices : b.notices = s.notices) (y : ExcRecord) : b.tellClosed p y = { b with
      notices := s.notices.post (exceedanceNotice p y)
      witness := (s.send (.exceedance false s.clock.minute s.clock.second p y none)).witness } := by
  have hsent := State.send_witness_congr (s := s) (t := b.post (exceedanceNotice p y)) hwitness hsite hclock
    (.exceedance false s.clock.minute s.clock.second p y none)
  rw [← hsent, ← hclock, ← hnotices]
  exact State.send_eq _ _

theorem State.ExcClosed.of_closeExceedance (h : s.receptor r = some x) (minute : Nat) (cause : ClosingCause) (withTrigger : Bool) :
    s.ExcClosed (s.closeExceedance r minute cause withTrigger) r x minute cause withTrigger := by
  cases hexc : x.exceedance with
  | none =>
    rw [State.closeExceedance_of_none h hexc]
    have hx : ({ x with exceedance := none } : Receptor) = x := by rw [← hexc]
    refine ⟨rfl, by rw [h, hx], fun _ _ => rfl, fun p => by rw [hexc]; rfl, rfl, fun _ => ?_, fun _ => ⟨rfl, rfl⟩, fun e he => ?_⟩
    · rw [hexc, Option.isSome_none, Bool.and_false]
      exact .of_same rfl rfl
    · simp [State.closedRecord, hexc] at he
  | some p =>
    rw [State.closeExceedance_of_some h hexc]
    obtain ⟨b, hb, hframe, hsame, hne, hrecord, hcreated, hraised⟩ :=
      State.triggerIf_closedTo (s := s) (r := r) (x := x) (p := p) (minute := minute) (cause := cause) (withTrigger := withTrigger)
    have hclosed : s.closedRecord x minute cause = (s.excRecord p).map fun y => (p, y.closedBy minute cause) := by simp [State.closedRecord, hexc]
    have hcount : (withTrigger && x.exceedance.isSome) = withTrigger := by rw [hexc, Option.isSome_some, Bool.and_true]
    have hposition (q : ExcPos) : x.exceedance = some q ↔ p = q := by rw [hexc, Option.some_inj]
    simp only [← hposition] at hrecord
    rw [hb]
    have hnotices : b.notices = s.notices := by rw [hframe]
    have hwitness : b.witness = s.witness := by rw [hframe]
    cases hy : s.excRecord p with
    | none =>
      rw [hy] at hclosed
      refine ⟨?_, hsame, hne, hrecord, hcreated, hcount.symm ▸ hraised, fun _ => ⟨hnotices, hwitness⟩, fun e he => ?_⟩
      · rw [Option.map_none, Option.elim_none, hnotices, hwitness]
        exact hframe
      · rw [hclosed] at he
        cases he
    | some y =>
      rw [hy] at hclosed
      have hclock : b.clock = s.clock := by rw [hframe]
      have hsite : b.site = s.site := by rw [hframe]
      rw [Option.map_some, Option.elim_some, State.tellClosed_eq hclock hsite hwitness hnotices]
      refine ⟨?_, hsame, hne, hrecord, hcreated, fun hmode => hcount.symm ▸ (hraised hmode).transport rfl rfl rfl rfl, fun hnone => ?_, fun e he => ?_⟩
      · conv_lhs => rw [hframe]
      · rw [hclosed] at hnone
        cases hnone
      · rw [hclosed] at he
        cases he
        exact ⟨rfl, rfl⟩

end closing

end Sys2Proof.Machine
end

section
/-! SUPPORT. TABLE DELETE of ZONE and of RECEPTOR; the poll of a receptor abandoned (R31, R40, R53, R67). -/

namespace Sys2Proof.Machine

/-- The notice of a closing, spelled out (R70). -/
theorem State.ExcClosed.told_notice {s t : State} {r : ReceptorId} {x : Receptor} {minute : Nat} {cause : ClosingCause} {b : Bool}
    (h : s.ExcClosed t r x minute cause b) {e : ExcPos × ExcRecord} (he : e ∈ s.closedRecord x minute cause) :
    t.notices = s.notices.post (.exceedance e.2.receptor e.1 .closed e.2.openedAt (some minute) e.2.limit e.2.peak e.2.minutesAbove (some cause)) := by
  obtain ⟨p, -, hp⟩ := Option.bind_eq_some_iff.1 he
  obtain ⟨y, -, rfl⟩ := Option.map_eq_some_iff.1 hp
  exact (h.told _ he).1

/-! ### A poll abandoned (R40) -/

/-- The poll of the receptor, if it has one, is abandoned and the cycle goes on to the next receptor number above. -/
structure State.PollAbandoned (s t : State) (r : ReceptorId) : Prop where
  kept : (∀ q, s.poller.poll = some q → q.receptor ≠ r) → t.poller = s.poller
  abandoned : ∀ q, s.poller.poll = some q → q.receptor = r →
    t.poller.receiver = .hunting ∧ ((∀ k, r < k → s.receptor k = none) → t.poller.poll = none) ∧
    ∀ k y, s.receptor k = some y → r < k → (∀ j, r < j → j < k → s.receptor j = none) →
      t.poller.poll = some { receptor := k, address := y.address, second := q.second, wait := none }

theorem State.pollFrom_frame (s : State) (low second : Nat) : s.pollFrom low second = { s with poller := (s.pollFrom low second).poller } := by
  unfold State.pollFrom
  cases s.nextReceptor low with
  | none => rfl
  | some r =>
    dsimp only
    cases s.receptor r <;> rfl

theorem State.abandonPoll_frame (s : State) (r : ReceptorId) : s.abandonPoll r = { s with poller := (s.abandonPoll r).poller } := by
  unfold State.abandonPoll State.continueCycle
  cases s.poller.poll with
  | none => rfl
  | some p =>
    dsimp only
    split
    · exact State.pollFrom_frame s _ _
    · rfl

theorem State.PollAbandoned.of_abandonPoll {s v : State} {r : ReceptorId} (hpoller : v.poller = s.poller)
    (hreceptor : ∀ k, r < k → v.receptor k = s.receptor k) : s.PollAbandoned (v.abandonPoll r) r := by
  have hnext (k : ReceptorId) : r.val + 1 ≤ k.val ↔ r < k := Nat.succ_le_iff
  refine ⟨fun hother => ?_, fun q hq hr => ?_⟩
  · rw [← hpoller] at hother
    unfold State.abandonPoll
    cases hpoll : v.poller.poll with
    | none => exact hpoller
    | some p =>
      dsimp only
      rw [if_neg (hother p hpoll)]
      exact hpoller
  · have hcontinue : v.abandonPoll r = v.pollFrom (r.val + 1) q.second := by
      unfold State.abandonPoll State.continueCycle
      rw [hpoller, hq]
      dsimp only
      rw [if_pos hr, hr]
    rw [hcontinue]
    refine ⟨State.pollFrom_receiver v _ _, fun hnone => State.pollFrom_of_none (fun k hk => ?_) _, fun k y hk hlt hbetween =>
      State.pollFrom_of_first ((hnext k).2 hlt) ((hreceptor k hlt).trans hk) (fun j hj hjk => ?_) _⟩
    · have hlt := (hnext k).1 hk
      rw [hreceptor k hlt, hnone k hlt]
    · have hlt := (hnext j).1 hj
      rw [hreceptor j hlt, hbetween j hlt hjk]

theorem State.PollAbandoned.congr {s t u : State} {r : ReceptorId} (h : s.PollAbandoned t r) (hu : u.poller = t.poller) : s.PollAbandoned u r := by
  refine ⟨?_, ?_⟩
  · rw [hu]
    exact h.kept
  · rw [hu]
    exact h.abandoned

/-! ### A zone deleted (R31) -/

theorem State.unloadZone_set (s : State) (z : ZoneId) : ∃ u, s.ZoneSet u z zoneDefault
      ((s.zone z).effective ≠ 0 ∨ (s.zone z).fade ≠ 0 ∨ (s.zone z).state ≠ .opened ∨ (s.zone z).recoveryMargin ≠ 30) ∧
    s.unloadZone z = u.postZone z := by
  have hset : s.ZoneSet (s.setZone z zoneDefault) z zoneDefault False := ⟨⟨_, _, rfl⟩, fun _ => .of_engine_eq rfl, fun _ => rfl⟩
  have heffective := hset.trans (State.ZoneSet.of_triggerIf _ z ((s.zone z).effective != 0))
  have hfade := heffective.trans (State.ZoneSet.of_triggerIf _ z ((s.zone z).fade != 0))
  have hstate := hfade.trans (State.ZoneSet.of_triggerIf _ z ((s.zone z).state != .opened))
  have hmargin := hstate.trans (State.ZoneSet.of_triggerIf _ z ((s.zone z).recoveryMargin != 30))
  refine ⟨_, hmargin.congr ?_ ?_, rfl⟩
  · rw [hstate.zone_same, hfade.zone_same, heffective.zone_same, hset.zone_same]
  · simp only [bne_iff_ne, false_or, or_assoc]

/-! ### A receptor deleted (R53) -/

theorem State.receptorNamed_iff {s : State} {r : ReceptorId} : s.receptorNamed r = true ↔ ∃ p e, s.path p = some e ∧ e.receptor = r := by
  rw [State.receptorNamed, List.any_eq_true]
  constructor
  · rintro ⟨p, -, hp⟩
    cases he : s.path p with
    | none => rw [he] at hp; cases hp
    | some e =>
      rw [he] at hp
      exact ⟨p, e, he, eq_of_beq hp⟩
  · rintro ⟨p, e, he, rfl⟩
    exact ⟨p, List.mem_finRange p, by rw [he]; exact beq_self_eq_true _⟩

/-- Settles O54: the refusals of the two deletes, the zone unloaded, the receptor removed. -/
theorem zoneAndReceptorDeletes : Obligations.ZoneAndReceptorDeletes := by
  intro s tag n hready
  have hmode := hready.1.2.1
  refine ⟨⟨fun hbad => answered_of_tableReady hready rfl ?_, fun z hz => ?_⟩, ⟨fun hbad => answered_of_tableReady hready rfl ?_, fun r hr => ?_⟩⟩
  · simp [deleteZone, zoneOf, keyFromOne_eq_none hbad, State.refuse]
  · have hkey : zoneOf n = some z := keyFromOne_eq_some.2 hz
    refine ⟨fun henforce => answered_of_tableReady hready rfl ?_, fun hsetup hused => answered_of_tableReady hready rfl ?_, fun hsetup hfree => ?_⟩
    · simp [deleteZone, hkey, henforce, State.refuse]
    · simp [deleteZone, hkey, hsetup, State.zoneUsed_iff.2 hused, State.refuse]
    · have hunused : s.zoneUsed z = false := Bool.eq_false_iff.2 fun h => by
        obtain ⟨r, x, hx, hxz⟩ := State.zoneUsed_iff.1 h
        exact hfree r x hx hxz
      refine ⟨s.unloadZone z, answered_of_tableReady hready rfl (by simp [deleteZone, hkey, hsetup, hunused]), ?_⟩
      obtain ⟨u, hu, heq⟩ := s.unloadZone_set z
      have hraised := hu.raised hmode
      have hsame := hu.zone_same
      have hother (w : ZoneId) := hu.zone_ne (w := w)
      obtain ⟨e, p, rfl⟩ := hu.written
      rw [heq]
      exact ⟨rfl, hsame, fun w hw => hother w hw, fun h => (hraised.1 h).of_engine_eq rfl, hraised.2⟩
  · exact forReceptor_of_none (hbad.imp_right .inl) _
  · refine ⟨fun hnone => answered_of_tableReady hready rfl (forReceptor_of_none (.inr (.inr ⟨r, hr, hnone⟩)) _), fun hsome henforce => ?_,
      fun hsome hsetup hnamed => ?_, fun x hx hsetup hfree => ?_⟩
    all_goals subst hr
    · obtain ⟨x, hx⟩ := Option.ne_none_iff_exists'.1 hsome
      exact answered_of_tableReady hready rfl ((forReceptor_of_some hx _).trans (if_pos henforce))
    · obtain ⟨x, hx⟩ := Option.ne_none_iff_exists'.1 hsome
      exact answered_of_tableReady hready rfl ((forReceptor_of_some hx _).trans
        (by rw [deleteReceptor, hsetup, if_neg (by decide), if_pos (State.receptorNamed_iff.2 hnamed)]; rfl))
    · have hunnamed : s.receptorNamed r = false := Bool.eq_false_iff.2 fun h => by
        obtain ⟨p, e, he, her⟩ := State.receptorNamed_iff.1 h
        exact hfree p e he her
      refine ⟨s.removeReceptor r, answered_of_tableReady hready rfl ((forReceptor_of_some hx _).trans
        (by rw [deleteReceptor, hsetup, if_neg (by decide), hunnamed, if_neg Bool.false_ne_true])), ?_⟩
      have hclosed := State.ExcClosed.of_closeExceedance hx s.clock.minute .receptorEdited false
      unfold State.removeReceptor
      generalize s.closeExceedance r s.clock.minute .receptorEdited false = c at hclosed
      have hraised := hclosed.raised hmode
      rw [Bool.false_and, if_neg Bool.false_ne_true] at hraised
      obtain ⟨hengine, harbiter⟩ := hraised.held (.inr rfl)
      have hsameEngine : c.engine = s.engine := by simpa using hengine
      have hpoll : s.PollAbandoned ((c.setReceptor r none).abandonPoll r) r := by
        refine .of_abandonPoll ?_ fun k hk => ?_
        · rw [hclosed.frame]
          rfl
        · rw [State.receptor_setReceptor_ne _ _ _ _ hk.ne', hclosed.receptor_ne k hk.ne']
      rw [State.abandonPoll_frame] at hpoll ⊢
      generalize ((c.setReceptor r none).abandonPoll r).poller = poller at hpoll ⊢
      refine ⟨?_, State.receptor_setReceptor_same _ r _, fun q hq => (State.receptor_setReceptor_ne _ _ _ _ hq).trans (hclosed.receptor_ne q hq),
        hclosed.created, hclosed.excRecord, ⟨hclosed.silent, fun e he => ⟨hclosed.told_notice he, (hclosed.told e he).2⟩⟩, hpoll.kept, hpoll.abandoned⟩
      have hframe := hclosed.frame
      rw [hsameEngine, harbiter] at hframe
      conv_lhs => rw [hframe]
      rfl

end Sys2Proof.Machine
end

section
/-! SUPPORT. TABLE WRITE of RECEPTOR (R36, R50, R52, R67). -/

namespace Sys2Proof.Machine

/-! ### The stages of an edit -/

/-- `v` is a stage of the edit of receptor `r` in `s`: its record is `w`, no other receptor changed, and `n` triggers were raised, the first of which an
IDLE engine took with the capture `c`. -/
structure State.EditStage (s v : State) (r : ReceptorId) (w : Receptor) (n : Nat) (c : Capture) : Prop where
  frame : v = { s with
    receptors := v.receptors, poller := v.poller, exceedances := v.exceedances, engine := v.engine, arbiter := v.arbiter, notices := v.notices
    witness := v.witness }
  receptor_same : v.receptor r = some w
  receptor_ne : ∀ q, q ≠ r → v.receptor q = s.receptor q
  raised : s.RaisedOn v n c

namespace State.EditStage
variable {s v u : State} {r : ReceptorId} {w x : Receptor} {n m : Nat} {c d : Capture}

theorem congr (h : s.EditStage v r w n c) (hw : w = x) (hn : n = m) (hc : 0 < m → c = d) : s.EditStage v r x m d :=
  ⟨h.frame, hw ▸ h.receptor_same, h.receptor_ne, h.raised.congr hn (hn ▸ hc)⟩

theorem setReceptor (h : s.EditStage v r w n c) (x : Receptor) : s.EditStage (v.setReceptor r (some x)) r x n c where
  frame := congrArg (fun u : State => u.setReceptor r (some x)) h.frame
  receptor_same := State.receptor_setReceptor_same v r _
  receptor_ne q hq := (State.receptor_setReceptor_ne _ _ _ _ hq).trans (h.receptor_ne q hq)
  raised := h.raised.transport rfl rfl rfl rfl

theorem post (h : s.EditStage v r w n c) (k : Notice) : s.EditStage (v.post k) r w n c where
  frame := congrArg (fun u : State => u.post k) h.frame
  receptor_same := h.receptor_same
  receptor_ne := h.receptor_ne
  raised := h.raised.transport rfl rfl rfl rfl

theorem abandonPoll (h : s.EditStage v r w n c) : s.EditStage (v.abandonPoll r) r w n c := by
  rw [State.abandonPoll_frame]
  exact ⟨congrArg (fun u : State => ({ u with poller := (v.abandonPoll r).poller } : State)) h.frame, h.receptor_same, h.receptor_ne,
    h.raised.transport rfl rfl rfl rfl⟩

theorem mode_eq (h : s.EditStage v r w n c) : v.mode = s.mode := by rw [h.frame]

/-- What a pass begun here captures. -/
theorem capture_eq (h : s.EditStage v r w n c) : v.capture = (s.setReceptor r (some w)).capture := by
  have hframe := h.frame
  refine State.capture_congr (by rw [hframe]; rfl) (by rw [hframe]; rfl) (by rw [hframe]; rfl) (by rw [hframe]; rfl) fun q => ?_
  by_cases hq : q = r
  · subst hq
    rw [h.receptor_same, State.receptor_setReceptor_same]
  · rw [h.receptor_ne q hq, State.receptor_setReceptor_ne _ _ _ _ hq]

theorem triggerIf (h : s.EditStage v r w n c) (hmode : s.mode ≠ .boot) (b : Bool) :
    s.EditStage (v.triggerIf b) r w (n + if b then 1 else 0) (if n = 0 then (s.setReceptor r (some w)).capture else c) := by
  have hraised := State.RaisedOn.of_triggerIf (s := v) (h.mode_eq ▸ hmode) b
  rw [h.capture_eq] at hraised
  have hframe := State.triggerIf_frame v b
  generalize v.triggerIf b = t at hraised hframe
  have hreceptor (q : ReceptorId) : t.receptor q = v.receptor q := by
    rw [hframe]
    rfl
  refine ⟨?_, (hreceptor r).trans h.receptor_same, fun q hq => (hreceptor q).trans (h.receptor_ne q hq), h.raised.trans hraised⟩
  rw [hframe]
  exact congrArg (fun u : State => ({ u with engine := t.engine, arbiter := t.arbiter } : State)) h.frame

theorem close (h : s.EditStage v r w n c) (hmode : s.mode ≠ .boot) {minute : Nat} {cause : ClosingCause}
    (k : v.ExcClosed u r w minute cause true) : s.EditStage u r { w with exceedance := none } (n + if w.exceedance.isSome then 1 else 0)
      (if n = 0 then (s.setReceptor r (some { w with exceedance := none })).capture else c) := by
  have hcapture : (v.setReceptor r (some { w with exceedance := none })).capture = (s.setReceptor r (some { w with exceedance := none })).capture :=
    (h.setReceptor _).capture_eq
  have hraised := k.raised (h.mode_eq ▸ hmode)
  rw [hcapture, Bool.true_and] at hraised
  refine ⟨?_, k.receptor_same, fun q hq => (k.receptor_ne q hq).trans (h.receptor_ne q hq), h.raised.trans hraised⟩
  have hframe := k.frame
  rw [hframe]
  exact congrArg (fun a : State => ({ a with
    receptors := u.receptors, exceedances := u.exceedances, engine := u.engine, arbiter := u.arbiter, notices := u.notices
    witness := u.witness } : State)) h.frame

end State.EditStage

section edit
variable {s : State} {r : ReceptorId} {x : Receptor} {address : Nat} {z : ZoneId} {floor : Level}

/-- The edit begun: the zone and the floor written, with the trigger of a new zone. -/
theorem State.EditStage.begun (hmode : s.mode ≠ .boot) (x : Receptor) (moved : Bool) :
    s.EditStage ((s.setReceptor r (some x)).triggerIf moved) r x (if moved then 1 else 0) (s.setReceptor r (some x)).capture := by
  have hwritten : s.EditStage (s.setReceptor r (some x)) r x 0 (s.setReceptor r (some x)).capture :=
    ⟨rfl, State.receptor_setReceptor_same s r _, fun q hq => State.receptor_setReceptor_ne _ _ _ _ hq, .of_same rfl rfl⟩
  exact (hwritten.triggerIf hmode moved).congr rfl (Nat.zero_add _) fun _ => rfl

theorem State.editReceptor_of_same (haddress : x.address = address) (hzone : x.zone = z) :
    s.editReceptor r x address z floor = s.setReceptor r (some { x with zone := z, floor := floor }) := by
  simp [State.editReceptor, haddress, hzone, State.triggerIf]

/-- A new zone alone (R52, R67). -/
theorem State.editReceptor_of_moved (haddress : x.address = address) (hzone : x.zone ≠ z) :
    s.editReceptor r x address z floor =
      ((s.setReceptor r (some { x with zone := z, floor := floor })).triggerIf true).closeExceedance r s.clock.minute .receptorEdited true := by
  subst haddress
  have hclock : ((s.setReceptor r (some { x with zone := z, floor := floor })).triggerIf true).clock = s.clock := by
    rw [State.triggerIf_frame]
    rfl
  simp only [State.editReceptor, bne_iff_ne.2 hzone, bne_self_eq_false, Bool.false_eq_true, if_false, Bool.or_false, if_true, hclock]

/-- The state after a new station address, before the closing: with the STATION notice, the poll abandoned (R52). -/
def State.rewired (s : State) (r : ReceptorId) (x : Receptor) (address : Nat) (z : ZoneId) (floor : Level) : State :=
  ((s.setReceptor r (some { x with zone := z, floor := floor })).triggerIf (x.zone != z)).restation r x address

/-- A new station address (R52, R67). -/
theorem State.editReceptor_of_rewired (haddress : x.address ≠ address) : s.editReceptor r x address z floor =
    ((s.rewired r x address z floor).closeExceedance r (s.rewired r x address z floor).clock.minute .receptorEdited true).clearCompliance r := by
  simp only [State.editReceptor, bne_iff_ne.2 haddress, if_true, Bool.or_true]
  rfl

theorem State.triggerIf_receptor (s : State) (b : Bool) (q : ReceptorId) : (s.triggerIf b).receptor q = s.receptor q := by
  rw [State.triggerIf_eq]
  rfl

theorem State.triggerIf_exceedances (s : State) (b : Bool) : (s.triggerIf b).exceedances = s.exceedances := by rw [State.triggerIf_eq]
theorem State.triggerIf_witness (s : State) (b : Bool) : (s.triggerIf b).witness = s.witness := by rw [State.triggerIf_eq]
theorem State.triggerIf_notices (s : State) (b : Bool) : (s.triggerIf b).notices = s.notices := by rw [State.triggerIf_eq]
theorem State.triggerIf_poller (s : State) (b : Bool) : (s.triggerIf b).poller = s.poller := by rw [State.triggerIf_eq]

/-- The record with the zone, the floor and the new address, the station values those of a new record. -/
def Receptor.rewired (x : Receptor) (address : Nat) (z : ZoneId) (floor : Level) : Receptor :=
  ({ x with zone := z, floor := floor } : Receptor).restationed address

theorem State.restation_of_some {v : State} {w : Receptor} (h : v.receptor r = some w) : v.restation r x address =
    (((v.setReceptor r (some (w.restationed address))).triggerIf (x.station == .active)).post (stationNotice r (w.restationed address))).abandonPoll r := by
  simp only [State.restation, h, Option.getD_some]

theorem State.EditStage.rewired (hmode : s.mode ≠ .boot) : s.EditStage (s.rewired r x address z floor) r (x.rewired address z floor)
    ((if x.zone != z then 1 else 0) + if x.station == .active then 1 else 0)
    (if (if x.zone != z then 1 else 0) = 0 then (s.setReceptor r (some (x.rewired address z floor))).capture
      else (s.setReceptor r (some { x with zone := z, floor := floor })).capture) := by
  have hbegun := State.EditStage.begun (r := r) hmode { x with zone := z, floor := floor } (x.zone != z)
  rw [State.rewired, State.restation_of_some hbegun.receptor_same]
  exact (((hbegun.setReceptor _).triggerIf hmode _).post _).abandonPoll

/-- What the new address leaves but for the poll, the notice, the receptor and the triggers. -/
theorem State.rewired_rest : (s.rewired r x address z floor).exceedances = s.exceedances ∧ (s.rewired r x address z floor).witness = s.witness ∧
    (s.rewired r x address z floor).notices = s.notices.post (.station r .new 0 none address) ∧
    s.PollAbandoned (s.rewired r x address z floor) r := by
  have hbegun : ((s.setReceptor r (some { x with zone := z, floor := floor })).triggerIf (x.zone != z)).receptor r =
      some { x with zone := z, floor := floor } := (State.triggerIf_receptor _ _ _).trans (State.receptor_setReceptor_same s r _)
  rw [State.rewired, State.restation_of_some hbegun]
  refine ⟨?_, ?_, ?_, .of_abandonPoll ?_ fun k hk => ?_⟩
  · rw [State.abandonPoll_frame]
    exact (State.triggerIf_exceedances _ _).trans (State.triggerIf_exceedances _ _)
  · rw [State.abandonPoll_frame]
    exact (State.triggerIf_witness _ _).trans (State.triggerIf_witness _ _)
  · rw [State.abandonPoll_frame]
    exact congrArg (fun q : NoticeQueue => q.post (.station r .new 0 none address)) ((State.triggerIf_notices _ _).trans (State.triggerIf_notices _ _))
  · exact (State.triggerIf_poller _ _).trans (State.triggerIf_poller _ _)
  · refine (State.triggerIf_receptor _ _ k).trans ((State.receptor_setReceptor_ne _ _ _ _ hk.ne').trans ?_)
    exact (State.triggerIf_receptor _ _ k).trans (State.receptor_setReceptor_ne _ _ _ _ hk.ne')

/-- The record cleared of its compliance values (R67). -/
theorem State.clearCompliance_of_some {v : State} {w : Receptor} (h : v.receptor r = some w) : v.clearCompliance r =
    (v.setReceptor r (some { w with residual := { sum := 0, count := 0 }, correction := 0 })).triggerIf (decide (0 < w.correction)) := by
  simp only [State.clearCompliance, h]

/-! ### The edit as a whole -/

/-- The closing of the receptor's exceedance in an edit, seen from the state before it. -/
theorem State.EditStage.closing {v u : State} {w : Receptor} {n : Nat} {c : Capture} (h : s.EditStage v r w n c)
    (k : v.ExcClosed u r w s.clock.minute .receptorEdited true) (hexceedances : v.exceedances = s.exceedances) (hlink : w.exceedance = x.exceedance) :
    (∀ p, u.excRecord p = if x.exceedance = some p then (s.excRecord p).map fun y => y.closedBy s.clock.minute .receptorEdited else s.excRecord p) ∧
    (s.closedRecord x s.clock.minute .receptorEdited = none → u.notices = v.notices ∧ u.witness = v.witness) ∧
    ∀ e ∈ s.closedRecord x s.clock.minute .receptorEdited,
      u.notices = v.notices.post (.exceedance e.2.receptor e.1 .closed e.2.openedAt (some s.clock.minute) e.2.limit e.2.peak e.2.minutesAbove
        (some .receptorEdited)) ∧
      (v.witness = s.witness → u.witness = (s.send (.exceedance false s.clock.minute s.clock.second e.1 e.2 none)).witness) := by
  have hrecord (p : ExcPos) : v.excRecord p = s.excRecord p := State.excRecord_congr hexceedances p
  have hclosed : v.closedRecord w s.clock.minute .receptorEdited = s.closedRecord x s.clock.minute .receptorEdited := by
    simp only [State.closedRecord, hlink, hrecord]
  have hclock : v.clock = s.clock := by rw [h.frame]
  have hsite : v.site = s.site := by rw [h.frame]
  rw [← hclosed]
  refine ⟨fun p => ?_, k.silent, fun e he => ⟨k.told_notice he, fun hwitness => ?_⟩⟩
  · rw [k.excRecord, hlink, hrecord]
  · have hsent := (k.told e he).2
    rw [hclock] at hsent
    exact hsent.trans (State.send_witness_congr hwitness hsite hclock _)

/-- What a pass captures of a receptor decides the capture. -/
theorem State.capture_setReceptor_congr {w y : Receptor} (h : Receptor.captured r w = Receptor.captured r y) :
    (s.setReceptor r (some w)).capture = (s.setReceptor r (some y)).capture := by
  refine State.capture_congr rfl rfl rfl rfl fun q => ?_
  by_cases hq : q = r
  · subst hq
    rw [State.receptor_setReceptor_same, State.receptor_setReceptor_same, Option.map_some, Option.map_some, h]
  · rw [State.receptor_setReceptor_ne _ _ _ _ hq, State.receptor_setReceptor_ne _ _ _ _ hq]

/-- The record as the first trigger of a new address finds it (log 45). -/
def Receptor.firstCaptured (x : Receptor) (address : Nat) (z : ZoneId) (floor : Level) : Receptor :=
  if x.zone ≠ z then { x with zone := z, floor := floor }
  else
    { x with
      address := address, floor := floor, station := .new, misses := 0, accumulator := none, ring := [], level15 := none, lastLevel := none
      correction := if x.station = .active ∨ x.exceedance ≠ none then x.correction else 0
      exceedance := if x.station = .active then x.exceedance else none }

/-- A new station address: the stages one after another, up to the compliance values cleared (R52, R67). -/
theorem State.editReceptor_rewired (hmode : s.mode ≠ .boot) (haddress : x.address ≠ address) :
    ∃ u, (s.rewired r x address z floor).ExcClosed u r (x.rewired address z floor) s.clock.minute .receptorEdited true ∧
      s.EditStage (s.editReceptor r x address z floor) r (receptorCreated address z floor)
        ((if x.zone != z then 1 else 0) + (if x.station == .active then 1 else 0) + (if x.exceedance.isSome then 1 else 0) +
          if decide (0 < x.correction) then 1 else 0)
        (s.setReceptor r (some (x.firstCaptured address z floor))).capture ∧
      (s.editReceptor r x address z floor).exceedances = u.exceedances ∧ (s.editReceptor r x address z floor).notices = u.notices ∧
      (s.editReceptor r x address z floor).witness = u.witness ∧ (s.editReceptor r x address z floor).poller = u.poller := by
  have hrewired := State.EditStage.rewired (r := r) (x := x) (address := address) (z := z) (floor := floor) hmode
  have hclock : (s.rewired r x address z floor).clock = s.clock := by rw [hrewired.frame]
  have hclosed := State.ExcClosed.of_closeExceedance hrewired.receptor_same s.clock.minute .receptorEdited true
  have hstage := hrewired.close hmode hclosed
  rw [State.editReceptor_of_rewired haddress, hclock]
  generalize (s.rewired r x address z floor).closeExceedance r s.clock.minute .receptorEdited true = u at hclosed hstage
  rw [State.clearCompliance_of_some hstage.receptor_same]
  refine ⟨u, hclosed, ((hstage.setReceptor _).triggerIf hmode _).congr rfl rfl fun hpos => ?_, State.triggerIf_exceedances _ _,
    State.triggerIf_notices _ _, State.triggerIf_witness _ _, State.triggerIf_poller _ _⟩
  have hlink : (x.rewired address z floor).exceedance = x.exceedance := rfl
  rw [hlink]
  unfold Receptor.firstCaptured
  by_cases hmoved : x.zone = z
  · by_cases hactive : x.station = .active
    · simp only [hmoved, hactive, bne_self_eq_false, beq_self_eq_true, Bool.false_eq_true, if_false, if_true, Nat.zero_add, Nat.one_ne_zero, ne_eq,
        not_true_eq_false, true_or, Nat.add_eq_zero_iff, false_and]
      refine State.capture_setReceptor_congr ?_
      simp [Receptor.captured, Receptor.rewired, Receptor.restationed]
    · have hbeq : (x.station == .active) = false := beq_false_of_ne hactive
      cases hexc : x.exceedance with
      | none =>
        simp only [hmoved, hbeq, hactive, bne_self_eq_false, Bool.false_eq_true, if_false, if_true, Nat.add_zero, ne_eq, not_true_eq_false, or_false,
          Option.isSome_none]
        refine State.capture_setReceptor_congr ?_
        simp [Receptor.captured, Receptor.rewired, Receptor.restationed]
      | some p =>
        simp only [hmoved, hbeq, hactive, bne_self_eq_false, Bool.false_eq_true, if_false, if_true, Nat.zero_add, ne_eq, not_true_eq_false, or_true,
          Option.isSome_some, Nat.one_ne_zero, reduceCtorEq, not_false_eq_true]
        refine State.capture_setReceptor_congr ?_
        simp [Receptor.captured, Receptor.rewired, Receptor.restationed]
  · simp [hmoved]

/-- A new zone alone: the stages one after another (R52, R67). -/
theorem State.editReceptor_moved (hmode : s.mode ≠ .boot) (haddress : x.address = address) (hzone : x.zone ≠ z) :
    ∃ v, s.EditStage v r { x with zone := z, floor := floor } 1 (s.setReceptor r (some { x with zone := z, floor := floor })).capture ∧
      v.exceedances = s.exceedances ∧ v.notices = s.notices ∧ v.witness = s.witness ∧ v.poller = s.poller ∧
      v.ExcClosed (s.editReceptor r x address z floor) r { x with zone := z, floor := floor } s.clock.minute .receptorEdited true := by
  have hbegun := State.EditStage.begun (r := r) hmode { x with zone := z, floor := floor } true
  rw [State.editReceptor_of_moved haddress hzone]
  exact ⟨_, hbegun, State.triggerIf_exceedances _ _, State.triggerIf_notices _ _, State.triggerIf_witness _ _, State.triggerIf_poller _ _,
    .of_closeExceedance hbegun.receptor_same _ _ _⟩

end edit

end Sys2Proof.Machine
end

section
/-! SUPPORT. TABLE WRITE of RECEPTOR in the words of the statement (R36, R50, R52, R67). -/

namespace Sys2Proof.Machine

theorem State.RaisedOn.not_idle {s t : State} {n : Nat} {c : Capture} (h : s.RaisedOn t n c) (hn : 0 < n) : t.engine.activity ≠ .idle := by
  by_cases hidle : s.engine.activity = .idle
  · simp [(h.begun hidle hn).1]
  · simpa [(h.held (.inl hidle)).1] using hidle

section write
variable {s : State} {r : ReceptorId} {z : ZoneId} {a : ReceptorArgs}

theorem State.addressTaken_iff {address : Nat} : s.addressTaken r address = true ↔ ∃ q y, q ≠ r ∧ s.receptor q = some y ∧ y.address = address := by
  rw [State.addressTaken, List.any_eq_true]
  constructor
  · rintro ⟨q, -, hq⟩
    obtain ⟨hne, htaken⟩ := Bool.and_eq_true_iff.1 hq
    cases hy : s.receptor q with
    | none => rw [hy] at htaken; cases htaken
    | some y =>
      rw [hy] at htaken
      exact ⟨q, y, bne_iff_ne.1 hne, hy, eq_of_beq htaken⟩
  · rintro ⟨q, y, hne, hy, rfl⟩
    exact ⟨q, List.mem_finRange q, Bool.and_eq_true_iff.2 ⟨bne_iff_ne.2 hne, by rw [hy]; exact beq_self_eq_true _⟩⟩

theorem writeReceptor_of_bad (h : a.receptor = 0 ∨ 16 < a.receptor ∨ a.address = 0 ∨ 31 < a.address ∨ a.zone = 0 ∨ 4 < a.zone) :
    writeReceptor a s = (s, .refused .noSuch) := by
  unfold writeReceptor
  cases hr : receptorOf a.receptor with
  | none => rfl
  | some r =>
    have hreceptor := keyFromOne_eq_some.1 hr
    dsimp only
    split
    · rfl
    next haddress =>
      have hzone : zoneOf a.zone = none := keyFromOne_eq_none (by omega)
      rw [hzone]
      rfl

theorem writeReceptor_of_keys (hr : a.receptor = r.val + 1) (hlow : 1 ≤ a.address) (hhigh : a.address ≤ 31) (hz : a.zone = z.val + 1) :
    writeReceptor a s =
      if (s.zone z).breakpoints = [] then (s, .refused .noSuch)
      else if s.addressTaken r a.address then (s, .refused .duplicate)
      else
        (s.receptor r).elim (s.setReceptor r (some (receptorCreated a.address z (min 1400 a.floor))), .doneAdjusted (decide (1400 < a.floor)) .none) fun x =>
          if s.mode = .enforce ∧ (x.address ≠ a.address ∨ x.zone ≠ z) then (s, .refused .isProtected)
          else (s.editReceptor r x a.address z (min 1400 a.floor), .doneAdjusted (decide (1400 < a.floor)) .none) := by
  have hreceptor : receptorOf a.receptor = some r := keyFromOne_eq_some.2 hr
  have hzone : zoneOf a.zone = some z := keyFromOne_eq_some.2 hz
  have hvalue : (clampSetting 0 1400 a.floor).value = min 1400 a.floor := by rw [clampSetting_value, clampNat, Nat.zero_max]
  have hadjusted : (clampSetting 0 1400 a.floor).adjusted = decide (1400 < a.floor) := by
    rw [Bool.eq_iff_iff, clampSetting_adjusted_eq (by decide), decide_eq_true_eq, clampNat]
    omega
  simp only [writeReceptor, hreceptor, hzone, List.isEmpty_iff, hvalue, hadjusted, State.refuse]
  rw [if_neg (by omega)]
  cases s.receptor r <;> rfl

end write

/-- Settles O55: the checks of the write, the record created, and the three ways an edit goes: neither new, a new zone alone, a new station address. -/
theorem receptorWritesCreateOrEdit : Obligations.ReceptorWritesCreateOrEdit := by
  intro s tag a hready
  have hmode := hready.1.2.1
  intro c done
  have writes {t : State} {b : Answer} (h : writeReceptor a s = (t, b)) : Answered c s t 0 0x18 tag b := answered_of_tableReady hready rfl h
  refine ⟨fun hbad => writes (writeReceptor_of_bad hbad), fun r z hr hlow hhigh hz => ?_⟩
  have hwrite := writeReceptor_of_keys (s := s) hr hlow hhigh hz
  refine ⟨fun hunloaded => writes (hwrite.trans (if_pos hunloaded)), fun hloaded => ?_⟩
  rw [if_neg hloaded] at hwrite
  refine ⟨fun htaken => writes (hwrite.trans (if_pos (State.addressTaken_iff.2 htaken))), fun hfree => ?_⟩
  rw [if_neg fun h => by
    obtain ⟨q, y, hq, hy, haddress⟩ := State.addressTaken_iff.1 h
    exact hfree q y hq hy haddress] at hwrite
  refine ⟨fun hnone => ?_, fun x hx => ?_⟩
  · rw [hnone] at hwrite
    exact ⟨_, writes hwrite, rfl, fun q hq => State.receptor_setReceptor_ne _ _ _ _ hq, State.receptor_setReceptor_same s r _⟩
  rw [hx] at hwrite
  refine ⟨fun henforce hchange => writes (hwrite.trans (if_pos ⟨henforce, hchange⟩)), fun hallowed => ?_⟩
  have hedit := writes (hwrite.trans (if_neg fun h => hallowed.elim (fun hsetup => by rw [hsetup] at h; cases h.1)
    fun hsame => h.2.elim (fun hne => hne hsame.1) fun hne => hne hsame.2))
  refine ⟨_, hedit, ?_⟩
  clear hedit hwrite writes
  by_cases haddress : x.address = a.address
  · by_cases hzone : x.zone = z
    · rw [State.editReceptor_of_same haddress hzone]
      have hreceptor : (s.setReceptor r (some { x with zone := z, floor := min 1400 a.floor })).receptor r = some { x with floor := min 1400 a.floor } := by
        rw [State.receptor_setReceptor_same, hzone.symm]
      refine ⟨rfl, fun q hq => State.receptor_setReceptor_ne _ _ _ _ hq, fun _ _ => ⟨rfl, hreceptor⟩, fun _ hne => absurd hzone hne,
        fun hne => absurd haddress hne, fun hne => absurd hne (by simp [haddress, hzone]), ?_⟩
      intro moved rewired closed stationed
      have hmoved : ¬moved := not_not.2 hzone
      have hrewired : ¬rewired := not_not.2 haddress
      have hclosed : closed = none := if_neg (not_or.2 ⟨hmoved, hrewired⟩)
      refine ⟨fun _ => ⟨(if_neg hrewired).symm, rfl⟩, fun e he => absurd he (by simp [hclosed]), ?_, fun _ => rfl, fun _ _ _ h => absurd h hrewired⟩
      intro one blinded closing triggers first
      have htriggers : triggers = 0 := by simp [triggers, one, blinded, closing, hmoved, hrewired]
      rw [htriggers]
      exact ⟨fun _ h => absurd h (lt_irrefl 0), fun _ => ⟨by simp [State.setReceptor], rfl⟩⟩
    · obtain ⟨v, hstage, hexceedances, hnotices, hwitness, hpoller, hclose⟩ :=
        State.editReceptor_moved (s := s) (r := r) (x := x) (floor := min 1400 a.floor) hmode haddress hzone
      generalize s.editReceptor r x a.address z (min 1400 a.floor) = t at hclose
      obtain ⟨hrecord, hsilent, htold⟩ := hstage.closing (x := x) hclose hexceedances rfl
      have hend := hstage.close hmode hclose
      have hlast : t.poller = s.poller := by
        rw [hclose.frame]
        exact hpoller
      have harbiter := hend.raised.arbiter_frame
      refine ⟨?_, hend.receptor_ne, fun _ heq => absurd heq hzone, fun _ _ => ⟨hlast, ?_, hend.receptor_same⟩, fun hne => absurd haddress hne,
        fun _ => hrecord, ?_⟩
      · rw [← harbiter]
        exact hend.frame
      · exact hend.raised.not_idle (by omega)
      intro moved rewired closed stationed
      have hmoved : moved := hzone
      have hrewired : ¬rewired := not_not.2 haddress
      have hclosed : closed = s.closedRecord x s.clock.minute .receptorEdited := if_pos (.inl hmoved)
      have hstationed : stationed = s.notices := if_neg hrewired
      rw [hclosed, hstationed, ← hnotices]
      refine ⟨fun hnone => ⟨(hsilent hnone).1, (hsilent hnone).2.trans hwitness⟩, fun e he => ⟨(htold e he).1, (htold e he).2 hwitness⟩, ?_,
        fun _ => hlast, fun _ _ _ h => absurd h hrewired⟩
      intro one blinded closing triggers first
      have htriggers : (1 + if x.exceedance.isSome then 1 else 0) = triggers := by
        simp [triggers, one, blinded, closing, moved, rewired, haddress, hzone, Option.isSome_iff_ne_none]
      have hfirst : { x with zone := z, floor := min 1400 a.floor } = first := (if_pos hmoved).symm
      have hraised := hend.raised
      rw [htriggers, if_neg Nat.one_ne_zero, hfirst] at hraised
      refine ⟨fun hidle hpos => ?_, hraised.held⟩
      obtain ⟨hengine, hnew⟩ := hraised.begun hidle hpos
      exact ⟨hengine, congrArg Arbiter.passSinceHead hnew⟩
  · obtain ⟨u, hclose, hend, hexceedances, hnotices, hwitness, hpoller⟩ :=
      State.editReceptor_rewired (s := s) (r := r) (x := x) (z := z) (floor := min 1400 a.floor) hmode haddress
    generalize s.editReceptor r x a.address z (min 1400 a.floor) = t at hend hexceedances hnotices hwitness hpoller
    obtain ⟨hkept, hsame, hposted, hpoll⟩ := State.rewired_rest (s := s) (r := r) (x := x) (address := a.address) (z := z) (floor := min 1400 a.floor)
    have hstage := State.EditStage.rewired (s := s) (r := r) (x := x) (address := a.address) (z := z) (floor := min 1400 a.floor) hmode
    obtain ⟨hrecord, hsilent, htold⟩ := hstage.closing (x := x) hclose hkept rfl
    have hlast := hpoll.congr (u := t) (by rw [hpoller, hclose.frame])
    have harbiter := hend.raised.arbiter_frame
    refine ⟨?_, hend.receptor_ne, fun heq => absurd heq haddress, fun heq => absurd heq haddress, fun _ => hend.receptor_same,
      fun _ p => (State.excRecord_congr hexceedances p).trans (hrecord p), ?_⟩
    · rw [← harbiter]
      exact hend.frame
    intro moved rewired closed stationed
    have hrewired : rewired := haddress
    have hclosed : closed = s.closedRecord x s.clock.minute .receptorEdited := if_pos (.inr hrewired)
    have hstationed : stationed = s.notices.post (.station r .new 0 none a.address) := if_pos hrewired
    rw [hclosed, hstationed, ← hposted, hnotices, hwitness]
    refine ⟨fun hnone => ⟨(hsilent hnone).1, (hsilent hnone).2.trans hsame⟩, fun e he => ⟨(htold e he).1, (htold e he).2 hsame⟩, ?_,
      fun h => hlast.kept (h.resolve_right (not_not.2 hrewired)), fun q hq hqr _ => hlast.abandoned q hq hqr⟩
    intro one blinded closing triggers first
    have htriggers : (if x.zone != z then 1 else 0) + (if x.station == .active then 1 else 0) + (if x.exceedance.isSome then 1 else 0) +
        (if decide (0 < x.correction) then 1 else 0) = triggers := by
      simp [triggers, one, blinded, closing, moved, rewired, haddress, Option.isSome_iff_ne_none]
    have hfirst : x.firstCaptured a.address z (min 1400 a.floor) = first := by
      simp [first, Receptor.firstCaptured, moved, blinded, closing, rewired, haddress]
    have hraised := hend.raised
    rw [htriggers, hfirst] at hraised
    refine ⟨fun hidle hpos => ?_, hraised.held⟩
    obtain ⟨hengine, hnew⟩ := hraised.begun hidle hpos
    exact ⟨hengine, congrArg Arbiter.passSinceHead hnew⟩

end Sys2Proof.Machine
end

section
/-! SUPPORT. The judgement of a receptor at a close: the opening and the closing of an exceedance (R62 to R66, R70, R71). -/

namespace Sys2Proof.Machine

/-! ### The position of a record being opened (R62) -/

section position
variable {s : State}

theorem State.openingPosition_eq (s : State) : s.openingPosition = (allExcPos.find? fun p => (s.excRecord p).isNone).or
    (s.exceedances.created.find? fun q => ((s.excRecord q).map (·.state)) == some .closed) := by
  unfold State.openingPosition
  cases allExcPos.find? fun p => (s.excRecord p).isNone with
  | some p => rfl
  | none =>
    refine congrArg (List.find? · s.exceedances.created) (funext fun p => ?_)
    cases s.excRecord p with
    | none => rfl
    | some x => exact (Option.some_beq_some ..).symm

/-- Sixteen receptors cannot hold thirty-two OPEN records: with no position free a record is CLOSED. -/
theorem State.exists_closed_of_full (hs : s.ExceedancesSound) (hfull : ∀ p, s.excRecord p ≠ none) :
    ∃ p ∈ s.exceedances.created, ((s.excRecord p).map (·.state)) = some .closed := by
  obtain ⟨-, hcreated, hlinked, -⟩ := hs
  by_contra hnone
  have hopened (p : ExcPos) : ∃ x, s.excRecord p = some x ∧ x.state = .opened := by
    obtain ⟨x, hx⟩ := Option.ne_none_iff_exists'.1 (hfull p)
    refine ⟨x, hx, ?_⟩
    cases hstate : x.state with
    | opened => rfl
    | closed => exact absurd ⟨p, (hcreated p).2 (by rw [hx]; rfl), by rw [hx, Option.map_some, hstate]⟩ hnone
  choose record hrecord hstate using hopened
  have hinjective : Function.Injective fun p => (record p).receptor := fun p q hpq => by
    have hp := hlinked p (record p) (hrecord p) (hstate p)
    have hq := hlinked q (record q) (hrecord q) (hstate q)
    have heq : (record p).receptor = (record q).receptor := hpq
    rw [heq, hq] at hp
    exact (Option.some_inj.1 hp).symm
  have hcard := Fintype.card_le_of_injective _ hinjective
  simp at hcard

theorem State.openingPosition_spec (hs : s.ExceedancesSound) : ∃ p, s.openingPosition = some p ∧
    (s.excRecord p = none → ∀ q, q < p → s.excRecord q ≠ none) ∧
    (s.excRecord p ≠ none → (∀ q, s.excRecord q ≠ none) ∧
      (s.exceedances.created.find? fun q => ((s.excRecord q).map (·.state)) == some .closed) = some p) := by
  rw [State.openingPosition_eq]
  cases hfree : allExcPos.find? fun p => (s.excRecord p).isNone with
  | some p =>
    have hp : s.excRecord p = none := Option.isNone_iff_eq_none.1 (List.find?_some (p := fun p => (s.excRecord p).isNone) hfree)
    refine ⟨p, rfl, fun _ q hq hnone => ?_, fun hne => absurd hp hne⟩
    obtain ⟨-, before, after, hsplit, hnot⟩ := List.find?_eq_some_iff_append.1 hfree
    have hmem : q ∈ before ++ p :: after := hsplit ▸ List.mem_finRange q
    have hpair : (before ++ p :: after).Pairwise (· < ·) := hsplit ▸ List.pairwise_lt_finRange 32
    rcases List.mem_append.1 hmem with hb | ha
    · simpa [hnone] using hnot q hb
    · rcases List.mem_cons.1 ha with rfl | ha
      · exact lt_irrefl _ hq
      · exact lt_asymm hq ((List.pairwise_cons.1 (List.pairwise_append.1 hpair).2.1).1 q ha)
  | none =>
    have hfull : ∀ p, s.excRecord p ≠ none := fun p hp => by
      have := List.find?_eq_none.1 hfree p (List.mem_finRange p)
      simp [hp] at this
    obtain ⟨p, hp, hclosed⟩ := State.exists_closed_of_full hs hfull
    cases hfind : s.exceedances.created.find? fun q => ((s.excRecord q).map (·.state)) == some .closed with
    | none => exact absurd hclosed (by simpa using List.find?_eq_none.1 hfind p hp)
    | some q => exact ⟨q, rfl, fun hnone => absurd hnone (hfull q), fun _ => ⟨hfull, rfl⟩⟩

end position

/-! ### The opening (R62, R64) -/

/-- The record that an opening writes. -/
def State.openingRecord (s : State) (r : ReceptorId) (x : Receptor) (minute : Nat) (limit level : Level) : ExcRecord :=
  { state := .opened, receptor := r, zone := x.zone, openedAt := minute, closedAt := none, cause := none, limit := limit, peak := level
    minutesAbove := 1, liveAtOpening := s.audibleSlots r fun y => y.state == .live, stagesOver := s.audibleSlots r fun y => y.causes.hasOver }

/-- What the opening of an exceedance at position `p` makes of the state. -/
structure State.ExcOpened (s t : State) (r : ReceptorId) (x : Receptor) (p : ExcPos) (opening : ExcRecord) : Prop where
  frame : t = { s with
    receptors := t.receptors, exceedances := t.exceedances, engine := t.engine, arbiter := t.arbiter, notices := t.notices, witness := t.witness }
  receptor_same : t.receptor r = some { x with exceedance := some p }
  receptor_ne : ∀ q, q ≠ r → t.receptor q = s.receptor q
  excRecord_same : t.excRecord p = some opening
  excRecord_ne : ∀ q, q ≠ p → t.excRecord q = s.excRecord q
  created : t.exceedances.created = s.exceedances.created.erase p ++ [p]
  raised : s.mode ≠ .boot → s.RaisedOn t 1 t.capture
  kept : s.mode = .boot → t.engine = s.engine ∧ t.arbiter = s.arbiter
  notices_eq : t.notices = s.notices.post (exceedanceNotice p opening)
  witness_eq : t.witness = (s.send (.exceedance true s.clock.minute s.clock.second p opening
    ((s.excRecord p).map fun old => (old.receptor, old.openedAt, old.closedAt)))).witness

section opening
variable {s : State} {r : ReceptorId} {x : Receptor} {p : ExcPos} {minute : Nat} {limit level : Level}

/-- The records as the opening writes them. -/
def State.openedTo (s : State) (r : ReceptorId) (x : Receptor) (p : ExcPos) (opening : ExcRecord) : State :=
  ({ s.setExcRecord p (some opening) with exceedances :=
      { (s.setExcRecord p (some opening)).exceedances with created := s.exceedances.created.erase p ++ [p] } } : State).setReceptor r
    (some { x with exceedance := some p })

theorem State.openExceedance_eq (h : s.receptor r = some x) (hp : s.openingPosition = some p) :
    s.openExceedance r x minute limit level =
      ((s.openedTo r x p (s.openingRecord r x minute limit level)).trigger.post (exceedanceNotice p (s.openingRecord r x minute limit level))).send
        (.exceedance true (s.openedTo r x p (s.openingRecord r x minute limit level)).trigger.clock.minute
          (s.openedTo r x p (s.openingRecord r x minute limit level)).trigger.clock.second p (s.openingRecord r x minute limit level)
          ((s.excRecord p).map fun old => (old.receptor, old.openedAt, old.closedAt))) := by
  have hwritten : ({ s.setExcRecord p (some (s.openingRecord r x minute limit level)) with exceedances :=
      { (s.setExcRecord p (some (s.openingRecord r x minute limit level))).exceedances with created := s.exceedances.created.erase p ++ [p] } } : State).updReceptor r
      (fun y => { y with exceedance := some p }) = s.openedTo r x p (s.openingRecord r x minute limit level) := State.updReceptor_of_some (x := x) (by exact h) _
  rw [← hwritten, State.openExceedance, hp]
  rfl

theorem State.ExcOpened.of_openExceedance (h : s.receptor r = some x) (hp : s.openingPosition = some p) :
    s.ExcOpened (s.openExceedance r x minute limit level) r x p (s.openingRecord r x minute limit level) := by
  rw [State.openExceedance_eq h hp]
  generalize s.openingRecord r x minute limit level = opening
  have hraised (hmode : s.mode ≠ .boot) := (State.RaisedOn.of_triggerIf (s := s.openedTo r x p opening) hmode true)
  have hkept (hmode : s.mode = .boot) := State.trigger_of_boot (s := s.openedTo r x p opening) hmode
  have hrecord : (s.openedTo r x p opening).excRecord p = some opening := State.excRecord_setExcRecord_same s p _
  have hother (q : ExcPos) (hq : q ≠ p) : (s.openedTo r x p opening).excRecord q = s.excRecord q := State.excRecord_setExcRecord_ne s p q _ hq
  obtain ⟨e, a, hframe⟩ : ∃ e a, (s.openedTo r x p opening).trigger = { s.openedTo r x p opening with engine := e, arbiter := a } :=
    ⟨_, _, State.triggerIf_frame (s.openedTo r x p opening) true⟩
  rw [State.triggerIf, if_pos rfl, if_pos rfl, hframe] at hraised
  rw [hframe] at hkept
  have hsent := State.send_witness_congr (s := s)
    (t := ({ s.openedTo r x p opening with engine := e, arbiter := a } : State).post (exceedanceNotice p opening)) rfl rfl rfl
    (.exceedance true s.clock.minute s.clock.second p opening ((s.excRecord p).map fun old => (old.receptor, old.openedAt, old.closedAt)))
  rw [hframe, State.send_eq]
  refine ⟨rfl, State.receptor_setReceptor_same _ r _, fun q hq => State.receptor_setReceptor_ne _ _ _ _ hq, hrecord, hother, rfl,
    fun hmode => (hraised hmode).transport rfl rfl rfl rfl, fun hmode => ?_, rfl, hsent⟩
  have hsame := hkept hmode
  have hengine := congrArg State.engine hsame
  have harbiter := congrArg State.arbiter hsame
  exact ⟨hengine, harbiter⟩

end opening

/-! ### The judgement -/

theorem State.ExcClosed.engineTriggered {s t : State} {r : ReceptorId} {x : Receptor} {minute : Nat} {cause : ClosingCause}
    (h : s.ExcClosed t r x minute cause true) (hexc : x.exceedance ≠ none) (hmode : s.mode ≠ .boot) : s.EngineTriggered t := by
  have hraised := h.raised hmode
  rw [Bool.true_and, if_pos (Option.isSome_iff_ne_none.2 hexc)] at hraised
  refine hraised.engineTriggered (State.capture_congr ?_ ?_ ?_ ?_ fun q => ?_).symm
  · rw [h.frame]; rfl
  · rw [h.frame]; rfl
  · rw [h.frame]; rfl
  · rw [h.frame]; rfl
  · by_cases hq : q = r
    · subst hq
      rw [h.receptor_same, State.receptor_setReceptor_same]
    · rw [h.receptor_ne q hq, State.receptor_setReceptor_ne _ _ _ _ hq]

section judge
variable {s : State} {r : ReceptorId} {x : Receptor} {limit grace minute : Nat}

/-- The record with the stages-over set brought up to date (R66). -/
def State.overMerged (s : State) (r : ReceptorId) (y : ExcRecord) : ExcRecord :=
  { y with stagesOver := allSlots.filter fun i => y.stagesOver.contains i || (s.audibleSlots r fun y => y.causes.hasOver).contains i }

theorem State.updateStagesOver_of_none (h : s.receptor r = some x) (hexc : x.exceedance = none) : s.updateStagesOver r = s := by
  simp [State.updateStagesOver, h, hexc]

theorem State.updateStagesOver_of_some {p : ExcPos} (h : s.receptor r = some x) (hexc : x.exceedance = some p) :
    s.updateStagesOver r = s.updExcRecord p (s.overMerged r) := by
  simp only [State.updateStagesOver, h, Option.bind_some, hexc]
  rfl

/-- A judgement of a receptor with no open exceedance: held, or within its limit, it changes nothing; above it, a record is opened (R63, R64). -/
theorem State.judge_of_none (h : s.receptor r = some x) (hexc : x.exceedance = none) : s.judge r limit grace minute =
    x.level15.elim s fun level => if grace = 0 ∧ limit < level then s.openExceedance r x minute limit level else s := by
  simp only [State.judge, State.updateStagesOver_of_none h hexc, h, hexc]
  rcases Nat.eq_zero_or_pos grace with rfl | hgrace
  · cases x.level15 <;> simp
  · cases x.level15 <;> simp [hgrace, hgrace.ne']

/-- A judgement of a receptor with an open exceedance (R63, R65, R66). -/
theorem State.judge_of_some {p : ExcPos} (h : s.receptor r = some x) (hexc : x.exceedance = some p) : s.judge r limit grace minute =
    if 0 < grace then s.updExcRecord p (s.overMerged r)
    else x.level15.elim (s.updExcRecord p (s.overMerged r)) fun level =>
      if limit < level then (s.updExcRecord p (s.overMerged r)).updExcRecord p fun y => y.continued level
      else (s.updExcRecord p (s.overMerged r)).closeExceedance r minute .returned true := by
  have hreceptor : (s.updExcRecord p (s.overMerged r)).receptor r = some x := h
  simp only [State.judge, State.updateStagesOver_of_some h hexc, hreceptor, hexc]
  split
  · rfl
  · cases x.level15 <;> rfl

theorem State.openExceedance_receptor_ne (h : s.receptor r = some x) {level : Level} {q : ReceptorId} (hq : q ≠ r) :
    (s.openExceedance r x minute limit level).receptor q = s.receptor q := by
  cases hp : s.openingPosition with
  | none => rw [State.openExceedance, hp]
  | some p => exact (State.ExcOpened.of_openExceedance h hp).receptor_ne q hq

theorem State.judge_receptor_ne (h : s.receptor r = some x) {q : ReceptorId} (hq : q ≠ r) : (s.judge r limit grace minute).receptor q = s.receptor q := by
  cases hexc : x.exceedance with
  | none =>
    rw [State.judge_of_none h hexc]
    cases x.level15 with
    | none => rfl
    | some level =>
      dsimp only [Option.elim_some]
      split
      · exact State.openExceedance_receptor_ne h hq
      · rfl
  | some p =>
    rw [State.judge_of_some h hexc]
    split
    · rfl
    cases x.level15 with
    | none => rfl
    | some level =>
      dsimp only [Option.elim_some]
      split
      · rfl
      · exact (State.ExcClosed.of_closeExceedance (s := s.updExcRecord p (s.overMerged r)) h minute .returned true).receptor_ne q hq

end judge

/-- Settles O22: the judgement of a receptor without and with an open exceedance. -/
theorem judgementFollowsTable43 : Obligations.JudgementFollowsTable43 := by
  intro s r x limit grace minute hx hs withOver t
  refine ⟨fun q hq => State.judge_receptor_ne hx hq, fun hexc => ⟨fun hheld => ?_, fun hgrace level hlevel hover => ?_⟩, fun p y hexc hy => ?_⟩
  · refine (State.judge_of_none hx hexc).trans ?_
    cases hlevel : x.level15 with
    | none => rfl
    | some level =>
      refine if_neg fun ⟨hgrace, hover⟩ => ?_
      rcases hheld with hpos | hnone | ⟨v, hv, hle⟩
      · omega
      · rw [hlevel] at hnone
        cases hnone
      · rw [hlevel, Option.some_inj] at hv
        exact absurd (hv ▸ hover) (not_lt.2 hle)
  · obtain ⟨p, hp, hfree, hfull⟩ := State.openingPosition_spec hs
    have hopened := State.ExcOpened.of_openExceedance (minute := minute) (limit := limit) (level := level) hx hp
    have heq : t = s.openExceedance r x minute limit level := by
      refine (State.judge_of_none hx hexc).trans ?_
      rw [hlevel]
      exact if_pos ⟨hgrace, hover⟩
    rw [heq]
    exact ⟨p, hopened.receptor_same, hopened.created, hopened.excRecord_ne, hfree, hfull, hopened.excRecord_same,
      fun hmode => (hopened.raised hmode).engineTriggered rfl, hopened.notices_eq, hopened.witness_eq⟩
  · intro merged
    have hjudge : t = _ := State.judge_of_some hx hexc
    have hmerged : (s.updExcRecord p (s.overMerged r)).excRecord p = some { y with stagesOver := merged } := by
      rw [State.excRecord_updExcRecord_same, hy]
      rfl
    have hother (q : ExcPos) (hq : q ≠ p) : (s.updExcRecord p (s.overMerged r)).excRecord q = s.excRecord q := State.excRecord_updExcRecord_ne s p q _ hq
    have hclosed := State.ExcClosed.of_closeExceedance (s := s.updExcRecord p (s.overMerged r)) hx minute .returned true
    have howner : y.receptor = r := by
      obtain ⟨-, -, -, hlink⟩ := hs
      obtain ⟨y', hy', -, howner⟩ := hlink r p (by rw [hx, Option.bind_some, hexc])
      rw [hy, Option.mem_some_iff] at hy'
      rwa [hy']
    have htold : (p, ({ y with stagesOver := merged } : ExcRecord).closedBy minute .returned) ∈
        (s.updExcRecord p (s.overMerged r)).closedRecord x minute .returned := by
      rw [State.closedRecord, hexc, Option.bind_some, hmerged]
      rfl
    have hways : t = s.updExcRecord p (s.overMerged r) ∨
        (∃ level, t = (s.updExcRecord p (s.overMerged r)).updExcRecord p fun y => y.continued level) ∨
        t = (s.updExcRecord p (s.overMerged r)).closeExceedance r minute .returned true := by
      rw [hjudge]
      split
      · exact .inl rfl
      cases x.level15 with
      | none => exact .inl rfl
      | some level =>
        dsimp only [Option.elim_some]
        split
        · exact .inr (.inl ⟨level, rfl⟩)
        · exact .inr (.inr rfl)
    have hpne (q : ExcPos) (hq : q ≠ p) : ¬x.exceedance = some q := by
      rw [hexc, Option.some_inj]
      exact hq.symm
    refine ⟨fun q hq => ?_, ?_, fun hheld => ?_, fun hgrace level hlevel hover => ?_, fun hgrace level hlevel hle => ?_⟩
    · rcases hways with h | ⟨level, h⟩ | h
      · rw [h, hother q hq]
      · rw [h, State.excRecord_updExcRecord_ne _ p q _ hq, hother q hq]
      · rw [h, hclosed.excRecord, if_neg (hpne q hq), hother q hq]
    · rcases hways with h | ⟨level, h⟩ | h
      · rw [h]
        rfl
      · rw [h]
        rfl
      · rw [h, hclosed.created]
        rfl
    · have heq : t = s.updExcRecord p (s.overMerged r) := by
        rw [hjudge]
        rcases hheld with hpos | hnone
        · exact if_pos hpos
        · rw [hnone]
          exact ite_self _
      rw [heq]
      exact ⟨hx, hmerged, rfl, rfl, rfl⟩
    · have heq : t = (s.updExcRecord p (s.overMerged r)).updExcRecord p fun y => y.continued level := by
        rw [hjudge, if_neg (by omega), hlevel]
        exact if_pos hover
      rw [heq]
      refine ⟨hx, rfl, rfl, rfl, ?_⟩
      rw [State.excRecord_updExcRecord_same, hmerged]
      rfl
    · have heq : t = (s.updExcRecord p (s.overMerged r)).closeExceedance r minute .returned true := by
        rw [hjudge, if_neg (by omega), hlevel]
        exact if_neg (not_lt.2 hle)
      rw [heq]
      refine ⟨hclosed.receptor_same, ?_, fun hmode => hclosed.engineTriggered (by rw [hexc]; exact Option.some_ne_none p) hmode, ?_,
        (hclosed.told _ htold).2.trans (State.send_witness_congr (s := s) (t := s.updExcRecord p (s.overMerged r)) rfl rfl rfl _)⟩
      · rw [hclosed.excRecord, if_pos hexc, hmerged]
        rfl
      · have hposted := hclosed.told_notice htold
        refine hposted.trans ?_
        rw [← howner]
        rfl

end Sys2Proof.Machine
end

section
/-! SUPPORT. TABLE WRITE and TABLE DELETE of STAGE (R77, R78, R83 to R85, R96). -/

namespace Sys2Proof.Machine

/-! ### One slot rewritten -/

/-- From `s` to `t` slot `i` took the record `y` and no other slot changed, the notices `ns` were posted, the copies `cs` sent and `n` triggers raised. -/
structure State.Rewrote (s t : State) (i : SlotId) (y : Slot) (ns : List Notice) (cs : List Copy) (n : Nat) : Prop where
  did : s.Did t ns cs n
  arbiter_eq : t.arbiter = { s.arbiter with passSinceHead := t.arbiter.passSinceHead }
  slot_same : t.slot i = y
  slot_ne : ∀ j, j ≠ i → t.slot j = s.slot j

namespace State.Rewrote
variable {s t : State} {i : SlotId} {y : Slot} {ns : List Notice} {cs : List Copy} {n : Nat}

theorem refl (s : State) (i : SlotId) : s.Rewrote s i (s.slot i) [] [] 0 := ⟨.refl s, rfl, rfl, fun _ _ => rfl⟩

theorem updSlot (h : s.Rewrote t i y ns cs n) (f : Slot → Slot) : s.Rewrote (t.updSlot i f) i (f y) ns cs n where
  did := h.did.updSlot i f
  arbiter_eq := h.arbiter_eq
  slot_same := by rw [State.slot_updSlot, if_pos rfl, h.slot_same]
  slot_ne j hj := by rw [State.slot_updSlot, if_neg hj, h.slot_ne j hj]

theorem triggerIf (h : s.Rewrote t i y ns cs n) (hmode : s.mode ≠ .boot) (c : Bool) : s.Rewrote (t.triggerIf c) i y ns cs (n + if c then 1 else 0) where
  did := h.did.of_triggerIf hmode c
  arbiter_eq := by rw [State.triggerIf_arbiter, h.arbiter_eq]
  slot_same := by rw [State.triggerIf_slot, h.slot_same]
  slot_ne j hj := by rw [State.triggerIf_slot, h.slot_ne j hj]

theorem postStageState (h : s.Rewrote t i y ns cs n) : s.Rewrote (t.postStageState i) i y (ns ++ [y.stateNotice i]) cs n where
  did := h.slot_same ▸ h.did.post _
  arbiter_eq := h.arbiter_eq
  slot_same := h.slot_same
  slot_ne := h.slot_ne

theorem emptySlot (hmode : s.mode ≠ .boot) (i : SlotId) : s.Rewrote (s.emptySlot i) i (s.slot i).afterEmptying
    (bindingPosts i (s.slot i) (s.slot i).afterEmptying) (clampCopies s.clock i (s.slot i) (s.slot i).afterEmptying .empty none) 1 where
  did := .of_emptySlot hmode i
  arbiter_eq := by conv_lhs => rw [State.emptySlot_frame]
  slot_same := s.emptySlot_slot_same i
  slot_ne _ hj := s.emptySlot_slot_ne hj

theorem frame (h : s.Rewrote t i y ns cs n) : t = { s with
    slots := t.slots, paths := t.paths, engine := t.engine, arbiter := { s.arbiter with passSinceHead := t.arbiter.passSinceHead }
    notices := t.notices, witness := t.witness } := by
  rw [← h.arbiter_eq]
  exact h.did.frame_eq

theorem stageStateNotice_eq (h : s.Rewrote t i y ns cs n) : t.stageStateNotice i = y.stateNotice i := by rw [← h.slot_same]; rfl

end State.Rewrote

section stage
variable {s : State} {i : SlotId}

/-- The weight and the stage maximum written, with the trigger of a change (R84 step 2). -/
def State.resizeSlot (s : State) (i : SlotId) (weight : Nat) (stageMax : Level) (resized : Bool) : State :=
  (s.updSlot i fun y => { y with weight := weight, stageMax := stageMax }).triggerIf resized

theorem State.resizeSlot_paths (s : State) (i : SlotId) (weight : Nat) (stageMax : Level) (resized : Bool) :
    (s.resizeSlot i weight stageMax resized).paths = s.paths := State.triggerIf_paths (s.updSlot i _) resized

theorem State.Rewrote.resizeSlot {t : State} {y : Slot} {ns : List Notice} {cs : List Copy} {n : Nat} (h : s.Rewrote t i y ns cs n) (hmode : s.mode ≠ .boot)
    (weight : Nat) (stageMax : Level) (resized : Bool) :
    s.Rewrote (t.resizeSlot i weight stageMax resized) i { y with weight := weight, stageMax := stageMax } ns cs (n + if resized then 1 else 0) :=
  (h.updSlot _).triggerIf hmode resized

/-- The notices and copies of a slot emptied and then rewritten are those of the emptying, then the STAGE_STATE notice of the record as it stands. -/
theorem State.Rewrote.samePosts_of_emptied {t : State} {x y z : Slot} {event : ClampEvent} {n : Nat}
    (h : s.Rewrote t i z (bindingPosts i x y ++ [z.stateNotice i]) (clampCopies s.clock i x y event none) n) :
    t.SamePosts ((s.reportBinding i x y event).post (t.stageStateNotice i)) := by
  rw [h.stageStateNotice_eq]
  exact h.did.samePosts ((State.Did.of_reportBinding s i x y event).post _)

theorem State.Rewrote.samePosts_of_state {t : State} {z : Slot} {n : Nat} (h : s.Rewrote t i z [z.stateNotice i] [] n) :
    t.SamePosts (s.post (t.stageStateNotice i)) := by
  rw [h.stageStateNotice_eq]
  exact h.did.samePosts ((State.Did.refl s).post _)

/-! ### The checks of the write (R83) -/

/-- The kind that a STAGE write names by its identity: none for OPEN. -/
def kindWanted : Option Identity → StageKind
  | none => .openKind
  | some id => .fixed id

theorem stageKindOf_of_bad {a : StageArgs} (h : 1 < a.kind ∨ a.identity = .invalid ∨ (a.kind = 1 ∧ a.identity = .absent)) : stageKindOf a = none := by
  unfold stageKindOf
  rcases h with h | h | ⟨hkind, hid⟩
  · obtain ⟨n, hn⟩ : ∃ n, a.kind = n + 2 := ⟨a.kind - 2, by omega⟩
    rw [hn]
    rfl
  · rw [h]
    cases slotKindOf a.kind with
    | none => rfl
    | some k => cases k <;> rfl
  · rw [hkind, hid]
    rfl

theorem stageKindOf_of_wanted {a : StageArgs} {wanted : Option Identity}
    (h : (a.kind = 0 ∧ a.identity ≠ .invalid ∧ wanted = none) ∨ (a.kind = 1 ∧ ∃ id, a.identity = .present id ∧ wanted = some id)) :
    stageKindOf a = some (kindWanted wanted) := by
  unfold stageKindOf
  rcases h with ⟨hkind, hid, rfl⟩ | ⟨hkind, id, hid, rfl⟩
  · rw [hkind]
    cases hcase : a.identity with
    | absent => rfl
    | present id => rfl
    | invalid => exact absurd hcase hid
  · rw [hkind, hid]
    rfl

theorem State.kindTaken_iff {wanted : Option Identity} : s.kindTaken i (kindWanted wanted) = true ↔
    ∃ id j, wanted = some id ∧ j ≠ i ∧ (s.slot j).identity = some id := by
  cases wanted with
  | none => simp [kindWanted, State.kindTaken]
  | some id => simp [kindWanted, State.kindTaken, State.identityTaken, allSlots, List.any_eq_true]

theorem Slot.rekindedBy_iff {x : Slot} {wanted : Option Identity} : x.rekindedBy (kindWanted wanted) = true ↔
    if wanted = none then x.kind = .fixed else ¬(x.kind = .fixed ∧ x.identity = wanted) := by
  cases hkind : x.kind <;> cases wanted <;> simp [kindWanted, Slot.rekindedBy, hkind]

theorem SlotState.weightHeld_iff {st : SlotState} : st.weightHeld = true ↔ st = .waiting ∨ st = .entering ∨ st = .live := by
  cases st <;> simp [SlotState.weightHeld, SlotState.queued]

/-- A STAGE write that names a slot and a kind meets its checks in order. -/
theorem writeStage_of_kind {a : StageArgs} {wanted : Option Identity} (hslot : a.slot = i.val + 1) (hkind : stageKindOf a = some (kindWanted wanted)) :
    writeStage a s =
      if s.kindTaken i (kindWanted wanted) then (s, .refused .duplicate)
      else if (s.slot i).port.isSome ∧ (s.slot i).rekindedBy (kindWanted wanted) = true then (s, .refused .portBusy)
      else if max 1 (min 4 a.weight) ≠ (s.slot i).weight ∧ (s.slot i).state.weightHeld = true then (s, .refused .notQuiet)
      else if s.mode = .enforce ∧ (s.slot i).stageMax < min 1400 a.stageMax then (s, .refused .isProtected)
      else (s.replaceStage i (kindWanted wanted) (max 1 (min 4 a.weight)) (min 1400 a.stageMax),
        .doneAdjusted (decide (max 1 (min 4 a.weight) ≠ a.weight ∨ min 1400 a.stageMax ≠ a.stageMax)) .none) := by
  have hkey : slotOf a.slot = some i := keyFromOne_eq_some.2 hslot
  have hadjusted : ((clampSetting 1 4 a.weight).adjusted || (clampSetting 0 1400 a.stageMax).adjusted) =
      decide (max 1 (min 4 a.weight) ≠ a.weight ∨ min 1400 a.stageMax ≠ a.stageMax) := by
    rw [Bool.eq_iff_iff, Bool.or_eq_true, clampSetting_adjusted_eq (by decide), clampSetting_adjusted_eq (by decide), decide_eq_true_iff]
    simp only [clampNat, Nat.zero_max, ne_eq]
  simp only [writeStage, hkey, hkind, hadjusted, clampSetting_value, clampNat, Nat.zero_max]
  rfl

/-! ### The write taken (R84) -/

/-- The record after step 1 of R84, where the kind or the identity changes. -/
theorem State.rekind_of_fixed (id : Identity) : s.rekind i (.fixed id) = s.updSlot i fun x =>
    { x with kind := .fixed, identity := some id, state := if (s.slot i).kind = .openKind then .quiet else x.state } := by
  cases hkind : (s.slot i).kind with
  | openKind => simp [State.rekind, hkind]
  | fixed =>
    simp only [State.rekind, hkind, reduceCtorEq, if_false]
    rw [State.updSlot, State.updSlot, ← hkind]

theorem State.rekind_of_open (hkind : (s.slot i).kind = .fixed) : s.rekind i .openKind = s.emptySlot i := by simp [State.rekind, hkind]

/-- The weight or the stage maximum changes. -/
def Slot.resizedBy (x : Slot) (weight : Nat) (stageMax : Level) : Bool := x.weight != weight || x.stageMax != stageMax

theorem State.replaceStage_of_kept {k : StageKind} (hkept : (s.slot i).rekindedBy k = false) (weight : Nat) (stageMax : Level) :
    s.replaceStage i k weight stageMax =
      if (s.slot i).resizedBy weight stageMax then (s.resizeSlot i weight stageMax true).postStageState i else s := by
  cases hresized : (s.slot i).resizedBy weight stageMax with
  | true =>
    unfold Slot.resizedBy at hresized
    simp only [State.replaceStage, hkept, hresized, Bool.false_eq_true, if_false, Bool.false_or, if_true]
    rfl
  | false =>
    unfold Slot.resizedBy at hresized
    simp only [State.replaceStage, hkept, hresized, Bool.false_eq_true, if_false, Bool.false_or]
    obtain ⟨hweight, hmax⟩ := Bool.or_eq_false_iff.1 hresized
    rw [State.triggerIf, if_neg Bool.false_ne_true]
    refine State.updSlot_of_eq ?_
    rw [← bne_eq_false_iff_eq.1 hweight, ← bne_eq_false_iff_eq.1 hmax]

theorem State.replaceStage_of_rekinded {k : StageKind} (hnew : (s.slot i).rekindedBy k = true) (weight : Nat) (stageMax : Level) :
    s.replaceStage i k weight stageMax = ((s.rekind i k).resizeSlot i weight stageMax ((s.slot i).resizedBy weight stageMax)).postStageState i := by
  simp only [State.replaceStage, hnew, if_true, Bool.true_or]
  rfl

theorem State.Rewrote.replaceStage_of_resized (hmode : s.mode ≠ .boot) {k : StageKind} {weight : Nat} {stageMax : Level}
    (hkept : (s.slot i).rekindedBy k = false) (hresized : (s.slot i).resizedBy weight stageMax = true) :
    s.Rewrote (s.replaceStage i k weight stageMax) i { s.slot i with weight := weight, stageMax := stageMax }
      [({ s.slot i with weight := weight, stageMax := stageMax } : Slot).stateNotice i] [] 1 := by
  rw [State.replaceStage_of_kept hkept, if_pos hresized]
  exact ((State.Rewrote.refl s i).resizeSlot hmode weight stageMax true).postStageState

theorem State.Rewrote.replaceStage_of_fixed (hmode : s.mode ≠ .boot) {id : Identity} {weight : Nat} {stageMax : Level}
    (hnew : (s.slot i).rekindedBy (.fixed id) = true) (hquiet : (s.slot i).kind = .fixed → (s.slot i).state = .quiet) :
    s.Rewrote (s.replaceStage i (.fixed id) weight stageMax) i
      { s.slot i with kind := .fixed, identity := some id, state := .quiet, weight := weight, stageMax := stageMax }
      [({ s.slot i with kind := .fixed, identity := some id, state := .quiet, weight := weight, stageMax := stageMax } : Slot).stateNotice i] []
      (if (s.slot i).resizedBy weight stageMax then 1 else 0) := by
  rw [State.replaceStage_of_rekinded hnew, State.rekind_of_fixed]
  have hstate : (if (s.slot i).kind = .openKind then .quiet else (s.slot i).state) = SlotState.quiet := by
    cases hkind : (s.slot i).kind with
    | openKind => rfl
    | fixed => exact hquiet hkind
  have hrewrote := ((((State.Rewrote.refl s i).updSlot fun x =>
    { x with kind := .fixed, identity := some id, state := if (s.slot i).kind = .openKind then .quiet else x.state }).resizeSlot hmode weight stageMax
      ((s.slot i).resizedBy weight stageMax)).postStageState)
  rw [hstate, Nat.zero_add] at hrewrote
  exact hrewrote

theorem State.Rewrote.replaceStage_of_open (hmode : s.mode ≠ .boot) {weight : Nat} {stageMax : Level} (hkind : (s.slot i).kind = .fixed) :
    s.Rewrote (s.replaceStage i .openKind weight stageMax) i { (s.slot i).afterEmptying with weight := weight, stageMax := stageMax }
      (bindingPosts i (s.slot i) (s.slot i).afterEmptying ++
        [({ (s.slot i).afterEmptying with weight := weight, stageMax := stageMax } : Slot).stateNotice i])
      (clampCopies s.clock i (s.slot i) (s.slot i).afterEmptying .empty none) (1 + if (s.slot i).resizedBy weight stageMax then 1 else 0) := by
  have hnew : (s.slot i).rekindedBy .openKind = true := by simp [Slot.rekindedBy, hkind]
  rw [State.replaceStage_of_rekinded hnew, State.rekind_of_open hkind]
  exact ((State.Rewrote.emptySlot hmode i).resizeSlot hmode weight stageMax _).postStageState

/-! ### The delete (R85) -/

theorem State.Rewrote.returnStage_of_open (hmode : s.mode ≠ .boot) (hkind : (s.slot i).kind = .openKind) :
    s.Rewrote (s.returnStage i) i { s.slot i with weight := 1, stageMax := 1050 }
      [({ s.slot i with weight := 1, stageMax := 1050 } : Slot).stateNotice i] [] 1 := by
  have hreturn : s.returnStage i = (s.resizeSlot i 1 1050 true).postStageState i := by
    simp only [State.returnStage, hkind]
    rfl
  rw [hreturn]
  exact ((State.Rewrote.refl s i).resizeSlot hmode 1 1050 true).postStageState

theorem State.Rewrote.returnStage_of_fixed (hmode : s.mode ≠ .boot) (hkind : (s.slot i).kind = .fixed) :
    s.Rewrote (s.returnStage i) i { (s.slot i).afterEmptying with weight := 1, stageMax := 1050 }
      (bindingPosts i (s.slot i) (s.slot i).afterEmptying ++ [({ (s.slot i).afterEmptying with weight := 1, stageMax := 1050 } : Slot).stateNotice i])
      (clampCopies s.clock i (s.slot i) (s.slot i).afterEmptying .empty none) 2 := by
  have hreturn : s.returnStage i = ((s.emptySlot i).resizeSlot i 1 1050 true).postStageState i := by
    simp only [State.returnStage, hkind]
    rfl
  rw [hreturn]
  exact ((State.Rewrote.emptySlot hmode i).resizeSlot hmode 1 1050 true).postStageState

end stage

/-- The paths after an emptying and a rewriting. -/
theorem State.pathsLeft_congr {s a t : State} {gone : SlotId → Bool} (h : s.PathsLeft a gone) (hpaths : t.paths = a.paths) : s.PathsLeft t gone :=
  fun p => by
    rw [← h p, State.path, hpaths]
    rfl

/-- Settles O56: the write's checks and its three ways (the kind kept, a new FIXED identity, back to OPEN), then the delete. -/
theorem stageWritesAndDeletes : Obligations.StageWritesAndDeletes := by
  refine ⟨fun s tag a hready hbindings => ?_, fun s tag n hready => ?_⟩
  · have hmode := hready.1.2.1
    intro c weight stageMax
    have writes {t : State} {b : Answer} (h : writeStage a s = (t, b)) : Answered c s t 0 0x18 tag b := answered_of_tableReady hready rfl h
    refine ⟨fun hbad => writes ?_, fun i hi => ⟨fun hbad => writes ?_, fun wanted hwanted => ?_⟩⟩
    · have hkey : slotOf a.slot = none := slotOf_eq_none hbad
      simp only [writeStage, hkey, State.refuse]
    · have hkey : slotOf a.slot = some i := keyFromOne_eq_some.2 hi
      simp only [writeStage, hkey, stageKindOf_of_bad hbad, State.refuse]
    intro x taken rekinds held
    have hwrite := writeStage_of_kind (s := s) hi (stageKindOf_of_wanted hwanted)
    have htaken : s.kindTaken i (kindWanted wanted) = true ↔ taken := State.kindTaken_iff
    have hrekinds : x.rekindedBy (kindWanted wanted) = true ↔ rekinds := Slot.rekindedBy_iff
    have hheld : (max 1 (min 4 a.weight) ≠ (s.slot i).weight ∧ (s.slot i).state.weightHeld = true) ↔ held := and_congr_right fun _ => SlotState.weightHeld_iff
    refine ⟨fun h => writes (hwrite.trans (if_pos (htaken.2 h))), fun hfree hnew hbound => writes ?_, fun hfree hunbound h => writes ?_,
      fun hfree hunbound hnot henforce hlow => writes ?_, fun hfree hunbound hnot hallowed => ?_⟩
    all_goals rw [if_neg (mt htaken.1 hfree)] at hwrite
    · exact hwrite.trans (if_pos ⟨Option.isSome_iff_ne_none.2 hbound, hrekinds.2 hnew⟩)
    all_goals
      have hport : ¬((s.slot i).port.isSome ∧ (s.slot i).rekindedBy (kindWanted wanted) = true) := fun h =>
        hunbound.elim (fun hkept => hkept (hrekinds.1 h.2)) fun hnone => Option.isSome_iff_ne_none.1 h.1 hnone
      rw [if_neg hport] at hwrite
    · exact hwrite.trans (if_pos (hheld.2 h))
    all_goals rw [if_neg (mt hheld.1 hnot)] at hwrite
    · exact hwrite.trans (if_pos ⟨henforce, hlow⟩)
    rw [if_neg fun h => hallowed.elim (fun hsetup => by rw [hsetup] at h; cases h.1) fun hle => absurd h.2 (not_lt.2 hle)] at hwrite
    refine ⟨_, writes hwrite, ?_⟩
    have hresized : x.resizedBy weight stageMax = true ↔ weight ≠ x.weight ∨ stageMax ≠ x.stageMax := by
      simp only [Slot.resizedBy, Bool.or_eq_true, bne_iff_ne, ne_comm]
    have hmax : stageMax = min 1400 a.stageMax := rfl
    have hweight : weight = max 1 (min 4 a.weight) := rfl
    rw [← hmax, ← hweight]
    clear_value weight stageMax
    by_cases hnew : rekinds
    · have hkind := hrekinds.2 hnew
      cases hcase : wanted with
      | none =>
        subst hcase
        have hfixed : x.kind = .fixed := by
          have h := Slot.rekindedBy_iff.1 hkind
          rwa [if_pos rfl] at h
        have hrewrote := State.Rewrote.replaceStage_of_open (weight := weight) (stageMax := stageMax) hmode hfixed
        have hpaths : s.PathsLeft (s.replaceStage i (kindWanted none) weight stageMax) (· == i) := by
          rw [State.replaceStage_of_rekinded hkind]
          exact State.pathsLeft_congr (s.emptySlot_pathsLeft i) (by rw [kindWanted, State.rekind_of_open hfixed]; exact State.resizeSlot_paths ..)
        refine ⟨hrewrote.frame, hrewrote.slot_ne, fun h => absurd hnew h, fun _ h => absurd rfl h, fun _ _ => ⟨hrewrote.slot_same, hpaths,
          hrewrote.samePosts_of_emptied⟩, fun h => absurd hnew h, ⟨fun hres _ => ?_, fun h => ?_, fun _ h => absurd ⟨hnew, rfl⟩ h⟩,
          fun _ h => absurd ⟨hnew, rfl⟩ h⟩
        · have htriggered := hrewrote.did.triggered
          rw [if_pos (hresized.2 hres)] at htriggered
          exact htriggered.raised (by decide)
        · obtain ⟨-, hnres⟩ := h.resolve_left fun h => h.2 ⟨hnew, rfl⟩
          have htriggered := hrewrote.did.triggered
          rw [if_neg (mt hresized.1 hnres)] at htriggered
          exact htriggered.raised (by decide)
      | some id =>
        subst hcase
        have hquiet : x.kind = .fixed → x.state = .quiet := fun hfixed => by
          obtain ⟨hslots, -⟩ := hbindings
          obtain ⟨-, hfix, hunb, -⟩ := hslots i
          exact (hunb (hunbound.resolve_left (not_not.2 hnew))).resolve_right (hfix hfixed).2
        have hrewrote := State.Rewrote.replaceStage_of_fixed (weight := weight) (stageMax := stageMax) hmode hkind hquiet
        have hpaths : (s.replaceStage i (kindWanted (some id)) weight stageMax).paths = s.paths := by
          rw [State.replaceStage_of_rekinded hkind, kindWanted, State.rekind_of_fixed]
          exact State.resizeSlot_paths ..
        refine ⟨hrewrote.frame, hrewrote.slot_ne, fun h => absurd hnew h, fun _ _ => ⟨hrewrote.slot_same, hpaths⟩, fun _ h => absurd h (by simp),
          fun h => absurd hnew h, ⟨fun _ h => absurd h.2 (by simp), fun h => ?_, fun hnres _ => ?_⟩, fun _ _ => hrewrote.samePosts_of_state⟩
        · have hres := (h.resolve_right fun h => absurd h.1.2 (by simp)).1
          have htriggered := hrewrote.did.triggered
          rw [if_pos (hresized.2 hres)] at htriggered
          exact htriggered.raised (by decide)
        · have htriggered := hrewrote.did.triggered
          rw [if_neg (mt hresized.1 hnres)] at htriggered
          exact htriggered.engine_eq
    · have hkept : x.rekindedBy (kindWanted wanted) = false := Bool.eq_false_iff.2 (mt hrekinds.1 hnew)
      by_cases hres : weight ≠ x.weight ∨ stageMax ≠ x.stageMax
      · have hrewrote := State.Rewrote.replaceStage_of_resized (weight := weight) (stageMax := stageMax) hmode hkept (hresized.2 hres)
        have hpaths : (s.replaceStage i (kindWanted wanted) weight stageMax).paths = s.paths := by
          rw [State.replaceStage_of_kept hkept, if_pos (hresized.2 hres)]
          exact State.resizeSlot_paths ..
        refine ⟨hrewrote.frame, hrewrote.slot_ne, fun _ => ⟨hrewrote.slot_same, hpaths⟩, fun h => absurd h hnew, fun h => absurd h hnew,
          fun _ hw hm => absurd hres (by simp [hw, hm]), ⟨fun _ h => absurd h.1 hnew, fun _ => hrewrote.did.triggered.raised (by decide),
            fun h => absurd hres h⟩, fun _ _ => hrewrote.samePosts_of_state⟩
      · have hsame : s.replaceStage i (kindWanted wanted) weight stageMax = s := by
          rw [State.replaceStage_of_kept hkept, if_neg (mt hresized.1 hres)]
        obtain ⟨hw, hm⟩ := not_or.1 hres
        rw [not_not] at hw hm
        rw [hsame]
        refine ⟨rfl, fun _ _ => rfl, fun _ => ⟨?_, rfl⟩, fun h => absurd h hnew, fun h => absurd h hnew, fun _ _ _ => rfl,
          ⟨fun h => absurd h hres, fun h => h.elim (fun h => absurd h.1 hres) fun h => absurd h.1.1 hnew, fun _ _ => rfl⟩,
          fun h => h.elim (fun hw' => absurd (.inl hw') hres) fun h => h.elim (fun hm' => absurd (.inr hm') hres) fun h => absurd h hnew⟩
        rw [hw, hm]
  · have hmode := hready.1.2.1
    have deletes {t : State} {b : Answer} (h : deleteStage n s = (t, b)) : Answered (.tableDeleteStage 0 tag (.whole n)) s t 0 0x19 tag b :=
      answered_of_tableReady hready rfl h
    refine ⟨fun henforce => deletes (if_pos henforce), fun hsetup hbad => deletes ?_, fun i hsetup hi => ⟨fun hbound => deletes ?_, fun hunbound => ?_⟩⟩
    · have hkey : slotOf n = none := slotOf_eq_none hbad
      simp [deleteStage, hsetup, hkey, State.refuse]
    all_goals have hkey : slotOf n = some i := keyFromOne_eq_some.2 hi
    · simp [deleteStage, hsetup, hkey, Option.isSome_iff_ne_none.2 hbound, State.refuse]
    · have hdelete : deleteStage n s = (s.returnStage i, .done .none) := by simp [deleteStage, hsetup, hkey, hunbound]
      refine ⟨s.returnStage i, deletes hdelete, ?_⟩
      cases hkind : (s.slot i).kind with
      | openKind =>
        have hrewrote := State.Rewrote.returnStage_of_open hmode hkind
        have hpaths : (s.returnStage i).paths = s.paths := by
          have hreturn : s.returnStage i = (s.resizeSlot i 1 1050 true).postStageState i := by
            simp only [State.returnStage, hkind]
            rfl
          rw [hreturn]
          exact State.resizeSlot_paths ..
        have hraised : s.TriggersRaised (s.returnStage i) false := hrewrote.did.triggered.raised (by decide)
        exact ⟨hrewrote.frame, hrewrote.slot_ne, hraised, fun _ => ⟨hrewrote.slot_same, hpaths, hrewrote.samePosts_of_state⟩,
          fun h => absurd h (by decide)⟩
      | fixed =>
        have hrewrote := State.Rewrote.returnStage_of_fixed hmode hkind
        have hpaths : s.PathsLeft (s.returnStage i) (· == i) := by
          have hreturn : s.returnStage i = ((s.emptySlot i).resizeSlot i 1 1050 true).postStageState i := by
            simp only [State.returnStage, hkind]
            rfl
          rw [hreturn]
          exact State.pathsLeft_congr (s.emptySlot_pathsLeft i) (State.resizeSlot_paths ..)
        have hraised : s.TriggersRaised (s.returnStage i) true := hrewrote.did.triggered.raised (by decide)
        exact ⟨hrewrote.frame, hrewrote.slot_ne, hraised, fun h => absurd h (by decide), fun _ =>
          ⟨hrewrote.slot_same, hpaths, hrewrote.samePosts_of_emptied⟩⟩

end Sys2Proof.Machine
end

section
/-! SUPPORT. READ NOTICES and SET ATTENTION MASK (R170, R171). -/

namespace Sys2Proof.Machine

/-! ### How many notices fit (R170) -/

theorem fitting_le_count (room count : Nat) (ns : List Notice) : fitting room count ns ≤ count := by
  induction ns generalizing room count with
  | nil => simp [fitting]
  | cons n ns ih =>
    cases count with
    | zero => simp [fitting]
    | succ count =>
      simp only [fitting]
      split
      · exact Nat.succ_le_succ (ih _ _)
      · exact Nat.zero_le _

theorem fitting_le_length (room count : Nat) (ns : List Notice) : fitting room count ns ≤ ns.length := by
  induction ns generalizing room count with
  | nil => simp [fitting]
  | cons n ns ih =>
    cases count with
    | zero => simp [fitting]
    | succ count =>
      simp only [fitting]
      split
      · exact Nat.succ_le_succ (ih _ _)
      · exact Nat.zero_le _

/-- One notice more than fits would exceed the room. -/
theorem room_lt_of_fitting_lt {room count : Nat} {ns : List Notice} (hcount : fitting room count ns < count) (hlength : fitting room count ns < ns.length) :
    room < ((ns.take (fitting room count ns + 1)).flatMap Notice.bytes).length := by
  induction ns generalizing room count with
  | nil => exact absurd hlength (Nat.not_lt_zero _)
  | cons n ns ih =>
    cases count with
    | zero => exact absurd hcount (Nat.not_lt_zero _)
    | succ count =>
      by_cases hfits : n.bytes.length ≤ room
      · simp only [fitting, if_pos hfits] at hcount hlength ⊢
        have htail := ih (room := room - n.bytes.length) (count := count) (by omega) (by simpa using hlength)
        rw [List.take_succ_cons, List.flatMap_cons, List.length_append]
        omega
      · simp only [fitting, if_neg hfits, List.take_succ_cons, List.take_zero, List.flatMap_cons, List.flatMap_nil, List.append_nil]
        omega

theorem length_flatMap_take_mono {ns : List Notice} {m n : Nat} (h : m ≤ n) :
    ((ns.take m).flatMap Notice.bytes).length ≤ ((ns.take n).flatMap Notice.bytes).length := by
  have hsplit : ns.take n = ns.take m ++ (ns.take n).drop m := by
    conv_lhs => rw [← List.take_append_drop m (ns.take n), List.take_take, Nat.min_eq_left h]
  rw [hsplit, List.flatMap_append, List.length_append]
  exact Nat.le_add_right _ _

/-- The number returned: at most the count, one at least while any waits, and as many as fit. -/
theorem NoticeQueue.returnedCount_spec (q : NoticeQueue) {count : Nat} (hcount : 1 ≤ count) :
    q.returnedCount count ≤ count ∧ q.returnedCount count ≤ q.notices.length ∧ (q.notices ≠ [] → 1 ≤ q.returnedCount count) ∧
    (1 < q.returnedCount count → 7 + ((q.notices.take (q.returnedCount count)).flatMap Notice.bytes).length ≤ 60) ∧
    (q.returnedCount count < count → q.returnedCount count < q.notices.length →
      60 < 7 + ((q.notices.take (q.returnedCount count + 1)).flatMap Notice.bytes).length) := by
  have hroom : noticeRoom = 53 := rfl
  by_cases hempty : q.notices = []
  · have hzero : q.returnedCount count = 0 := by simp [NoticeQueue.returnedCount, hempty]
    rw [hzero, hempty]
    exact ⟨Nat.zero_le _, Nat.zero_le _, fun h => absurd rfl h, fun h => absurd h (by decide), fun _ h => absurd h (by decide)⟩
  · have hcountEq : q.returnedCount count = max 1 (fitting noticeRoom count q.notices) := if_neg (by rwa [List.isEmpty_iff])
    have hlength : 1 ≤ q.notices.length := List.length_pos_of_ne_nil hempty
    have hle := fitting_le_count noticeRoom count q.notices
    have hle' := fitting_le_length noticeRoom count q.notices
    have hfits := length_take_fitting noticeRoom count q.notices
    rw [hcountEq]
    refine ⟨by omega, by omega, fun _ => Nat.le_max_left _ _, fun hmany => ?_, fun hless hmore => ?_⟩
    · rw [Nat.max_eq_right (by omega)]
      omega
    · have hover := room_lt_of_fitting_lt (room := noticeRoom) (count := count) (ns := q.notices) (by omega) (by omega)
      have hmono := length_flatMap_take_mono (ns := q.notices) (Nat.add_le_add_right (Nat.le_max_right 1 (fitting noticeRoom count q.notices)) 1)
      omega

/-- Settles O51: the number returned, and the mask replaced as a whole. -/
theorem noticesAreReadAndMasked : Obligations.NoticesAreReadAndMasked := by
  intro s tag hready
  refine ⟨fun count => ?_, fun enables => ⟨fun hbad => answered_of_ready hready rfl ?_, fun hgood => ?_⟩⟩
  · have hvalue : (clampSetting 1 8 count).value = max 1 (min 8 count) := rfl
    have hadjusted : (clampSetting 1 8 count).adjusted = decide (count < 1 ∨ 8 < count) := by
      rw [Bool.eq_iff_iff, clampSetting_adjusted_eq (by decide), decide_eq_true_eq, clampNat]
      omega
    have hread : takeReadNotices count s =
        ({ s with notices := { s.notices with notices := s.notices.notices.drop (s.notices.returnedCount (max 1 (min 8 count))), lost := false } },
          { status := .done, reason := none, adjusted := decide (count < 1 ∨ 8 < count),
            items := .notices (s.notices.notices.take (s.notices.returnedCount (max 1 (min 8 count))))
              (s.notices.notices.length - s.notices.returnedCount (max 1 (min 8 count))) s.notices.lost }) := by
      simp only [takeReadNotices, hvalue, hadjusted, List.length_drop]
      rfl
    exact ⟨_, _, answered_of_ready hready rfl hread, rfl, s.notices.returnedCount_spec (Nat.le_max_left 1 (min 8 count))⟩
  · obtain ⟨k, hk⟩ := hbad
    have hflag : flagOf (enables.get k) = none := by rw [flagOf_eq, if_neg (by omega)]
    exact if_neg fun hall => by
      have := List.all_eq_true.1 hall k (List.mem_finRange k)
      rw [hflag] at this
      cases this
  · refine ⟨Vector.ofFn fun k => enables.get k == 1, fun k => by simp [Vector.get_eq_getElem], answered_of_ready hready rfl (if_pos ?_)⟩
    refine List.all_eq_true.2 fun k _ => ?_
    rw [flagOf_eq, if_pos (by have := hgood k; omega)]
    rfl

end Sys2Proof.Machine
end

section
/-! SUPPORT. Frames on a request link and on the monitor bus, and a receiver in a stream of bytes (R153 to R155). -/

namespace Sys2Proof.Machine

/-! ### The checks of a whole frame -/

theorem u8_toNat {n : Nat} (h : n < 256) : (BitVec.ofNat 8 n).toNat = n := by
  rw [BitVec.toNat_ofNat]
  exact Nat.mod_eq_of_lt h

theorem length_crcBytes (bs : List Byte) : (crcBytes bs).length = 2 := rfl

theorem badLength_eq_false {len : Byte} (hlow : 2 ≤ len.toNat) (hhigh : len.toNat ≤ 60) : badLength len = false := by
  simp only [badLength, Bool.or_eq_false_iff, decide_eq_false_iff_not]
  omega

theorem badLength_eq_true {len : Byte} (h : len.toNat < 2 ∨ 60 < len.toNat) : badLength len = true := by
  simpa only [badLength, Bool.or_eq_true, decide_eq_true_eq] using h

theorem judgeLink_of_bad {len : Byte} (h : badLength len = true) (rest : List Byte) : judgeLink (len :: rest) = .discarded 0 := if_pos h

theorem judgeBus_of_bad {len : Byte} (h : badLength len = true) (rest : List Byte) : judgeBus (len :: rest) = .discarded 0 := if_pos h

theorem judgeLink_of_part {len : Byte} {rest : List Byte} (hlen : badLength len = false) (h : rest.length ≠ len.toNat + 2) :
    judgeLink (len :: rest) = .incomplete := by
  simp only [judgeLink, hlen, Bool.false_eq_true, if_false, if_pos h]

/-- A frame whole after SYNC on a link is accepted exactly where its CRC is right. -/
theorem judgeLink_of_whole {len : Byte} {body crc : List Byte} (hlen : badLength len = false) (hbody : body.length = len.toNat) (hcrc : crc.length = 2) :
    judgeLink (len :: (body ++ crc)) = if crc = crcBytes (len :: body) then .accepted body else .discarded 2 := by
  have hwhole : ¬(body ++ crc).length ≠ len.toNat + 2 := by
    rw [List.length_append]
    omega
  simp only [judgeLink, hlen, Bool.false_eq_true, if_false, if_neg hwhole]
  rw [← hbody, List.take_left, List.drop_left]

theorem judgeBus_of_length {len : Byte} (hlen : badLength len = false) : judgeBus [len] = .incomplete := by
  simp only [judgeBus, hlen, Bool.false_eq_true, if_false]

theorem judgeBus_of_address {len address : Byte} (hlen : badLength len = false) (h : address.toNat = 0 ∨ 31 < address.toNat) (tail : List Byte) :
    judgeBus (len :: address :: tail) = .discarded 1 := by
  simp only [judgeBus, hlen, Bool.false_eq_true, if_false, if_pos h]

theorem judgeBus_of_part {len address : Byte} {tail : List Byte} (hlen : badLength len = false) (haddress : ¬(address.toNat = 0 ∨ 31 < address.toNat))
    (h : tail.length ≠ len.toNat + 2) : judgeBus (len :: address :: tail) = .incomplete := by
  simp only [judgeBus, hlen, Bool.false_eq_true, if_false, if_neg haddress, if_pos h]

theorem judgeBus_of_whole {len address : Byte} {body crc : List Byte} (hlen : badLength len = false)
    (haddress : ¬(address.toNat = 0 ∨ 31 < address.toNat)) (hbody : body.length = len.toNat) (hcrc : crc.length = 2) :
    judgeBus (len :: address :: (body ++ crc)) = if crc = crcBytes (len :: address :: body) then .accepted (address :: body) else .discarded 2 := by
  have hwhole : ¬(body ++ crc).length ≠ len.toNat + 2 := by
    rw [List.length_append]
    omega
  simp only [judgeBus, hlen, Bool.false_eq_true, if_false, if_neg haddress, if_neg hwhole]
  rw [← hbody, List.take_left, List.drop_left]

section frame
variable {body : List Byte} {a : Nat}

theorem length_byte (hhigh : body.length ≤ 60) : (BitVec.ofNat 8 body.length).toNat = body.length := u8_toNat (by omega)

theorem badLength_of_body (hlow : 2 ≤ body.length) (hhigh : body.length ≤ 60) : badLength (BitVec.ofNat 8 body.length) = false :=
  badLength_eq_false (by rw [length_byte hhigh]; exact hlow) (by rw [length_byte hhigh]; exact hhigh)

theorem address_byte (hlow : 1 ≤ a) (hhigh : a ≤ 31) : ¬((BitVec.ofNat 8 a).toNat = 0 ∨ 31 < (BitVec.ofNat 8 a).toNat) := by
  rw [u8_toNat (by omega)]
  omega

theorem receiveFrame_frame (hlow : 2 ≤ body.length) (hhigh : body.length ≤ 60) : receiveFrame (frame body) = .accepted body :=
  (judgeLink_of_whole (badLength_of_body hlow hhigh) (length_byte hhigh).symm (length_crcBytes _)).trans (if_pos rfl)

theorem receiveBusFrame_busFrame (hlow : 2 ≤ body.length) (hhigh : body.length ≤ 60) (halow : 1 ≤ a) (hahigh : a ≤ 31) :
    receiveBusFrame (busFrame a body) = .accepted (BitVec.ofNat 8 a :: body) :=
  (judgeBus_of_whole (badLength_of_body hlow hhigh) (address_byte halow hahigh) (length_byte hhigh).symm (length_crcBytes _)).trans (if_pos rfl)

theorem busCommand_stationReply (halow : 1 ≤ a) (hahigh : a ≤ 31) {level flags : Nat} (hlevel : level < 65536) (hflags : flags < 256) :
    busCommand (busFrame a (u8 0x41 ++ u16 level ++ u8 flags)) = some (.stationReply a level flags) := by
  have hreceived := receiveBusFrame_busFrame (body := u8 0x41 ++ u16 level ++ u8 flags) (by simp) (by simp) halow hahigh
  have hlast : (BitVec.ofNat 8 level).toNat = level % 256 := BitVec.toNat_ofNat ..
  have hword : (BitVec.ofNat 8 (level / 256)).toNat * 256 + (BitVec.ofNat 8 level).toNat = level := by
    rw [u8_toNat (by omega), hlast]
    omega
  have hspelled : stationReplyOf (BitVec.ofNat 8 a :: (u8 0x41 ++ u16 level ++ u8 flags)) = .stationReply (BitVec.ofNat 8 a).toNat
      ((BitVec.ofNat 8 (level / 256)).toNat * 256 + (BitVec.ofNat 8 level).toNat) (BitVec.ofNat 8 flags).toNat := rfl
  rw [busCommand, hreceived]
  dsimp only
  rw [hspelled, hword, u8_toNat hflags, u8_toNat (n := a) (by omega)]

end frame

/-! ### A receiver in a stream -/

section stream
variable {judge : List Byte → Received}

theorem Reception.takeAll_of_not_sync {b : Byte} (h : b ≠ sync) (rest : List Byte) :
    Reception.takeAll judge .hunting (b :: rest) = Reception.takeAll judge .hunting rest := by
  simp [Reception.takeAll, Reception.take, h]

theorem Reception.takeAll_sync (rest : List Byte) : Reception.takeAll judge .hunting (sync :: rest) =
    ((Reception.takeAll judge (.receiving []) rest).1, .begun :: (Reception.takeAll judge (.receiving []) rest).2) := by
  simp [Reception.takeAll, Reception.take]

/-- A run of bytes after SYNC of which no part is a whole frame, its last byte ending the frame. -/
theorem Reception.takeAll_ended {xs rest : List Byte} {e : LineEvent} (hne : xs ≠ []) (hpart : ∀ p q, xs = p ++ q → p ≠ [] → q ≠ [] → judge p = .incomplete)
    (hend : ∀ taken b, xs = taken ++ [b] → Reception.take judge (.receiving taken) b = (.hunting, [e])) :
    Reception.takeAll judge .hunting (sync :: (xs ++ rest)) =
      ((Reception.takeAll judge .hunting rest).1, [.begun, e] ++ (Reception.takeAll judge .hunting rest).2) := by
  obtain ⟨init, b, hxs⟩ := (List.eq_nil_or_concat xs).resolve_left hne
  rw [List.concat_eq_append] at hxs
  have hinit := Reception.takeAll_incomplete judge [] init fun n hn => by
    have hinit : init.take (n + 1) ≠ [] := by
      rw [ne_eq, List.take_eq_nil_iff]
      rintro (h | h)
      · exact absurd h (Nat.succ_ne_zero n)
      · rw [h] at hn
        exact absurd hn (Nat.not_lt_zero n)
    exact hpart _ (init.drop (n + 1) ++ [b]) (by rw [hxs, List.nil_append, ← List.append_assoc, List.take_append_drop]) hinit (by simp)
  have hxsTaken : Reception.takeAll judge (.receiving []) xs = (.hunting, [e]) := by
    rw [hxs, Reception.takeAll_append, hinit, List.nil_append]
    simp only [Reception.takeAll, hend init b hxs, List.nil_append, List.append_nil]
  rw [Reception.takeAll_sync, Reception.takeAll_append, hxsTaken]
  rfl

theorem Reception.take_of_accepted {taken body : List Byte} {b : Byte} (h : judge (taken ++ [b]) = .accepted body) :
    Reception.take judge (.receiving taken) b = (.hunting, [.accepted body]) := by simp only [Reception.take, h]

theorem Reception.take_of_discarded {taken : List Byte} {cause : Nat} {b : Byte} (h : judge (taken ++ [b]) = .discarded cause) :
    Reception.take judge (.receiving taken) b = (.hunting, [.discarded cause]) := by simp only [Reception.take, h]

end stream

/-! ### A frame in a stream -/

section streams
variable {body crc : List Byte} {len address : Byte}

/-- A part of a link frame after SYNC is no whole frame. -/
theorem judgeLink_of_prefix (hlen : badLength len = false) (hbody : body.length = len.toNat) (hcrc : crc.length = 2) {p q : List Byte}
    (hpq : len :: (body ++ crc) = p ++ q) (hp : p ≠ []) (hq : q ≠ []) : judgeLink p = .incomplete := by
  obtain ⟨first, part, rfl⟩ := List.exists_cons_of_ne_nil hp
  rw [List.cons_append, List.cons_eq_cons] at hpq
  obtain ⟨rfl, hpart⟩ := hpq
  have hlength := congrArg List.length hpart
  rw [List.length_append, List.length_append] at hlength
  have := List.length_pos_of_ne_nil hq
  exact judgeLink_of_part hlen (by omega)

/-- A part of a bus frame after SYNC is no whole frame. -/
theorem judgeBus_of_prefix (hlen : badLength len = false) (haddress : ¬(address.toNat = 0 ∨ 31 < address.toNat)) (hbody : body.length = len.toNat)
    (hcrc : crc.length = 2) {p q : List Byte} (hpq : len :: address :: (body ++ crc) = p ++ q) (hp : p ≠ []) (hq : q ≠ []) : judgeBus p = .incomplete := by
  obtain ⟨first, part, rfl⟩ := List.exists_cons_of_ne_nil hp
  rw [List.cons_append, List.cons_eq_cons] at hpq
  obtain ⟨rfl, hpart⟩ := hpq
  cases part with
  | nil => exact judgeBus_of_length hlen
  | cons second part =>
    rw [List.cons_append, List.cons_eq_cons] at hpart
    obtain ⟨rfl, hpart⟩ := hpart
    have hlength := congrArg List.length hpart
    rw [List.length_append, List.length_append] at hlength
    have := List.length_pos_of_ne_nil hq
    exact judgeBus_of_part hlen haddress (by omega)

end streams

/-- Settles O4: a frame offered whole, then a frame in a stream, link and bus side by side. -/
theorem framesArriveAsSent : Obligations.FramesArriveAsSent := by
  refine ⟨fun body hlow hhigh => ⟨receiveFrame_frame hlow hhigh, fun a halow hahigh => ⟨receiveBusFrame_busFrame hlow hhigh halow hahigh,
    fun level flags hlevel hflags => busCommand_stationReply halow hahigh hlevel hflags⟩⟩, ?_⟩
  intro link bus after
  refine ⟨fun b rest hb => ⟨Reception.takeAll_of_not_sync hb rest, Reception.takeAll_of_not_sync hb rest⟩, fun body crc rest hlow hhigh hcrc => ?_,
    fun len rest hbad => ?_, fun len address rest hlow hhigh haddress => ?_⟩
  · have hlen := badLength_of_body hlow hhigh
    have hbody := (length_byte hhigh).symm
    have onLink {c : List Byte} {e : LineEvent} (hc : c.length = 2)
        (hwhole : ∀ taken b, BitVec.ofNat 8 body.length :: (body ++ c) = taken ++ [b] → Reception.take judgeLink (.receiving taken) b = (.hunting, [e])) :
        link (sync :: (BitVec.ofNat 8 body.length :: (body ++ c) ++ rest)) = after [.begun, e] (link rest) :=
      Reception.takeAll_ended (List.cons_ne_nil _ _) (fun p q hpq hp hq => judgeLink_of_prefix hlen hbody hc hpq hp hq) hwhole
    refine ⟨onLink (length_crcBytes _) fun taken b htaken => Reception.take_of_accepted ?_, fun hcrcBad => ?_, fun a halow hahigh => ?_⟩
    · rw [← htaken, judgeLink_of_whole hlen hbody (length_crcBytes _)]
      exact if_pos rfl
    · exact onLink hcrc fun taken b htaken => Reception.take_of_discarded
        (by rw [← htaken, judgeLink_of_whole hlen hbody hcrc]; exact if_neg hcrcBad)
    · have haddress := address_byte halow hahigh
      have onBus {c : List Byte} {e : LineEvent} (hc : c.length = 2)
          (hwhole : ∀ taken b, BitVec.ofNat 8 body.length :: BitVec.ofNat 8 a :: (body ++ c) = taken ++ [b] →
            Reception.take judgeBus (.receiving taken) b = (.hunting, [e])) :
          bus (sync :: (BitVec.ofNat 8 body.length :: BitVec.ofNat 8 a :: (body ++ c) ++ rest)) = after [.begun, e] (bus rest) :=
        Reception.takeAll_ended (List.cons_ne_nil _ _) (fun p q hpq hp hq => judgeBus_of_prefix hlen haddress hbody hc hpq hp hq) hwhole
      refine ⟨onBus (length_crcBytes _) fun taken b htaken => Reception.take_of_accepted ?_, fun hcrcBad => ?_⟩
      · rw [← htaken, judgeBus_of_whole hlen haddress hbody (length_crcBytes _)]
        exact if_pos rfl
      · exact onBus hcrc fun taken b htaken => Reception.take_of_discarded
          (by rw [← htaken, judgeBus_of_whole hlen haddress hbody hcrc]; exact if_neg hcrcBad)
  · have hlen := badLength_eq_true hbad
    have hended {judge : List Byte → Received} (hjudge : judge [len] = .discarded 0) :
        Reception.takeAll judge .hunting (sync :: len :: rest) = after [.begun, .discarded 0] (Reception.takeAll judge .hunting rest) :=
      Reception.takeAll_ended (xs := [len]) (List.cons_ne_nil _ _) (fun p q hpq hp hq => absurd (congrArg List.length hpq) (by
        have := List.length_pos_of_ne_nil hp
        have := List.length_pos_of_ne_nil hq
        rw [List.length_append, List.length_singleton]
        omega)) fun taken b htaken => Reception.take_of_discarded (by rw [← htaken, hjudge])
    exact ⟨hended (judgeLink_of_bad hlen []), hended (judgeBus_of_bad hlen [])⟩
  · have hlen := badLength_eq_false hlow hhigh
    refine Reception.takeAll_ended (xs := [len, address]) (List.cons_ne_nil _ _) (fun p q hpq hp hq => ?_) fun taken b htaken =>
      Reception.take_of_discarded (by rw [← htaken, judgeBus_of_address hlen haddress])
    obtain ⟨first, part, rfl⟩ := List.exists_cons_of_ne_nil hp
    rw [List.cons_append, List.cons_eq_cons] at hpq
    obtain ⟨rfl, hpart⟩ := hpq
    have hlength := congrArg List.length hpart
    rw [List.length_append, List.length_singleton] at hlength
    have := List.length_pos_of_ne_nil hq
    rw [List.eq_nil_of_length_eq_zero (l := part) (by omega)]
    exact judgeBus_of_length hlen

end Sys2Proof.Machine
end

section
/-! SUPPORT. A request read back from its body (R153, R158, R165). -/

namespace Sys2Proof.Machine

/-! ### Readers -/

/-- The reader takes exactly these bytes, as this value, whatever comes after. -/
def Reads {α : Type} (reader : Reader α) (bs : List Byte) (a : α) : Prop := ∀ rest, reader (bs ++ rest) = some (a, rest)

section reads
variable {α β γ : Type}

theorem reads8 {n : Nat} (h : isByte n = true) : Reads read8 (u8 n) n := fun rest => by
  show some ((BitVec.ofNat 8 n).toNat, rest) = _
  rw [u8_toNat (of_decide_eq_true h)]

/-- The two bytes of a number give it back. -/
theorem u16_toNat {n : Nat} (h : n < 65536) : (BitVec.ofNat 8 (n / 256)).toNat * 256 + (BitVec.ofNat 8 n).toNat = n := by
  rw [u8_toNat (by omega), BitVec.toNat_ofNat]
  omega

theorem reads16 {n : Nat} (h : isWord n = true) : Reads read16 (u16 n) n := fun rest => by
  show some ((BitVec.ofNat 8 (n / 256)).toNat * 256 + (BitVec.ofNat 8 n).toNat, rest) = _
  rw [u16_toNat (of_decide_eq_true h)]

/-- The six bytes of an identity give it back. -/
theorem bytesToNat_identityBytes (x : Identity) : bytesToNat (identityBytes x) = x.toNat := by
  have hx : x.toNat < 281474976710656 := x.isLt
  simp only [bytesToNat, identityBytes, u16, u8, List.cons_append, List.nil_append, List.foldl_cons, List.foldl_nil, BitVec.toNat_ofNat]
  omega

theorem readsIdentity (x : Identity) : Reads readIdentity (identityBytes x) x := fun rest => by
  show some (BitVec.ofNat 48 (bytesToNat (identityBytes x)), rest) = _
  rw [bytesToNat_identityBytes, BitVec.ofNat_toNat, BitVec.setWidth_eq]

theorem Reads.andThen {f : α → β → γ} {first : Reader α} {second : Reader β} {xs ys : List Byte} {a : α} {b : β} (hfirst : Reads first xs a)
    (hsecond : Reads second ys b) : Reads (readThen f first second) (xs ++ ys) (f a b) := fun rest => by
  simp only [readThen, List.append_assoc, hfirst _, hsecond _]

theorem readsMany {one : Reader α} {f : α → List Byte} {l : List α} (h : ∀ a ∈ l, Reads one (f a) a) : Reads (readMany one l.length) (l.flatMap f) l := by
  induction l with
  | nil => exact fun rest => rfl
  | cons a l ih =>
    obtain ⟨ha, hl⟩ := List.forall_mem_cons.1 h
    exact ha.andThen (ih hl)

theorem readsList {one : Reader α} {f : α → List Byte} {l : List α} (hlen : l.length < 256) (h : ∀ a ∈ l, Reads one (f a) a) :
    Reads (readList one) (u8 l.length ++ l.flatMap f) l := fun rest => by
  show readMany one (BitVec.ofNat 8 l.length).toNat (l.flatMap f ++ rest) = _
  rw [u8_toNat hlen]
  exact readsMany h rest

theorem readsOptionalIdentity (x : WireOption Identity) : Reads (readOptional readIdentity) (wireIdentityBytes x) x := fun rest => by
  cases x with
  | absent => rfl
  | present id =>
    simp [readOptional, wireIdentityBytes, u8, readsIdentity id rest]
  | invalid => rfl

theorem paramsOf_of_reads {reader : Reader α} {bs : List Byte} {a : α} (h : Reads reader bs a) : paramsOf reader bs = .whole a := by
  have hbs := h []
  rw [List.append_nil] at hbs
  simp only [paramsOf, hbs]

end reads

/-! ### The parameters of each request -/

theorem readsEnrol (a : EnrolArgs) (h : isByte a.check = true) : Reads readEnrol (identityBytes a.identity ++ u8 a.check) a :=
  (readsIdentity a.identity).andThen (reads8 h)

theorem readsReport (a : ReportArgs) (h : (isWord a.level && isWord a.serial) = true) : Reads readReport (u16 a.level ++ u16 a.serial) a := by
  obtain ⟨hlevel, hserial⟩ := Bool.and_eq_true_iff.1 h
  exact (reads16 hlevel).andThen (reads16 hserial)

theorem readsClock (a : ClockArgs) (h : (isWord a.minute && isByte a.second) = true) : Reads readClock (u16 a.minute ++ u8 a.second) a := by
  obtain ⟨hminute, hsecond⟩ := Bool.and_eq_true_iff.1 h
  exact (reads16 hminute).andThen (reads8 hsecond)

theorem readsCap (a : CapArgs) (h : (isByte a.slot && isWord a.cap) = true) : Reads readCap (u8 a.slot ++ u16 a.cap) a := by
  obtain ⟨hslot, hcap⟩ := Bool.and_eq_true_iff.1 h
  exact (reads8 hslot).andThen (reads16 hcap)

theorem readsPathKey (a : PathKey) (h : (isByte a.slot && isByte a.receptor) = true) : Reads readPathKey (u8 a.slot ++ u8 a.receptor) a := by
  obtain ⟨hslot, hreceptor⟩ := Bool.and_eq_true_iff.1 h
  exact (reads8 hslot).andThen (reads8 hreceptor)

theorem readsRing (a : RingArgs) (h : (isByte a.receptor && isByte a.part) = true) : Reads readRingArgs (u8 a.receptor ++ u8 a.part) a := by
  obtain ⟨hreceptor, hpart⟩ := Bool.and_eq_true_iff.1 h
  exact (reads8 hreceptor).andThen (reads8 hpart)

theorem readsPath (a : PathArgs) (h : (isByte a.slot && isByte a.receptor && isWord a.loss) = true) :
    Reads readPathArgs (u8 a.slot ++ u8 a.receptor ++ u16 a.loss) a := by
  obtain ⟨hkey, hloss⟩ := Bool.and_eq_true_iff.1 h
  obtain ⟨hslot, hreceptor⟩ := Bool.and_eq_true_iff.1 hkey
  exact ((reads8 hslot).andThen (reads8 hreceptor)).andThen (reads16 hloss)

theorem readsReceptor (a : ReceptorArgs) (h : (isByte a.receptor && isByte a.address && isByte a.zone && isWord a.floor) = true) :
    Reads readReceptorArgs (u8 a.receptor ++ u8 a.address ++ u8 a.zone ++ u16 a.floor) a := by
  simp only [Bool.and_eq_true_iff] at h
  obtain ⟨⟨⟨hreceptor, haddress⟩, hzone⟩, hfloor⟩ := h
  exact (((reads8 hreceptor).andThen (reads8 haddress)).andThen (reads8 hzone)).andThen (reads16 hfloor)

theorem readsStage (a : StageArgs) (h : (isByte a.slot && isByte a.kind && isByte a.weight && isWord a.stageMax) = true) :
    Reads readStageArgs (u8 a.slot ++ u8 a.kind ++ wireIdentityBytes a.identity ++ u8 a.weight ++ u16 a.stageMax) a := by
  simp only [Bool.and_eq_true_iff] at h
  obtain ⟨⟨⟨hslot, hkind⟩, hweight⟩, hmax⟩ := h
  exact ((((reads8 hslot).andThen (reads8 hkind)).andThen (readsOptionalIdentity a.identity)).andThen (reads8 hweight)).andThen (reads16 hmax)

theorem readsBreakpoint (b : BreakpointArgs) (h : b.fits = true) : Reads readBreakpoint (u16 b.minute ++ u16 b.limit ++ u8 b.curfew) b := by
  simp only [BreakpointArgs.fits, Bool.and_eq_true_iff] at h
  obtain ⟨⟨hminute, hlimit⟩, hcurfew⟩ := h
  exact ((reads16 hminute).andThen (reads16 hlimit)).andThen (reads8 hcurfew)

theorem readsZone (a : ZoneArgs) (h : a.fits = true) :
    Reads readZoneArgs (u8 a.zone ++ u8 a.rampRate ++ u8 a.recoveryMargin ++ breakpointArgsBytes a.breakpoints) a := by
  simp only [ZoneArgs.fits, Bool.and_eq_true_iff, List.all_eq_true, decide_eq_true_eq] at h
  obtain ⟨⟨⟨⟨hzone, hramp⟩, hmargin⟩, hall⟩, hlen⟩ := h
  exact (((reads8 hzone).andThen (reads8 hramp)).andThen (reads8 hmargin)).andThen
    (readsList (by omega) fun b hb => readsBreakpoint b (hall b hb))

theorem readsForecast (l : List Nat) (h : (l.all isByte && decide (l.length ≤ 57)) = true) : Reads (readList read8) (u8 l.length ++ l.flatMap u8) l := by
  simp only [Bool.and_eq_true_iff, List.all_eq_true, decide_eq_true_eq] at h
  obtain ⟨hall, hlen⟩ := h
  exact readsList (by omega) fun n hn => reads8 (hall n hn)

theorem readsSite (a : SiteArgs) (h : a.fits = true) : Reads readSiteArgs (siteArgsBytes a) a := by
  simp only [SiteArgs.fits, Bool.and_eq_true_iff] at h
  obtain ⟨⟨⟨⟨⟨⟨⟨⟨⟨⟨⟨⟨⟨⟨h1, h2⟩, h3⟩, h4⟩, h5⟩, h6⟩, h7⟩, hage⟩, h9⟩, h10⟩, h11⟩, h12⟩, h13⟩, h14⟩, h15⟩ := h
  have hbefore : Reads (readMany read8 7) _ _ := readsMany (f := u8)
    (l := [a.blindMargin, a.correctionRise, a.correctionFall, a.tolerance, a.overLimit, a.releaseCount, a.staleTime])
    (by simp only [List.forall_mem_cons]; exact ⟨reads8 h1, reads8 h2, reads8 h3, reads8 h4, reads8 h5, reads8 h6, reads8 h7, by simp⟩)
  have hafter : Reads (readMany read8 7) _ _ := readsMany (f := u8)
    (l := [a.handoverTime, a.discardTime, a.stationReply, a.minute, a.exceedance, a.ceiling, a.clamp])
    (by simp only [List.forall_mem_cons]; exact ⟨reads8 h9, reads8 h10, reads8 h11, reads8 h12, reads8 h13, reads8 h14, reads8 h15, by simp⟩)
  exact (hbefore.andThen (reads16 hage)).andThen hafter

theorem readsMask (e : Vector Nat 10) (h : e.toList.all isByte = true) : Reads readMask (e.toList.flatMap u8) e := fun rest => by
  have hmany := readsMany (one := read8) (f := u8) (l := e.toList) (fun n hn => reads8 (List.all_eq_true.1 h n hn)) rest
  rw [Vector.length_toList] at hmany
  rw [readMask, hmany]
  refine congrArg some (Prod.ext (Vector.ext fun k hk => ?_) rfl)
  simp [List.getD_eq_getElem?_getD]

/-! ### From a request to its parts and back -/

/-- The parts of a request with parameters read back as the request. -/
theorem readBack_of_params {α : Type} {p : Port} {kind tag : Nat} {selector : List Byte} {mk : Params α → Instr} {args : Params α} {ok : α → Bool}
    {f : α → List Byte} {reader : Reader α} {x : Nat × Nat × List Byte} (hfits : (isByte tag && args.fits ok) = true) (hkind : isByte kind = true)
    (hx : ((wholeBytes f args).map fun bs => (kind, tag, selector ++ bs)) = some x) (hreads : ∀ a, ok a = true → Reads reader (f a) a)
    (hrequest : ∀ bs, requestOfKind p kind tag (selector ++ bs) = mk (paramsOf reader bs)) :
    isByte x.1 = true ∧ isByte x.2.1 = true ∧ requestOfKind p x.1 x.2.1 x.2.2 = mk args := by
  obtain ⟨htag, hok⟩ := Bool.and_eq_true_iff.1 hfits
  cases args with
  | whole a =>
    cases hx
    exact ⟨hkind, htag, (hrequest (f a)).trans (congrArg mk (paramsOf_of_reads (hreads a hok)))⟩
  | short => cases hx
  | noTable => cases hx

theorem requestOf_cons {p : Port} {kind tag : Nat} (hkind : isByte kind = true) (htag : isByte tag = true) (bs : List Byte) :
    requestOf p (u8 kind ++ u8 tag ++ bs) = some (requestOfKind p kind tag bs) := by
  show some (requestOfKind p (BitVec.ofNat 8 kind).toNat (BitVec.ofNat 8 tag).toNat bs) = _
  rw [u8_toNat (of_decide_eq_true hkind), u8_toNat (of_decide_eq_true htag)]

/-- A kind value that is no request kind is read as UNKNOWN_KIND. -/
theorem requestOfKind_of_unknown {p : Port} {kind tag : Nat} (h : requestKinds.contains kind = false) (bs : List Byte) :
    requestOfKind p kind tag bs = .unknownKind p tag kind := by
  unfold requestOfKind
  split
  any_goals (exfalso; revert h; decide)
  rfl

theorem readBack_of_nothing {p : Port} {kind tag : Nat} {c : Instr} {x : Nat × Nat × List Byte} (htag : isByte tag = true) (hkind : isByte kind = true)
    (hx : some (kind, tag, []) = some x) (hrequest : requestOfKind p kind tag [] = c) :
    isByte x.1 = true ∧ isByte x.2.1 = true ∧ requestOfKind p x.1 x.2.1 x.2.2 = c := by
  cases hx
  exact ⟨hkind, htag, hrequest⟩

/-- The selector alone spells a SITE delete, find or read. -/
theorem readBack_of_site {p : Port} {kind tag : Nat} {mk : Params Unit → Instr} {args : Params Unit} {x : Nat × Nat × List Byte}
    (hfits : (isByte tag && args.fitsSite fun _ => true) = true) (hkind : isByte kind = true)
    (hx : ((wholeBytes (fun _ => []) args).map fun bs => (kind, tag, u8 1 ++ bs)) = some x)
    (hrequest : requestOfKind p kind tag (u8 1) = mk (.whole ())) :
    isByte x.1 = true ∧ isByte x.2.1 = true ∧ requestOfKind p x.1 x.2.1 x.2.2 = mk args := by
  obtain ⟨htag, -⟩ := Bool.and_eq_true_iff.1 hfits
  cases args with
  | whole a =>
    cases hx
    exact ⟨hkind, htag, hrequest⟩
  | short => cases hx
  | noTable => cases hx

/-- Every request's parts read back as the request. -/
theorem requestOfKind_of_parts {c : Instr} (hwf : c.wellFormed = true) {x : Nat × Nat × List Byte} (hx : requestParts c = some x) :
    isByte x.1 = true ∧ isByte x.2.1 = true ∧ requestOfKind (requestPort c) x.1 x.2.1 x.2.2 = c := by
  have number {n : Nat} (h : isByte n = true) : Reads read8 (u8 n) n := reads8 h
  cases c with
  | enrol p tag args => exact readBack_of_params (selector := []) hwf rfl hx readsEnrol fun _ => rfl
  | report p tag args => exact readBack_of_params (selector := []) hwf rfl hx readsReport fun _ => rfl
  | goLive p tag => exact readBack_of_nothing hwf rfl hx rfl
  | goQuiet p tag => exact readBack_of_nothing hwf rfl hx rfl
  | forceQuiet p tag slot => exact readBack_of_params (selector := []) hwf rfl hx (fun _ => number) fun _ => rfl
  | forecast p tag slots => exact readBack_of_params (selector := []) hwf rfl hx readsForecast fun _ => rfl
  | identify p tag => exact readBack_of_nothing hwf rfl hx rfl
  | siteStatus p tag part => exact readBack_of_params (selector := []) hwf rfl hx (fun _ => number) fun _ => rfl
  | setClock p tag args => exact readBack_of_params (selector := []) hwf rfl hx readsClock fun _ => rfl
  | enterEnforce p tag => exact readBack_of_nothing hwf rfl hx rfl
  | returnToSetup p tag => exact readBack_of_nothing hwf rfl hx rfl
  | warmRestart p tag => exact readBack_of_nothing hwf rfl hx rfl
  | tableWriteSite p tag args =>
    obtain ⟨htag, hok⟩ := Bool.and_eq_true_iff.1 hwf
    cases args with
    | whole a =>
      cases hx
      exact ⟨rfl, htag, congrArg (Instr.tableWriteSite p tag) (paramsOf_of_reads (readsSite a hok))⟩
    | short => cases hx
    | noTable => cases hx
  | tableDeleteSite p tag args => exact readBack_of_site hwf rfl hx rfl
  | tableFindSite p tag args => exact readBack_of_site hwf rfl hx rfl
  | tableReadSite p tag args => exact readBack_of_site hwf rfl hx rfl
  | tableWriteZone p tag args => exact readBack_of_params (selector := u8 2) hwf rfl hx readsZone fun _ => rfl
  | tableDeleteZone p tag zone => exact readBack_of_params (selector := u8 2) hwf rfl hx (fun _ => number) fun _ => rfl
  | tableFindZone p tag zone => exact readBack_of_params (selector := u8 2) hwf rfl hx (fun _ => number) fun _ => rfl
  | tableReadZone p tag zone => exact readBack_of_params (selector := u8 2) hwf rfl hx (fun _ => number) fun _ => rfl
  | tableWriteReceptor p tag args => exact readBack_of_params (selector := u8 3) hwf rfl hx readsReceptor fun _ => rfl
  | tableDeleteReceptor p tag receptor => exact readBack_of_params (selector := u8 3) hwf rfl hx (fun _ => number) fun _ => rfl
  | tableFindReceptor p tag receptor => exact readBack_of_params (selector := u8 3) hwf rfl hx (fun _ => number) fun _ => rfl
  | tableReadReceptor p tag receptor => exact readBack_of_params (selector := u8 3) hwf rfl hx (fun _ => number) fun _ => rfl
  | tableWriteStage p tag args => exact readBack_of_params (selector := u8 4) hwf rfl hx readsStage fun _ => rfl
  | tableDeleteStage p tag slot => exact readBack_of_params (selector := u8 4) hwf rfl hx (fun _ => number) fun _ => rfl
  | tableFindStage p tag identity => exact readBack_of_params (selector := u8 4) hwf rfl hx (fun x _ => readsIdentity x) fun _ => rfl
  | tableReadStage p tag slot => exact readBack_of_params (selector := u8 4) hwf rfl hx (fun _ => number) fun _ => rfl
  | tableWritePath p tag args => exact readBack_of_params (selector := u8 5) hwf rfl hx readsPath fun _ => rfl
  | tableDeletePath p tag key => exact readBack_of_params (selector := u8 5) hwf rfl hx readsPathKey fun _ => rfl
  | tableFindPath p tag key => exact readBack_of_params (selector := u8 5) hwf rfl hx readsPathKey fun _ => rfl
  | tableReadPath p tag position => exact readBack_of_params (selector := u8 5) hwf rfl hx (fun _ => number) fun _ => rfl
  | tableWriteExceedance p tag position => exact readBack_of_params (selector := u8 6) hwf rfl hx (fun _ => number) fun _ => rfl
  | tableDeleteExceedance p tag position => exact readBack_of_params (selector := u8 6) hwf rfl hx (fun _ => number) fun _ => rfl
  | tableFindExceedance p tag receptor => exact readBack_of_params (selector := u8 6) hwf rfl hx (fun _ => number) fun _ => rfl
  | tableReadExceedance p tag position => exact readBack_of_params (selector := u8 6) hwf rfl hx (fun _ => number) fun _ => rfl
  | tableWriteRing p tag receptor => exact readBack_of_params (selector := u8 7) hwf rfl hx (fun _ => number) fun _ => rfl
  | tableDeleteRing p tag receptor => exact readBack_of_params (selector := u8 7) hwf rfl hx (fun _ => number) fun _ => rfl
  | tableFindRing p tag receptor => exact readBack_of_params (selector := u8 7) hwf rfl hx (fun _ => number) fun _ => rfl
  | tableReadRing p tag args => exact readBack_of_params (selector := u8 7) hwf rfl hx readsRing fun _ => rfl
  | tableClear p tag table => exact readBack_of_params (selector := []) hwf rfl hx (fun _ => number) fun _ => rfl
  | pushCap p tag args => exact readBack_of_params (selector := []) hwf rfl hx readsCap fun _ => rfl
  | popCap p tag slot => exact readBack_of_params (selector := []) hwf rfl hx (fun _ => number) fun _ => rfl
  | forceClamp p tag slot => exact readBack_of_params (selector := []) hwf rfl hx (fun _ => number) fun _ => rfl
  | releaseClamp p tag slot => exact readBack_of_params (selector := []) hwf rfl hx (fun _ => number) fun _ => rfl
  | evict p tag slot => exact readBack_of_params (selector := []) hwf rfl hx (fun _ => number) fun _ => rfl
  | readNotices p tag count => exact readBack_of_params (selector := []) hwf rfl hx (fun _ => number) fun _ => rfl
  | setAttentionMask p tag enables => exact readBack_of_params (selector := []) hwf rfl hx readsMask fun _ => rfl
  | saveSettings p tag => exact readBack_of_nothing hwf rfl hx rfl
  | unknownKind p tag kind =>
    obtain ⟨hbytes, hunknown⟩ := Bool.and_eq_true_iff.1 hwf
    obtain ⟨htag, hkind⟩ := Bool.and_eq_true_iff.1 hbytes
    exact readBack_of_nothing htag hkind hx (requestOfKind_of_unknown ((Bool.not_eq_true' _).mp hunknown) [])
  | _ => cases hx

/-- Settles O5: the parts of a request, its body and its frame. -/
theorem requestsDecodeAsEncoded : Obligations.RequestsDecodeAsEncoded := by
  intro c body hwf hbody
  obtain ⟨x, hx, rfl⟩ := Option.map_eq_some_iff.1 hbody
  obtain ⟨hkind, htag, hback⟩ := requestOfKind_of_parts hwf hx
  have hread : requestOf (requestPort c) (u8 x.1 ++ u8 x.2.1 ++ x.2.2) = some c := (requestOf_cons hkind htag _).trans (congrArg some hback)
  refine ⟨hread, fun hshort => ?_⟩
  rw [linkCommand, receiveFrame_frame (by simp; omega) hshort]
  exact hread

end Sys2Proof.Machine
end

section
/-! SUPPORT. The slot records stay in their ranges through every operation, and so does what a pass in flight captured of them (R72, R74, R110). -/

namespace Sys2Proof.Machine

/-- Every slot record is in range, and so is what a pass in flight captured of it. -/
structure State.SlotsFit (s : State) : Prop where
  slot : ∀ i, (s.slot i).InRange
  captured : ∀ c ∈ s.engine.activity.captured, ∀ i, (c.slots.get i).stageMax ≤ 1400

theorem State.slotsFit_iff {s : State} : s.SlotsFit ↔ s.SlotsInRange := ⟨fun h => ⟨h.slot, h.captured⟩, fun h => ⟨h.1, h.2⟩⟩

/-! ### The records that an operation writes -/

section records
variable {x : Slot}

theorem Slot.InRange.grown (n : Nat) (h : x.InRange) : (x.grow n).InRange := by
  obtain ⟨h1, h2, h3, h4, h5, h6, h7, h8, h9, h10, hage, -, h13, h14⟩ := h
  refine ⟨h1, h2, h3, h4, h5, h6, h7, h8, h9, h10, ?_, ?_, h13, h14⟩
  · simpa [Slot.grow] using hage
  · simp only [Slot.grow, Option.mem_def, Option.map_eq_some_iff]
    rintro _ ⟨a, -, rfl⟩
    exact min_le_left ..

theorem Slot.InRange.bound (p : Port) (id : Identity) (h : x.InRange) : (x.bound p id).InRange := by
  obtain ⟨h1, h2, h3, -, -, h6, h7, h8, h9, h10, -, -, -, h14⟩ := h
  exact ⟨h1, h2, h3, Nat.zero_le _, Nat.zero_le _, h6, h7, h8, h9, h10, by simp [Slot.bound], by simp [Slot.bound], nofun, h14⟩

theorem Slot.InRange.unbound (h : x.InRange) : x.unbound.InRange := by
  obtain ⟨h1, h2, h3, -, -, h6, h7, h8, h9, h10, -, -, -, h14⟩ := h
  exact ⟨h1, h2, h3, Nat.zero_le _, Nat.zero_le _, h6, h7, h8, h9, h10, by simp [Slot.unbound], nofun, nofun, h14⟩

theorem Slot.InRange.emptied (h : x.InRange) : x.emptied.InRange := by
  obtain ⟨h1, h2, h3, -, -, -, -, h8, h9, h10, -, -, -, h14⟩ := h
  exact ⟨h1, h2, h3, Nat.zero_le _, Nat.zero_le _, Nat.zero_le _, nofun, h8, h9, h10, by simp [Slot.emptied], nofun, nofun, h14⟩

/-- A record without a prospective ceiling is in range whatever the ceiling was. -/
theorem Slot.InRange.withoutProspective (st : SlotState) (o : Admission) (h : x.InRange) :
    ({ x with state := st, outcome := o, prospective := none } : Slot).InRange := by
  obtain ⟨h1, h2, h3, h4, h5, h6, h7, h8, h9, h10, h11, h12, h13, -⟩ := h
  exact ⟨h1, h2, h3, h4, h5, h6, h7, h8, h9, h10, h11, h12, h13, nofun⟩

theorem Slot.InRange.reported (site : Site) {level : Level} (hlevel : level ≤ 1400) (serial : Nat) (hport : x.port.isSome = true) (h : x.InRange) :
    (x.reported site level serial).InRange := by
  obtain ⟨h1, h2, h3, -, -, h6, h7, h8, h9, h10, -, -, -, h14⟩ := h
  refine ⟨h1, h2, h3, ?_, ?_, h6, h7, h8, h9, h10, by simp [Slot.reported, hport], by simp [Slot.reported], by simpa [Slot.reported] using hlevel, h14⟩
  · dsimp only [Slot.reported, Slot.nextOver]
    split
    · exact min_le_left ..
    · exact Nat.zero_le _
  · dsimp only [Slot.reported, Slot.nextGood]
    split
    · exact Nat.zero_le _
    · exact min_le_left ..

theorem Slot.InRange.resized {weight : Nat} {stageMax : Level} (hweight : 1 ≤ weight ∧ weight ≤ 4) (hmax : stageMax ≤ 1400) (h : x.InRange) :
    ({ x with weight := weight, stageMax := stageMax } : Slot).InRange := by
  obtain ⟨-, -, -, hrest⟩ := h
  exact ⟨hweight.1, hweight.2, hmax, hrest⟩

theorem Slot.InRange.capped {caps : List Level} (hlength : caps.length ≤ 4) (hcaps : ∀ c ∈ caps, c ≤ 1400) (h : x.InRange) :
    ({ x with caps := caps } : Slot).InRange := by
  obtain ⟨h1, h2, h3, h4, h5, -, -, hrest⟩ := h
  exact ⟨h1, h2, h3, h4, h5, hlength, hcaps, hrest⟩

theorem Slot.InRange.prospected {v : Option Level} (hv : ∀ l ∈ v, l ≤ 1400) (h : x.InRange) : ({ x with prospective := v } : Slot).InRange := by
  obtain ⟨h1, h2, h3, h4, h5, h6, h7, h8, h9, h10, h11, h12, h13, -⟩ := h
  exact ⟨h1, h2, h3, h4, h5, h6, h7, h8, h9, h10, h11, h12, h13, hv⟩

theorem Slot.InRange.published {v : Level} (hv : v ≤ 1400) (h : x.InRange) : (x.publish v).InRange := by
  obtain ⟨h1, h2, h3, h4, h5, h6, h7, h8, -, -, hrest⟩ := h
  exact ⟨h1, h2, h3, h4, h5, h6, h7, hv, h8, by simp only [Slot.publish]; omega, hrest⟩

theorem slotDefault_inRange : slotDefault.InRange := by decide

end records

theorem foldl_min_le (l : List Int) (b : Int) : l.foldl min b ≤ b := by
  induction l generalizing b with
  | nil => exact le_refl b
  | cons a l ih => exact (ih _).trans (min_le_left b a)

/-- A computed ceiling is at most the stage maximum captured (R115). -/
theorem Capture.ceiling_le (c : Capture) (counted : List SlotId) (i : SlotId) : c.ceiling counted i ≤ (c.slots.get i).stageMax := by
  have hbound : c.least counted i ≤ (c.slots.get i).stageMax := by
    unfold Capture.least
    dsimp only
    refine (foldl_min_le _ _).trans ?_
    split
    · exact min_le_left ..
    · exact le_refl _
  exact Int.toNat_le.2 hbound

namespace State.SlotsFit

variable {s t : State}

theorem of_same (h : s.SlotsFit) (hslots : t.slots = s.slots) (hengine : t.engine = s.engine) : t.SlotsFit :=
  ⟨fun i => by rw [State.slot, hslots]; exact h.slot i, by rw [hengine]; exact h.captured⟩

theorem foldl {α : Type} {f : State → α → State} (hf : ∀ (s : State) a, s.SlotsFit → (f s a).SlotsFit) (h : s.SlotsFit) (l : List α) :
    (l.foldl f s).SlotsFit := by
  induction l generalizing s with
  | nil => exact h
  | cons a l ih => exact ih (hf s a h)

theorem ite {u : State} {c : Prop} [Decidable c] (h : c → t.SlotsFit) (k : ¬c → u.SlotsFit) : (if c then t else u).SlotsFit := by
  split
  · exact h ‹_›
  · exact k ‹_›

/-! ### Slots, notices, copies, triggers -/

theorem updSlot_of (h : s.SlotsFit) {i : SlotId} {f : Slot → Slot} (hf : (f (s.slot i)).InRange) : (s.updSlot i f).SlotsFit where
  slot j := by
    rw [State.slot_updSlot]
    split
    · exact hf
    · exact h.slot j
  captured := h.captured

theorem updSlot (h : s.SlotsFit) (i : SlotId) (f : Slot → Slot) (hf : ∀ x : Slot, x.InRange → (f x).InRange := by exact fun _ hx => hx) :
    (s.updSlot i f).SlotsFit :=
  h.updSlot_of (hf _ (h.slot i))

theorem updSlots (h : s.SlotsFit) {f : Slot → Slot} (hf : ∀ x : Slot, x.InRange → (f x).InRange) : (s.updSlots f).SlotsFit where
  slot j := by rw [State.slot_updSlots]; exact hf _ (h.slot j)
  captured := h.captured

theorem post (h : s.SlotsFit) (n : Notice) : (s.post n).SlotsFit := h.of_same rfl rfl
theorem send (h : s.SlotsFit) (c : Copy) : (s.send c).SlotsFit := by
  rw [State.send_eq]
  exact h.of_same rfl rfl
theorem postStageState (h : s.SlotsFit) (i : SlotId) : (s.postStageState i).SlotsFit := h.post _
theorem postAdmission (h : s.SlotsFit) (i : SlotId) (m : Option Manner) : (s.postAdmission i m).SlotsFit := h.post _

/-- A capture holds the stage maxima of the slots as they stand. -/
theorem capture_stageMax (h : s.SlotsFit) (i : SlotId) : (s.capture.slots.get i).stageMax ≤ 1400 := by
  obtain ⟨-, -, hmax, -⟩ := h.slot i
  simpa [State.capture, Vector.get_eq_getElem] using hmax

theorem beginRecalculation (h : s.SlotsFit) : s.beginRecalculation.SlotsFit := by
  refine ⟨h.slot, fun c hc => ?_⟩
  cases hc
  exact h.capture_stageMax

theorem beginForecast (h : s.SlotsFit) : s.beginForecast.SlotsFit := by
  unfold State.beginForecast
  split
  · refine ⟨h.slot, fun c hc => ?_⟩
    cases hc
    exact h.capture_stageMax
  · exact h

theorem trigger (h : s.SlotsFit) : s.trigger.SlotsFit := by
  unfold State.trigger
  refine ite (fun _ => h) fun _ => ?_
  split
  · exact h.beginRecalculation
  · exact ⟨h.slot, h.captured⟩

theorem triggerIf (h : s.SlotsFit) (c : Bool) : (s.triggerIf c).SlotsFit := ite (fun _ => h.trigger) fun _ => h

theorem chooseNext (h : s.SlotsFit) : s.chooseNext.SlotsFit := by
  unfold State.chooseNext
  refine ite (fun _ => beginRecalculation ⟨h.slot, h.captured⟩) fun _ => ?_
  split
  · exact h.beginForecast
  · exact ⟨h.slot, nofun⟩

theorem reportClamp (h : s.SlotsFit) (i : SlotId) (before : Slot) (event : ClampEvent) (report : Option (Level × Nat × Level)) :
    (s.reportClamp i before event report).SlotsFit := ite (fun _ => h) fun _ => (h.post _).send _

theorem updClamped (h : s.SlotsFit) (i : SlotId) (f : Slot → Slot) (event : ClampEvent) (report : Option (Level × Nat × Level))
    (hf : ∀ x : Slot, x.InRange → (f x).InRange := by exact fun _ hx => hx) : (s.updClamped i f event report).SlotsFit :=
  (h.updSlot i f hf).reportClamp ..

/-! ### The stage table -/

theorem bindSlot (h : s.SlotsFit) (i : SlotId) (p : Port) (id : Identity) : (s.bindSlot i p id).SlotsFit :=
  ((h.updSlot i _ fun _ => Slot.InRange.bound p id).post _).reportClamp ..

theorem unbindSlot (h : s.SlotsFit) (i : SlotId) : (s.unbindSlot i).SlotsFit := ((h.updSlot i _ fun _ => Slot.InRange.unbound).post _).reportClamp ..

theorem emptySlot (h : s.SlotsFit) (i : SlotId) : (s.emptySlot i).SlotsFit := by
  have hdeleted : ((s.updSlot i Slot.emptied).deletePathsOf i).SlotsFit := (h.updSlot i _ fun _ => Slot.InRange.emptied).of_same rfl rfl
  exact (hdeleted.trigger.post _).reportClamp ..

theorem staleSlot (h : s.SlotsFit) (i : SlotId) : (s.staleSlot i).SlotsFit := ite (fun _ => h.updClamped i _ _ _) fun _ => h
theorem staleAll (h : s.SlotsFit) : s.staleAll.SlotsFit := h.foldl (fun _ i h => h.staleSlot i) _
theorem ageSlot (h : s.SlotsFit) (i : SlotId) : (s.ageSlot i).SlotsFit := ite (fun _ => h.emptySlot i) fun _ => h
theorem ageAll (h : s.SlotsFit) : s.ageAll.SlotsFit := h.foldl (fun _ i h => h.ageSlot i) _

theorem releaseSlot (h : s.SlotsFit) (bound : Option SlotId) : (s.releaseSlot bound).SlotsFit := by
  unfold State.releaseSlot
  split
  · exact h
  · split
    · exact h.unbindSlot _
    · exact h.emptySlot _

theorem evictSlot (h : s.SlotsFit) (i : SlotId) : (s.evictSlot i).SlotsFit := by
  unfold State.evictSlot
  split
  · exact ite (fun _ => h.unbindSlot i) fun _ => h
  · exact h.emptySlot i

theorem rekind (h : s.SlotsFit) (i : SlotId) (k : StageKind) : (s.rekind i k).SlotsFit := by
  unfold State.rekind
  split
  · exact h.updSlot i _
  · exact h.emptySlot i
  · exact h.updSlot i _
  · exact h

theorem replaceStage (h : s.SlotsFit) (i : SlotId) (k : StageKind) {weight : Nat} {stageMax : Level} (hweight : 1 ≤ weight ∧ weight ≤ 4)
    (hmax : stageMax ≤ 1400) : (s.replaceStage i k weight stageMax).SlotsFit := by
  have ha : (if (s.slot i).rekindedBy k = true then s.rekind i k else s).SlotsFit := ite (fun _ => h.rekind i k) fun _ => h
  have hb := (ha.updSlot i (fun y => { y with weight := weight, stageMax := stageMax }) fun _ => Slot.InRange.resized hweight hmax).triggerIf ((s.slot i).weight != weight || (s.slot i).stageMax != stageMax)
  exact ite (fun _ => hb.postStageState i) fun _ => hb

theorem returnStage (h : s.SlotsFit) (i : SlotId) : (s.returnStage i).SlotsFit := by
  unfold State.returnStage
  refine ((updSlot ?_ i _ fun _ => Slot.InRange.resized (by decide) (by decide)).trigger).postStageState i
  split
  · exact h.emptySlot i
  · exact h

/-! ### The arbiter -/

theorem setArbiter (h : s.SlotsFit) (a : Arbiter) : ({ s with arbiter := a } : State).SlotsFit := h.of_same rfl rfl
theorem clearDebts (h : s.SlotsFit) : s.clearDebts.SlotsFit := h.updSlots fun _ => id

theorem becomeHead (h : s.SlotsFit) (i : SlotId) : (s.becomeHead i).SlotsFit :=
  (((setArbiter (h.updSlot i _) _).trigger).postStageState i).postAdmission i none

theorem promote (h : s.SlotsFit) : s.promote.SlotsFit := by
  unfold State.promote
  split
  · exact h.setArbiter _
  · exact h.becomeHead _

theorem settleDebtor (h : s.SlotsFit) (i : SlotId) : (s.settleDebtor i).SlotsFit := ite (fun _ => h.updClamped i _ _ _) fun _ => h

theorem grant (h : s.SlotsFit) (m : Manner) : (s.grant m).SlotsFit := by
  unfold State.grant
  split
  · exact h
  · have hsettled := h.foldl (fun _ i h => h.settleDebtor i) allSlots
    exact ((((((hsettled.setArbiter _).setArbiter _).updSlot _ _ fun _ => Slot.InRange.withoutProspective _ _).postAdmission _ _).postStageState _).trigger).promote

theorem debtCleared (h : s.SlotsFit) : s.debtCleared.SlotsFit := by
  unfold State.debtCleared
  refine ite (fun _ => ite (fun _ => h.grant _) fun _ => ?_) fun _ => h
  split
  · exact h.postAdmission ..
  · exact h

theorem leaveLive (h : s.SlotsFit) (i : SlotId) (forced : Bool) : (s.leaveLive i forced).SlotsFit := by
  have hleft := ((h.updClamped i (fun x =>
    { x with
      state := .quiet, debt := false, causes := { x.causes with hasHandover := false }, outcome := if forced then .forcedQuiet else x.outcome }) .leaveLive none).trigger).postStageState i
  have hposted : (if forced = true then _ else _ : State).SlotsFit := ite (fun _ => hleft.postAdmission i none) fun _ => hleft
  exact ite (fun _ => hposted.debtCleared) fun _ => hposted

theorem quietSlot (h : s.SlotsFit) (i : SlotId) (forced : Bool) : (s.quietSlot i forced).SlotsFit := by
  unfold State.quietSlot
  dsimp only
  split
  · exact h.leaveLive i forced
  · exact (((h.setArbiter _).updSlot i _).postStageState i).postAdmission i none
  · exact ((((((h.setArbiter _).clearDebts.setArbiter _).updSlot _ _ fun _ => Slot.InRange.withoutProspective _ _).postStageState i).postAdmission i none).trigger).promote
  · exact h

theorem removeAtCurfew (h : s.SlotsFit) (removed : SlotId → Bool) : (s.removeAtCurfew removed).SlotsFit := by
  have hgone {u : State} (h : u.SlotsFit) (l : List SlotId) : (l.foldl State.refuseCurfew u).SlotsFit :=
    h.foldl (fun _ i h => ((h.updSlot _ _ fun _ => Slot.InRange.withoutProspective _ _).postStageState i).postAdmission i none) l
  have hqueue := h.setArbiter { s.arbiter with queue := s.arbiter.queue.filter fun i => !removed i }
  unfold State.removeAtCurfew
  refine ite (fun _ => ((hgone ?_ _).trigger).promote) fun _ => hgone ?_ _
  all_goals exact ite (fun _ => (hqueue.setArbiter _).clearDebts) fun _ => hqueue

theorem curfewRemoval (h : s.SlotsFit) (removed : SlotId → Bool) : (s.curfewRemoval removed).SlotsFit :=
  (h.removeAtCurfew removed).foldl (fun _ i h => h.ageSlot i) _

theorem pathCreated (h : s.SlotsFit) (i : SlotId) (r : ReceptorId) : (s.pathCreated i r).SlotsFit := by
  unfold State.pathCreated
  split
  · exact ite (fun _ => h.curfewRemoval _) fun _ => h
  · exact h

theorem takePassReport (h : s.SlotsFit) (entering : Option SlotId) (fallen : List SlotId) : (s.takePassReport entering fallen).SlotsFit := by
  unfold State.takePassReport
  split
  · exact h
  · have hdebts := h.foldl (f := State.setDebt) (fun s i h => ite (fun _ => h.updSlot i _) fun _ => h) fallen
    exact ite (fun _ => ite (fun _ => hdebts.grant _) fun _ => (hdebts.setArbiter _).postAdmission ..) fun _ => h

theorem joinQueue (h : s.SlotsFit) (i : SlotId) : (s.joinQueue i).SlotsFit := by
  have hjoined : ((s.updSlot i fun x => { x with outcome := .none }).setQueue (s.arbiter.queue ++ [i])).SlotsFit := setArbiter (h.updSlot i _) _
  exact ite (fun _ => hjoined.becomeHead i) fun _ => ((hjoined.updSlot i _).postStageState i).postAdmission i none

theorem takeReport (h : s.SlotsFit) (a : ReportArgs) {i : SlotId} (hport : (s.slot i).port.isSome = true) : (s.takeReport a i).1.SlotsFit := by
  have hreported := (h.updSlot_of (f := fun y => y.reported s.site (saturate a.level) a.serial)
    ((h.slot i).reported s.site (Nat.min_le_right ..) a.serial hport)).reportClamp i (s.slot i) .report
      (some (saturate a.level, a.serial, (s.slot i).judgementLimit a.serial))
  exact ite (fun _ => hreported.debtCleared) fun _ => hreported

theorem takeQuiet (h : s.SlotsFit) (forced : Bool) (i : SlotId) : (s.takeQuiet forced i).1.SlotsFit :=
  ite (fun _ => h.quietSlot i forced) fun _ => (h.quietSlot i forced).ageSlot i

/-! ### The schedule unit -/

theorem setZone (h : s.SlotsFit) (z : ZoneId) (x : Zone) : (s.setZone z x).SlotsFit := h.of_same rfl rfl
theorem setEffective (h : s.SlotsFit) (z : ZoneId) (v : Level) : (s.setEffective z v).SlotsFit := ite (fun _ => h) fun _ => (h.setZone z _).trigger

theorem setCurfew (h : s.SlotsFit) (z : ZoneId) (st : ZoneState) (fade : Nat) : (s.setCurfew z st fade).SlotsFit :=
  have htriggers := ((h.setZone z { s.zone z with state := st, fade := fade }).triggerIf ((s.zone z).state != st)).triggerIf ((s.zone z).fade != fade)
  ite (fun _ => htriggers.curfewRemoval _) fun _ => htriggers

theorem enterBreakpoint (h : s.SlotsFit) (z : ZoneId) (n : Nat) (limit : Level) : (s.enterBreakpoint z n limit).SlotsFit :=
  ite (fun _ => setEffective (h.setZone z _) z limit) fun _ => h.setZone z _

theorem curfewBreakpoint (h : s.SlotsFit) (z : ZoneId) : (s.curfewBreakpoint z).SlotsFit := by
  unfold State.curfewBreakpoint
  split
  · split
    · exact setCurfew (h.setZone z _) ..
    · exact h
    · exact h.setCurfew ..
  · exact h.setCurfew ..

theorem evaluateZone (h : s.SlotsFit) (z : ZoneId) : (s.evaluateZone z).SlotsFit := by
  have hposted {u : State} (hu : u.SlotsFit) : (u.postZoneIfChanged z (s.zone z)).SlotsFit := ite (fun _ => hu.post _) fun _ => hu
  refine hposted ?_
  split
  · exact setCurfew (setEffective (h.setZone z _) z 0) ..
  · split
    · exact h
    · refine ite (fun _ => ite (fun _ => h.setZone z _) fun _ => h) fun _ => ite (fun _ => ?_) fun _ => ?_
      · exact (h.enterBreakpoint ..).curfewBreakpoint z
      · exact (h.enterBreakpoint ..).setCurfew ..

theorem evaluateZones (h : s.SlotsFit) : s.evaluateZones.SlotsFit := h.foldl (fun _ z h => h.evaluateZone z) _

theorem zoneSecond (h : s.SlotsFit) (z : ZoneId) : (s.zoneSecond z).SlotsFit := by
  have hramped (v : Level) : (if (s.zone z).licence < (s.zone z).effective then s.setEffective z v else s).SlotsFit :=
    ite (fun _ => h.setEffective z v) fun _ => h
  exact ite (fun _ => (ite (fun _ => (hramped _).setCurfew ..) fun _ => hramped _).post _) fun _ =>
    ite (fun _ => (hramped _).setCurfew ..) fun _ => hramped _

theorem zonesAtMinute (zones : List ZoneId) (st : State × List (Level × Nat)) (h : st.1.SlotsFit) : (zones.foldl State.zoneMinute st).1.SlotsFit := by
  induction zones generalizing st with
  | nil => exact h
  | cons z zones ih => exact ih _ (zoneSecond (setZone (h.evaluateZone z) z _) z)

theorem unloadZone (h : s.SlotsFit) (z : ZoneId) : (s.unloadZone z).SlotsFit :=
  (((((h.setZone z zoneDefault).triggerIf _).triggerIf _).triggerIf _).triggerIf _).post _

theorem replaceZone (h : s.SlotsFit) (z : ZoneId) (bps : List Breakpoint) (ramp margin : Nat) : (s.replaceZone z bps ramp margin).SlotsFit :=
  ((triggerIf (h.setZone z _) _).evaluateZone z).post _

/-! ### The engine -/

theorem reportCeiling (h : s.SlotsFit) (c : Capture) (i : SlotId) (computed : Bool) : (s.reportCeiling c i computed).SlotsFit := by
  have hfree : (if c.recalculationSet.contains i then s else { s with freeIndex := s.freeIndex + 1 }).SlotsFit := ite (fun _ => h) fun _ => h.of_same rfl rfl
  exact (hfree.post _).send _

theorem publishSlot {c : Capture} (hc : ∀ i, (c.slots.get i).stageMax ≤ 1400) (h : s.SlotsFit) (i : SlotId) : (State.publishSlot c s i).SlotsFit := by
  have hceiling : c.ceiling c.recalculationSet i ≤ 1400 := (c.ceiling_le _ i).trans (hc i)
  have hnew : s.newPublished c i ≤ 1400 := by
    unfold State.newPublished
    split
    · exact hceiling
    · exact Nat.zero_le _
  have hprospective : ∀ v ∈ s.newProspective c i, v ≤ 1400 := by
    unfold State.newProspective
    obtain ⟨-, -, -, -, -, -, -, -, -, -, -, -, -, hold⟩ := h.slot i
    split
    · rintro _ ⟨⟩
      exact hceiling
    · exact hold
  have ha := h.updSlot i (fun x => { x with prospective := s.newProspective c i }) fun _ => Slot.InRange.prospected hprospective
  exact ite (fun _ => ha) fun _ => (ha.updSlot i _ fun _ => Slot.InRange.published hnew).reportCeiling ..

theorem publish {c : Capture} (hc : ∀ i, (c.slots.get i).stageMax ≤ 1400) (h : s.SlotsFit) : (s.publish c).SlotsFit :=
  h.foldl (fun _ i h => h.publishSlot hc i) _

/-! ### The poller and the compliance unit -/

theorem setReceptor (h : s.SlotsFit) (r : ReceptorId) (x : Option Receptor) : (s.setReceptor r x).SlotsFit := h.of_same rfl rfl
theorem updReceptor (h : s.SlotsFit) (r : ReceptorId) (f : Receptor → Receptor) : (s.updReceptor r f).SlotsFit := h.setReceptor r _
theorem updExcRecord (h : s.SlotsFit) (p : ExcPos) (f : ExcRecord → ExcRecord) : (s.updExcRecord p f).SlotsFit := h.of_same rfl rfl

theorem pollFrom (h : s.SlotsFit) (low second : Nat) : (s.pollFrom low second).SlotsFit := by
  rw [State.pollFrom_eq]
  exact h.of_same rfl rfl

theorem abandonPoll (h : s.SlotsFit) (r : ReceptorId) : (s.abandonPoll r).SlotsFit := by
  rw [State.abandonPoll_eq]
  exact h.of_same rfl rfl

theorem residualHandOff (h : s.SlotsFit) (r : ReceptorId) (level : Level) : (s.residualHandOff r level).SlotsFit := by
  unfold State.residualHandOff
  split
  · exact ite (fun _ => h.setReceptor r _) fun _ => h
  · exact h

theorem openExceedance (h : s.SlotsFit) (r : ReceptorId) (x : Receptor) (minute : Nat) (limit level : Level) :
    (s.openExceedance r x minute limit level).SlotsFit := by
  unfold State.openExceedance
  split
  · exact h
  · refine (((trigger ?_).post _).send _)
    exact h.of_same rfl rfl

theorem closeExceedance (h : s.SlotsFit) (r : ReceptorId) (minute : Nat) (cause : ClosingCause) (c : Bool) :
    (s.closeExceedance r minute cause c).SlotsFit := by
  unfold State.closeExceedance
  split
  · exact h
  · dsimp only
    split
    · exact ((((h.updExcRecord _ _).setReceptor _ _).triggerIf c).post _).send _
    · exact ((h.updExcRecord _ _).setReceptor _ _).triggerIf c

theorem updateStagesOver (h : s.SlotsFit) (r : ReceptorId) : (s.updateStagesOver r).SlotsFit := by
  unfold State.updateStagesOver
  split
  · exact h
  · exact h.updExcRecord ..

theorem judge (h : s.SlotsFit) (r : ReceptorId) (limit grace minute : Nat) : (s.judge r limit grace minute).SlotsFit := by
  have hover := h.updateStagesOver r
  unfold State.judge
  dsimp only
  split
  · exact hover
  · refine ite (fun _ => hover) fun _ => ?_
    split
    · exact hover
    · split
      · exact ite (fun _ => hover.openExceedance ..) fun _ => hover
      · exact ite (fun _ => hover.updExcRecord ..) fun _ => hover.closeExceedance ..

theorem correct (h : s.SlotsFit) (r : ReceptorId) : (s.correct r).SlotsFit := by
  unfold State.correct
  split
  · exact h
  · exact setReceptor (triggerIf (h.setReceptor _ _) _) _ _

theorem closeReceptor (h : s.SlotsFit) (handed : List (Level × Nat)) (minute : Nat) (r : ReceptorId) : (s.closeReceptor handed minute r).SlotsFit := by
  unfold State.closeReceptor
  split
  · exact h
  · exact (((h.setReceptor _ _).send _).correct r).judge ..

theorem pollOutcome (h : s.SlotsFit) (p : Poll) (cls : PollClass) (level : Level) : (s.pollOutcome p cls level).SlotsFit := by
  unfold State.pollOutcome
  split
  · exact h.pollFrom ..
  · rename_i x _
    have ha := (h.setReceptor p.receptor (some (x.heardFrom cls level))).triggerIf (x.station.blind != (x.heardFrom cls level).station.blind)
    have hb : (if x.station = (x.heardFrom cls level).station then _ else _ : State).SlotsFit :=
      ite (fun _ => ha) fun _ => ha.post (stationNotice p.receptor (x.heardFrom cls level))
    have hc : (if cls.taken = true then _ else _ : State).SlotsFit := 
      ite (fun _ => hb.updReceptor p.receptor fun z => { z with accumulator := takeIntoMinute z.accumulator level }) fun _ => hb
    have hd : (if cls = .reply then _ else _ : State).SlotsFit := ite (fun _ => hc.residualHandOff p.receptor level) fun _ => hc
    exact (hd.send _).pollFrom ..

theorem pollEnds (h : s.SlotsFit) (cls : PollClass) (level : Level) : (s.pollEnds cls level).SlotsFit := by
  unfold State.pollEnds
  split
  · exact ite (fun _ => h.pollOutcome ..) fun _ => h
  · exact h

theorem pollAtSecond (h : s.SlotsFit) : s.pollAtSecond.SlotsFit := ite (fun _ => h.pollFrom ..) fun _ => h

theorem secondWork (h : s.SlotsFit) : s.secondWork.SlotsFit :=
  ite (fun _ => h) fun _ => (h.foldl (fun _ z h => h.zoneSecond z) _).pollAtSecond

theorem minuteWork (h : s.SlotsFit) (ended : Nat) : (s.minuteWork ended).SlotsFit :=
  ite (fun _ => h) fun _ => (foldl (fun _ r h => h.closeReceptor _ ended r) (zonesAtMinute allZones (s, []) h) _).pollAtSecond

theorem elapse (h : s.SlotsFit) (n : Nat) (c : Clock) : ({ s.elapse n with clock := c } : State).SlotsFit := by
  have hgrown := h.updSlots fun _ => Slot.InRange.grown n
  exact ⟨hgrown.slot, h.captured⟩

/-! ### The tables -/

theorem replaceSite (h : s.SlotsFit) (x : Site) : (s.replaceSite x).SlotsFit := by
  have hsite : ({ s with site := x } : State).SlotsFit := h.of_same rfl rfl
  exact (((hsite.triggerIf _).post _).staleAll).ageAll

theorem restation (h : s.SlotsFit) (r : ReceptorId) (old : Receptor) (address : Nat) : (s.restation r old address).SlotsFit :=
  (((h.setReceptor _ _).triggerIf _).post _).abandonPoll r

theorem clearCompliance (h : s.SlotsFit) (r : ReceptorId) : (s.clearCompliance r).SlotsFit := by
  unfold State.clearCompliance
  split
  · exact h
  · exact (h.setReceptor _ _).triggerIf _

theorem editReceptor (h : s.SlotsFit) (r : ReceptorId) (old : Receptor) (address : Nat) (z : ZoneId) (floor : Level) :
    (s.editReceptor r old address z floor).SlotsFit := by
  have ha := (h.setReceptor r (some { old with zone := z, floor := floor })).triggerIf (old.zone != z)
  have hb : (if (old.address != address) = true then _ else _ : State).SlotsFit := ite (fun _ => ha.restation r old address) fun _ => ha
  exact ite (fun _ => clearCompliance (ite (fun _ => hb.closeExceedance r _ .receptorEdited true) fun _ => hb) r) fun _ =>
    ite (fun _ => hb.closeExceedance r _ .receptorEdited true) fun _ => hb

theorem removeReceptor (h : s.SlotsFit) (r : ReceptorId) : (s.removeReceptor r).SlotsFit :=
  ((h.closeExceedance ..).setReceptor r none).abandonPoll r

theorem unlinkExceedance (h : s.SlotsFit) (r : ReceptorId) : (s.unlinkExceedance r).SlotsFit :=
  ite (fun _ => (h.updReceptor r _).trigger) fun _ => h

theorem clearExceedances (h : s.SlotsFit) : s.clearExceedances.SlotsFit := by
  have hcleared : ({ s with exceedances := excTableAtReset } : State).SlotsFit := h.of_same rfl rfl
  exact hcleared.foldl (fun _ r h => h.unlinkExceedance r) _

theorem clearPaths (h : s.SlotsFit) : s.clearPaths.SlotsFit := by
  have hcleared : ({ s with paths := Vector.replicate 64 none } : State).SlotsFit := h.of_same rfl rfl
  exact hcleared.triggerIf _

theorem clearTable (h : s.SlotsFit) (k : Table) : (s.clearTable k).1.SlotsFit := by
  unfold State.clearTable
  cases k <;> dsimp only
  · exact h.replaceSite _
  · exact foldl (f := State.unloadZone) (fun _ z h => h.unloadZone z) h _
  · exact foldl (f := State.removeReceptor) (fun _ r h => h.removeReceptor r) h _
  · exact foldl (f := State.returnStage) (fun _ i h => h.returnStage i) h _
  · exact h.clearPaths
  · exact h.clearExceedances
  · exact h

end State.SlotsFit

end Sys2Proof.Machine
end

section
/-! SUPPORT. The zone records stay sound through the schedule unit's work (R23 to R30). -/

namespace Sys2Proof.Machine

/-- A zone record in its ranges, its fade offset and its state together, its breakpoints ascending. -/
abbrev Zone.Sound (x : Zone) : Prop := x.FadeSound ∧ x.InRange ∧ BreakpointsSound x.breakpoints

section records
variable {x : Zone}

theorem zoneDefault_sound : zoneDefault.Sound := by decide

/-- The state and the fade offset that a curfew flag gives go together (R25, Table 2-3). -/
theorem Zone.fadeSound_curfew (mode : Mode) (curfew : Bool) (h : x.FadeSound) :
    ({ x with state := curfewState mode curfew x.state, fade := curfewFade mode curfew x.state x.fade } : Zone).FadeSound := by
  obtain ⟨-, hfading, -⟩ := h
  unfold Zone.FadeSound curfewState curfewFade
  cases curfew
  case false => simp
  case true =>
    by_cases hmode : mode = .enforce
    · cases hstate : x.state
      case opened => simp [hmode]
      case fading => simp [hmode, hfading hstate]
      case silenced => simp [hmode]
    · simp [hmode]

theorem graceAfter_le {mode : Mode} {old new : Level} {grace : Nat} (h : grace ≤ 15) : graceAfter mode old new grace ≤ 15 := by
  unfold graceAfter
  split
  · exact le_refl 15
  · exact h

theorem curfewGrace_le {mode : Mode} {curfew : Bool} {st : ZoneState} {grace : Nat} (h : grace ≤ 15) : curfewGrace mode curfew st grace ≤ 15 := by
  unfold curfewGrace
  split
  · exact le_refl 15
  · exact h

theorem Zone.Sound.entered {bp : Breakpoint} (mode : Mode) (k : Nat) (hlimit : bp.limit ≤ 1400) (h : x.Sound) : (x.entered mode k bp).Sound := by
  obtain ⟨hfade, ⟨-, heffective, hgrace, hrange⟩, hbps⟩ := h
  exact ⟨Zone.fadeSound_curfew mode bp.curfew hfade,
    ⟨le_max_right _ _, max_le heffective hlimit, curfewGrace_le (graceAfter_le hgrace), hrange⟩, hbps⟩

theorem Zone.Sound.evaluated (mode : Mode) (minute : Nat) (h : x.Sound) : (x.evaluated mode minute).Sound := by
  obtain ⟨hfade, ⟨hlicence, heffective, hgrace, hrange⟩, hbps⟩ := id h
  unfold Zone.evaluated
  split
  · exact ⟨⟨fun _ => rfl, nofun, nofun⟩, ⟨le_refl 0, Nat.zero_le _, hgrace, hrange⟩, hbps⟩
  · split
    · exact h
    next bp hbp =>
      have hlimit : bp.limit ≤ 1400 := (hbps.2.2 bp (List.mem_of_getElem? hbp)).2
      split
      · split
        next hlow =>
          refine ⟨hfade, ⟨hlow.le.trans hlicence, heffective, ?_, hrange⟩, hbps⟩
          dsimp only
          split
          · exact le_refl 15
          · exact hgrace
        · exact h
      · exact h.entered mode _ hlimit

theorem Zone.Sound.rewritten {bps : List Breakpoint} {ramp margin : Nat} (mode : Mode) (hbps : BreakpointsSound bps) (hramp : 1 ≤ ramp ∧ ramp ≤ 50)
    (hmargin : margin ≤ 60) (h : x.Sound) : (x.rewritten mode bps ramp margin).Sound := by
  obtain ⟨hfade, ⟨hlicence, heffective, hgrace, -⟩, -⟩ := h
  exact ⟨hfade, ⟨hlicence, heffective, hgrace, hramp.1, hramp.2, hmargin⟩, hbps⟩

theorem Zone.Sound.withGrace {grace : Nat} (hgrace : grace ≤ 15) (h : x.Sound) : ({ x with grace := grace } : Zone).Sound := by
  obtain ⟨hfade, ⟨hlicence, heffective, -, hrange⟩, hbps⟩ := h
  exact ⟨hfade, ⟨hlicence, heffective, hgrace, hrange⟩, hbps⟩

theorem Zone.Sound.afterSecond (h : x.Sound) : x.afterSecond.Sound := by
  obtain ⟨⟨hopened, hfading, hsilenced⟩, ⟨hlicence, heffective, hgrace, hrange⟩, hbps⟩ := h
  refine ⟨?_, ⟨?_, ?_, hgrace, hrange⟩, hbps⟩
  · unfold Zone.FadeSound Zone.afterSecond
    dsimp only
    by_cases hf : x.state = .fading
    · have hstep : limitedStep x.fade 600 x.rampRate 0 = min 600 (x.fade + x.rampRate) := limitedStep_of_lt (hfading hf) ..
      simp only [hf, true_and, if_true, hstep]
      by_cases hend : min 600 (x.fade + x.rampRate) = 600
      · simp [hend]
      · simp only [hend, if_false, reduceCtorEq, IsEmpty.forall_iff, true_and, and_true, forall_const]
        omega
    · simp only [hf, false_and, if_false]
      exact ⟨hopened, False.elim, hsilenced⟩
  · dsimp only [Zone.afterSecond]
    split
    next hlt => rw [limitedStep_of_gt hlt]; exact le_max_left ..
    next => exact hlicence
  · dsimp only [Zone.afterSecond]
    split
    next hlt =>
      rw [limitedStep_of_gt hlt]
      exact max_le (hlicence.trans heffective) ((Nat.sub_le ..).trans heffective)
    next => exact heffective

end records

/-! ### The zones of a state -/

section zones
variable {s t : State} {z : ZoneId}

theorem zonesSound_of_eq (h : s.ZonesSound) (hzones : t.zones = s.zones) : t.ZonesSound := fun w => by
  rw [State.zone, hzones]
  exact h w

/-- A zone takes a sound record, and the others stay as they were. -/
theorem zonesSound_of_one (h : s.ZonesSound) (hz : (t.zone z).Sound) (hother : ∀ w, w ≠ z → t.zone w = s.zone w) : t.ZonesSound := fun w => by
  by_cases hw : w = z
  · exact hw ▸ hz
  · rw [hother w hw]
    exact h w

theorem zonesSound_foldl {α : Type} {f : State → α → State} (hf : ∀ (s : State) a, s.ZonesSound → (f s a).ZonesSound) (l : List α) (h : s.ZonesSound) :
    (l.foldl f s).ZonesSound := by
  induction l generalizing s with
  | nil => exact h
  | cons a l ih => exact ih (hf s a h)

theorem zonesSound_setZone {x : Zone} (h : s.ZonesSound) (hx : x.Sound) : (s.setZone z x).ZonesSound :=
  zonesSound_of_one h (by rwa [State.zone_setZone_same]) fun w hw => State.zone_setZone_ne s z w x hw

theorem zonesSound_evaluateZone (h : s.ZonesSound) (z : ZoneId) : (s.evaluateZone z).ZonesSound :=
  zonesSound_of_one h (by rw [State.evaluateZone_zone_same]; exact Zone.Sound.evaluated _ _ (h z)) fun _ hw => s.evaluateZone_zone_ne hw

theorem zonesSound_evaluateZones (h : s.ZonesSound) : s.evaluateZones.ZonesSound := zonesSound_foldl (fun _ z h => zonesSound_evaluateZone h z) _ h

theorem zonesSound_zoneSecond (hmode : s.mode ≠ .boot) (h : s.ZonesSound) (z : ZoneId) : (s.zoneSecond z).ZonesSound := by
  obtain ⟨a, ha, heq⟩ := State.zoneSecond_eq hmode z
  have hsound : a.ZonesSound := zonesSound_of_one h (by rw [ha.zone_same]; exact Zone.Sound.afterSecond (h z)) fun w hw => ha.zone_ne hw
  rw [heq]
  split
  · exact zonesSound_of_eq hsound rfl
  · exact hsound

theorem zonesSound_zonesAtSecond (l : List ZoneId) (hmode : s.mode ≠ .boot) (h : s.ZonesSound) : (l.foldl State.zoneSecond s).ZonesSound := by
  induction l generalizing s with
  | nil => exact h
  | cons z l ih => exact ih ((ZoneFrame.of_zoneSecond s z).mode_eq ▸ hmode) (zonesSound_zoneSecond hmode h z)

/-- The minute-boundary work of a zone leaves everything but the zones, the slots, the paths, the engine, the arbiter and what it posts. -/
theorem ZoneFrame.of_zoneMinute (st : State × List (Level × Nat)) (z : ZoneId) : ZoneFrame st.1 (State.zoneMinute st z).1 :=
  (ZoneFrame.of_evaluateZone ..).trans ((ZoneFrame.of_updZone ..).trans (ZoneFrame.of_zoneSecond ..))

theorem ZoneFrame.of_zonesAtMinute (l : List ZoneId) (st : State × List (Level × Nat)) : ZoneFrame st.1 (l.foldl State.zoneMinute st).1 := by
  induction l generalizing st with
  | nil => exact ZoneFrame.refl _
  | cons z l ih => exact (ZoneFrame.of_zoneMinute st z).trans (ih _)

theorem zonesSound_zonesAtMinute (l : List ZoneId) (st : State × List (Level × Nat)) (hmode : st.1.mode ≠ .boot) (h : st.1.ZonesSound) :
    (l.foldl State.zoneMinute st).1.ZonesSound := by
  induction l generalizing st with
  | nil => exact h
  | cons z l ih =>
    have heval := zonesSound_evaluateZone h z
    obtain ⟨-, ⟨-, -, hgrace, -⟩, -⟩ := heval z
    have hlowered : ((st.1.evaluateZone z).updZone z fun x => { x with grace := x.grace - 1 }).ZonesSound :=
      zonesSound_setZone heval (Zone.Sound.withGrace ((Nat.sub_le ..).trans hgrace) (heval z))
    have hmode' : ((st.1.evaluateZone z).updZone z fun x => { x with grace := x.grace - 1 }).mode ≠ .boot := by
      rw [((ZoneFrame.of_evaluateZone st.1 z).trans (ZoneFrame.of_updZone ..)).mode_eq]
      exact hmode
    exact ih _ ((ZoneFrame.of_zoneMinute st z).mode_eq ▸ hmode) (zonesSound_zoneSecond hmode' hlowered z)

theorem zonesSound_unloadZone (h : s.ZonesSound) (z : ZoneId) : (s.unloadZone z).ZonesSound := by
  obtain ⟨u, hu, heq⟩ := s.unloadZone_set z
  rw [heq]
  exact zonesSound_of_eq (zonesSound_of_one h (by rw [hu.zone_same]; exact zoneDefault_sound) fun w hw => hu.zone_ne hw) rfl

theorem zonesSound_replaceZone {bps : List Breakpoint} {ramp margin : Nat} (hbps : BreakpointsSound bps) (hramp : 1 ≤ ramp ∧ ramp ≤ 50)
    (hmargin : margin ≤ 60) (h : s.ZonesSound) (z : ZoneId) : (s.replaceZone z bps ramp margin).ZonesSound := by
  obtain ⟨u, ns, hu, heq⟩ := s.replaceZone_handed z bps ramp margin
  rw [heq]
  refine zonesSound_of_eq (s := u) (zonesSound_of_one h ?_ fun w hw => hu.zone_ne hw) rfl
  rw [hu.zone_same]
  exact (Zone.Sound.rewritten s.mode hbps hramp hmargin (h z)).evaluated ..

end zones

/-! ### The contents of a section as stored (R175) -/

section contents

theorem Memory.take_bytes (m : Memory) (a n k : Nat) : (m.bytes a (n + k)).take n = m.bytes a n := by
  simp [Memory.bytes, List.range_add]

theorem Memory.drop_bytes (m : Memory) (a n k : Nat) : (m.bytes a (n + k)).drop n = m.bytes (a + n) k := by
  simp [Memory.bytes, List.range_add, Function.comp_def, Nat.add_assoc]

theorem Memory.byteAt_bytes (m : Memory) {a n k : Nat} (h : k < n) : byteAt (m.bytes a n) k = m.value (a + k) := by
  simp [byteAt, Memory.value, Memory.bytes, List.getD_eq_getElem?_getD, h]

/-- Every entry of zones whose lengths are as stored counts eight breakpoints at most. -/
theorem zoneEntries_count (m : Memory) {a k n : Nat} (h : zoneRecordsLength m a k = some n) : ∀ e ∈ zoneEntries k (m.bytes a n), byteAt e 3 ≤ 8 := by
  induction k generalizing a n with
  | zero => simp [zoneEntries]
  | succ k ih =>
    unfold zoneRecordsLength at h
    dsimp only at h
    split at h
    · cases h
    next hcount =>
      obtain ⟨rest, hrest, rfl⟩ := Option.map_eq_some_iff.1 h
      have hthird : byteAt (m.bytes a (4 + 5 * m.value (a + 3) + rest)) 3 = m.value (a + 3) := m.byteAt_bytes (by omega)
      unfold zoneEntries
      dsimp only
      rw [hthird, m.take_bytes, m.drop_bytes]
      refine List.forall_mem_cons.2 ⟨?_, ih hrest⟩
      rw [m.byteAt_bytes (by omega)]
      omega

/-- The contents of a ZONES section that is LOADED count eight breakpoints at most in each entry. -/
theorem readSection_zones_count {m : Memory} (h : (readSection m .zones).1 = .loaded) :
    ∀ e ∈ zoneEntries (byteAt (readSection m .zones).2 0) ((readSection m .zones).2.drop 1), byteAt e 3 ≤ 8 := by
  unfold readSection at h ⊢
  dsimp only at h ⊢
  split at h
  · cases h
  next hmarked =>
    split at h
    · cases h
    next n hlength =>
      split at h
      next hcrc =>
        simp only [hmarked, if_false, hcrc, if_true]
        unfold sectionLength at hlength
        dsimp only at hlength
        split at hlength
        · cases hlength
        · obtain ⟨rest, hrest, rfl⟩ := Option.map_eq_some_iff.1 hlength
          rw [m.byteAt_bytes (by omega), m.drop_bytes, Nat.add_zero]
          exact zoneEntries_count m hrest
      · cases h

end contents

/-! ### The breakpoints of an entry (R176) -/

/-- What has been kept of an entry's breakpoints: each in its ranges, at minutes all seen and different. -/
structure KeptBreakpoints.Sound (k : KeptBreakpoints) (n : Nat) : Prop where
  count : k.kept.length ≤ n
  distinct : k.kept.Pairwise fun a b => a.minute ≠ b.minute
  seen : ∀ b ∈ k.kept, b.minute ∈ k.seen
  range : ∀ b ∈ k.kept, b.minute ≤ 1439 ∧ b.limit ≤ 1400

theorem KeptBreakpoints.Sound.take {k : KeptBreakpoints} {n : Nat} (h : k.Sound n) (bs : List Byte) : (takeBreakpoint k bs).Sound (n + 1) := by
  obtain ⟨hcount, hdistinct, hseen, hrange⟩ := h
  have hskipped : ∀ b ∈ k.kept, b.minute ∈ wordAt bs 0 :: k.seen := fun b hb => List.mem_cons_of_mem _ (hseen b hb)
  unfold takeBreakpoint
  dsimp only
  split
  · exact ⟨by dsimp only; omega, hdistinct, hskipped, hrange⟩
  · split
    · exact ⟨by dsimp only; omega, hdistinct, hskipped, hrange⟩
    next hkeep =>
      rw [not_or, List.contains_iff_mem, not_lt] at hkeep
      obtain ⟨hminute, hnew⟩ := hkeep
      refine ⟨by simpa using hcount, ?_, ?_, ?_⟩
      · refine List.pairwise_append.2 ⟨hdistinct, List.pairwise_singleton .., fun b hb c hc he => hnew ?_⟩
        obtain rfl := List.mem_singleton.1 hc
        dsimp only at he
        exact he ▸ hseen b hb
      · intro b hb
        rcases List.mem_append.1 hb with hb | hb
        · exact hskipped b hb
        · rw [List.mem_singleton.1 hb]
          exact List.mem_cons_self
      · intro b hb
        rcases List.mem_append.1 hb with hb | hb
        · exact hrange b hb
        · rw [List.mem_singleton.1 hb]
          exact ⟨hminute, (clampNat_bounds (by omega) _).2⟩

theorem length_entriesOf (size n : Nat) (bs : List Byte) : (entriesOf size n bs).length = n := by
  induction n generalizing bs with
  | zero => rfl
  | succ n ih => simp [entriesOf, ih]

theorem takeBreakpoints_sound (bs : List Byte) : (takeBreakpoints bs).Sound (byteAt bs 3) := by
  have h (l : List (List Byte)) (k : KeptBreakpoints) (n : Nat) (hk : k.Sound n) : (l.foldl takeBreakpoint k).Sound (n + l.length) := by
    induction l generalizing k n with
    | nil => exact hk
    | cons e l ih =>
      have := ih _ _ (hk.take e)
      rwa [Nat.add_assoc, Nat.add_comm 1] at this
  have hall := h (entriesOf 5 (byteAt bs 3) (bs.drop 4)) { kept := [], seen := [], clamped := 0, skipped := 0 } 0
    ⟨le_refl 0, List.Pairwise.nil, nofun, nofun⟩
  rwa [length_entriesOf, Nat.zero_add] at hall

/-- The breakpoints of an entry that counts eight at most are sound once sorted. -/
theorem breakpointsSound_taken {bs : List Byte} (h : byteAt bs 3 ≤ 8) : BreakpointsSound (sortBreakpoints (takeBreakpoints bs).kept) := by
  obtain ⟨hcount, hdistinct, -, hrange⟩ := takeBreakpoints_sound bs
  obtain ⟨hsorted, hlength, hmem⟩ := sortBreakpoints_spec hdistinct
  exact ⟨hlength.trans_le (hcount.trans h), hsorted, fun b hb => hrange b ((hmem b).1 hb)⟩

/-! ### The load -/

theorem loadZone_zonesSound {before : List (List Byte)} {l : Loading} {bs : List Byte} (hcount : byteAt bs 3 ≤ 8) (h : l.state.ZonesSound) :
    (loadZone before l bs).state.ZonesSound := by
  unfold loadZone
  split
  · exact h
  next z _ =>
    split
    · exact h
    · obtain ⟨hfade, ⟨hlicence, heffective, hgrace, -⟩, -⟩ := h z
      refine zonesSound_setZone h ⟨hfade, ⟨hlicence, heffective, hgrace, ?_⟩, breakpointsSound_taken hcount⟩
      exact ⟨(clampNat_bounds (by omega) _).1, (clampNat_bounds (by omega) _).2, (clampNat_bounds (by omega) _).2⟩

theorem loadZones_zonesSound {es : List (List Byte)} (hcount : ∀ e ∈ es, byteAt e 3 ≤ 8) {before : List (List Byte)} {l : Loading} (h : l.state.ZonesSound) :
    (loadEntries loadZone before l es).state.ZonesSound := by
  induction es generalizing before l with
  | nil => exact h
  | cons e es ih =>
    obtain ⟨he, hes⟩ := List.forall_mem_cons.1 hcount
    exact ih hes (loadZone_zonesSound he h)

theorem loadEntries_zones {f : List (List Byte) → Loading → List Byte → Loading} (hf : ∀ before l e, (f before l e).state.zones = l.state.zones)
    (before : List (List Byte)) (l : Loading) (es : List (List Byte)) : (loadEntries f before l es).state.zones = l.state.zones := by
  induction es generalizing before l with
  | nil => rfl
  | cons e es ih => exact (ih _ _).trans (hf before l e)

theorem loadReceptor_zones (before : List (List Byte)) (l : Loading) (bs : List Byte) : (loadReceptor before l bs).state.zones = l.state.zones := by
  obtain hskip | ⟨r, z, floor, -, -, -, -, -, -, hstate⟩ := loadReceptor_cases before l bs
  · rw [hskip]; rfl
  · rw [hstate]; rfl

theorem loadStage_zones (before : List (List Byte)) (l : Loading) (bs : List Byte) : (loadStage before l bs).state.zones = l.state.zones := by
  obtain hskip | ⟨i, weight, stageMax, -, -, -, -, hstate⟩ := loadStage_cases before l bs
  · rw [hskip]; rfl
  · rw [hstate]; rfl

theorem loadPath_zones (before : List (List Byte)) (l : Loading) (bs : List Byte) : (loadPath before l bs).state.zones = l.state.zones := by
  obtain hskip | ⟨i, r, p, loss, -, -, -, -, -, -, -, hstate⟩ := loadPath_cases before l bs
  · rw [hskip]; rfl
  · rw [hstate]; rfl

theorem loadSection_zonesSound {l : Loading} (sec : Section) (h : l.state.ZonesSound) : (loadSection l sec).state.ZonesSound := by
  unfold loadSection
  dsimp only
  split
  next hloaded =>
    cases sec
    case site => exact zonesSound_of_eq h rfl
    case zones => exact loadZones_zonesSound (readSection_zones_count hloaded) h
    case receptors => exact zonesSound_of_eq h (loadEntries_zones loadReceptor_zones ..)
    case stages => exact zonesSound_of_eq h (loadEntries_zones loadStage_zones ..)
    case paths => exact zonesSound_of_eq h (loadEntries_zones loadPath_zones ..)
    case witness => exact zonesSound_of_eq h rfl
  · exact h

/-- What holds when a load begins, and is kept by each section, holds at its end. -/
theorem State.load_induction {P : Loading → Prop} {s : State} (h : P { state := s, clamped := 0, skipped := 0 })
    (hstep : ∀ l sec, P l → P (loadSection l sec)) : P s.load := by
  have hall (secs : List Section) (l : Loading) (hl : P l) : P (secs.foldl loadSection l) := by
    induction secs generalizing l with
    | nil => exact hl
    | cons sec secs ih => exact ih _ (hstep l sec hl)
  exact hall allSections _ h

theorem State.load_zonesSound {s : State} (h : s.ZonesSound) : s.load.state.ZonesSound :=
  State.load_induction (P := fun l => l.state.ZonesSound) h fun _ sec hl => loadSection_zonesSound sec hl

/-- A FIXED slot of the image takes a record in range. -/
theorem loadStage_slotsFit (before : List (List Byte)) (l : Loading) (bs : List Byte) (h : l.state.SlotsFit) : (loadStage before l bs).state.SlotsFit := by
  obtain hskip | ⟨i, weight, stageMax, -, hweight, hmax, -, hstate⟩ := loadStage_cases before l bs
  · rw [hskip]; exact h
  · rw [hstate]
    exact h.updSlot_of (f := fun _ => _) (Slot.InRange.resized (x := { slotDefault with kind := .fixed, state := .quiet, identity := some (identityOf bs) })
      hweight hmax slotDefault_inRange)

theorem loadSection_slotsFit {l : Loading} (sec : Section) (h : l.state.SlotsFit) : (loadSection l sec).state.SlotsFit := by
  refine loadSection_of_contents (P := fun l => l.state.SlotsFit) sec h fun bs => ?_
  have hentries {f : List (List Byte) → Loading → List Byte → Loading} (hf : ∀ before l e, l.state.SlotsFit → (f before l e).state.SlotsFit)
      (es : List (List Byte)) : (loadEntries f [] l es).state.SlotsFit :=
    loadEntries_induction (P := fun _ k => k.state.SlotsFit) (fun before k e hk => hf before k e hk) (before := []) h es
  cases sec
  case site => exact h.of_same rfl rfl
  case zones =>
    refine hentries (fun before k e hk => ?_) _
    unfold loadZone
    split
    · exact hk
    · split
      · exact hk
      · exact hk.setZone ..
  case receptors =>
    refine hentries (fun before k e hk => ?_) _
    obtain hskip | ⟨r, z, floor, -, -, -, -, -, -, hstate⟩ := loadReceptor_cases before k e
    · rw [hskip]; exact hk
    · rw [hstate]; exact hk.setReceptor ..
  case stages => exact hentries loadStage_slotsFit _
  case paths =>
    refine hentries (fun before k e hk => ?_) _
    obtain hskip | ⟨i, r, p, loss, -, -, -, -, -, -, -, hstate⟩ := loadPath_cases before k e
    · rw [hskip]; exact hk
    · rw [hstate]; exact hk.of_same rfl rfl
  case witness => exact h.of_same rfl rfl

theorem State.load_slotsFit {s : State} (h : s.SlotsFit) : s.load.state.SlotsFit :=
  State.load_induction (P := fun l => l.state.SlotsFit) h fun _ sec hl => loadSection_slotsFit sec hl

end Sys2Proof.Machine
end

section
/-! SUPPORT. The receptor records stay in their ranges, and the exceedance table with its links sound, through the work of the bus poller and of the
compliance unit (R35, R41, R44 to R47, R57, R58, R61). -/

namespace Sys2Proof.Machine

/-! ### One receptor record -/

section records
variable {x : Receptor}

theorem receptorCreated_sound {address : Nat} (z : ZoneId) {floor : Level} (haddress : 1 ≤ address ∧ address ≤ 31) (hfloor : floor ≤ 1400) :
    (receptorCreated address z floor).Sound :=
  ⟨haddress.1, haddress.2, hfloor, Nat.zero_le _, by simp [receptorCreated], nofun, Nat.zero_le _, nofun, nofun, nofun,
    ⟨Nat.zero_le _, le_refl _, le_refl _⟩, Nat.zero_le _⟩

theorem Receptor.Sound.unlinked {q : Option ExcPos} (h : x.Sound) : ({ x with exceedance := q } : Receptor).Sound := h

theorem Receptor.Sound.moved {floor : Level} (z : ZoneId) (hfloor : floor ≤ 1400) (h : x.Sound) : ({ x with zone := z, floor := floor } : Receptor).Sound := by
  obtain ⟨hlow, hhigh, -, hrest⟩ := h
  exact ⟨hlow, hhigh, hfloor, hrest⟩

theorem Receptor.Sound.restationed {address : Nat} (haddress : 1 ≤ address ∧ address ≤ 31) (h : x.Sound) : (x.restationed address).Sound := by
  obtain ⟨-, -, hfloor, -, -, -, -, -, -, -, hrest⟩ := h
  exact ⟨haddress.1, haddress.2, hfloor, Nat.zero_le _, by simp [Receptor.restationed], nofun, Nat.zero_le _, nofun, nofun, nofun, hrest⟩

theorem Receptor.Sound.residual_inRange (h : x.Sound) : x.residual.InRange := by
  obtain ⟨-, -, -, -, -, -, -, -, -, -, hresidual, -⟩ := h
  exact hresidual

theorem Receptor.Sound.correction_le (h : x.Sound) : x.correction ≤ 120 := by
  obtain ⟨-, -, -, -, -, -, -, -, -, -, -, hcorrection⟩ := h
  exact hcorrection

theorem Receptor.Sound.withCompliance {residual : Residual} {correction : Nat} (hresidual : residual.InRange) (hcorrection : correction ≤ 120) (h : x.Sound) :
    ({ x with residual := residual, correction := correction } : Receptor).Sound := by
  obtain ⟨h1, h2, h3, h4, h5, h6, h7, h8, h9, h10, -, -⟩ := h
  exact ⟨h1, h2, h3, h4, h5, h6, h7, h8, h9, h10, hresidual, hcorrection⟩

theorem residual_cleared : ({ sum := 0, count := 0 } : Residual).InRange := by decide

/-- An outcome leaves a station LOST exactly at 3 misses (Table 3-3). -/
theorem stationAfter_spec (cls : PollClass) {st : StationState} {misses : Nat} (hmisses : misses ≤ 3) (hlost : st = .lost ↔ misses = 3) :
    (stationAfter cls st misses).2 ≤ 3 ∧ ((stationAfter cls st misses).1 = .lost ↔ (stationAfter cls st misses).2 = 3) := by
  have hmiss : (if 2 ≤ misses then (StationState.lost, 3) else (st, misses + 1)).2 ≤ 3 ∧
      ((if 2 ≤ misses then (StationState.lost, 3) else (st, misses + 1)).1 = .lost ↔ (if 2 ≤ misses then (StationState.lost, 3) else (st, misses + 1)).2 = 3) := by
    split
    · simp
    next hfew =>
      refine ⟨by dsimp only; omega, ?_⟩
      dsimp only
      rw [hlost]
      omega
  cases cls
  case reply => simp [stationAfter]
  case replyWind => simp [stationAfter]
  case replyCalibrating => simp [stationAfter]
  all_goals exact hmiss

theorem Receptor.Sound.heardFrom (cls : PollClass) {level : Level} (hlevel : level ≤ 1400) (h : x.Sound) : (x.heardFrom cls level).Sound := by
  obtain ⟨h1, h2, h3, hmisses, hlost, h6, h7, h8, h9, hlast, h11, h12⟩ := h
  obtain ⟨hmisses', hlost'⟩ := stationAfter_spec cls hmisses hlost
  refine ⟨h1, h2, h3, hmisses', hlost', h6, h7, h8, h9, ?_, h11, h12⟩
  dsimp only [Receptor.heardFrom]
  split
  · rintro _ ⟨⟩
    exact hlevel
  · exact hlast

theorem takeIntoMinute_bounds {a : Option Accumulator} {level : Level} (hlevel : level ≤ 1400) (h : ∀ b ∈ a, b.level ≤ 1400 ∧ 1 ≤ b.count ∧ b.count ≤ 30) :
    ∀ b ∈ takeIntoMinute a level, b.level ≤ 1400 ∧ 1 ≤ b.count ∧ b.count ≤ 30 := by
  unfold takeIntoMinute
  split
  · rintro _ ⟨⟩
    exact ⟨hlevel, le_refl 1, by dsimp only; omega⟩
  · split
    next hroom =>
      rintro _ ⟨⟩
      exact ⟨powerSum_le .., by dsimp only; omega, by dsimp only; omega⟩
    · exact h

theorem Receptor.Sound.minuteTaken (cls : PollClass) {level : Level} (hlevel : level ≤ 1400) (h : x.Sound) : (x.minuteTaken cls level).Sound := by
  unfold Receptor.minuteTaken
  split
  · obtain ⟨h1, h2, h3, h4, h5, haccumulator, hrest⟩ := h
    exact ⟨h1, h2, h3, h4, h5, takeIntoMinute_bounds hlevel haccumulator, hrest⟩
  · exact h

theorem Receptor.Sound.sampled {predicted : Option Level} {level : Level} (hlevel : level ≤ 1400) (hpredicted : ∀ v ∈ predicted, v ≤ 1400) (h : x.Sound) :
    (x.sampled predicted level).Sound := by
  unfold Receptor.sampled
  cases predicted with
  | none => exact h
  | some p =>
    have hp : p ≤ 1400 := hpredicted p rfl
    dsimp only
    split
    next hsample =>
      obtain ⟨h1, h2, h3, h4, h5, h6, h7, h8, h9, h10, ⟨hcount, hlow, hhigh⟩, h12⟩ := h
      refine ⟨h1, h2, h3, h4, h5, h6, h7, h8, h9, h10, ⟨hsample.2, ?_, ?_⟩, h12⟩
      all_goals
        dsimp only
        push_cast
        have hl : (level : Int) ≤ 1400 := Int.ofNat_le.2 hlevel
        have hq : (p : Int) ≤ 1400 := Int.ofNat_le.2 hp
        have hl0 : (0 : Int) ≤ level := Int.natCast_nonneg _
        have hq0 : (0 : Int) ≤ p := Int.natCast_nonneg _
        linarith
    · exact h

theorem Receptor.Sound.polled (cls : PollClass) {level : Level} {predicted : Option Level} (hlevel : level ≤ 1400) (hpredicted : ∀ v ∈ predicted, v ≤ 1400)
    (h : x.Sound) : (x.polled cls level predicted).Sound := by
  have htaken := (h.heardFrom cls hlevel).minuteTaken cls hlevel
  unfold Receptor.polled
  dsimp only
  split
  · exact htaken.sampled hlevel hpredicted
  · exact htaken

theorem Receptor.minuteTaken_keeps (x : Receptor) (cls : PollClass) (level : Level) :
    (x.minuteTaken cls level).address = x.address ∧ (x.minuteTaken cls level).exceedance = x.exceedance := by
  unfold Receptor.minuteTaken
  split <;> exact ⟨rfl, rfl⟩

/-- An outcome leaves a receptor's station address and its open exceedance. -/
theorem Receptor.polled_keeps (x : Receptor) (cls : PollClass) (level : Level) (predicted : Option Level) :
    (x.polled cls level predicted).address = x.address ∧ (x.polled cls level predicted).exceedance = x.exceedance := by
  obtain ⟨haddress, hexceedance⟩ := (x.heardFrom cls level).minuteTaken_keeps cls level
  unfold Receptor.polled
  dsimp only
  split
  · exact ⟨haddress, hexceedance⟩
  · exact ⟨haddress, hexceedance⟩

theorem averageOfFold_le {v : Level} (h : v ≤ 1400) (n : Nat) : averageOfFold v n ≤ 1400 := (Nat.sub_le ..).trans h

theorem Receptor.Sound.minuteRecord_inRange {minute : Nat} (hminute : minute < 1440) (h : x.Sound) : (x.minuteRecord minute).InRange := by
  obtain ⟨-, -, -, -, -, haccumulator, -⟩ := h
  unfold Receptor.minuteRecord
  split
  next a ha =>
    obtain ⟨hlevel, -, hcount⟩ := haccumulator a ha
    refine ⟨hminute, ?_, hcount⟩
    dsimp only
    split
    · rintro _ ⟨⟩
      exact averageOfFold_le hlevel _
    · exact nofun
  · exact ⟨hminute, nofun, Nat.zero_le _⟩

theorem length_joinRing {ring : List MinuteRecord} (h : ring.length ≤ 15) (m : MinuteRecord) : (joinRing ring m).length ≤ 15 := by
  unfold joinRing
  split <;> simp <;> omega

theorem mem_joinRing {ring : List MinuteRecord} {m a : MinuteRecord} (h : a ∈ joinRing ring m) : a = m ∨ a ∈ ring := by
  unfold joinRing at h
  rcases List.mem_append.1 h with h | h
  · split at h
    · exact .inr h
    · exact .inr (List.mem_of_mem_drop h)
  · exact .inl (List.mem_singleton.1 h)

theorem level15Of_le {ring : List MinuteRecord} (h : ∀ m ∈ ring, m.InRange) : ∀ v ∈ level15Of ring, v ≤ 1400 := by
  have hpresent : ∀ v ∈ presentLevels ring, v ≤ 1400 := fun v hv => by
    obtain ⟨m, hm, hlevel⟩ := List.mem_filterMap.1 hv
    exact (h m hm).2.1 v hlevel
  unfold level15Of
  dsimp only
  split
  · rintro _ hv
    obtain ⟨f, hf, rfl⟩ := Option.map_eq_some_iff.1 hv
    exact averageOfFold_le (foldLevels_bounds hpresent hf).1 _
  · exact nofun

theorem Receptor.Sound.closed {minute : Nat} (hminute : minute < 1440) (h : x.Sound) : (x.closed minute).Sound := by
  have hnew := h.minuteRecord_inRange hminute
  obtain ⟨h1, h2, h3, h4, h5, -, hlength, hring, -, hlast, hrest⟩ := h
  have hall : ∀ m ∈ joinRing x.ring (x.minuteRecord minute), m.InRange := fun m hm => by
    rcases mem_joinRing hm with rfl | hm
    · exact hnew
    · exact hring m hm
  exact ⟨h1, h2, h3, h4, h5, nofun, length_joinRing hlength _, hall, level15Of_le hall, hlast, hrest⟩

theorem Receptor.Sound.corrected_le (rise fall : Nat) (h : x.Sound) : x.corrected rise fall ≤ 120 := by
  have hcorrection := h.correction_le
  unfold Receptor.corrected
  split
  · have htarget : correctionTarget (meanTowardZero x.residual.sum x.residual.count) ≤ 120 := min_le_left ..
    unfold limitedStep
    split
    · split <;> omega
    · split
      · split <;> omega
      · exact hcorrection
  · exact hcorrection

end records

/-- A predicted level folds levels that are within 1400 (R55). -/
theorem State.SlotsFit.predictedLevel_le {s : State} (h : s.SlotsFit) (r : ReceptorId) : ∀ v ∈ s.predictedLevel r, v ≤ 1400 := by
  intro v hv
  refine (foldLevels_bounds (fun level hlevel => ?_) hv).1
  obtain ⟨i, -, hi⟩ := List.mem_filterMap.1 hlevel
  dsimp only at hi
  split at hi
  · obtain ⟨loss, -, rfl⟩ := Option.map_eq_some_iff.1 hi
    obtain ⟨-, -, -, -, -, -, -, hpublished, -, -, -, -, hlast, -⟩ := h.slot i
    refine (Nat.sub_le ..).trans ?_
    unfold Slot.predictedAt
    split
    · exact hpublished
    · cases hl : (s.slot i).lastLevel with
      | none => exact hpublished
      | some w => exact hlast w hl
  · cases hi

/-! ### The receptors and the exceedance table -/

/-- The receptor that a link names, seen from the receptor. -/
def State.link? (s : State) (r : ReceptorId) : Option ExcPos := (s.receptor r).bind (·.exceedance)

/-- From `s` to `t` the exceedance table stays sound, and the receptors do under the condition `ok`. -/
structure State.Measures (ok : Prop) (s t : State) : Prop where
  receptors : ok → s.ReceptorsSound → t.ReceptorsSound
  exceedances : s.ExceedancesSound → t.ExceedancesSound

theorem receptorsSound_congr {s t : State} (h : s.ReceptorsSound) (hreceptor : ∀ r, t.receptor r = s.receptor r) : t.ReceptorsSound := by
  unfold State.ReceptorsSound
  simp only [hreceptor]
  exact h

theorem exceedancesSound_congr {s t : State} (h : s.ExceedancesSound) (hcreated : t.exceedances.created = s.exceedances.created)
    (hrecord : ∀ p, t.excRecord p = s.excRecord p) (hlink : ∀ r, t.link? r = s.link? r) : t.ExceedancesSound := by
  unfold State.ExceedancesSound
  simp only [hcreated, hrecord]
  obtain ⟨hnodup, hmem, hopen, hlinks⟩ := h
  refine ⟨hnodup, hmem, fun p x hx hstate => ?_, fun r p hr => hlinks r p ?_⟩
  · exact (hlink x.receptor).trans (hopen p x hx hstate)
  · exact (hlink r).symm.trans hr

/-- One receptor takes a sound record at an address that no other has. -/
theorem receptorsSound_of_one {s t : State} {r : ReceptorId} {y : Receptor} (h : s.ReceptorsSound) (hy : t.receptor r = some y) (hsound : y.Sound)
    (haddress : ∀ q, q ≠ r → ∀ x ∈ s.receptor q, x.address ≠ y.address) (hother : ∀ q, q ≠ r → t.receptor q = s.receptor q) : t.ReceptorsSound := by
  obtain ⟨hall, hdistinct⟩ := h
  refine ⟨fun q x hx => ?_, fun p q x hx z hz he => ?_⟩
  · by_cases hq : q = r
    · subst hq
      rw [hy] at hx
      obtain rfl := Option.some_inj.1 hx
      exact hsound
    · rw [hother q hq] at hx
      exact hall q x hx
  · by_cases hp : p = r
    · by_cases hq : q = r
      · rw [hp, hq]
      · subst hp
        rw [hy] at hx
        obtain rfl := Option.some_inj.1 hx
        rw [hother q hq] at hz
        exact absurd he.symm (haddress q hq z hz)
    · by_cases hq : q = r
      · subst hq
        rw [hy] at hz
        obtain rfl := Option.some_inj.1 hz
        rw [hother p hp] at hx
        exact absurd he (haddress p hp x hx)
      · rw [hother p hp] at hx
        rw [hother q hq] at hz
        exact hdistinct p q x hx z hz he

theorem receptorsSound_removed {s t : State} {r : ReceptorId} (h : s.ReceptorsSound) (hr : t.receptor r = none)
    (hother : ∀ q, q ≠ r → t.receptor q = s.receptor q) : t.ReceptorsSound := by
  have hsub (q : ReceptorId) (x : Receptor) (hx : x ∈ t.receptor q) : x ∈ s.receptor q := by
    by_cases hq : q = r
    · rw [hq, hr] at hx
      cases hx
    · rwa [hother q hq] at hx
  exact ⟨fun q x hx => h.1 q x (hsub q x hx), fun p q x hx y hy => h.2 p q x (hsub p x hx) y (hsub q y hy)⟩

namespace State.Measures

variable {ok : Prop} {s t u : State}

theorem of_same (hreceptors : t.receptors = s.receptors) (hexceedances : t.exceedances = s.exceedances) : s.Measures ok t := by
  have hreceptor (r : ReceptorId) : t.receptor r = s.receptor r := by unfold State.receptor; rw [hreceptors]
  exact ⟨fun _ h => receptorsSound_congr h hreceptor, fun h => exceedancesSound_congr h (by rw [hexceedances]) (State.excRecord_congr hexceedances)
    fun r => by unfold State.link?; rw [hreceptor]⟩

theorem refl (s : State) : s.Measures ok s := of_same rfl rfl

theorem trans (h : s.Measures ok t) (k : t.Measures ok u) : s.Measures ok u :=
  ⟨fun hok => k.receptors hok ∘ h.receptors hok, k.exceedances ∘ h.exceedances⟩

theorem foldl {α : Type} {f : State → α → State} (h : ∀ (s : State) a, s.Measures ok (f s a)) (l : List α) (s : State) : s.Measures ok (l.foldl f s) := by
  induction l generalizing s with
  | nil => exact refl s
  | cons a l ih => exact (h s a).trans (ih _)

theorem ite {c : Prop} [Decidable c] (h : c → s.Measures ok t) (k : ¬c → s.Measures ok u) : s.Measures ok (if c then t else u) := by
  split
  · exact h ‹_›
  · exact k ‹_›

theorem of_post (s : State) (n : Notice) : s.Measures ok (s.post n) := of_same rfl rfl
theorem of_send (s : State) (c : Copy) : s.Measures ok (s.send c) := by
  rw [State.send_eq]
  exact of_same rfl rfl
theorem of_triggerIf (s : State) (c : Bool) : s.Measures ok (s.triggerIf c) := by
  rw [State.triggerIf_frame]
  exact of_same rfl rfl
theorem of_abandonPoll (s : State) (r : ReceptorId) : s.Measures ok (s.abandonPoll r) := by
  rw [State.abandonPoll_eq]
  exact of_same rfl rfl
theorem of_pollFrom (s : State) (low second : Nat) : s.Measures ok (s.pollFrom low second) := by
  rw [State.pollFrom_eq]
  exact of_same rfl rfl

/-- A receptor's record changes but for its address and its link. -/
theorem of_one {r : ReceptorId} {x y : Receptor} (hx : s.receptor r = some x) (hy : t.receptor r = some y)
    (hother : ∀ q, q ≠ r → t.receptor q = s.receptor q) (hexceedances : t.exceedances = s.exceedances) (hsound : ok → x.Sound → y.Sound)
    (haddress : y.address = x.address) (hlink : y.exceedance = x.exceedance) : s.Measures ok t where
  receptors hok h := receptorsSound_of_one h hy (hsound hok (h.1 r x hx)) (fun q hq z hz he => hq (h.2 q r z hz x hx (he.trans haddress))) hother
  exceedances h := exceedancesSound_congr h (by rw [hexceedances]) (State.excRecord_congr hexceedances) fun q => by
    unfold State.link?
    by_cases hq : q = r
    · rw [hq, hx, hy]
      exact hlink
    · rw [hother q hq]

theorem of_setReceptor {r : ReceptorId} {x y : Receptor} (hx : s.receptor r = some x) (hsound : ok → x.Sound → y.Sound) (haddress : y.address = x.address)
    (hlink : y.exceedance = x.exceedance) : s.Measures ok (s.setReceptor r (some y)) :=
  of_one hx (State.receptor_setReceptor_same ..) (fun _ hq => State.receptor_setReceptor_ne _ _ _ _ hq) rfl hsound haddress hlink

/-! ### Exceedance records -/

/-- A record that changes keeps its state and its receptor. -/
theorem of_updExcRecord {p : ExcPos} {f : ExcRecord → ExcRecord} (hstate : ∀ y, (f y).state = y.state) (hreceptor : ∀ y, (f y).receptor = y.receptor) :
    s.Measures ok (s.updExcRecord p f) where
  receptors _ h := h
  exceedances h := by
    obtain ⟨hnodup, hmem, hopen, hlinks⟩ := h
    have hrecord (q : ExcPos) (y : ExcRecord) (hy : y ∈ (s.updExcRecord p f).excRecord q) :
        ∃ z, s.excRecord q = some z ∧ y.state = z.state ∧ y.receptor = z.receptor := by
      by_cases hq : q = p
      · subst hq
        rw [State.excRecord_updExcRecord_same] at hy
        obtain ⟨z, hz, rfl⟩ := Option.map_eq_some_iff.1 hy
        exact ⟨z, hz, hstate z, hreceptor z⟩
      · rw [State.excRecord_updExcRecord_ne _ _ _ _ hq] at hy
        exact ⟨y, hy, rfl, rfl⟩
    refine ⟨hnodup, fun q => ?_, fun q y hy hst => ?_, fun r q hr => ?_⟩
    · rw [show (s.updExcRecord p f).exceedances.created = s.exceedances.created from rfl, hmem]
      by_cases hq : q = p
      · rw [hq, State.excRecord_updExcRecord_same, Option.isSome_map]
      · rw [State.excRecord_updExcRecord_ne _ _ _ _ hq]
    · obtain ⟨z, hz, hs, hr⟩ := hrecord q y hy
      rw [hr]
      exact hopen q z hz (hs ▸ hst)
    · obtain ⟨y, hy, hst, hyr⟩ := hlinks r q hr
      by_cases hq : q = p
      · subst hq
        exact ⟨f y, by rw [State.excRecord_updExcRecord_same, hy]; rfl, (hstate y).trans hst, (hreceptor y).trans hyr⟩
      · exact ⟨y, by rw [State.excRecord_updExcRecord_ne _ _ _ _ hq]; exact hy, hst, hyr⟩

theorem of_excClosed {r : ReceptorId} {x : Receptor} {minute : Nat} {cause : ClosingCause} {b : Bool} (hx : s.receptor r = some x)
    (h : s.ExcClosed t r x minute cause b) : s.Measures ok t where
  receptors hok hs := receptorsSound_of_one (y := { x with exceedance := none }) hs h.receptor_same (Receptor.Sound.unlinked (hs.1 r x hx))
    (fun q hq z hz he => hq (hs.2 q r z hz x hx he)) h.receptor_ne
  exceedances hs := by
    obtain ⟨hnodup, hmem, hopen, hlinks⟩ := hs
    have hother (q : ExcPos) (hq : x.exceedance ≠ some q) : t.excRecord q = s.excRecord q := (h.excRecord q).trans (if_neg hq)
    refine ⟨h.created ▸ hnodup, fun q => ?_, fun q y hy hst => ?_, fun p q hp => ?_⟩
    · rw [h.created, hmem, h.excRecord]
      split
      · rw [Option.isSome_map]
      · rfl
    · have hq : x.exceedance ≠ some q := fun hq => by
        rw [h.excRecord, if_pos hq] at hy
        obtain ⟨z, -, rfl⟩ := Option.map_eq_some_iff.1 hy
        cases hst
      rw [hother q hq] at hy
      have hlink := hopen q y hy hst
      have hne : y.receptor ≠ r := fun he => hq (by rw [he, hx] at hlink; exact hlink)
      rw [h.receptor_ne _ hne]
      exact hlink
    · have hne : p ≠ r := fun he => by
        rw [he, h.receptor_same] at hp
        cases hp
      rw [h.receptor_ne p hne] at hp
      obtain ⟨y, hy, hst, hyr⟩ := hlinks p q hp
      have hq : x.exceedance ≠ some q := fun hq => by
        obtain ⟨z, hz, -, hzr⟩ := hlinks r q (by rw [hx]; exact hq)
        rw [hy] at hz
        obtain rfl := Option.some_inj.1 hz
        exact hne (hyr.symm.trans hzr)
      exact ⟨y, by rw [hother q hq]; exact hy, hst, hyr⟩

theorem of_closeExceedance (s : State) (r : ReceptorId) (minute : Nat) (cause : ClosingCause) (b : Bool) :
    s.Measures ok (s.closeExceedance r minute cause b) := by
  cases hx : s.receptor r with
  | none =>
    have hsame : s.closeExceedance r minute cause b = s := by simp [State.closeExceedance, hx]
    rw [hsame]
    exact refl s
  | some x => exact of_excClosed hx (.of_closeExceedance hx minute cause b)

/-- An opening takes a position that holds no OPEN record. -/
theorem of_openExceedance {r : ReceptorId} {x : Receptor} (hx : s.receptor r = some x) (hnone : x.exceedance = none) (minute : Nat) (limit level : Level) :
    s.Measures ok (s.openExceedance r x minute limit level) := by
  cases hp : s.openingPosition with
  | none =>
    rw [State.openExceedance, hp]
    exact refl s
  | some p =>
    have h := State.ExcOpened.of_openExceedance (minute := minute) (limit := limit) (level := level) hx hp
    generalize s.openExceedance r x minute limit level = t at h ⊢
    refine ⟨fun hok hs => receptorsSound_of_one (y := { x with exceedance := some p }) hs h.receptor_same (Receptor.Sound.unlinked (hs.1 r x hx))
      (fun q hq z hz he => hq (hs.2 q r z hz x hx he)) h.receptor_ne, fun hs => ?_⟩
    obtain ⟨p', hp', -, hclosed⟩ := State.openingPosition_spec hs
    obtain rfl : p = p' := Option.some_inj.1 (hp.symm.trans hp')
    have hfree : ∀ y ∈ s.excRecord p, y.state ≠ .opened := fun y hy hst => by
      obtain ⟨-, hfind⟩ := hclosed (by rw [hy]; simp)
      have := List.find?_some hfind
      rw [hy] at this
      simp [hst] at this
    obtain ⟨hnodup, hmem, hopen, hlinks⟩ := hs
    refine ⟨?_, fun q => ?_, fun q y hy hst => ?_, fun a q ha => ?_⟩
    · rw [h.created]
      refine List.Nodup.append (hnodup.erase p) (List.nodup_singleton p) ?_
      rw [List.disjoint_singleton]
      exact hnodup.not_mem_erase
    · rw [h.created]
      by_cases hq : q = p
      · simp [hq, h.excRecord_same]
      · rw [h.excRecord_ne q hq, List.mem_append, List.mem_singleton, or_iff_left hq, List.mem_erase_of_ne hq, hmem]
    · by_cases hq : q = p
      · subst hq
        rw [h.excRecord_same] at hy
        obtain rfl := Option.some_inj.1 hy
        show (t.receptor r).bind _ = _
        rw [h.receptor_same]
        rfl
      · rw [h.excRecord_ne q hq] at hy
        have hlink := hopen q y hy hst
        have hne : y.receptor ≠ r := fun he => by
          rw [he, hx, Option.bind_some, hnone] at hlink
          cases hlink
        rw [h.receptor_ne _ hne]
        exact hlink
    · by_cases har : a = r
      · subst har
        rw [h.receptor_same] at ha
        obtain rfl := Option.some_inj.1 ha
        exact ⟨_, h.excRecord_same, rfl, rfl⟩
      · rw [h.receptor_ne a har] at ha
        obtain ⟨y, hy, hst, hyr⟩ := hlinks a q ha
        have hq : q ≠ p := fun he => hfree y (he ▸ hy) hst
        exact ⟨y, by rw [h.excRecord_ne q hq]; exact hy, hst, hyr⟩

theorem of_judge (s : State) (r : ReceptorId) (limit grace minute : Nat) : s.Measures ok (s.judge r limit grace minute) := by
  cases hx : s.receptor r with
  | none =>
    have hsame : s.judge r limit grace minute = s := by simp [State.judge, State.updateStagesOver, hx]
    rw [hsame]
    exact refl s
  | some x =>
    cases hexc : x.exceedance with
    | none =>
      rw [State.judge_of_none hx hexc]
      cases x.level15 with
      | none => exact refl s
      | some level => exact ite (fun _ => of_openExceedance hx hexc ..) fun _ => refl s
    | some p =>
      have hover : s.Measures ok (s.updExcRecord p (s.overMerged r)) := of_updExcRecord (fun _ => rfl) fun _ => rfl
      rw [State.judge_of_some hx hexc]
      refine ite (fun _ => hover) fun _ => ?_
      cases x.level15 with
      | none => exact hover
      | some level =>
        exact ite (fun _ => hover.trans (of_updExcRecord (fun _ => rfl) fun _ => rfl)) fun _ => hover.trans (of_closeExceedance ..)

/-! ### The closes -/

theorem of_correct (s : State) (r : ReceptorId) : s.Measures ok (s.correct r) := by
  cases hx : s.receptor r with
  | none =>
    have hsame : s.correct r = s := by simp [State.correct, hx]
    rw [hsame]
    exact refl s
  | some x =>
    obtain ⟨v, hv, heq⟩ : ∃ v, (x.Sound → v ≤ 120) ∧ s.correct r =
        ((s.updReceptor r fun y => { y with correction := v }).triggerIf (v != x.correction)).updReceptor r
          fun y => { y with residual := { sum := 0, count := 0 } } :=
      ⟨x.corrected s.site.correctionRise s.site.correctionFall, fun h => h.corrected_le .., by simp only [State.correct, hx]⟩
    rw [heq, State.updReceptor_of_some hx]
    have hcorrected : s.Measures ok (s.setReceptor r (some { x with correction := v })) :=
      of_setReceptor hx (fun _ h => h.withCompliance h.residual_inRange (hv h)) rfl rfl
    have hy : ((s.setReceptor r (some { x with correction := v })).triggerIf (v != x.correction)).receptor r = some { x with correction := v } := by
      rw [State.triggerIf_receptor]
      exact State.receptor_setReceptor_same ..
    rw [State.updReceptor_of_some hy]
    exact hcorrected.trans ((of_triggerIf _ (v != x.correction)).trans
      (of_setReceptor hy (fun _ h => Receptor.Sound.withCompliance residual_cleared h.correction_le h) rfl rfl))

theorem of_closeReceptor (handed : List (Level × Nat)) {minute : Nat} (s : State) (r : ReceptorId) :
    s.Measures (minute < 1440) (s.closeReceptor handed minute r) := by
  unfold State.closeReceptor
  cases hx : s.receptor r with
  | none => exact refl s
  | some x =>
    have hclosed : s.Measures (minute < 1440) (s.setReceptor r (some (x.closed minute))) :=
      of_setReceptor hx (fun hminute h => h.closed hminute) rfl rfl
    exact hclosed.trans ((of_send ..).trans ((of_correct ..).trans (of_judge ..)))

/-! ### The poller -/

theorem of_pollEnds (s : State) (cls : PollClass) {level : Level} (hlevel : level ≤ 1400) : s.Measures s.SlotsFit (s.pollEnds cls level) := by
  unfold State.pollEnds
  split
  next p _ =>
    refine ite (fun _ => ?_) fun _ => refl s
    cases hx : s.receptor p.receptor with
    | none =>
      have heq : s.pollOutcome p cls level = s.continueCycle p := by simp [State.pollOutcome, hx]
      rw [heq]
      exact of_pollFrom ..
    | some x =>
      obtain ⟨hframe, hother, hsame, -⟩ := State.pollOutcome_spec (cls := cls) (level := level) hx rfl rfl
      have hexceedances := congrArg State.exceedances hframe
      obtain ⟨haddress, hlink⟩ := x.polled_keeps cls level (s.predictedLevel p.receptor)
      exact of_one hx hsame hother hexceedances (fun hslots h => h.polled cls hlevel (hslots.predictedLevel_le _)) haddress hlink
  · exact refl s

end State.Measures

end Sys2Proof.Machine
end

section
/-! SUPPORT. Every step keeps the zones, the slots and the site parameters in their ranges (O8, its theorem), and the receptors and the exceedance table
sound (O9, its theorem). -/

namespace Sys2Proof.Machine

/-! ### The operations that leave the zones, the receptors and the exceedance table -/

/-- From `s` to `t` the zones, the receptors and the exceedance table are as they were. -/
structure State.Apart (s t : State) : Prop where
  zones_eq : t.zones = s.zones
  receptors_eq : t.receptors = s.receptors
  exceedances_eq : t.exceedances = s.exceedances

namespace State.Apart
variable {s t u : State}

theorem refl (s : State) : s.Apart s := ⟨rfl, rfl, rfl⟩

theorem trans (h : s.Apart t) (k : t.Apart u) : s.Apart u :=
  ⟨k.zones_eq.trans h.zones_eq, k.receptors_eq.trans h.receptors_eq, k.exceedances_eq.trans h.exceedances_eq⟩

theorem foldl {α : Type} {f : State → α → State} (h : ∀ (s : State) a, s.Apart (f s a)) (l : List α) (s : State) : s.Apart (l.foldl f s) := by
  induction l generalizing s with
  | nil => exact refl s
  | cons a l ih => exact (h s a).trans (ih _)

theorem ite {c : Prop} [Decidable c] (h : c → s.Apart t) (k : ¬c → s.Apart u) : s.Apart (if c then t else u) := by
  split
  · exact h ‹_›
  · exact k ‹_›

theorem of_arbiter (h : ArbiterFrame s t) : s.Apart t := ⟨h.zones_eq, h.receptors_eq, h.exceedances_eq⟩

theorem of_updSlot_trigger (s : State) (i : SlotId) (f : Slot → Slot) : s.Apart (s.updSlot i f).trigger :=
  of_arbiter ((ArbiterFrame.of_updSlot s i f).trans (.of_trigger _))

theorem of_emptySlot (s : State) (i : SlotId) : s.Apart (s.emptySlot i) := by
  rw [State.emptySlot_eq]
  exact ⟨rfl, rfl, rfl⟩

theorem of_ageSlot (s : State) (i : SlotId) : s.Apart (s.ageSlot i) := ite (fun _ => of_emptySlot s i) fun _ => refl s
theorem of_ageAll (s : State) : s.Apart s.ageAll := foldl of_ageSlot _ s
theorem of_staleSlot (s : State) (i : SlotId) : s.Apart (s.staleSlot i) := ite (fun _ => of_arbiter (.of_updClamped ..)) fun _ => refl s

theorem of_releaseSlot (s : State) (bound : Option SlotId) : s.Apart (s.releaseSlot bound) := by
  unfold State.releaseSlot
  split
  · exact refl s
  · split
    · exact of_arbiter (.of_unbindSlot ..)
    · exact of_emptySlot ..

theorem of_evictSlot (s : State) (i : SlotId) : s.Apart (s.evictSlot i) := by
  unfold State.evictSlot
  split
  · exact ite (fun _ => of_arbiter (.of_unbindSlot ..)) fun _ => refl s
  · exact of_emptySlot ..

theorem of_replaceStage (s : State) (i : SlotId) (k : StageKind) (weight : Nat) (stageMax : Level) : s.Apart (s.replaceStage i k weight stageMax) := by
  have hkind : s.Apart (s.rekind i k) := by
    unfold State.rekind
    split
    · exact ⟨rfl, rfl, rfl⟩
    · exact of_emptySlot ..
    · exact ⟨rfl, rfl, rfl⟩
    · exact refl s
  have ha : s.Apart (if (s.slot i).rekindedBy k = true then s.rekind i k else s) := ite (fun _ => hkind) fun _ => refl s
  have hb := (ha.trans (of_arbiter (.of_updSlot _ i fun y => { y with weight := weight, stageMax := stageMax }))).trans
    (of_arbiter (.of_triggerIf _ ((s.slot i).weight != weight || (s.slot i).stageMax != stageMax)))
  exact ite (fun _ => hb.trans (of_arbiter (.of_postStageState ..))) fun _ => hb

theorem of_returnStage (s : State) (i : SlotId) : s.Apart (s.returnStage i) := by
  unfold State.returnStage
  refine trans (trans (trans ?_ (of_arbiter (.of_updSlot ..))) (of_arbiter (.of_trigger _))) (of_arbiter (.of_postStageState ..))
  split
  · exact of_emptySlot ..
  · exact refl s

theorem of_pathCreated (s : State) (i : SlotId) (r : ReceptorId) : s.Apart (s.pathCreated i r) := by
  unfold State.pathCreated
  split
  · exact ite (fun _ => (of_arbiter (.of_removeAtCurfew ..)).trans (foldl of_ageSlot _ _)) fun _ => refl s
  · exact refl s

theorem of_takeReport (s : State) (a : ReportArgs) (i : SlotId) : s.Apart (s.takeReport a i).1 :=
  ite (fun _ => of_arbiter ((ArbiterFrame.of_updClamped ..).trans (.of_debtCleared _))) fun _ => of_arbiter (.of_updClamped ..)

theorem of_takeQuiet (s : State) (forced : Bool) (i : SlotId) : s.Apart (s.takeQuiet forced i).1 :=
  ite (fun _ => of_arbiter (.of_quietSlot ..)) fun _ => (of_arbiter (.of_quietSlot ..)).trans (of_ageSlot ..)

theorem of_publishSlot (c : Capture) (s : State) (i : SlotId) : s.Apart (State.publishSlot c s i) := by
  have hreport (u : State) (computed : Bool) : u.Apart (u.reportCeiling c i computed) := by
    unfold State.reportCeiling
    dsimp only
    rw [State.send_eq]
    split <;> exact ⟨rfl, rfl, rfl⟩
  exact ite (fun _ => of_arbiter (.of_updSlot ..)) fun _ => (of_arbiter ((ArbiterFrame.of_updSlot ..).trans (.of_updSlot ..))).trans (hreport ..)

theorem of_endRecalculation (s : State) (c : Capture) : s.Apart (s.endRecalculation c) := by
  have hnext (u : State) : u.Apart u.chooseNext := by
    rw [State.chooseNext_eq]
    exact ⟨rfl, rfl, rfl⟩
  have hpublished : s.Apart (s.publish c) := foldl (of_publishSlot c) _ s
  exact hpublished.trans ((of_ageAll _).trans ((of_arbiter (.of_takePassReport ..)).trans (hnext _)))

theorem of_replaceSite (s : State) (x : Site) : s.Apart (s.replaceSite x) := by
  have hsite : s.Apart { s with site := x } := ⟨rfl, rfl, rfl⟩
  exact (hsite.trans (of_arbiter (.of_triggerIf ..))).trans ((of_arbiter (.of_post ..)).trans ((foldl of_staleSlot _ _).trans (of_ageAll _)))

theorem of_clearPaths (s : State) : s.Apart s.clearPaths := by
  have hpaths : s.Apart { s with paths := Vector.replicate 64 none } := ⟨rfl, rfl, rfl⟩
  exact hpaths.trans (of_arbiter (.of_triggerIf ..))

theorem measures {ok : Prop} (h : s.Apart t) : s.Measures ok t := .of_same h.receptors_eq h.exceedances_eq

theorem ranges (h : s.Apart t) : (s.ZonesSound → t.ZonesSound) ∧ s.Measures True t := ⟨fun hz => zonesSound_of_eq hz h.zones_eq, h.measures⟩

end State.Apart

theorem ZoneFrame.of_unloadZone (s : State) (z : ZoneId) : ZoneFrame s (s.unloadZone z) := by
  obtain ⟨u, hu, heq⟩ := s.unloadZone_set z
  rw [heq]
  obtain ⟨e, b, rfl⟩ := hu.written
  constructor <;> rfl

theorem ZoneFrame.measures {ok : Prop} {s t : State} (h : ZoneFrame s t) : s.Measures ok t := .of_same h.receptors_eq h.exceedances_eq

/-! ### Edits and removals of receptors -/

section edits
variable {s : State} {r : ReceptorId} {ok : Prop}

theorem State.Measures.of_editReceptor {x : Receptor} {address : Nat} {z : ZoneId} {floor : Level} (hmode : s.mode ≠ .boot) (hx : s.receptor r = some x)
    (haddress : 1 ≤ address ∧ address ≤ 31) (htaken : s.addressTaken r address = false) (hfloor : floor ≤ 1400) :
    s.Measures ok (s.editReceptor r x address z floor) := by
  have hwritten : s.Measures ok (s.setReceptor r (some { x with zone := z, floor := floor })) :=
    .of_setReceptor hx (fun _ h => Receptor.Sound.moved z hfloor h) rfl rfl
  by_cases hsame : x.address = address
  · by_cases hzone : x.zone = z
    · rw [State.editReceptor_of_same hsame hzone]
      exact hwritten
    · rw [State.editReceptor_of_moved hsame hzone]
      exact hwritten.trans ((State.Measures.of_triggerIf _ true).trans (.of_closeExceedance ..))
  · rw [State.editReceptor_of_rewired hsame]
    have hstage := State.EditStage.rewired (s := s) (r := r) (x := x) (address := address) (z := z) (floor := floor) hmode
    obtain ⟨hexceedances, -⟩ := State.rewired_rest (s := s) (r := r) (x := x) (address := address) (z := z) (floor := floor)
    generalize s.rewired r x address z floor = v at hstage hexceedances ⊢
    have hfree : ∀ q, q ≠ r → ∀ y ∈ s.receptor q, y.address ≠ address := fun q hq y hy he => by
      have hused := State.addressTaken_iff.2 ⟨q, y, hq, hy, he⟩
      rw [htaken] at hused
      cases hused
    have hv : s.Measures ok v := by
      refine ⟨fun _ h => receptorsSound_of_one h hstage.receptor_same ((Receptor.Sound.moved z hfloor (h.1 r x hx)).restationed haddress) hfree
        hstage.receptor_ne, fun h => exceedancesSound_congr h (by rw [hexceedances]) (State.excRecord_congr hexceedances) fun q => ?_⟩
      unfold State.link?
      by_cases hq : q = r
      · rw [hq, hstage.receptor_same, hx]
        rfl
      · rw [hstage.receptor_ne q hq]
    have hclosed := State.ExcClosed.of_closeExceedance hstage.receptor_same v.clock.minute .receptorEdited true
    refine hv.trans ((State.Measures.of_closeExceedance v r v.clock.minute .receptorEdited true).trans ?_)
    rw [State.clearCompliance_of_some hclosed.receptor_same]
    exact (State.Measures.of_setReceptor hclosed.receptor_same (fun _ h => h.withCompliance residual_cleared (Nat.zero_le _)) rfl rfl).trans
      (.of_triggerIf ..)

/-- A receptor without a link is removed. -/
theorem State.Measures.of_removed {t : State} (hr : t.receptor r = none) (hother : ∀ q, q ≠ r → t.receptor q = s.receptor q)
    (hexceedances : t.exceedances = s.exceedances) (hlink : s.link? r = none) : s.Measures ok t where
  receptors _ h := receptorsSound_removed h hr hother
  exceedances h := exceedancesSound_congr h (by rw [hexceedances]) (State.excRecord_congr hexceedances) fun q => by
    by_cases hq : q = r
    · rw [hq, hlink, State.link?, hr]
      rfl
    · unfold State.link?
      rw [hother q hq]

theorem State.Measures.of_removeReceptor (s : State) (r : ReceptorId) : s.Measures ok (s.removeReceptor r) := by
  have hclose := State.Measures.of_closeExceedance (ok := ok) s r s.clock.minute .receptorEdited false
  have hlink : (s.closeExceedance r s.clock.minute .receptorEdited false).link? r = none := by
    cases hx : s.receptor r with
    | none =>
      have hsame : s.closeExceedance r s.clock.minute .receptorEdited false = s := by simp [State.closeExceedance, hx]
      rw [hsame, State.link?, hx]
      rfl
    | some x =>
      rw [State.link?, (State.ExcClosed.of_closeExceedance hx s.clock.minute .receptorEdited false).receptor_same]
      rfl
  refine hclose.trans (State.Measures.trans ?_ (.of_abandonPoll ..))
  exact .of_removed (State.receptor_setReceptor_same ..) (fun q hq => State.receptor_setReceptor_ne _ _ _ _ hq) rfl hlink

/-- A new record at an address that no other has, without a link. -/
theorem State.Measures.of_createReceptor {address : Nat} {z : ZoneId} {floor : Level} (haddress : 1 ≤ address ∧ address ≤ 31)
    (hfree : ∀ q, q ≠ r → ∀ y ∈ s.receptor q, y.address ≠ address) (hfloor : floor ≤ 1400) (hnone : s.link? r = none) :
    s.Measures ok (s.setReceptor r (some (receptorCreated address z floor))) where
  receptors _ h := receptorsSound_of_one h (State.receptor_setReceptor_same ..) (receptorCreated_sound z haddress hfloor) hfree
    fun q hq => State.receptor_setReceptor_ne _ _ _ _ hq
  exceedances h := exceedancesSound_congr h rfl (fun _ => rfl) fun q => by
    unfold State.link?
    by_cases hq : q = r
    · rw [hq, State.receptor_setReceptor_same]
      exact hnone.symm
    · rw [State.receptor_setReceptor_ne _ _ _ _ hq]

end edits

theorem State.abandonPoll_zones (s : State) (r : ReceptorId) : (s.abandonPoll r).zones = s.zones := by rw [State.abandonPoll_eq]

theorem State.editReceptor_zones (s : State) (r : ReceptorId) (x : Receptor) (address : Nat) (z : ZoneId) (floor : Level) :
    (s.editReceptor r x address z floor).zones = s.zones := by
  have htriggered (u : State) (b : Bool) : (u.triggerIf b).zones = u.zones := by rw [State.triggerIf_eq]
  have hclosed (u : State) (minute : Nat) (b : Bool) : (u.closeExceedance r minute .receptorEdited b).zones = u.zones :=
    (CloseFrame.of_closeExceedance ..).zones_eq
  have hcleared (u : State) : (u.clearCompliance r).zones = u.zones := by
    unfold State.clearCompliance
    split
    · rfl
    · exact htriggered ..
  have hrestationed (u : State) : (u.restation r x address).zones = u.zones := (State.abandonPoll_zones ..).trans (htriggered ..)
  by_cases hsame : x.address = address
  · by_cases hzone : x.zone = z
    · rw [State.editReceptor_of_same hsame hzone]
      rfl
    · rw [State.editReceptor_of_moved hsame hzone, hclosed, htriggered]
      rfl
  · rw [State.editReceptor_of_rewired hsame, hcleared, hclosed, State.rewired, hrestationed, htriggered]
    rfl

theorem State.removeReceptor_zones (s : State) (r : ReceptorId) : (s.removeReceptor r).zones = s.zones :=
  (State.abandonPoll_zones ..).trans (CloseFrame.of_closeExceedance s r s.clock.minute .receptorEdited false).zones_eq

/-! ### The exceedance table cleared -/

theorem State.unlinkExceedance_receptor (s : State) (r q : ReceptorId) :
    (s.unlinkExceedance r).receptor q = if q = r then (s.receptor r).map fun x => { x with exceedance := none } else s.receptor q := by
  unfold State.unlinkExceedance
  by_cases hq : q = r
  · subst hq
    rw [if_pos rfl]
    split
    · rw [State.trigger_eq]
      exact State.receptor_updReceptor_same ..
    next hlink =>
      cases hx : s.receptor q with
      | none => rfl
      | some x =>
        have hnone : x.exceedance = none := by simpa [hx] using hlink
        rw [Option.map_some, ← hnone]
  · rw [if_neg hq]
    split
    · rw [State.trigger_eq]
      exact State.receptor_updReceptor_ne _ _ _ _ hq
    · rfl

theorem State.unlinkExceedance_exceedances (s : State) (r : ReceptorId) : (s.unlinkExceedance r).exceedances = s.exceedances := by
  unfold State.unlinkExceedance
  split
  · rw [State.trigger_eq]
    rfl
  · rfl

theorem State.unlinkAll_receptor (l : List ReceptorId) (s : State) (q : ReceptorId) :
    (l.foldl State.unlinkExceedance s).receptor q = if q ∈ l then (s.receptor q).map fun x => { x with exceedance := none } else s.receptor q := by
  induction l generalizing s with
  | nil => rfl
  | cons r l ih =>
    rw [List.foldl_cons, ih, State.unlinkExceedance_receptor]
    by_cases hq : q = r
    · subst hq
      simp [Option.map_map, Function.comp_def]
    · simp [hq]

/-- Every receptor loses its link, and the table its records (R68). -/
theorem State.clearExceedances_receptor (s : State) (q : ReceptorId) :
    s.clearExceedances.receptor q = (s.receptor q).map fun x => { x with exceedance := none } := by
  unfold State.clearExceedances
  rw [State.unlinkAll_receptor, if_pos (List.mem_finRange q)]
  rfl

theorem State.clearExceedances_exceedances (s : State) : s.clearExceedances.exceedances = excTableAtReset :=
  foldl_keeps (g := State.exceedances) State.unlinkExceedance_exceedances _ _

theorem excTableAtReset_record {s : State} (h : s.exceedances = excTableAtReset) (p : ExcPos) : s.excRecord p = none := by
  unfold State.excRecord
  rw [h]
  exact Vector.get_replicate_of 32 _ p

theorem State.Measures.of_clearExceedances {ok : Prop} (s : State) : s.Measures ok s.clearExceedances where
  receptors _ h := by
    refine ⟨fun r x hx => ?_, fun r q x hx y hy he => ?_⟩
    · rw [State.clearExceedances_receptor] at hx
      obtain ⟨z, hz, rfl⟩ := Option.map_eq_some_iff.1 hx
      exact Receptor.Sound.unlinked (h.1 r z hz)
    · rw [State.clearExceedances_receptor] at hx hy
      obtain ⟨x', hx', rfl⟩ := Option.map_eq_some_iff.1 hx
      obtain ⟨y', hy', rfl⟩ := Option.map_eq_some_iff.1 hy
      exact h.2 r q x' hx' y' hy' he
  exceedances _ := by
    have hrecord := excTableAtReset_record s.clearExceedances_exceedances
    refine ⟨by rw [State.clearExceedances_exceedances]; exact List.nodup_nil, fun p => ?_, fun p x hx => ?_, fun r p hr => ?_⟩
    · rw [hrecord, State.clearExceedances_exceedances]
      simp [excTableAtReset]
    · rw [hrecord] at hx
      cases hx
    · rw [State.clearExceedances_receptor] at hr
      cases hx : s.receptor r <;> simp [hx] at hr

/-! ### The load -/

theorem loadEntries_receptors {f : List (List Byte) → Loading → List Byte → Loading} (hf : ∀ before l e, (f before l e).state.receptors = l.state.receptors)
    (before : List (List Byte)) (l : Loading) (es : List (List Byte)) : (loadEntries f before l es).state.receptors = l.state.receptors := by
  induction es generalizing before l with
  | nil => rfl
  | cons e es ih => exact (ih _ _).trans (hf before l e)

theorem loadZone_receptors (before : List (List Byte)) (l : Loading) (bs : List Byte) : (loadZone before l bs).state.receptors = l.state.receptors := by
  unfold loadZone
  split
  · rfl
  · split <;> rfl

theorem loadStage_receptors (before : List (List Byte)) (l : Loading) (bs : List Byte) : (loadStage before l bs).state.receptors = l.state.receptors := by
  obtain hskip | ⟨i, weight, stageMax, -, -, -, -, hstate⟩ := loadStage_cases before l bs
  · rw [hskip]; rfl
  · rw [hstate]; rfl

theorem loadPath_receptors (before : List (List Byte)) (l : Loading) (bs : List Byte) : (loadPath before l bs).state.receptors = l.state.receptors := by
  obtain hskip | ⟨i, r, p, loss, -, -, -, -, -, -, -, hstate⟩ := loadPath_cases before l bs
  · rw [hskip]; rfl
  · rw [hstate]; rfl

theorem loadSection_receptors {sec : Section} (hsec : sec ≠ .receptors) (l : Loading) : (loadSection l sec).state.receptors = l.state.receptors := by
  unfold loadSection
  dsimp only
  split
  · cases sec
    case site => rfl
    case zones => exact loadEntries_receptors loadZone_receptors ..
    case receptors => exact absurd rfl hsec
    case stages => exact loadEntries_receptors loadStage_receptors ..
    case paths => exact loadEntries_receptors loadPath_receptors ..
    case witness => rfl
  · rfl

/-- The receptors taken so far are sound, have no link, and stand at addresses that entries before gave. -/
structure State.TakenSound (s : State) (before : List (List Byte)) : Prop where
  sound : s.ReceptorsSound
  link : ∀ r, s.link? r = none
  address : ∀ r x, s.receptor r = some x → ∃ b ∈ before, byteAt b 1 = x.address

theorem loadReceptor_takenSound {before : List (List Byte)} {l : Loading} (e : List Byte) (h : l.state.TakenSound before) :
    (loadReceptor before l e).state.TakenSound (before ++ [e]) := by
  have hearlier : ∀ r x, l.state.receptor r = some x → ∃ b ∈ before ++ [e], byteAt b 1 = x.address := fun r x hx => by
    obtain ⟨b, hb, he⟩ := h.address r x hx
    exact ⟨b, List.mem_append_left _ hb, he⟩
  obtain hskip | ⟨r, z, floor, -, hlow, hhigh, hfloor, -, hbefore, hstate⟩ := loadReceptor_cases before l e
  · rw [hskip]
    exact ⟨h.sound, h.link, hearlier⟩
  · rw [hstate]
    have hfree : ∀ q, q ≠ r → ∀ y ∈ l.state.receptor q, y.address ≠ byteAt e 1 := fun q _ y hy he => by
      obtain ⟨b, hb, hbe⟩ := h.address q y hy
      exact (hbefore b hb).2 (hbe.trans he)
    have hmeasures := State.Measures.of_createReceptor (ok := True) (s := l.state) (r := r) (z := z) ⟨hlow, hhigh⟩ hfree hfloor (h.link r)
    refine ⟨hmeasures.receptors trivial h.sound, fun q => ?_, fun q x hx => ?_⟩
    · unfold State.link?
      by_cases hq : q = r
      · rw [hq, State.receptor_setReceptor_same]
        rfl
      · rw [State.receptor_setReceptor_ne _ _ _ _ hq]
        exact h.link q
    · by_cases hq : q = r
      · rw [hq, State.receptor_setReceptor_same] at hx
        obtain rfl := Option.some_inj.1 hx
        exact ⟨e, by simp, rfl⟩
      · rw [State.receptor_setReceptor_ne _ _ _ _ hq] at hx
        exact hearlier q x hx

/-- A load over no receptors leaves sound ones without links. -/
theorem State.load_receptors {s : State} (hnone : ∀ r, s.receptor r = none) : s.load.state.ReceptorsSound ∧ ∀ r, s.load.state.link? r = none := by
  have hkept {l k : Loading} (h : k.state.receptors = l.state.receptors) (hl : l.state.ReceptorsSound ∧ ∀ r, l.state.link? r = none) :
      k.state.ReceptorsSound ∧ ∀ r, k.state.link? r = none := by
    have hreceptor (r : ReceptorId) : k.state.receptor r = l.state.receptor r := by unfold State.receptor; rw [h]
    exact ⟨receptorsSound_congr hl.1 hreceptor, fun r => by unfold State.link?; rw [hreceptor]; exact hl.2 r⟩
  have htaken {l : Loading} (h : l.state.receptors = s.receptors) : (loadSection l .receptors).state.ReceptorsSound ∧
      ∀ r, (loadSection l .receptors).state.link? r = none := by
    have hl (r : ReceptorId) : l.state.receptor r = none := by
      rw [← hnone r]
      unfold State.receptor
      rw [h]
    have hsound : l.state.ReceptorsSound := by
      unfold State.ReceptorsSound
      simp [hl]
    have hbegun : l.state.TakenSound [] := ⟨hsound, fun r => by rw [State.link?, hl]; rfl, fun r x hx => by rw [hl] at hx; cases hx⟩
    refine loadSection_of_contents (P := fun k => k.state.ReceptorsSound ∧ ∀ r, k.state.link? r = none) .receptors ⟨hbegun.sound, hbegun.link⟩ fun bs => ?_
    have hall := loadEntries_induction (P := fun before k => k.state.TakenSound before) (fun before k e hk => loadReceptor_takenSound e hk) hbegun
      (entriesOf 5 (byteAt bs 0) (bs.drop 1))
    exact ⟨hall.sound, hall.link⟩
  unfold State.load
  simp only [allSections, List.foldl_cons, List.foldl_nil]
  refine hkept (loadSection_receptors (by decide) _) (hkept (loadSection_receptors (by decide) _) (hkept (loadSection_receptors (by decide) _) (htaken ?_)))
  exact (loadSection_receptors (by decide) _).trans (loadSection_receptors (by decide) _)

/-! ### What an owner makes of the state -/

section owner
variable {p : Port} {s t : State}

theorem OwnerStep.slotsFit (hstep : OwnerStep p s t) (h : s.SlotsFit) : t.SlotsFit := by
  cases hstep with
  | unchanged => exact h
  | enrols bound i id => exact (h.releaseSlot bound).bindSlot i p id
  | reports a i hbound => exact h.takeReport a (by rw [(boundSlot_eq_some hbound).2]; rfl)
  | joins i => exact h.joinQueue i
  | quiets forced i => exact h.takeQuiet forced i
  | takesQuery q hlatch =>
    unfold State.takeQuery
    have hqueued : ({ s with latch := .queued p q } : State).SlotsFit := h.of_same rfl rfl
    dsimp only
    split
    · exact hqueued.beginForecast
    · exact hqueued
  | handsForecast => exact h.of_same rfl rfl
  | setsClock minute second =>
    have hset : ({ s with clock := { ms := 0, minute := minute, second := second, isSet := true } } : State).SlotsFit := h.of_same rfl rfl
    exact hset.evaluateZones
  | entersEnforce =>
    have hevaluated := h.evaluateZones
    unfold State.beginEnforce
    generalize s.evaluateZones = u at hevaluated ⊢
    have hmode : ({ u with mode := .enforce } : State).SlotsFit := hevaluated.of_same rfl rfl
    exact hmode.trigger
  | returnsToSetup => exact h.of_same rfl rfl
  | pushesCap i cap hcap hroom =>
    obtain ⟨-, -, -, -, -, -, hcaps, -⟩ := h.slot i
    have hpushed : ({ s.slot i with caps := cap :: (s.slot i).caps } : Slot).InRange :=
      (h.slot i).capped hroom (List.forall_mem_cons.2 ⟨hcap, hcaps⟩)
    exact (h.updSlot_of (f := fun x => { x with caps := cap :: x.caps }) hpushed).trigger
  | popsCap i top rest hcaps =>
    obtain ⟨-, -, -, -, -, hlength, hall, -⟩ := h.slot i
    rw [hcaps] at hlength hall
    have hpopped : ({ s.slot i with caps := rest } : Slot).InRange := (h.slot i).capped ((Nat.le_succ _).trans hlength) (List.forall_mem_cons.1 hall).2
    exact (h.updSlot_of (f := fun x => { x with caps := rest }) hpopped).trigger
  | setsConsole i present event => exact h.updClamped i _ _ _
  | evicts i => exact h.evictSlot i
  | readsNotices => exact h.of_same rfl rfl
  | setsMask => exact h.of_same rfl rfl
  | savesSettings => exact h.of_same rfl rfl
  | replacesSite x => exact h.replaceSite x
  | replacesZone z bps ramp margin => exact h.replaceZone ..
  | unloadsZone z => exact h.unloadZone z
  | createsReceptor r => exact h.setReceptor ..
  | editsReceptor r x address z floor => exact h.editReceptor ..
  | removesReceptor r x => exact h.removeReceptor r
  | replacesStage i k weight stageMax htable hkind hport hweight hmax => exact h.replaceStage i k hweight hmax
  | returnsStage i => exact h.returnStage i
  | createsPath q i r loss =>
    have hpath : (s.setPath q (some { slot := i, receptor := r, loss := loss })).SlotsFit := h.of_same rfl rfl
    exact hpath.trigger.pathCreated i r
  | changesLoss q i r old loss =>
    have hpath : (s.setPath q (some { slot := i, receptor := r, loss := loss })).SlotsFit := h.of_same rfl rfl
    exact hpath.triggerIf _
  | deletesPath q i r =>
    have hpath : (s.setPath q none).SlotsFit := h.of_same rfl rfl
    exact hpath.trigger
  | ordersClear => exact h.of_same rfl rfl

/-- An owner keeps the zones, the receptors and the exceedance table sound. -/
theorem OwnerStep.ranges (hmode : s.mode ≠ .boot) (hstep : OwnerStep p s t) : (s.ZonesSound → t.ZonesSound) ∧ s.Measures True t := by
  cases hstep with
  | unchanged => exact (State.Apart.refl s).ranges
  | enrols bound i id => exact ((State.Apart.of_releaseSlot s bound).trans (.of_arbiter (.of_bindSlot ..))).ranges
  | reports a i => exact (State.Apart.of_takeReport ..).ranges
  | joins i => exact (State.Apart.of_arbiter (.of_joinQueue ..)).ranges
  | quiets forced i => exact (State.Apart.of_takeQuiet ..).ranges
  | takesQuery q =>
    rw [State.takeQuery_eq]
    exact State.Apart.ranges ⟨rfl, rfl, rfl⟩
  | handsForecast => exact State.Apart.ranges ⟨rfl, rfl, rfl⟩
  | setsClock minute second =>
    have hframe := ZoneFrame.of_evaluateZones { s with clock := { ms := 0, minute := minute, second := second, isSet := true } }
    exact ⟨fun h => zonesSound_evaluateZones (zonesSound_of_eq h rfl), .of_same hframe.receptors_eq hframe.exceedances_eq⟩
  | entersEnforce =>
    have hframe := ZoneFrame.of_evaluateZones s
    have hzones (h : s.ZonesSound) := zonesSound_evaluateZones h
    unfold State.beginEnforce
    generalize s.evaluateZones = u at hframe hzones ⊢
    rw [State.trigger_eq]
    exact ⟨fun h => zonesSound_of_eq (hzones h) rfl, .of_same hframe.receptors_eq hframe.exceedances_eq⟩
  | returnsToSetup => exact State.Apart.ranges ⟨rfl, rfl, rfl⟩
  | pushesCap i cap => exact (State.Apart.of_updSlot_trigger s i _).ranges
  | popsCap i top rest => exact (State.Apart.of_updSlot_trigger s i _).ranges
  | setsConsole i present event => exact (State.Apart.of_arbiter (.of_updClamped ..)).ranges
  | evicts i => exact (State.Apart.of_evictSlot ..).ranges
  | readsNotices => exact State.Apart.ranges ⟨rfl, rfl, rfl⟩
  | setsMask => exact State.Apart.ranges ⟨rfl, rfl, rfl⟩
  | savesSettings => exact State.Apart.ranges ⟨rfl, rfl, rfl⟩
  | replacesSite x => exact (State.Apart.of_replaceSite ..).ranges
  | replacesZone z bps ramp margin htable hbps hramp hmargin =>
    have hframe : ZoneFrame s (s.replaceZone z bps ramp margin) :=
      (ZoneFrame.of_updZone ..).trans ((ZoneFrame.of_arbiter (.of_triggerIf ..)).trans ((ZoneFrame.of_evaluateZone ..).trans (.of_postZone ..)))
    exact ⟨fun h => zonesSound_replaceZone hbps hramp hmargin h z, hframe.measures⟩
  | unloadsZone z => exact ⟨fun h => zonesSound_unloadZone h z, (ZoneFrame.of_unloadZone s z).measures⟩
  | createsReceptor r address z floor htable haddress hzone htaken hfloor hnone =>
    refine ⟨fun h => zonesSound_of_eq h rfl, .of_createReceptor haddress (fun q hq y hy he => ?_) hfloor (by rw [State.link?, hnone]; rfl)⟩
    have hused := State.addressTaken_iff.2 ⟨q, y, hq, hy, he⟩
    rw [htaken] at hused
    cases hused
  | editsReceptor r x address z floor htable haddress hzone htaken hfloor hx =>
    exact ⟨fun h => zonesSound_of_eq h (s.editReceptor_zones ..), .of_editReceptor hmode hx haddress htaken hfloor⟩
  | removesReceptor r x => exact ⟨fun h => zonesSound_of_eq h (s.removeReceptor_zones r), .of_removeReceptor s r⟩
  | replacesStage i k weight stageMax => exact (State.Apart.of_replaceStage ..).ranges
  | returnsStage i => exact (State.Apart.of_returnStage ..).ranges
  | createsPath q i r loss =>
    have hpath : s.Apart (s.setPath q (some { slot := i, receptor := r, loss := loss })) := ⟨rfl, rfl, rfl⟩
    exact (hpath.trans ((State.Apart.of_arbiter (.of_trigger _)).trans (.of_pathCreated ..))).ranges
  | changesLoss q i r old loss =>
    have hpath : s.Apart (s.setPath q (some { slot := i, receptor := r, loss := loss })) := ⟨rfl, rfl, rfl⟩
    exact (hpath.trans (.of_arbiter (.of_triggerIf ..))).ranges
  | deletesPath q i r =>
    have hpath : s.Apart (s.setPath q none) := ⟨rfl, rfl, rfl⟩
    exact (hpath.trans (.of_arbiter (.of_trigger _))).ranges
  | ordersClear => exact State.Apart.ranges ⟨rfl, rfl, rfl⟩

end owner

end Sys2Proof.Machine
end

section
/-! SUPPORT. Every step keeps the zones, the slots and the site parameters in their ranges (O8, its theorem), and the receptors and the exceedance table
sound (O9, its theorem). -/

namespace Sys2Proof.Machine

section steps
variable {s t : State}

theorem slotsFit_reset : State.reset.SlotsFit := by
  obtain ⟨-, -, -, -, -, hslots, -⟩ := resetIsSound
  exact State.slotsFit_iff.2 hslots

theorem zonesSound_reset : State.reset.ZonesSound := by
  obtain ⟨-, -, hzones, -⟩ := resetIsSound
  exact hzones

theorem State.SlotsFit.endLoad (h : s.SlotsFit) : s.endLoad.SlotsFit := by
  have hended : ({ s with mode := .setup, loader := .ended } : State).SlotsFit := h.of_same rfl rfl
  exact hended.evaluateZones

theorem State.SlotsFit.engineDone (h : s.SlotsFit) (result : EngineResult) : (s.engineDone result).SlotsFit := h.of_same rfl rfl

theorem StepCase.slotsFit (hstep : StepCase s t) (h : s.SlotsFit) : t.SlotsFit := by
  cases hstep with
  | unchanged => exact h
  | hardReset start => exact slotsFit_reset.of_same rfl rfl
  | warmRestart => exact slotsFit_reset.of_same rfl rfl
  | released => exact h.of_same rfl rfl
  | loadEnds =>
    have hload := State.load_slotsFit h
    unfold State.completeLoad
    generalize s.load = l at hload ⊢
    dsimp only
    split
    · exact (hload.post _).endLoad
    · exact hload.endLoad
  | memoryAbsent => exact (h.post _).endLoad
  | secondBoundary =>
    unfold State.secondBoundary
    split
    · exact h
    · have helapsed := h.elapse (1000 - s.clock.ms) s.clock.nextSecond
      dsimp only
      split
      · exact helapsed.secondWork
      · exact helapsed.minuteWork _
  | minuteBoundary =>
    unfold State.minuteBoundary
    split
    · exact h
    · exact (h.elapse _ s.clock.nextMinute).minuteWork _
  | pollSent p => exact h.of_same rfl rfl
  | pollEnds cls level => exact h.pollEnds ..
  | recalculationEnds c hactivity =>
    have hc := h.captured c (by rw [hactivity]; rfl)
    exact ((((h.publish hc).ageAll).takePassReport _ _)).chooseNext
  | forecastEnds c q m sec =>
    have htaken : (s.takeForecast (c.forecast q) m sec).SlotsFit := by
      unfold State.takeForecast
      split
      · exact h.of_same rfl rfl
      · exact h
    exact htaken.chooseNext
  | staleTime i => exact h.staleSlot i
  | ageOut i => exact h.ageSlot i
  | handoverExpires => exact h.grant _
  | discards =>
    rw [State.discardForecast_eq]
    exact h.of_same rfl rfl
  | clearEnds k => exact (h.clearTable k).engineDone _
  | saveEnds => exact h.of_same rfl rfl
  | receiver => exact h.of_same rfl rfl
  | replySent => exact h.of_same rfl rfl
  | busReceiver => exact h.of_same rfl rfl
  | entrySent => exact h.of_same rfl rfl
  | refuses => exact h.of_same rfl rfl
  | answers c head owner hc ho hloader hmode hstep => exact (hstep.slotsFit h).of_same rfl rfl
  | millisecond => exact h.elapse ..

/-! ### The completion of a clear -/

theorem State.clearTable_ranges (s : State) (k : Table) : (s.ZonesSound → (s.clearTable k).1.ZonesSound) ∧ s.Measures True (s.clearTable k).1 := by
  unfold State.clearTable
  cases k <;> dsimp only
  case site => exact (State.Apart.of_replaceSite ..).ranges
  case zone => exact ⟨zonesSound_foldl (fun _ z h => zonesSound_unloadZone h z) _, (ZoneFrame.foldl _ ZoneFrame.of_unloadZone _ s).measures⟩
  case receptor =>
    exact ⟨fun h => zonesSound_of_eq h (foldl_keeps (g := State.zones) State.removeReceptor_zones _ s), .foldl State.Measures.of_removeReceptor _ s⟩
  case stage => exact (State.Apart.foldl State.Apart.of_returnStage _ s).ranges
  case path => exact (State.Apart.of_clearPaths s).ranges
  case exceedance =>
    refine ⟨fun h => zonesSound_of_eq h (foldl_keeps (g := State.zones) (fun u r => ?_) _ _), .of_clearExceedances s⟩
    unfold State.unlinkExceedance
    split
    · rw [State.trigger_eq]
      rfl
    · rfl
  case ring => exact (State.Apart.refl s).ranges

/-! ### The boundaries -/

theorem zonesSound_pollAtSecond (h : s.ZonesSound) : s.pollAtSecond.ZonesSound := by
  unfold State.pollAtSecond State.startCycle
  split
  · rw [State.pollFrom_eq]
    exact zonesSound_of_eq h rfl
  · exact h

theorem zonesSound_secondWork (h : s.ZonesSound) : s.secondWork.ZonesSound := by
  unfold State.secondWork
  split
  · exact h
  next hmode => exact zonesSound_pollAtSecond (zonesSound_zonesAtSecond _ hmode h)

theorem zonesSound_minuteWork (h : s.ZonesSound) (ended : Nat) : (s.minuteWork ended).ZonesSound := by
  unfold State.minuteWork
  split
  · exact h
  next hmode =>
    have hzones := zonesSound_zonesAtMinute allZones (s, []) hmode h
    exact zonesSound_pollAtSecond (zonesSound_of_eq hzones (CloseFrame.foldl _ (CloseFrame.of_closeReceptor _ ended) _ _).zones_eq)

theorem State.Measures.of_pollAtSecond {ok : Prop} (s : State) : s.Measures ok s.pollAtSecond := ite (fun _ => of_pollFrom ..) fun _ => refl s

theorem State.Measures.of_secondWork {ok : Prop} (s : State) : s.Measures ok s.secondWork :=
  ite (fun _ => refl s) fun _ => (ZoneFrame.foldl _ ZoneFrame.of_zoneSecond _ s).measures.trans (of_pollAtSecond _)

theorem State.Measures.of_minuteWork (s : State) (ended : Nat) : s.Measures (ended < 1440) (s.minuteWork ended) :=
  ite (fun _ => refl s) fun _ => (ZoneFrame.of_zonesAtMinute allZones (s, [])).measures.trans
    ((foldl (of_closeReceptor _) _ _).trans (of_pollAtSecond _))

theorem State.Measures.weaken {ok ok' : Prop} (h : s.Measures ok t) (hok : ok' → ok) : s.Measures ok' t := ⟨fun h' => h.receptors (hok h'), h.exceedances⟩

theorem State.Measures.congr_left {ok : Prop} {u : State} (h : u.Measures ok t) (hreceptors : u.receptors = s.receptors)
    (hexceedances : u.exceedances = s.exceedances) : s.Measures ok t := (of_same hreceptors hexceedances).trans h

theorem State.pollOutcome_zones (s : State) (p : Poll) (cls : PollClass) (level : Level) : (s.pollOutcome p cls level).zones = s.zones := by
  cases hx : s.receptor p.receptor with
  | none =>
    have heq : s.pollOutcome p cls level = s.pollFrom (p.receptor.val + 1) p.second := by simp [State.pollOutcome, hx, State.continueCycle]
    rw [heq, State.pollFrom_eq]
  | some x =>
    obtain ⟨hframe, -⟩ := State.pollOutcome_spec (cls := cls) (level := level) hx rfl rfl
    have hzones := congrArg State.zones hframe
    exact hzones

/-! ### Any step -/

theorem zonesSound_endLoad (h : s.ZonesSound) : s.endLoad.ZonesSound := zonesSound_evaluateZones (zonesSound_of_eq h rfl)

theorem StepCase.zonesSound (hstep : StepCase s t) (h : s.ZonesSound) : t.ZonesSound := by
  cases hstep with
  | unchanged => exact h
  | hardReset start => exact zonesSound_of_eq zonesSound_reset rfl
  | warmRestart => exact zonesSound_of_eq zonesSound_reset rfl
  | released => exact zonesSound_of_eq h rfl
  | loadEnds =>
    have hload := State.load_zonesSound h
    unfold State.completeLoad
    generalize s.load = l at hload ⊢
    dsimp only
    split
    · exact zonesSound_endLoad (zonesSound_of_eq hload rfl)
    · exact zonesSound_endLoad hload
  | memoryAbsent => exact zonesSound_endLoad (zonesSound_of_eq h rfl)
  | secondBoundary =>
    unfold State.secondBoundary
    split
    · exact h
    · have helapsed : ({ s.elapse (1000 - s.clock.ms) with clock := s.clock.nextSecond } : State).ZonesSound := zonesSound_of_eq h rfl
      dsimp only
      split
      · exact zonesSound_secondWork helapsed
      · exact zonesSound_minuteWork helapsed _
  | minuteBoundary =>
    unfold State.minuteBoundary
    split
    · exact h
    · have helapsed : ({ s.elapse (60000 - (1000 * s.clock.second + s.clock.ms)) with clock := s.clock.nextMinute } : State).ZonesSound :=
        zonesSound_of_eq h rfl
      exact zonesSound_minuteWork helapsed _
  | pollSent p => exact zonesSound_of_eq h rfl
  | pollEnds cls level =>
    refine zonesSound_of_eq h ?_
    unfold State.pollEnds
    split
    · split
      · exact s.pollOutcome_zones ..
      · rfl
    · rfl
  | recalculationEnds c => exact zonesSound_of_eq h (State.Apart.of_endRecalculation s c).zones_eq
  | forecastEnds c q m sec =>
    have haside : (s.endForecast c q m sec).zones = s.zones := by
      unfold State.endForecast State.takeForecast
      rw [State.chooseNext_eq]
      split <;> rfl
    exact zonesSound_of_eq h haside
  | staleTime i => exact zonesSound_of_eq h (State.Apart.of_staleSlot s i).zones_eq
  | ageOut i => exact zonesSound_of_eq h (State.Apart.of_ageSlot s i).zones_eq
  | handoverExpires => exact zonesSound_of_eq h (ArbiterFrame.of_grant s _).zones_eq
  | discards =>
    rw [State.discardForecast_eq]
    exact zonesSound_of_eq h rfl
  | clearEnds k => exact zonesSound_of_eq ((s.clearTable_ranges k).1 h) rfl
  | saveEnds => exact zonesSound_of_eq h rfl
  | receiver => exact zonesSound_of_eq h rfl
  | replySent => exact zonesSound_of_eq h rfl
  | busReceiver => exact zonesSound_of_eq h rfl
  | entrySent => exact zonesSound_of_eq h rfl
  | refuses => exact zonesSound_of_eq h rfl
  | answers c head owner hc ho hloader hmode hstep => exact zonesSound_of_eq ((hstep.ranges hmode).1 h) rfl
  | millisecond => exact zonesSound_of_eq h rfl

/-- A load over no receptors keeps the receptors and the exceedance table sound. -/
theorem State.Measures.of_load (h : ∀ r, s.receptor r = none) : s.Measures True s.load.state := by
  obtain ⟨hsound, hlink⟩ := State.load_receptors h
  have hexceedances : s.load.state.exceedances = s.exceedances := by rw [s.loadedFrom_load.1]
  refine ⟨fun _ _ => hsound, fun hs => exceedancesSound_congr hs (by rw [hexceedances]) (State.excRecord_congr hexceedances) fun r => ?_⟩
  rw [hlink, State.link?, h]
  rfl

theorem State.Measures.of_endLoad {ok : Prop} (s : State) : s.Measures ok s.endLoad := by
  have hended : s.Measures ok { s with mode := .setup, loader := .ended } := .of_same rfl rfl
  exact hended.trans (ZoneFrame.of_evaluateZones _).measures

/-- After a reset no receptor has a record (R36). -/
theorem receptorsSound_of_none (h : ∀ r, s.receptor r = none) : s.ReceptorsSound := by
  unfold State.ReceptorsSound
  simp [h]

theorem State.warmRestart_receptor (s : State) (r : ReceptorId) : s.warmRestart.receptor r = none := by
  show State.reset.receptor r = none
  exact receptor_reset r

theorem State.warmRestart_created (s : State) : s.warmRestart.exceedances.created = s.exceedances.created := by
  simp only [State.warmRestart, State.restartedExceedances]

/-- A warm restart closes the OPEN records and removes the receptors (R69). -/
theorem exceedancesSound_warmRestart (h : s.ExceedancesSound) : s.warmRestart.ExceedancesSound := by
  have hnone := s.warmRestart_receptor
  have hrecord := s.excRecord_warmRestart
  have hcreated := s.warmRestart_created
  generalize s.warmRestart = t at hnone hrecord hcreated ⊢
  obtain ⟨hnodup, hmem, -, -⟩ := h
  refine ⟨hcreated ▸ hnodup, fun p => ?_, fun p x hx hstate => ?_, fun r p hr => ?_⟩
  · rw [hrecord, Option.isSome_map, hcreated]
    exact hmem p
  · rw [hrecord] at hx
    obtain ⟨y, -, rfl⟩ := Option.map_eq_some_iff.1 hx
    rw [ExcRecord.restarted_eq] at hstate
    split at hstate
    · cases hstate
    next hclosed => exact absurd hstate hclosed
  · rw [hnone] at hr
    cases hr

theorem State.Measures.of_warmRestart {ok : Prop} (s : State) : s.Measures ok s.warmRestart :=
  ⟨fun _ _ => receptorsSound_of_none s.warmRestart_receptor, exceedancesSound_warmRestart⟩

theorem State.Measures.of_hardReset {ok : Prop} (s : State) (start : StartKind) : s.Measures ok (s.hardReset start) := by
  obtain ⟨-, -, -, hreceptors, hexceedances, -⟩ := resetIsSound
  have hsame : State.reset.Measures True (s.hardReset start) := .of_same rfl rfl
  exact ⟨fun _ _ => hsame.receptors trivial hreceptors, fun _ => hsame.exceedances hexceedances⟩

theorem StepCase.measures (hstep : StepCase s t) (hboot : s.BootSound) : s.Measures (s.clock.InRange ∧ s.SlotsFit) t := by
  cases hstep with
  | unchanged => exact .refl s
  | hardReset start => exact .of_hardReset s start
  | warmRestart => exact .of_warmRestart s
  | released => exact .of_same rfl rfl
  | loadEnds hloading =>
    obtain ⟨-, -, hnone, -⟩ := hboot.2 (State.BootSound.boot_of_loading hboot hloading)
    have hload := (State.Measures.of_load hnone).weaken (ok' := s.clock.InRange ∧ s.SlotsFit) fun _ => trivial
    unfold State.completeLoad
    generalize s.load = l at hload ⊢
    dsimp only
    split
    · exact hload.trans ((State.Measures.of_post ..).trans (.of_endLoad _))
    · exact hload.trans (.of_endLoad _)
  | memoryAbsent => exact (State.Measures.of_post s _).trans (.of_endLoad _)
  | secondBoundary =>
    unfold State.secondBoundary
    split
    · exact .refl s
    · dsimp only
      split
      · exact (State.Measures.of_secondWork _).congr_left rfl rfl
      · exact ((State.Measures.of_minuteWork _ s.clock.minute).weaken fun h => h.1.2.2).congr_left rfl rfl
  | minuteBoundary =>
    unfold State.minuteBoundary
    split
    · exact .refl s
    · exact ((State.Measures.of_minuteWork { s.elapse (60000 - (1000 * s.clock.second + s.clock.ms)) with clock := s.clock.nextMinute } s.clock.minute).weaken
        fun h => h.1.2.2).congr_left rfl rfl
  | pollSent p => exact .of_same rfl rfl
  | pollEnds cls level hlevel => exact (State.Measures.of_pollEnds s cls hlevel).weaken And.right
  | recalculationEnds c => exact (State.Apart.of_endRecalculation s c).measures
  | forecastEnds c q m sec =>
    unfold State.endForecast State.takeForecast
    rw [State.chooseNext_eq]
    split <;> exact .of_same rfl rfl
  | staleTime i => exact (State.Apart.of_staleSlot s i).measures
  | ageOut i => exact (State.Apart.of_ageSlot s i).measures
  | handoverExpires => exact (State.Apart.of_arbiter (.of_grant s _)).measures
  | discards =>
    rw [State.discardForecast_eq]
    exact .of_same rfl rfl
  | clearEnds k => exact ((s.clearTable_ranges k).2.weaken fun _ => trivial).trans (.of_same rfl rfl)
  | saveEnds => exact .of_same rfl rfl
  | receiver => exact .of_same rfl rfl
  | replySent => exact .of_same rfl rfl
  | busReceiver => exact .of_same rfl rfl
  | entrySent => exact .of_same rfl rfl
  | refuses => exact .of_same rfl rfl
  | answers c head owner hc ho hloader hmode hstep => exact ((hstep.ranges hmode).2.weaken fun _ => trivial).trans (.of_same rfl rfl)
  | millisecond => exact .of_same rfl rfl

theorem OwnerWork.siteInRange {p : Port} (h : OwnerWork p s t) (hs : s.site.InRange) : t.site.InRange := by
  cases h with
  | works h => exact h.frame.site_eq ▸ hs
  | takesQuery q =>
    rw [State.takeQuery_eq]
    exact hs
  | handsForecast => exact hs
  | setsClock _ _ h => exact h.frame.site_eq ▸ hs
  | changesMode h _ _ k =>
    rw [k.frame.site_eq]
    exact h.frame.site_eq ▸ hs
  | readsNotices => exact hs
  | setsMask => exact hs
  | replacesSite hx h =>
    rw [h.frame.site_eq]
    exact hx
  | ordersTable => exact hs

theorem StepWork.siteInRange (h : StepWork s t) (hs : s.site.InRange) : t.site.InRange := by
  cases h with
  | works h => exact h.frame.site_eq ▸ hs
  | hardReset => exact siteDefault_inRange
  | warmRestart => exact siteDefault_inRange
  | released => exact hs
  | loadEnds _ h hv k =>
    rw [k.frame.site_eq]
    show (State.site _).InRange
    rw [hv.frame.site_eq]
    exact h.2 hs
  | passes n clock _ _ h =>
    rw [h.frame.site_eq]
    exact hs
  | recalculationEnds c _ h =>
    rw [State.chooseNext_eq]
    exact h.frame.site_eq ▸ hs
  | forecastEnds c q m sec =>
    unfold State.endForecast State.takeForecast
    rw [State.chooseNext_eq]
    split <;> exact hs
  | discards =>
    rw [State.discardForecast_eq]
    exact hs
  | @clearEnds u k x result htable hx h =>
    have hsite : u.site.InRange := by
      rw [h.frame.site_eq]
      exact hx hs
    exact hsite
  | saveEnds => exact hs
  | receiver => exact hs
  | replySent => exact hs
  | busReceiver => exact hs
  | entrySent => exact hs
  | refuses => exact hs
  | answers _ _ _ _ _ _ hwork => exact hwork.siteInRange hs

end steps

/-- Settles O8. -/
theorem stepKeepsZonesAndSlotsInRange : Obligations.StepKeepsZonesAndSlotsInRange := by
  refine ⟨fun s t hs hstep => ?_, fun s t hs hstep => ?_, fun s t hs hstep => ?_⟩
  · exact kept_by_step (P := State.ZonesSound) (fun _ _ h => h) (fun _ _ hcase h => hcase.zonesSound h) hs hstep
  · exact kept_by_step (P := State.SlotsInRange) (fun _ _ h => h)
      (fun _ _ hcase h => State.slotsFit_iff.1 (hcase.slotsFit (State.slotsFit_iff.2 h))) hs hstep
  · exact kept_by_step (P := fun s => s.site.InRange) (fun _ _ h => h) (fun _ _ hcase h => hcase.work.siteInRange h) hs hstep

/-- Settles O9. -/
theorem stepKeepsReceptorsAndRecordsSound : Obligations.StepKeepsReceptorsAndRecordsSound := by
  refine ⟨fun s t hboot hclock hslots hs hstep => ?_, fun s t hboot hs hstep => ?_⟩
  · obtain ⟨rest, hcase⟩ := stepCase_step hstep
    exact (hcase.measures hboot).receptors ⟨hclock, State.slotsFit_iff.2 hslots⟩ hs
  · obtain ⟨rest, hcase⟩ := stepCase_step hstep
    exact (hcase.measures hboot).exceedances hs

end Sys2Proof.Machine
end

section
/-! SUPPORT. What a load makes of each entry of a section, and in which order it takes them (R175, R176). -/

namespace Sys2Proof.Machine

/-! ### Numbers and settings of the image -/

theorem wordAt_eq (bs : List Byte) (k : Nat) : wordAt bs k = 256 * byteAt bs k + byteAt bs (k + 1) := by rw [wordAt, Nat.mul_comm]

theorem byteAt_lt (bs : List Byte) (k : Nat) : byteAt bs k < 256 := (bs.getD k 0).isLt

theorem clampSetting_from (low high v : Nat) :
    clampSetting low high v = { value := max low (min high v), adjusted := decide (v < low ∨ high < v) } := by
  have hadjusted : (!(decide (low ≤ v) && decide (v ≤ high))) = decide (v < low ∨ high < v) := by
    rw [Bool.eq_iff_iff]
    simp only [Bool.not_eq_true', Bool.and_eq_false_iff, decide_eq_false_iff_not, decide_eq_true_eq]
    omega
  rw [clampSetting, hadjusted]
  rfl

theorem clampSetting_zero (high v : Nat) : clampSetting 0 high v = { value := min high v, adjusted := decide (high < v) } := by
  rw [clampSetting_from]
  simp

theorem clampSetting_one (high v : Nat) : clampSetting 1 high v = { value := max 1 (min high v), adjusted := decide (v = 0 ∨ high < v) } := by
  rw [clampSetting_from]
  simp

/-- A byte is within 255. -/
theorem clampSetting_byte {v : Nat} (h : v < 256) : clampSetting 1 255 v = { value := max 1 v, adjusted := decide (v = 0) } := by
  have hmin : min 255 v = v := by omega
  have habove : ¬255 < v := by omega
  rw [clampSetting_one, hmin]
  simp [habove]

theorem countAdjusted_nil : countAdjusted [] = 0 := rfl

theorem countAdjusted_cons (c : Clamped) (cs : List Clamped) : countAdjusted (c :: cs) = (if c.adjusted then 1 else 0) + countAdjusted cs := by
  unfold countAdjusted
  rw [List.filter_cons]
  split <;> simp [Nat.add_comm]

theorem clampNat_eq (low high v : Nat) : clampNat low high v = (clampSetting low high v).value := rfl

/-! ### The SITE and WITNESS sections -/

theorem loadSite_eq (l : Loading) (bs : List Byte) : loadSite l bs =
    { l with
      state := { l.state with site :=
        { blindMargin := min 60 (byteAt bs 0), correctionRise := max 1 (min 30 (byteAt bs 1)), correctionFall := max 1 (min 30 (byteAt bs 2)),
          tolerance := min 30 (byteAt bs 3), overLimit := max 1 (min 32 (byteAt bs 4)), releaseCount := max 1 (byteAt bs 5),
          staleTime := max 1 (min 10 (byteAt bs 6)), ageTime := max 10 (min 600 (wordAt bs 7)), handoverTime := max 1 (min 30 (byteAt bs 9)),
          discardTime := max 2 (min 30 (byteAt bs 10)), enables := l.state.site.enables } }
      clamped := l.clamped + (if decide (60 < byteAt bs 0) then 1 else 0) + (if decide (byteAt bs 1 = 0 ∨ 30 < byteAt bs 1) then 1 else 0) +
        (if decide (byteAt bs 2 = 0 ∨ 30 < byteAt bs 2) then 1 else 0) + (if decide (30 < byteAt bs 3) then 1 else 0) +
        (if decide (byteAt bs 4 = 0 ∨ 32 < byteAt bs 4) then 1 else 0) + (if decide (byteAt bs 5 = 0) then 1 else 0) +
        (if decide (byteAt bs 6 = 0 ∨ 10 < byteAt bs 6) then 1 else 0) + (if decide (wordAt bs 7 < 10 ∨ 600 < wordAt bs 7) then 1 else 0) +
        (if decide (byteAt bs 9 = 0 ∨ 30 < byteAt bs 9) then 1 else 0) + (if decide (byteAt bs 10 < 2 ∨ 30 < byteAt bs 10) then 1 else 0) } := by
  have hcount : (clampSite (byteAt bs 0) (byteAt bs 1) (byteAt bs 2) (byteAt bs 3) (byteAt bs 4) (byteAt bs 5) (byteAt bs 6) (wordAt bs 7)
      (byteAt bs 9) (byteAt bs 10) l.state.site.enables).2 = countAdjusted [clampSetting 0 60 (byteAt bs 0), clampSetting 1 30 (byteAt bs 1),
        clampSetting 1 30 (byteAt bs 2), clampSetting 0 30 (byteAt bs 3), clampSetting 1 32 (byteAt bs 4), clampSetting 1 255 (byteAt bs 5),
        clampSetting 1 10 (byteAt bs 6), clampSetting 10 600 (wordAt bs 7), clampSetting 1 30 (byteAt bs 9), clampSetting 2 30 (byteAt bs 10)] := rfl
  unfold loadSite
  dsimp only
  rw [hcount]
  simp only [clampSite, clampNat_eq, countAdjusted_cons, countAdjusted_nil, clampSetting_zero, clampSetting_byte (byteAt_lt bs 5), clampSetting_one,
    clampSetting_from 10, clampSetting_from 2, Nat.add_zero, Nat.add_assoc]

theorem loadEnable_eq (v : Nat) : loadEnable v = (v != 0, if decide (1 < v) then 1 else 0) := by
  match v with
  | 0 => rfl
  | 1 => rfl
  | n + 2 => simp [loadEnable, flagOf]

theorem loadWitness_eq (l : Loading) (bs : List Byte) : loadWitness l bs =
    { l with
      state := { l.state with site := { l.state.site with enables :=
        { stationReply := byteAt bs 0 != 0, minute := byteAt bs 1 != 0, exceedance := byteAt bs 2 != 0, ceiling := byteAt bs 3 != 0,
          clamp := byteAt bs 4 != 0 } } }
      clamped := l.clamped + (if decide (1 < byteAt bs 0) then 1 else 0) + (if decide (1 < byteAt bs 1) then 1 else 0) +
        (if decide (1 < byteAt bs 2) then 1 else 0) + (if decide (1 < byteAt bs 3) then 1 else 0) + (if decide (1 < byteAt bs 4) then 1 else 0) } := by
  simp only [loadWitness, loadEnable_eq, Nat.add_assoc]

/-! ### The entries -/

section entries
variable {l : Loading} {before : List (List Byte)} {bs : List Byte}

theorem loadZone_of_skipped (h : byteAt bs 0 = 0 ∨ 4 < byteAt bs 0 ∨ ∃ b ∈ before, byteAt b 0 = byteAt bs 0) : loadZone before l bs = l.skip := by
  unfold loadZone
  split
  · rfl
  next z hz =>
    have hkey := keyFromOne_eq_some.1 hz
    rw [if_pos]
    obtain ⟨b, hb, he⟩ := h.resolve_left (by omega) |>.resolve_left (by omega)
    exact List.any_eq_true.2 ⟨b, hb, beq_iff_eq.2 he⟩

theorem loadZone_of_taken {z : ZoneId} (hz : byteAt bs 0 = z.val + 1) (hnew : ¬∃ b ∈ before, byteAt b 0 = byteAt bs 0) : loadZone before l bs =
    { state := l.state.setZone z { l.state.zone z with
        breakpoints := sortBreakpoints (takeBreakpoints bs).kept, rampRate := max 1 (min 50 (byteAt bs 1)), recoveryMargin := min 60 (byteAt bs 2) }
      clamped := l.clamped + (if decide (byteAt bs 1 = 0 ∨ 50 < byteAt bs 1) then 1 else 0) + (if decide (60 < byteAt bs 2) then 1 else 0) +
        (takeBreakpoints bs).clamped
      skipped := l.skipped + (takeBreakpoints bs).skipped } := by
  have hzone : zoneOf (byteAt bs 0) = some z := keyFromOne_eq_some.2 hz
  have hrepeats : (before.any fun b => byteAt b 0 == byteAt bs 0) = false := List.any_eq_false.2 fun b hb he => hnew ⟨b, hb, beq_iff_eq.1 he⟩
  unfold loadZone
  rw [hzone]
  simp only [hrepeats, Bool.false_eq_true, if_false, countAdjusted_cons, countAdjusted_nil, clampSetting_one, clampSetting_zero, Nat.add_zero,
    Nat.add_assoc]
  rfl

/-- The breakpoints kept, put in ascending order. -/
theorem sorted_taken (bs : List Byte) : (sortBreakpoints (takeBreakpoints bs).kept).Perm (takeBreakpoints bs).kept ∧
    (sortBreakpoints (takeBreakpoints bs).kept).Pairwise fun x y => x.minute < y.minute := by
  obtain ⟨-, hdistinct, -, -⟩ := takeBreakpoints_sound bs
  obtain ⟨hsorted, -, hmem⟩ := sortBreakpoints_spec hdistinct
  refine ⟨(List.perm_ext_iff_of_nodup ?_ ?_).2 hmem, hsorted⟩
  · exact hsorted.imp fun {a b} hlt he => absurd (he ▸ hlt) (lt_irrefl _)
  · exact hdistinct.imp fun {a b} hne he => hne (congrArg Breakpoint.minute he)

theorem takeBreakpoint_of_skipped {k : KeptBreakpoints} (h : 1439 < wordAt bs 0 ∨ 1 < byteAt bs 4 ∨ wordAt bs 0 ∈ k.seen) :
    takeBreakpoint k bs = { k with seen := wordAt bs 0 :: k.seen, skipped := k.skipped + 1 } := by
  unfold takeBreakpoint
  dsimp only
  rw [flagOf_eq]
  by_cases hflag : byteAt bs 4 = 0 ∨ byteAt bs 4 = 1
  · rw [if_pos hflag]
    have hskip : 1439 < wordAt bs 0 ∨ k.seen.contains (wordAt bs 0) = true := by
      rw [List.contains_iff_mem]
      rcases h with h | h | h
      · exact .inl h
      · omega
      · exact .inr h
    dsimp only
    rw [if_pos hskip]
  · rw [if_neg hflag]

theorem takeBreakpoint_of_taken {k : KeptBreakpoints} (h : ¬(1439 < wordAt bs 0 ∨ 1 < byteAt bs 4 ∨ wordAt bs 0 ∈ k.seen)) :
    takeBreakpoint k bs =
      { k with
        kept := k.kept ++ [{ minute := wordAt bs 0, limit := min 1400 (wordAt bs 2), curfew := byteAt bs 4 == 1 }]
        seen := wordAt bs 0 :: k.seen
        clamped := k.clamped + if decide (1400 < wordAt bs 2) then 1 else 0 } := by
  obtain ⟨hminute, hflag, hnew⟩ := not_or.1 h |>.imp_right not_or.1
  have hkeep : ¬(1439 < wordAt bs 0 ∨ k.seen.contains (wordAt bs 0) = true) := by
    rw [List.contains_iff_mem, not_or]
    exact ⟨hminute, hnew⟩
  unfold takeBreakpoint
  rw [flagOf_eq, if_pos (by omega)]
  dsimp only
  rw [if_neg hkeep, clampSetting_zero]

/-- The conditions under which a receptor entry is skipped (R176). -/
abbrev ReceptorSkipped (l : Loading) (before : List (List Byte)) (bs : List Byte) : Prop :=
  byteAt bs 0 = 0 ∨ 16 < byteAt bs 0 ∨ byteAt bs 1 = 0 ∨ 31 < byteAt bs 1 ∨ byteAt bs 2 = 0 ∨ 4 < byteAt bs 2 ∨
    (∃ b ∈ before, byteAt b 0 = byteAt bs 0 ∨ byteAt b 1 = byteAt bs 1) ∨
    ∃ z : ZoneId, byteAt bs 2 = z.val + 1 ∧ (l.state.zone z).breakpoints = []

theorem loadReceptor_of_skipped (h : ReceptorSkipped l before bs) : loadReceptor before l bs = l.skip := by
  unfold loadReceptor
  dsimp only
  split
  next r z hr hz =>
    have hnumber := keyFromOne_eq_some.1 hr
    have hzone := keyFromOne_eq_some.1 hz
    split
    · rfl
    next haddress =>
      split
      · rfl
      next hnew =>
        rcases h with h | h | h | h | h | h | ⟨b, hb, he⟩ | ⟨y, hy, hnone⟩
        · omega
        · omega
        · exact absurd (.inl h) haddress
        · exact absurd (.inr h) haddress
        · omega
        · omega
        · exact absurd (List.any_eq_true.2 ⟨b, hb, by simpa using he⟩) hnew
        · obtain rfl : y = z := Fin.ext (by omega)
          rw [hnone]
          rfl
  · rfl

theorem loadReceptor_of_taken {r : ReceptorId} {z : ZoneId} (h : ¬ReceptorSkipped l before bs) (hr : byteAt bs 0 = r.val + 1)
    (hz : byteAt bs 2 = z.val + 1) : loadReceptor before l bs =
      { l with
        state := l.state.setReceptor r (some (receptorCreated (byteAt bs 1) z (min 1400 (wordAt bs 3))))
        clamped := l.clamped + if decide (1400 < wordAt bs 3) then 1 else 0 } := by
  simp only [ReceptorSkipped, not_or, not_exists, not_and] at h
  obtain ⟨-, -, hlow, hhigh, -, -, hnew, hbreakpoints⟩ := h
  have hreceptor : receptorOf (byteAt bs 0) = some r := keyFromOne_eq_some.2 hr
  have hzone : zoneOf (byteAt bs 2) = some z := keyFromOne_eq_some.2 hz
  have hrepeats : (before.any fun b => byteAt b 0 == byteAt bs 0 || byteAt b 1 == byteAt bs 1) = false := List.any_eq_false.2 fun b hb he => by
    rcases Bool.or_eq_true_iff.1 he with he | he
    · exact (hnew b hb).1 (beq_iff_eq.1 he)
    · exact (hnew b hb).2 (beq_iff_eq.1 he)
  have hlisted : (l.state.zone z).breakpoints.isEmpty = false := by simpa using hbreakpoints z hz
  unfold loadReceptor
  rw [hreceptor, hzone]
  simp only [not_or.2 ⟨hlow, hhigh⟩, hrepeats, hlisted, Bool.false_eq_true, if_false, clampSetting_zero, countAdjusted_cons, countAdjusted_nil,
    Nat.add_zero]

/-! ### Identities -/

theorem foldl_bytes (bs : List Byte) (n : Nat) : bs.foldl (fun n b => n * 256 + b.toNat) n = n * 256 ^ bs.length + bytesToNat bs := by
  induction bs generalizing n with
  | nil => simp [bytesToNat]
  | cons b bs ih =>
    have hb := ih b.toNat
    unfold bytesToNat at hb ⊢
    rw [List.foldl_cons, List.foldl_cons, ih, Nat.zero_mul, Nat.zero_add, hb, List.length_cons, pow_succ]
    unfold bytesToNat
    ring

theorem bytesToNat_cons (b : Byte) (bs : List Byte) : bytesToNat (b :: bs) = b.toNat * 256 ^ bs.length + bytesToNat bs := by
  unfold bytesToNat
  rw [List.foldl_cons, Nat.zero_mul, Nat.zero_add, foldl_bytes]
  rfl

theorem bytesToNat_lt (bs : List Byte) : bytesToNat bs < 256 ^ bs.length := by
  induction bs with
  | nil => simp [bytesToNat]
  | cons b bs ih =>
    have hb := b.isLt
    rw [bytesToNat_cons, List.length_cons, pow_succ]
    nlinarith

/-- Numbers of the same bytes are the same, and the other way round. -/
theorem bytesToNat_injective {as bs : List Byte} (hlength : as.length = bs.length) (h : bytesToNat as = bytesToNat bs) : as = bs := by
  induction as generalizing bs with
  | nil => exact (List.length_eq_zero_iff.1 hlength.symm).symm
  | cons a as ih =>
    cases bs with
    | nil => cases hlength
    | cons b bs =>
      have hlen : as.length = bs.length := Nat.succ.inj hlength
      have ha := bytesToNat_lt as
      have hb := bytesToNat_lt bs
      rw [bytesToNat_cons, bytesToNat_cons, hlen] at h
      rw [hlen] at ha
      have hpos : 0 < 256 ^ bs.length := by positivity
      have hhead : a.toNat = b.toNat := by
        have hdiv := congrArg (· / 256 ^ bs.length) h
        simpa only [Nat.add_comm (_ * _), Nat.add_mul_div_right _ _ hpos, Nat.div_eq_of_lt ha, Nat.div_eq_of_lt hb, Nat.zero_add] using hdiv
      rw [hhead, Nat.add_left_cancel_iff] at h
      rw [BitVec.eq_of_toNat_eq hhead, ih hlen h]

theorem identityOf_injective {as bs : List Byte} (ha : as.length = 10) (hb : bs.length = 10) :
    identityOf as = identityOf bs ↔ (as.drop 1).take 6 = (bs.drop 1).take 6 := by
  have hlength {cs : List Byte} (hc : cs.length = 10) : ((cs.drop 1).take 6).length = 6 := by simp [hc]
  refine ⟨fun h => bytesToNat_injective ((hlength ha).trans (hlength hb).symm) ?_, fun h => by rw [identityOf, identityOf, h]⟩
  have hbound {cs : List Byte} (hc : cs.length = 10) : bytesToNat ((cs.drop 1).take 6) < 2 ^ 48 := by
    have := bytesToNat_lt ((cs.drop 1).take 6)
    rwa [hlength hc] at this
  have hval := congrArg BitVec.toNat h
  rwa [identityOf, identityOf, BitVec.toNat_ofNat, BitVec.toNat_ofNat, Nat.mod_eq_of_lt (hbound ha), Nat.mod_eq_of_lt (hbound hb)] at hval

theorem identityOf_of_bytes {id : Identity} (h : identityBytes id = (bs.drop 1).take 6) : identityOf bs = id := by
  rw [identityOf, ← h, bytesToNat_identityBytes, BitVec.ofNat_toNat, BitVec.setWidth_eq]

/-! ### FIXED slots and paths -/

theorem loadStage_of_skipped (hlengths : ∀ b ∈ bs :: before, b.length = 10)
    (h : byteAt bs 0 = 0 ∨ 8 < byteAt bs 0 ∨ ∃ b ∈ before, byteAt b 0 = byteAt bs 0 ∨ (b.drop 1).take 6 = (bs.drop 1).take 6) :
    loadStage before l bs = l.skip := by
  obtain ⟨hbs, hall⟩ := List.forall_mem_cons.1 hlengths
  unfold loadStage
  dsimp only
  split
  · rfl
  next i hi =>
    have hkey := keyFromOne_eq_some.1 hi
    obtain ⟨b, hb, he⟩ := h.resolve_left (by omega) |>.resolve_left (by omega)
    rw [if_pos]
    refine List.any_eq_true.2 ⟨b, hb, ?_⟩
    rw [Bool.or_eq_true, beq_iff_eq, beq_iff_eq, identityOf_injective (hall b hb) hbs]
    exact he

theorem loadStage_of_taken {i : SlotId} {id : Identity} (hlengths : ∀ b ∈ bs :: before, b.length = 10)
    (h : ¬(byteAt bs 0 = 0 ∨ 8 < byteAt bs 0 ∨ ∃ b ∈ before, byteAt b 0 = byteAt bs 0 ∨ (b.drop 1).take 6 = (bs.drop 1).take 6))
    (hi : byteAt bs 0 = i.val + 1) (hid : identityBytes id = (bs.drop 1).take 6) : loadStage before l bs =
      { l with
        state := l.state.setSlot i { slotDefault with
          kind := .fixed, state := .quiet, identity := some id, weight := max 1 (min 4 (byteAt bs 7)), stageMax := min 1400 (wordAt bs 8) }
        clamped := l.clamped + (if decide (byteAt bs 7 = 0 ∨ 4 < byteAt bs 7) then 1 else 0) + if decide (1400 < wordAt bs 8) then 1 else 0 } := by
  simp only [not_or, not_exists, not_and] at h
  obtain ⟨-, -, hnew⟩ := h
  obtain ⟨hbs, hall⟩ := List.forall_mem_cons.1 hlengths
  have hslot : slotOf (byteAt bs 0) = some i := keyFromOne_eq_some.2 hi
  have hrepeats : (before.any fun b => byteAt b 0 == byteAt bs 0 || identityOf b == identityOf bs) = false := List.any_eq_false.2 fun b hb he => by
    rcases Bool.or_eq_true_iff.1 he with he | he
    · exact (hnew b hb).1 (beq_iff_eq.1 he)
    · exact (hnew b hb).2 ((identityOf_injective (hall b hb) hbs).1 (beq_iff_eq.1 he))
  unfold loadStage
  rw [hslot]
  simp only [hrepeats, Bool.false_eq_true, if_false]
  simp only [clampSetting_zero, clampSetting_one, countAdjusted_cons, countAdjusted_nil, Nat.add_zero, Nat.add_assoc, identityOf_of_bytes hid]

/-- The conditions under which a path entry is skipped (R176). -/
abbrev PathSkipped (l : Loading) (before : List (List Byte)) (bs : List Byte) : Prop :=
  byteAt bs 0 = 0 ∨ 8 < byteAt bs 0 ∨ byteAt bs 1 = 0 ∨ 16 < byteAt bs 1 ∨
    (∃ b ∈ before, byteAt b 0 = byteAt bs 0 ∧ byteAt b 1 = byteAt bs 1) ∨
    (∃ i : SlotId, byteAt bs 0 = i.val + 1 ∧ (l.state.slot i).kind ≠ .fixed) ∨ ∃ r : ReceptorId, byteAt bs 1 = r.val + 1 ∧ l.state.receptor r = none

theorem loadPath_of_skipped (h : PathSkipped l before bs) : loadPath before l bs = l.skip := by
  unfold loadPath
  dsimp only
  split
  next i r p hi hr hp =>
    have hslot := keyFromOne_eq_some.1 hi
    have hreceptor := keyFromOne_eq_some.1 hr
    split
    · rfl
    next hnew =>
      rw [if_pos]
      rcases h with h | h | h | h | ⟨b, hb, he⟩ | ⟨j, hj, hkind⟩ | ⟨q, hq, hnone⟩
      · omega
      · omega
      · omega
      · omega
      · exact absurd (List.any_eq_true.2 ⟨b, hb, by simpa using he⟩) hnew
      · obtain rfl : j = i := Fin.ext (by omega)
        exact .inl hkind
      · obtain rfl : q = r := Fin.ext (by omega)
        exact .inr (Option.isNone_iff_eq_none.2 hnone)
  · rfl

theorem loadPath_of_taken {i : SlotId} {r : ReceptorId} {p : PathPos} (h : ¬PathSkipped l before bs) (hi : byteAt bs 0 = i.val + 1)
    (hr : byteAt bs 1 = r.val + 1) (hp : l.state.path p = none) (hfirst : ∀ q, q < p → l.state.path q ≠ none) : loadPath before l bs =
      { l with
        state := l.state.setPath p (some { slot := i, receptor := r, loss := min 1200 (wordAt bs 2) })
        clamped := l.clamped + if decide (1200 < wordAt bs 2) then 1 else 0 } := by
  simp only [PathSkipped, not_or, not_exists, not_and, not_not] at h
  obtain ⟨-, -, -, -, hnew, hkind, hheld⟩ := h
  have hslot : slotOf (byteAt bs 0) = some i := keyFromOne_eq_some.2 hi
  have hreceptor : receptorOf (byteAt bs 1) = some r := keyFromOne_eq_some.2 hr
  have hrepeats : (before.any fun b => byteAt b 0 == byteAt bs 0 && byteAt b 1 == byteAt bs 1) = false := List.any_eq_false.2 fun b hb he => by
    obtain ⟨hs, hq⟩ := Bool.and_eq_true_iff.1 he
    exact hnew b hb (beq_iff_eq.1 hs) (beq_iff_eq.1 hq)
  have hnames : ¬((l.state.slot i).kind ≠ .fixed ∨ (l.state.receptor r).isNone = true) := by
    rw [not_or, not_not, Option.isNone_iff_eq_none]
    exact ⟨hkind i hi, hheld r hr⟩
  unfold loadPath
  rw [hslot, hreceptor, State.freePathPosition_eq_some hp hfirst]
  simp only [hrepeats, hnames, Bool.false_eq_true, if_false, clampSetting_zero, countAdjusted_cons, countAdjusted_nil, Nat.add_zero]

end entries

/-! ### The order of the entries (R176) -/

theorem loadEntries_snoc (f : List (List Byte) → Loading → List Byte → Loading) (before es : List (List Byte)) (l : Loading) (e : List Byte) :
    loadEntries f before l (es ++ [e]) = f (before ++ es) (loadEntries f before l es) e := by
  induction es generalizing before l with
  | nil => simp [loadEntries]
  | cons a es ih => simp [loadEntries, ih]

/-- The chunks of a run of entries of one size are those entries. -/
theorem entriesOf_flatten {size : Nat} {es : List (List Byte)} (h : ∀ e ∈ es, e.length = size) : entriesOf size es.length es.flatten = es := by
  induction es with
  | nil => rfl
  | cons e es ih =>
    obtain ⟨he, hes⟩ := List.forall_mem_cons.1 h
    rw [List.length_cons, entriesOf, List.flatten_cons, List.take_left' he, List.drop_left' he, ih hes]

theorem zoneEntries_flatten {es : List (List Byte)} (h : ∀ e ∈ es, 4 ≤ e.length ∧ e.length = 4 + 5 * byteAt e 3) :
    zoneEntries es.length es.flatten = es := by
  induction es with
  | nil => rfl
  | cons e es ih =>
    obtain ⟨⟨hlong, hsize⟩, hes⟩ := List.forall_mem_cons.1 h
    have hcount : byteAt (e ++ es.flatten) 3 = byteAt e 3 := by
      unfold byteAt
      rw [List.getD_append _ _ _ _ (by omega)]
    rw [List.length_cons, List.flatten_cons, zoneEntries]
    rw [hcount, List.take_left' hsize, List.drop_left' hsize, ih hes]

theorem byteAt_contents {n : Nat} (h : n < 256) (rest : List Byte) : byteAt (u8 n ++ rest) 0 = n := u8_toNat h

/-- A section of counted entries takes the last one after all before it. -/
theorem loadCounted_snoc {f : List (List Byte) → Loading → List Byte → Loading} {split : Nat → List Byte → List (List Byte)} {l : Loading}
    {before : List (List Byte)} {entry : List Byte} (hfew : before.length < 255) (hbefore : split before.length before.flatten = before)
    (hall : split (before ++ [entry]).length (before ++ [entry]).flatten = before ++ [entry]) :
    loadEntries f [] l (split (byteAt (u8 (before ++ [entry]).length ++ (before ++ [entry]).flatten) 0)
      ((u8 (before ++ [entry]).length ++ (before ++ [entry]).flatten).drop 1)) =
    f before (loadEntries f [] l (split (byteAt (u8 before.length ++ before.flatten) 0) ((u8 before.length ++ before.flatten).drop 1))) entry := by
  have hlength : (before ++ [entry]).length < 256 := by simp; omega
  rw [byteAt_contents hlength, byteAt_contents (by omega)]
  show loadEntries f [] l (split _ (before ++ [entry]).flatten) = f before (loadEntries f [] l (split _ before.flatten)) entry
  rw [hbefore, hall, loadEntries_snoc, List.nil_append]

/-- Settles O60. -/
theorem loadClampsAndSkips : Obligations.LoadClampsAndSkips := by
  refine ⟨fun l before bs => ?_, fun l before entry => ⟨fun hfew hsizes => ?_, fun hfew hsizes => ?_, fun hfew hsizes => ?_, fun hfew hsizes => ?_⟩⟩
  · intro value word skipped one
    have hword : word = wordAt := funext fun b => funext fun k => (wordAt_eq b k).symm
    clear_value word
    subst hword
    refine ⟨loadSite_eq l bs, loadWitness_eq l bs, ⟨loadZone_of_skipped, fun z hz hnew => ?_⟩, fun k => ⟨takeBreakpoint_of_skipped, takeBreakpoint_of_taken⟩,
      ⟨loadReceptor_of_skipped, fun r z h hr hz => loadReceptor_of_taken h hr hz⟩,
      fun hlengths => ⟨loadStage_of_skipped hlengths, fun i id h hi hid => loadStage_of_taken hlengths h hi hid⟩,
      loadPath_of_skipped, fun i r p h hi hr hp hfirst => loadPath_of_taken h hi hr hp hfirst⟩
    obtain ⟨hperm, hsorted⟩ := sorted_taken bs
    exact ⟨_, hperm, hsorted, loadZone_of_taken hz hnew⟩
  · exact loadCounted_snoc (by omega) (zoneEntries_flatten fun e he => hsizes e (List.mem_append_left _ he)) (zoneEntries_flatten hsizes)
  all_goals exact loadCounted_snoc (by omega) (entriesOf_flatten fun e he => hsizes e (List.mem_append_left _ he)) (entriesOf_flatten hsizes)

end Sys2Proof.Machine
end

section
/-! SUPPORT. A save read back: what its byte writes leave in the memory, and the contents of each section (R175, R177). -/

namespace Sys2Proof.Machine

/-! ### Runs of bytes in the memory -/

section memory
variable {m : Memory}

theorem Memory.writeAll_append (m : Memory) (ws vs : List Host.Cell) : m.writeAll (ws ++ vs) = (m.writeAll ws).writeAll vs := List.foldl_append

theorem Memory.read_writeAll_of_absent {ws : List Host.Cell} {a : Nat} (hw : m.wf = true) (h : ∀ w ∈ ws, w.1 ≠ a) : (m.writeAll ws).read a = m.read a := by
  rw [Memory.read_writeAll hw, List.find?_eq_none.2 fun w hmem => by simp [h w (List.mem_reverse.1 hmem)]]
  rfl

theorem Memory.bytes_succ (m : Memory) (a n : Nat) : m.bytes a (n + 1) = m.read a :: m.bytes (a + 1) n := by
  simp [Memory.bytes, List.range_succ_eq_map, Function.comp_def, Nat.add_assoc, Nat.add_comm 1]

theorem Memory.bytes_congr {m' : Memory} {a n : Nat} (h : ∀ b, a ≤ b → b < a + n → m'.read b = m.read b) : m'.bytes a n = m.bytes a n :=
  List.map_congr_left fun k hk => h (a + k) (by omega) (by have := List.mem_range.1 hk; omega)

theorem cellsAt_cons (a : Nat) (b : Byte) (bs : List Byte) : cellsAt a (b :: bs) = (a, b) :: cellsAt (a + 1) bs := by
  simp [cellsAt, List.mapIdx_cons, Nat.add_assoc, Nat.add_comm 1]

theorem mem_cellsAt {w : Host.Cell} {a : Nat} {bs : List Byte} (h : w ∈ cellsAt a bs) : a ≤ w.1 ∧ w.1 < a + bs.length := by
  obtain ⟨k, hk, rfl⟩ := List.mem_mapIdx.1 h
  exact ⟨Nat.le_add_right .., Nat.add_lt_add_left hk a⟩

theorem Memory.bytes_writeAll_cellsAt (hw : m.wf = true) (a : Nat) (bs : List Byte) : (m.writeAll (cellsAt a bs)).bytes a bs.length = bs := by
  induction bs generalizing m a with
  | nil => rfl
  | cons b bs ih =>
    have hw' := Memory.wf_write m a b hw
    have hcons : m.writeAll (cellsAt a (b :: bs)) = (m.write a b).writeAll (cellsAt (a + 1) bs) := by rw [cellsAt_cons]; rfl
    have habsent : ∀ w ∈ cellsAt (a + 1) bs, w.1 ≠ a := fun w hmem => by have := mem_cellsAt hmem; omega
    rw [hcons, List.length_cons, Memory.bytes_succ, ih hw', Memory.read_writeAll_of_absent hw' habsent, Memory.read_write m 0 a a b hw, if_pos rfl]

end memory

/-! ### One section of an image -/

/-- The bytes from the marker of a section to the marker of the next. -/
def sectionRoom : Section → Nat
  | .site => 0x100
  | .zones => 0x100
  | _ => 0x200

/-- The marker, the contents and the CRC stand before the next section. -/
def SectionImage.Fits (x : SectionImage) : Prop := x.contents.length + 3 ≤ sectionRoom x.sec

/-- The section stands in the memory: its marker, its contents and their CRC. -/
structure SectionImage.Stands (x : SectionImage) (m : Memory) : Prop where
  marked : m.read (sectionOffset x.sec) = 0x5A#8
  bytes : m.bytes (sectionOffset x.sec + 1) (x.contents.length + 2) = x.contents ++ crcBytes x.contents

theorem sections_apart {x y : Section} (h : x ≠ y) :
    sectionOffset x + sectionRoom x ≤ sectionOffset y ∨ sectionOffset y + sectionRoom y ≤ sectionOffset x := by
  cases x <;> cases y <;> simp_all [sectionOffset, sectionRoom]

namespace SectionImage
variable {x y : SectionImage} {m : Memory}

theorem contents_length : (x.contents ++ crcBytes x.contents).length = x.contents.length + 2 := List.length_append

theorem mem_writes {w : Host.Cell} (h : x.Fits) (hw : w ∈ x.writes) :
    sectionOffset x.sec ≤ w.1 ∧ w.1 < sectionOffset x.sec + sectionRoom x.sec := by
  unfold Fits at h
  simp only [SectionImage.writes, List.mem_append, List.mem_singleton] at hw
  rcases hw with (rfl | hw) | rfl
  · dsimp only; omega
  · have := mem_cellsAt hw
    rw [contents_length] at this
    omega
  · dsimp only; omega

theorem Stands.of_same {m' : Memory} (h : x.Stands m) (hfits : x.Fits)
    (hsame : ∀ a, sectionOffset x.sec ≤ a → a < sectionOffset x.sec + sectionRoom x.sec → m'.read a = m.read a) : x.Stands m' := by
  unfold Fits at hfits
  refine ⟨(hsame _ (by omega) (by omega)).trans h.marked, (Memory.bytes_congr fun b hlow hhigh => hsame b (by omega) (by omega)).trans h.bytes⟩

theorem stands_writes (hw : m.wf = true) : x.Stands (m.writeAll x.writes) := by
  have hsplit : m.writeAll x.writes = (((m.writeAll [(sectionOffset x.sec, 0x00#8)]).writeAll
      (cellsAt (sectionOffset x.sec + 1) (x.contents ++ crcBytes x.contents))).write (sectionOffset x.sec) 0x5A#8) := by
    rw [SectionImage.writes, Memory.writeAll_append, Memory.writeAll_append]
    rfl
  have hwf := Memory.wf_writeAll m [(sectionOffset x.sec, 0x00#8)] hw
  have hbytes := Memory.bytes_writeAll_cellsAt hwf (sectionOffset x.sec + 1) (x.contents ++ crcBytes x.contents)
  have hwf' := Memory.wf_writeAll _ (cellsAt (sectionOffset x.sec + 1) (x.contents ++ crcBytes x.contents)) hwf
  rw [hsplit]
  rw [contents_length] at hbytes
  refine ⟨?_, (Memory.bytes_congr fun b hlow _ => ?_).trans hbytes⟩
  · rw [Memory.read_write _ 0 _ _ _ hwf', if_pos rfl]
  · rw [Memory.read_write _ 0 _ _ _ hwf', if_neg (by omega)]

theorem Stands.writes (h : x.Stands m) (hw : m.wf = true) (hx : x.Fits) (hy : y.Fits) (hne : x.sec ≠ y.sec) : x.Stands (m.writeAll y.writes) :=
  h.of_same hx fun a hlow hhigh => Memory.read_writeAll_of_absent hw fun w hmem => by
    have := mem_writes hy hmem
    have := sections_apart hne
    omega

theorem Stands.saveWrites {image : List SectionImage} (h : x.Stands m) (hw : m.wf = true) (hx : x.Fits)
    (himage : ∀ y ∈ image, y.Fits ∧ x.sec ≠ y.sec) : x.Stands (m.writeAll (saveWrites image)) := by
  induction image generalizing m with
  | nil => exact h
  | cons y image ih =>
    obtain ⟨hy, himage⟩ := List.forall_mem_cons.1 himage
    rw [Machine.saveWrites, List.flatMap_cons, Memory.writeAll_append]
    exact ih (h.writes hw hx hy.1 hy.2) (Memory.wf_writeAll m y.writes hw) himage

/-- After a whole save each of its sections stands. -/
theorem stands_saveWrites {image : List SectionImage} (hw : m.wf = true) (hfits : ∀ y ∈ image, y.Fits)
    (hdistinct : image.Pairwise fun y z => y.sec ≠ z.sec) : ∀ y ∈ image, y.Stands (m.writeAll (Machine.saveWrites image)) := by
  induction image generalizing m with
  | nil => exact nofun
  | cons y image ih =>
    obtain ⟨hy, hfits⟩ := List.forall_mem_cons.1 hfits
    obtain ⟨hne, hdistinct⟩ := List.pairwise_cons.1 hdistinct
    have hw' := Memory.wf_writeAll m y.writes hw
    rw [Machine.saveWrites, List.flatMap_cons, Memory.writeAll_append]
    exact List.forall_mem_cons.2 ⟨(stands_writes hw).saveWrites hw' hy fun z hz => ⟨hfits z hz, hne z hz⟩, ih hw' hfits hdistinct⟩

/-- Byte k of the contents, in the memory. -/
theorem Stands.contents_eq (h : x.Stands m) : m.bytes (sectionOffset x.sec + 1) x.contents.length = x.contents := by
  rw [← Memory.take_bytes _ _ _ 2, h.bytes, List.take_left]

theorem Stands.value_eq (h : x.Stands m) {k : Nat} (hk : k < x.contents.length) : m.value (sectionOffset x.sec + 1 + k) = byteAt x.contents k := by
  rw [← Memory.byteAt_bytes m hk, h.contents_eq]

theorem Stands.read_eq (h : x.Stands m) (hlength : sectionLength m x.sec = some x.contents.length) : readSection m x.sec = (.loaded, x.contents) := by
  have hcrc : m.bytes (sectionOffset x.sec + 1 + x.contents.length) 2 = crcBytes x.contents := by
    rw [← Memory.drop_bytes, h.bytes, List.drop_left]
  unfold readSection
  dsimp only
  rw [if_neg (not_not.2 h.marked), hlength]
  dsimp only
  rw [h.contents_eq, if_pos hcrc]

end SectionImage

/-! ### The contents of the sections -/

theorem length_flatten_of_size {size : Nat} {es : List (List Byte)} (h : ∀ e ∈ es, e.length = size) : es.flatten.length = size * es.length := by
  induction es with
  | nil => rfl
  | cons e es ih =>
    obtain ⟨he, hes⟩ := List.forall_mem_cons.1 h
    rw [List.flatten_cons, List.length_append, ih hes, he, List.length_cons, Nat.mul_succ, Nat.add_comm]

theorem countedContents_length (es : List (List Byte)) : (countedContents es).length = 1 + es.flatten.length := List.length_append

theorem byteAt_countedContents {es : List (List Byte)} (h : es.length < 256) : byteAt (countedContents es) 0 = es.length := byteAt_contents h es.flatten

/-- A section whose count is within its maximum takes the bytes of its entries. -/
theorem countedLength_of_stands {x : SectionImage} {m : Memory} {es : List (List Byte)} {most size : Nat} (h : x.Stands m)
    (hcontents : x.contents = countedContents es) (hmost : es.length ≤ most) (hbyte : most < 256) (hsize : ∀ e ∈ es, e.length = size) :
    countedLength m (sectionOffset x.sec + 1) most size = some x.contents.length := by
  have hvalue : m.value (sectionOffset x.sec + 1) = es.length := by
    have := h.value_eq (k := 0) (by rw [hcontents, countedContents_length]; omega)
    rwa [hcontents, byteAt_countedContents (by omega)] at this
  rw [countedLength, hvalue, if_neg (by omega), hcontents, countedContents_length, length_flatten_of_size hsize]

theorem byteAt_append_left {as bs : List Byte} {k : Nat} (h : k < as.length) : byteAt (as ++ bs) k = byteAt as k := by
  unfold byteAt
  rw [List.getD_append _ _ _ _ h]

/-- The bytes of zone entries that stand in the memory. -/
theorem zoneRecordsLength_eq {m : Memory} {es : List (List Byte)} {a : Nat} (hbytes : m.bytes a es.flatten.length = es.flatten)
    (h : ∀ e ∈ es, e.length = 4 + 5 * byteAt e 3 ∧ byteAt e 3 ≤ 8) : zoneRecordsLength m a es.length = some es.flatten.length := by
  induction es generalizing a with
  | nil => rfl
  | cons e es ih =>
    obtain ⟨⟨hlength, hcount⟩, hes⟩ := List.forall_mem_cons.1 h
    rw [List.flatten_cons, List.length_append] at hbytes
    have hvalue : m.value (a + 3) = byteAt e 3 := by
      rw [← Memory.byteAt_bytes m (n := e.length + es.flatten.length) (by omega), hbytes, byteAt_append_left (by omega)]
    have hrest : m.bytes (a + e.length) es.flatten.length = es.flatten := by rw [← Memory.drop_bytes, hbytes, List.drop_left]
    rw [List.length_cons, zoneRecordsLength, hvalue, ← hlength, if_neg (by omega)]
    dsimp only
    rw [ih hrest hes, List.flatten_cons, List.length_append]
    rfl

theorem breakpointContents_length (bps : List Breakpoint) :
    (bps.flatMap fun b => u16 b.minute ++ u16 b.limit ++ flagByte b.curfew).length = 5 * bps.length := by
  rw [List.flatMap_def, length_flatten_of_size (size := 5), List.length_map]
  intro e he
  obtain ⟨b, -, rfl⟩ := List.mem_map.1 he
  rfl

/-- A zone record of eight breakpoints at most takes four bytes and five for each of them. -/
theorem zoneContents_length (z : ZoneId) {x : Zone} (h : x.breakpoints.length ≤ 8) :
    (zoneContents z x).length = 4 + 5 * x.breakpoints.length ∧ byteAt (zoneContents z x) 3 = x.breakpoints.length := by
  refine ⟨?_, u8_toNat (by omega)⟩
  rw [zoneContents, List.length_append, breakpointContents_length]
  rfl

section entries
variable {s : State}

theorem zoneEntries_size (h : s.ZonesSound) : ∀ e ∈ allZones.map fun z => zoneContents z (s.zone z), e.length = 4 + 5 * byteAt e 3 ∧ byteAt e 3 ≤ 8 := by
  intro e he
  obtain ⟨z, -, rfl⟩ := List.mem_map.1 he
  obtain ⟨-, -, hcount, -, -⟩ := h z
  obtain ⟨hlength, hbyte⟩ := zoneContents_length z hcount
  rw [hlength, hbyte]
  exact ⟨rfl, hcount⟩

theorem receptorEntries_size : ∀ e ∈ allReceptors.filterMap fun r => (s.receptor r).map (receptorContents r), e.length = 5 := by
  intro e he
  obtain ⟨r, -, hr⟩ := List.mem_filterMap.1 he
  obtain ⟨x, -, rfl⟩ := Option.map_eq_some_iff.1 hr
  rfl

theorem stageEntries_size : ∀ e ∈ s.stageEntries, e.length = 10 := by
  intro e he
  obtain ⟨i, -, hi⟩ := List.mem_filterMap.1 he
  dsimp only at hi
  split at hi
  · obtain ⟨id, -, rfl⟩ := Option.map_eq_some_iff.1 hi
    rfl
  · cases hi

theorem pathEntries_size : ∀ e ∈ s.pathEntries, e.length = 4 := by
  intro e he
  obtain ⟨p, -, hp⟩ := List.mem_filterMap.1 he
  obtain ⟨f, -, hf⟩ := Option.bind_eq_some_iff.1 hp
  split at hf
  · cases hf
    rfl
  · cases hf

theorem length_filterMap_all {α β : Type} (f : α → Option β) {l : List α} {n : Nat} (h : l.length = n) : (l.filterMap f).length ≤ n :=
  h ▸ List.length_filterMap_le f l

theorem zoneEntries_room {es : List (List Byte)} (h : ∀ e ∈ es, e.length = 4 + 5 * byteAt e 3 ∧ byteAt e 3 ≤ 8) : es.flatten.length ≤ 44 * es.length := by
  induction es with
  | nil => exact Nat.le_refl 0
  | cons e es ih =>
    obtain ⟨he, hes⟩ := List.forall_mem_cons.1 h
    have := ih hes
    rw [List.flatten_cons, List.length_append, List.length_cons]
    omega

/-- Every section captured stands before the next. -/
theorem State.sectionContents_fit (h : s.ZonesSound) (sec : Section) : SectionImage.Fits { sec := sec, contents := s.sectionContents sec } := by
  unfold SectionImage.Fits
  cases sec with
  | site => exact Nat.le_of_ble_eq_true rfl
  | witness => exact Nat.le_of_ble_eq_true rfl
  | zones =>
    have hroom := zoneEntries_room (zoneEntries_size h)
    have hcount : (allZones.map fun z => zoneContents z (s.zone z)).length = 4 := rfl
    show (countedContents _).length + 3 ≤ 0x100
    rw [countedContents_length]
    omega
  | receptors =>
    have hcount := length_filterMap_all (fun r => (s.receptor r).map (receptorContents r)) (show allReceptors.length = 16 from rfl)
    show (countedContents _).length + 3 ≤ 0x200
    rw [countedContents_length, length_flatten_of_size receptorEntries_size]
    omega
  | stages =>
    have hcount : s.stageEntries.length ≤ 8 := length_filterMap_all _ (show allSlots.length = 8 from rfl)
    show (countedContents _).length + 3 ≤ 0x200
    rw [countedContents_length, length_flatten_of_size stageEntries_size]
    omega
  | paths =>
    have hcount : s.pathEntries.length ≤ 64 := length_filterMap_all _ (show allPathPos.length = 64 by decide)
    show (countedContents _).length + 3 ≤ 0x200
    rw [countedContents_length, length_flatten_of_size pathEntries_size]
    omega

/-- The counts of a section captured, as they stand in the memory, give its length. -/
theorem State.sectionLength_of_stands {m : Memory} {sec : Section} (hzones : s.ZonesSound)
    (h : SectionImage.Stands { sec := sec, contents := s.sectionContents sec } m) : sectionLength m sec = some (s.sectionContents sec).length := by
  cases sec with
  | site => rfl
  | witness => rfl
  | zones =>
    have hcount : (allZones.map fun z => zoneContents z (s.zone z)).length = 4 := rfl
    have hcontents : s.sectionContents .zones = countedContents (allZones.map fun z => zoneContents z (s.zone z)) := rfl
    generalize hes : (allZones.map fun z => zoneContents z (s.zone z)) = es at hcount hcontents
    have hsize := zoneEntries_size hzones
    rw [hes] at hsize
    have hvalue : m.value (sectionOffset .zones + 1) = es.length := by
      have := h.value_eq (k := 0) (by dsimp only; rw [hcontents, countedContents_length]; omega)
      dsimp only at this
      rwa [hcontents, byteAt_countedContents (by omega)] at this
    have hbytes : m.bytes (sectionOffset .zones + 1 + 1) es.flatten.length = es.flatten := by
      have := h.contents_eq
      dsimp only at this
      rw [hcontents, countedContents_length] at this
      rw [← Memory.drop_bytes, this]
      rfl
    unfold sectionLength
    dsimp only
    rw [hvalue, if_neg (by omega), zoneRecordsLength_eq hbytes hsize, hcontents, countedContents_length]
    rfl
  | receptors => exact countedLength_of_stands h rfl (length_filterMap_all _ rfl) (by omega) receptorEntries_size
  | stages => exact countedLength_of_stands h rfl (length_filterMap_all _ rfl) (by omega) stageEntries_size
  | paths => exact countedLength_of_stands h rfl (length_filterMap_all _ (show allPathPos.length = 64 by decide)) (by omega) pathEntries_size

/-- After the byte writes of a save every section reads back LOADED with the contents captured. -/
theorem State.readSection_of_saved {m : Memory} (hw : m.wf = true) (h : s.ZonesSound) (sec : Section) :
    readSection (m.writeAll (saveWrites s.captureSettings)) sec = (.loaded, s.sectionContents sec) := by
  have hfits : ∀ y ∈ s.captureSettings, y.Fits := fun y hy => by
    obtain ⟨sec, -, rfl⟩ := List.mem_map.1 hy
    exact State.sectionContents_fit h sec
  have hdistinct : s.captureSettings.Pairwise fun y z => y.sec ≠ z.sec := List.pairwise_map.2 (show allSections.Pairwise (· ≠ ·) by decide)
  have hstands := SectionImage.stands_saveWrites hw hfits hdistinct { sec := sec, contents := s.sectionContents sec }
    (List.mem_map.2 ⟨sec, by cases sec <;> decide, rfl⟩)
  exact hstands.read_eq (State.sectionLength_of_stands h hstands)

end entries

end Sys2Proof.Machine
end

section
/-! SUPPORT. The load of what a save captured: every table comes back (R36, R86, R103, R175, R176). -/

namespace Sys2Proof.Machine

/-! ### The entries made of a list -/

/-- What holds with the entries made of the list so far, and is kept with each further one, holds after the last. -/
theorem loadEntries_filterMap {α : Type} {f : List (List Byte) → Loading → List Byte → Loading} {xs : List α} (e : α → Option (List Byte))
    {P : List α → Loading → Prop} {l : Loading} (h : P [] l)
    (hnone : ∀ before x after k, xs = before ++ x :: after → e x = none → P before k → P (before ++ [x]) k)
    (hsome : ∀ before x after k b, xs = before ++ x :: after → e x = some b → P before k → P (before ++ [x]) (f (before.filterMap e) k b)) :
    P xs (loadEntries f [] l (xs.filterMap e)) := by
  have hall : ∀ after before k, xs = before ++ after → P before k → P xs (loadEntries f (before.filterMap e) k (after.filterMap e)) := by
    intro after
    induction after with
    | nil => exact fun before k hxs hk => by rwa [hxs, List.append_nil]
    | cons x after ih =>
      intro before k hxs hk
      have hxs' : xs = (before ++ [x]) ++ after := by rw [hxs, List.append_assoc]; rfl
      cases hx : e x with
      | none =>
        have := ih (before ++ [x]) k hxs' (hnone before x after k hxs hx hk)
        rw [List.filterMap_append, List.filterMap_cons_none hx, List.filterMap_nil, List.append_nil] at this
        rwa [List.filterMap_cons_none hx]
      | some b =>
        have := ih (before ++ [x]) _ hxs' (hsome before x after k b hxs hx hk)
        rw [List.filterMap_append, List.filterMap_cons_some hx, List.filterMap_nil] at this
        rwa [List.filterMap_cons_some hx, loadEntries]
  exact hall xs [] l rfl h

theorem not_mem_of_nodup {α : Type} {xs before after : List α} {x : α} (hnodup : xs.Nodup) (h : xs = before ++ x :: after) : x ∉ before := by
  rw [h] at hnodup
  exact fun hx => (List.nodup_append.1 hnodup).2.2 x hx x List.mem_cons_self rfl

/-- The entries of a section whose contents were captured. -/
theorem entriesOf_countedContents {size : Nat} {es : List (List Byte)} (hcount : es.length < 256) (hsize : ∀ e ∈ es, e.length = size) :
    entriesOf size (byteAt (countedContents es) 0) ((countedContents es).drop 1) = es := by
  rw [byteAt_countedContents hcount]
  exact entriesOf_flatten hsize

theorem zoneEntries_countedContents {es : List (List Byte)} (hcount : es.length < 256)
    (hsize : ∀ e ∈ es, e.length = 4 + 5 * byteAt e 3 ∧ byteAt e 3 ≤ 8) :
    zoneEntries (byteAt (countedContents es) 0) ((countedContents es).drop 1) = es := by
  rw [byteAt_countedContents hcount]
  refine zoneEntries_flatten fun e he => ⟨?_, (hsize e he).1⟩
  have := (hsize e he).1
  omega

theorem loadSection_of_loaded {l : Loading} {sec : Section} {bs : List Byte} (h : readSection l.state.settings sec = (.loaded, bs)) :
    loadSection l sec = loadContents sec l bs := by
  unfold loadSection
  dsimp only
  rw [h, if_pos rfl]

/-! ### The SITE and WITNESS sections -/

section site
variable {x : Site} (l : Loading)

theorem loadSite_siteContents (h : x.InRange) :
    (loadSite l (siteContents x)).state = { l.state with site := { x with enables := l.state.site.enables } } := by
  obtain ⟨hblind, hrise, hrise', hfall, hfall', htolerance, hover, hover', hrelease, hrelease', hstale, hstale', hage, hage', hhandover, hhandover',
    hdiscard, hdiscard'⟩ := h
  have h0 : byteAt (siteContents x) 0 = x.blindMargin := u8_toNat (by omega)
  have h1 : byteAt (siteContents x) 1 = x.correctionRise := u8_toNat (by omega)
  have h2 : byteAt (siteContents x) 2 = x.correctionFall := u8_toNat (by omega)
  have h3 : byteAt (siteContents x) 3 = x.tolerance := u8_toNat (by omega)
  have h4 : byteAt (siteContents x) 4 = x.overLimit := u8_toNat (by omega)
  have h5 : byteAt (siteContents x) 5 = x.releaseCount := u8_toNat (by omega)
  have h6 : byteAt (siteContents x) 6 = x.staleTime := u8_toNat (by omega)
  have h7 : wordAt (siteContents x) 7 = x.ageTime := u16_toNat (by omega)
  have h9 : byteAt (siteContents x) 9 = x.handoverTime := u8_toNat (by omega)
  have h10 : byteAt (siteContents x) 10 = x.discardTime := u8_toNat (by omega)
  rw [loadSite_eq]
  simp only [h0, h1, h2, h3, h4, h5, h6, h7, h9, h10, min_eq_right, max_eq_right, hblind, hrise, hrise', hfall, hfall', htolerance, hover, hover', hrelease,
    hstale, hstale', hage, hage', hhandover, hhandover', hdiscard, hdiscard']

theorem loadWitness_witnessContents (e : WitnessEnables) :
    (loadWitness l (witnessContents e)).state = { l.state with site := { l.state.site with enables := e } } := by
  have hbyte (b : Bool) : ((BitVec.ofNat 8 (if b then 1 else 0)).toNat != 0) = b := by cases b <;> rfl
  have h0 : (byteAt (witnessContents e) 0 != 0) = e.stationReply := hbyte _
  have h1 : (byteAt (witnessContents e) 1 != 0) = e.minute := hbyte _
  have h2 : (byteAt (witnessContents e) 2 != 0) = e.exceedance := hbyte _
  have h3 : (byteAt (witnessContents e) 3 != 0) = e.ceiling := hbyte _
  have h4 : (byteAt (witnessContents e) 4 != 0) = e.clamp := hbyte _
  rw [loadWitness_eq]
  simp only [h0, h1, h2, h3, h4]

end site

/-! ### The ZONES section -/

section zones

/-- A breakpoint of the image. -/
def Breakpoint.contents (b : Breakpoint) : List Byte := u16 b.minute ++ u16 b.limit ++ flagByte b.curfew

theorem takeBreakpoint_contents {k : KeptBreakpoints} {b : Breakpoint} (h : b.minute ≤ 1439 ∧ b.limit ≤ 1400) (hnew : b.minute ∉ k.seen) :
    takeBreakpoint k b.contents = { k with kept := k.kept ++ [b], seen := b.minute :: k.seen } := by
  obtain ⟨hminute, hlimit⟩ := h
  have h0 : wordAt b.contents 0 = b.minute := u16_toNat (by omega)
  have h2 : wordAt b.contents 2 = b.limit := u16_toNat (Nat.lt_of_le_of_lt hlimit (by decide))
  have h4 : byteAt b.contents 4 = if b.curfew then 1 else 0 := u8_toNat (by split <;> omega)
  have hflag : (byteAt b.contents 4 == 1) = b.curfew := by rw [h4]; cases b.curfew <;> rfl
  have hbyte : ¬1 < byteAt b.contents 4 := by rw [h4]; split <;> omega
  have hkeep : ¬(1439 < wordAt b.contents 0 ∨ 1 < byteAt b.contents 4 ∨ wordAt b.contents 0 ∈ k.seen) := by
    rw [h0]
    exact not_or.2 ⟨by omega, not_or.2 ⟨hbyte, hnew⟩⟩
  rw [takeBreakpoint_of_taken hkeep, h0, h2, hflag, min_eq_right hlimit]
  simp [hlimit]

theorem foldl_takeBreakpoint {bps : List Breakpoint} (hranges : ∀ b ∈ bps, b.minute ≤ 1439 ∧ b.limit ≤ 1400)
    (hdistinct : bps.Pairwise fun a b => a.minute ≠ b.minute) {k : KeptBreakpoints} (hnew : ∀ b ∈ bps, b.minute ∉ k.seen) :
    ((bps.map Breakpoint.contents).foldl takeBreakpoint k).kept = k.kept ++ bps := by
  induction bps generalizing k with
  | nil => exact (List.append_nil _).symm
  | cons b bps ih =>
    obtain ⟨hb, hranges⟩ := List.forall_mem_cons.1 hranges
    obtain ⟨hne, hdistinct⟩ := List.pairwise_cons.1 hdistinct
    obtain ⟨hbnew, hnew⟩ := List.forall_mem_cons.1 hnew
    rw [List.map_cons, List.foldl_cons, takeBreakpoint_contents hb hbnew, ih hranges hdistinct, List.append_assoc]
    · rfl
    · exact fun c hc hmem => (List.mem_cons.1 hmem).elim (fun he => hne c hc he.symm) (hnew c hc)

variable {z : ZoneId} {x : Zone}

theorem takeBreakpoints_zoneContents (h : BreakpointsSound x.breakpoints) : (takeBreakpoints (zoneContents z x)).kept = x.breakpoints := by
  obtain ⟨hcount, hascending, hranges⟩ := h
  have hrest : (zoneContents z x).drop 4 = (x.breakpoints.map Breakpoint.contents).flatten := rfl
  have hlength := List.length_map (as := x.breakpoints) Breakpoint.contents
  unfold takeBreakpoints
  rw [(zoneContents_length z hcount).2, hrest, ← hlength, entriesOf_flatten]
  · exact foldl_takeBreakpoint hranges (hascending.imp fun hlt => Nat.ne_of_lt hlt) nofun
  · intro e he
    obtain ⟨b, -, rfl⟩ := List.mem_map.1 he
    rfl

theorem sortBreakpoints_zoneContents (h : BreakpointsSound x.breakpoints) :
    sortBreakpoints (takeBreakpoints (zoneContents z x)).kept = x.breakpoints := by
  obtain ⟨hperm, hsorted⟩ := sorted_taken (zoneContents z x)
  rw [takeBreakpoints_zoneContents h] at hperm hsorted ⊢
  exact hperm.eq_of_pairwise (fun a b _ _ hab hba => absurd hab (Nat.lt_asymm hba)) hsorted h.2.1

/-- The zone with the settings of another one. -/
def Zone.withSettings (x y : Zone) : Zone := { x with breakpoints := y.breakpoints, rampRate := y.rampRate, recoveryMargin := y.recoveryMargin }

theorem loadZone_zoneContents {before : List (List Byte)} {l : Loading} (h : x.InRange) (hbps : BreakpointsSound x.breakpoints)
    (hnew : ∀ b ∈ before, byteAt b 0 ≠ z.val + 1) :
    (loadZone before l (zoneContents z x)).state = l.state.setZone z ((l.state.zone z).withSettings x) := by
  obtain ⟨-, -, -, hramp, hramp', hmargin⟩ := h
  have h0 : byteAt (zoneContents z x) 0 = z.val + 1 := u8_toNat (by omega)
  have h1 : byteAt (zoneContents z x) 1 = x.rampRate := u8_toNat (by omega)
  have h2 : byteAt (zoneContents z x) 2 = x.recoveryMargin := u8_toNat (by omega)
  rw [loadZone_of_taken h0 fun ⟨b, hb, he⟩ => hnew b hb (he.trans h0), sortBreakpoints_zoneContents hbps, h1, h2, min_eq_right hramp', min_eq_right hmargin,
    max_eq_right hramp]
  rfl

/-- The ZONES section as captured gives each zone its settings back. -/
theorem loadContents_zones {s : State} (h : s.ZonesSound) (l : Loading) :
    ∃ zs, (loadContents .zones l (s.sectionContents .zones)).state = { l.state with zones := zs } ∧
      ∀ z, (loadContents .zones l (s.sectionContents .zones)).state.zone z = (l.state.zone z).withSettings (s.zone z) := by
  have hentries := zoneEntries_countedContents (es := allZones.map fun z => zoneContents z (s.zone z)) (show 4 < 256 by decide) (zoneEntries_size h)
  have hstate : loadContents .zones l (s.sectionContents .zones) = loadEntries loadZone [] l (allZones.filterMap fun z => some (zoneContents z (s.zone z))) := by
    rw [← Function.comp_def some, List.filterMap_eq_map]
    exact congrArg (loadEntries loadZone [] l) hentries
  have hload := loadEntries_filterMap (f := loadZone) (xs := allZones) (fun z => some (zoneContents z (s.zone z))) (l := l)
    (P := fun before k => (∃ zs, k.state = { l.state with zones := zs }) ∧
      ∀ z, k.state.zone z = if z ∈ before then (l.state.zone z).withSettings (s.zone z) else l.state.zone z)
    ⟨⟨_, rfl⟩, fun z => rfl⟩ (fun _ _ _ _ _ hnone => nomatch hnone) fun before z after k b hxs hb hk => by
      cases hb
      obtain ⟨⟨zs, hframe⟩, hzones⟩ := hk
      have hz := not_mem_of_nodup (List.nodup_finRange 4) hxs
      obtain ⟨-, hrange, hbps⟩ := h z
      rw [loadZone_zoneContents hrange hbps fun b hb => ?_]
      · refine ⟨⟨(k.state.setZone z ((k.state.zone z).withSettings (s.zone z))).zones, ?_⟩, fun w => ?_⟩
        · exact congrArg (fun t : State => { t with zones := (k.state.setZone z ((k.state.zone z).withSettings (s.zone z))).zones }) hframe
        · by_cases hw : w = z
          · subst hw
            rw [State.zone_setZone_same, hzones, if_neg hz, if_pos (by simp)]
          · rw [State.zone_setZone_ne _ _ _ _ hw, hzones]
            simp [hw]
      · obtain ⟨w, hw, he⟩ := List.mem_filterMap.1 hb
        cases he
        have hbyte : byteAt (zoneContents w (s.zone w)) 0 = w.val + 1 := u8_toNat (by omega)
        rw [hbyte]
        exact fun heq => hz (Fin.ext (Nat.succ.inj heq) ▸ hw)
  rw [hstate]
  obtain ⟨⟨zs, hframe⟩, hzones⟩ := hload
  exact ⟨zs, hframe, fun z => by rw [hzones z, if_pos (List.mem_finRange z)]⟩

end zones

end Sys2Proof.Machine
end

section
/-! SUPPORT. The load of what a save captured: the receptors, the FIXED slots and their paths come back (R36, R86, R103, R176). -/

namespace Sys2Proof.Machine

variable {s : State} {l : Loading} {before : List (List Byte)}

/-! ### The RECEPTORS section -/

section receptors
variable {r : ReceptorId} {x : Receptor}

theorem loadReceptor_receptorContents (h : x.Sound) (hzone : (l.state.zone x.zone).breakpoints ≠ [])
    (hnew : ∀ b ∈ before, byteAt b 0 ≠ r.val + 1 ∧ byteAt b 1 ≠ x.address) :
    (loadReceptor before l (receptorContents r x)).state = l.state.setReceptor r (some (receptorCreated x.address x.zone x.floor)) := by
  obtain ⟨haddress, haddress', hfloor, -⟩ := h
  have h0 : byteAt (receptorContents r x) 0 = r.val + 1 := u8_toNat (by omega)
  have h1 : byteAt (receptorContents r x) 1 = x.address := u8_toNat (by omega)
  have h2 : byteAt (receptorContents r x) 2 = x.zone.val + 1 := u8_toNat (by omega)
  have h3 : wordAt (receptorContents r x) 3 = x.floor := u16_toNat (Nat.lt_of_le_of_lt hfloor (by decide))
  have hkeep : ¬ReceptorSkipped l before (receptorContents r x) := by
    simp only [ReceptorSkipped, h0, h1, h2, not_or, not_exists, not_and]
    refine ⟨by omega, by omega, by omega, by omega, by omega, by omega, hnew, fun z hz => ?_⟩
    rwa [← Fin.ext (Nat.succ.inj hz)]
  rw [loadReceptor_of_taken hkeep h0 h2, h1, h3, min_eq_right hfloor]

/-- The record that a load makes of a saved one, with the starting values of R36. -/
def Receptor.reloaded (x : Receptor) : Receptor := receptorCreated x.address x.zone x.floor

/-- The RECEPTORS section as captured, over no receptor, gives each record back with its starting values. -/
theorem loadContents_receptors (h : s.ReceptorsSound) (hzones : ∀ r, ∀ x ∈ s.receptor r, (l.state.zone x.zone).breakpoints ≠ [])
    (hnone : ∀ r, l.state.receptor r = none) :
    ∃ xs, (loadContents .receptors l (s.sectionContents .receptors)).state = { l.state with receptors := xs } ∧
      ∀ r, (loadContents .receptors l (s.sectionContents .receptors)).state.receptor r = (s.receptor r).map Receptor.reloaded := by
  have hentries := entriesOf_countedContents (es := allReceptors.filterMap fun r => (s.receptor r).map (receptorContents r))
    (Nat.lt_of_le_of_lt (length_filterMap_all _ rfl) (show 16 < 256 by decide)) receptorEntries_size
  have hstate : loadContents .receptors l (s.sectionContents .receptors) =
      loadEntries loadReceptor [] l (allReceptors.filterMap fun r => (s.receptor r).map (receptorContents r)) :=
    congrArg (loadEntries loadReceptor [] l) hentries
  have hload := loadEntries_filterMap (f := loadReceptor) (xs := allReceptors) (fun r => (s.receptor r).map (receptorContents r)) (l := l)
    (P := fun before k => (∃ xs, k.state = { l.state with receptors := xs }) ∧
      ∀ r, k.state.receptor r = if r ∈ before then (s.receptor r).map Receptor.reloaded else none)
    ⟨⟨_, rfl⟩, hnone⟩ ?_ ?_
  · rw [hstate]
    obtain ⟨⟨xs, hframe⟩, hreceptors⟩ := hload
    exact ⟨xs, hframe, fun r => by rw [hreceptors r, if_pos (List.mem_finRange r)]⟩
  · rintro before r after k hxs hr ⟨hframe, hreceptors⟩
    have hempty := Option.map_eq_none_iff.1 hr
    refine ⟨hframe, fun q => ?_⟩
    rw [hreceptors]
    by_cases hq : q = r
    · subst hq
      simp [hempty]
    · simp [hq]
  · rintro before r after k b hxs hb ⟨⟨xs, hframe⟩, hreceptors⟩
    obtain ⟨x, hx, rfl⟩ := Option.map_eq_some_iff.1 hb
    have hr := not_mem_of_nodup (List.nodup_finRange 16) hxs
    have hzone : (k.state.zone x.zone).breakpoints ≠ [] := by
      rw [hframe]
      exact hzones r x hx
    rw [loadReceptor_receptorContents (h.1 r x hx) hzone fun b hb => ?_]
    · refine ⟨⟨(k.state.setReceptor r (some x.reloaded)).receptors, ?_⟩, fun q => ?_⟩
      · exact congrArg (fun t : State => { t with receptors := (k.state.setReceptor r (some x.reloaded)).receptors }) hframe
      · by_cases hq : q = r
        · subst hq
          simp [hx, Receptor.reloaded]
        · rw [State.receptor_setReceptor_ne _ _ _ _ hq, hreceptors]
          simp [hq]
    · obtain ⟨q, hq, he⟩ := List.mem_filterMap.1 hb
      obtain ⟨y, hy, rfl⟩ := Option.map_eq_some_iff.1 he
      obtain ⟨-, haddress, -⟩ := h.1 q y hy
      have h0 : byteAt (receptorContents q y) 0 = q.val + 1 := u8_toNat (by omega)
      have h1 : byteAt (receptorContents q y) 1 = y.address := u8_toNat (by omega)
      have hne : q ≠ r := fun he => hr (he ▸ hq)
      rw [h0, h1]
      exact ⟨fun he => hne (Fin.ext (Nat.succ.inj he)), fun he => hne (h.2 q r y hy x hx he)⟩

end receptors

/-! ### The STAGES section -/

section stages
variable {i : SlotId} {id : Identity} {x : Slot}

theorem identityBytes_injective {id id' : Identity} (h : identityBytes id = identityBytes id') : id = id' := by
  have hnumber := congrArg bytesToNat h
  rw [bytesToNat_identityBytes, bytesToNat_identityBytes] at hnumber
  exact BitVec.eq_of_toNat_eq hnumber

/-- The slot that a load makes of a saved FIXED one: unbound and QUIET (R86). -/
def Slot.reloaded (x : Slot) : Slot :=
  { slotDefault with kind := .fixed, state := .quiet, identity := x.identity, weight := x.weight, stageMax := x.stageMax }

theorem stageContents_identity (i : SlotId) (id : Identity) (x : Slot) : ((stageContents i id x).drop 1).take 6 = identityBytes id := rfl

theorem loadStage_stageContents (h : x.InRange) (hid : x.identity = some id) (hlengths : ∀ b ∈ before, b.length = 10)
    (hnew : ∀ b ∈ before, byteAt b 0 ≠ i.val + 1 ∧ (b.drop 1).take 6 ≠ identityBytes id) :
    (loadStage before l (stageContents i id x)).state = l.state.setSlot i x.reloaded := by
  obtain ⟨hweight, hweight', hmax, -⟩ := h
  have h0 : byteAt (stageContents i id x) 0 = i.val + 1 := u8_toNat (by omega)
  have h7 : byteAt (stageContents i id x) 7 = x.weight := u8_toNat (by omega)
  have h8 : wordAt (stageContents i id x) 8 = x.stageMax := u16_toNat (Nat.lt_of_le_of_lt hmax (by decide))
  have hkeep : ¬(byteAt (stageContents i id x) 0 = 0 ∨ 8 < byteAt (stageContents i id x) 0 ∨
      ∃ b ∈ before, byteAt b 0 = byteAt (stageContents i id x) 0 ∨ (b.drop 1).take 6 = ((stageContents i id x).drop 1).take 6) := by
    rw [stageContents_identity, h0]
    simp only [not_or, not_exists, not_and]
    exact ⟨by omega, by omega, hnew⟩
  rw [loadStage_of_taken (List.forall_mem_cons.2 ⟨rfl, hlengths⟩) hkeep h0 (stageContents_identity i id x).symm, h7, h8, min_eq_right hweight',
    max_eq_right hweight, min_eq_right hmax, Slot.reloaded, hid]

/-- The entry of one slot in the STAGES section. -/
def State.stageEntry (s : State) (i : SlotId) : Option (List Byte) :=
  if (s.slot i).kind = .fixed then (s.slot i).identity.map fun id => stageContents i id (s.slot i) else none

theorem State.stageEntry_eq_some {b : List Byte} :
    s.stageEntry i = some b ↔ (s.slot i).kind = .fixed ∧ ∃ id, (s.slot i).identity = some id ∧ stageContents i id (s.slot i) = b := by
  unfold State.stageEntry
  split
  next hkind => simp [hkind, Option.map_eq_some_iff]
  next hkind => simp [hkind]

/-- The STAGES section as captured, over slots at their reset values, gives each FIXED slot back, unbound and QUIET. -/
theorem loadContents_stages (hrange : s.SlotsInRange) (hbindings : s.BindingsSound) (hdefault : ∀ i, l.state.slot i = slotDefault) :
    ∃ xs, (loadContents .stages l (s.sectionContents .stages)).state = { l.state with slots := xs } ∧
      ∀ i, (loadContents .stages l (s.sectionContents .stages)).state.slot i =
        if (s.slot i).kind = .fixed then (s.slot i).reloaded else slotDefault := by
  have hentries := entriesOf_countedContents (es := s.stageEntries)
    (Nat.lt_of_le_of_lt (length_filterMap_all _ rfl) (show 8 < 256 by decide)) stageEntries_size
  have hstate : loadContents .stages l (s.sectionContents .stages) = loadEntries loadStage [] l (allSlots.filterMap s.stageEntry) :=
    congrArg (loadEntries loadStage [] l) hentries
  have hload := loadEntries_filterMap (f := loadStage) (xs := allSlots) s.stageEntry (l := l)
    (P := fun before k => (∃ xs, k.state = { l.state with slots := xs }) ∧
      ∀ i, k.state.slot i = if i ∈ before ∧ (s.slot i).kind = .fixed then (s.slot i).reloaded else slotDefault)
    ⟨⟨_, rfl⟩, by simpa using hdefault⟩ ?_ ?_
  · rw [hstate]
    obtain ⟨⟨xs, hframe⟩, hslots⟩ := hload
    exact ⟨xs, hframe, fun i => by rw [hslots i]; simp⟩
  · rintro before i after k hxs hi ⟨hframe, hslots⟩
    have hopen : (s.slot i).kind ≠ .fixed := fun hkind => by
      obtain ⟨id, hid⟩ := Option.isSome_iff_exists.1 ((hbindings.1 i).2.1 hkind).1
      rw [State.stageEntry_eq_some.2 ⟨hkind, id, hid, rfl⟩] at hi
      cases hi
    refine ⟨hframe, fun j => ?_⟩
    rw [hslots]
    by_cases hj : j = i
    · subst hj
      simp [hopen]
    · simp [hj]
  · rintro before i after k b hxs hb ⟨⟨xs, hframe⟩, hslots⟩
    obtain ⟨hkind, id, hid, rfl⟩ := State.stageEntry_eq_some.1 hb
    have hi := not_mem_of_nodup (List.nodup_finRange 8) hxs
    have hbefore : ∀ b ∈ before.filterMap s.stageEntry, b.length = 10 ∧ byteAt b 0 ≠ i.val + 1 ∧ (b.drop 1).take 6 ≠ identityBytes id := by
      intro b hb
      obtain ⟨j, hj, he⟩ := List.mem_filterMap.1 hb
      obtain ⟨-, id', hid', rfl⟩ := State.stageEntry_eq_some.1 he
      have h0 : byteAt (stageContents j id' (s.slot j)) 0 = j.val + 1 := u8_toNat (by omega)
      have hne : j ≠ i := fun he => hi (he ▸ hj)
      rw [h0, stageContents_identity]
      refine ⟨rfl, fun he => hne (Fin.ext (Nat.succ.inj he)), fun he => ?_⟩
      have hsame : (s.slot j).identity = (s.slot i).identity := by rw [hid, hid', identityBytes_injective he]
      have := (hbindings.2 j i hne).1 hsame
      rw [hid'] at this
      cases this
    rw [loadStage_stageContents (hrange.1 i) hid (fun b hb => (hbefore b hb).1) fun b hb => (hbefore b hb).2]
    refine ⟨⟨(k.state.setSlot i (s.slot i).reloaded).slots, ?_⟩, fun j => ?_⟩
    · exact congrArg (fun t : State => { t with slots := (k.state.setSlot i (s.slot i).reloaded).slots }) hframe
    · by_cases hj : j = i
      · subst hj
        simp [hkind]
      · rw [State.slot_setSlot_ne _ _ _ _ hj, hslots]
        simp [hj]

end stages

/-! ### The PATHS section -/

section paths
variable {p : PathPos} {e : PathEntry}

theorem loadPath_pathContents (hloss : e.loss ≤ 1200) (hkind : (l.state.slot e.slot).kind = .fixed) (hheld : l.state.receptor e.receptor ≠ none)
    (hnew : ∀ b ∈ before, ¬(byteAt b 0 = e.slot.val + 1 ∧ byteAt b 1 = e.receptor.val + 1)) (hp : l.state.path p = none)
    (hfirst : ∀ q, q < p → l.state.path q ≠ none) : (loadPath before l (pathContents e)).state = l.state.setPath p (some e) := by
  have h0 : byteAt (pathContents e) 0 = e.slot.val + 1 := u8_toNat (by omega)
  have h1 : byteAt (pathContents e) 1 = e.receptor.val + 1 := u8_toNat (by omega)
  have h2 : wordAt (pathContents e) 2 = e.loss := u16_toNat (by omega)
  have hkeep : ¬PathSkipped l before (pathContents e) := by
    simp only [PathSkipped, h0, h1, not_or, not_exists, not_and, not_not]
    refine ⟨by omega, by omega, by omega, by omega, fun b hb hs hr => hnew b hb ⟨hs, hr⟩, fun i hi => ?_, fun r hr => ?_⟩
    · rwa [← Fin.ext (Nat.succ.inj hi)]
    · rwa [← Fin.ext (Nat.succ.inj hr)]
  rw [loadPath_of_taken hkeep h0 h1 hp hfirst, h2, min_eq_right hloss]

/-- The entry of one position in the PATHS section. -/
def State.pathEntry (s : State) (p : PathPos) : Option (List Byte) :=
  (s.path p).bind fun e => if (s.slot e.slot).kind = .fixed then some (pathContents e) else none

theorem State.pathEntry_eq_some {b : List Byte} :
    s.pathEntry p = some b ↔ ∃ e, s.path p = some e ∧ (s.slot e.slot).kind = .fixed ∧ pathContents e = b := by
  simp [State.pathEntry, Option.bind_eq_some_iff]

/-- The entries of FIXED slots at some positions, in their order. -/
def State.fixedPaths (s : State) (ps : List PathPos) : List PathEntry := (ps.filterMap s.path).filter fun e => (s.slot e.slot).kind == .fixed

theorem State.fixedPaths_length (s : State) (ps : List PathPos) : (s.fixedPaths ps).length ≤ ps.length :=
  (List.length_filter_le ..).trans (List.length_filterMap_le ..)

theorem State.fixedPaths_concat_some {ps : List PathPos} (hp : s.path p = some e) (hkind : (s.slot e.slot).kind = .fixed) :
    s.fixedPaths (ps ++ [p]) = s.fixedPaths ps ++ [e] := by
  simp [State.fixedPaths, hp, hkind]

theorem State.fixedPaths_concat_none {ps : List PathPos} (h : s.pathEntry p = none) : s.fixedPaths (ps ++ [p]) = s.fixedPaths ps := by
  cases hp : s.path p with
  | none => simp [State.fixedPaths, hp]
  | some e =>
    have hkind : (s.slot e.slot).kind ≠ .fixed := fun hkind => by
      rw [State.pathEntry_eq_some.2 ⟨e, hp, hkind, rfl⟩] at h
      cases h
    simp [State.fixedPaths, hp, hkind]

/-- The PATHS section as captured, over an empty path table, gives the entries of FIXED slots back at the lowest positions. -/
theorem loadContents_paths (h : s.PathsSound) (hkinds : ∀ i, (s.slot i).kind = .fixed → (l.state.slot i).kind = .fixed)
    (hheld : ∀ r, s.receptor r ≠ none → l.state.receptor r ≠ none) (hnone : ∀ p, l.state.path p = none) :
    ∃ xs, (loadContents .paths l (s.sectionContents .paths)).state = { l.state with paths := xs } ∧
      ∀ p : PathPos, (loadContents .paths l (s.sectionContents .paths)).state.path p = (s.fixedPaths allPathPos)[p.val]? := by
  obtain ⟨hkey, hentry, -⟩ := h
  have hentries := entriesOf_countedContents (es := s.pathEntries)
    (Nat.lt_of_le_of_lt (length_filterMap_all _ (show allPathPos.length = 64 by decide)) (show 64 < 256 by decide)) pathEntries_size
  have hstate : loadContents .paths l (s.sectionContents .paths) = loadEntries loadPath [] l (allPathPos.filterMap s.pathEntry) :=
    congrArg (loadEntries loadPath [] l) hentries
  have hload := loadEntries_filterMap (f := loadPath) (xs := allPathPos) s.pathEntry (l := l)
    (P := fun before k => (∃ xs, k.state = { l.state with paths := xs }) ∧ ∀ p : PathPos, k.state.path p = (s.fixedPaths before)[p.val]?)
    ⟨⟨_, rfl⟩, hnone⟩ ?_ ?_
  · rw [hstate]
    obtain ⟨⟨xs, hframe⟩, hpaths⟩ := hload
    exact ⟨xs, hframe, hpaths⟩
  · rintro before p after k hxs hp ⟨hframe, hpaths⟩
    rw [State.fixedPaths_concat_none hp]
    exact ⟨hframe, hpaths⟩
  · rintro before p after k b hxs hb ⟨⟨xs, hframe⟩, hpaths⟩
    obtain ⟨e, he, hkind, rfl⟩ := State.pathEntry_eq_some.1 hb
    have hp := not_mem_of_nodup (List.nodup_finRange 64) hxs
    obtain ⟨hloss, -, hreceptor⟩ := hentry p e he
    have hroom : (s.fixedPaths before).length < 64 := by
      have hlength := congrArg List.length hxs
      rw [List.length_finRange, List.length_append, List.length_cons] at hlength
      have := s.fixedPaths_length before
      omega
    have hslot : (k.state.slot e.slot).kind = .fixed := by rw [hframe]; exact hkinds _ hkind
    have hrec : k.state.receptor e.receptor ≠ none := by
      rw [hframe]
      exact hheld _ (Option.isSome_iff_ne_none.1 hreceptor)
    rw [loadPath_pathContents (p := ⟨(s.fixedPaths before).length, hroom⟩) hloss hslot hrec (fun b hb => ?_) ?_ fun q hq => ?_]
    · refine ⟨⟨(k.state.setPath ⟨(s.fixedPaths before).length, hroom⟩ (some e)).paths, ?_⟩, fun q => ?_⟩
      · exact congrArg (fun t : State => { t with paths := (k.state.setPath ⟨(s.fixedPaths before).length, hroom⟩ (some e)).paths }) hframe
      · rw [State.fixedPaths_concat_some he hkind]
        by_cases hq : q = ⟨(s.fixedPaths before).length, hroom⟩
        · subst hq
          simp
        · rw [State.path_setPath_ne _ _ _ _ hq, hpaths, List.getElem?_append]
          have hval : q.val ≠ (s.fixedPaths before).length := fun he => hq (Fin.ext he)
          split
          · rfl
          next hlong =>
            rw [List.getElem?_eq_none (by omega), List.getElem?_eq_none (by rw [List.length_singleton]; omega)]
    · rw [hpaths]
      exact List.getElem?_eq_none (Nat.le_refl _)
    · obtain ⟨q, hq, hf⟩ := List.mem_filterMap.1 hb
      obtain ⟨f, hpath, -, rfl⟩ := State.pathEntry_eq_some.1 hf
      have h0 : byteAt (pathContents f) 0 = f.slot.val + 1 := u8_toNat (by omega)
      have h1 : byteAt (pathContents f) 1 = f.receptor.val + 1 := u8_toNat (by omega)
      rw [h0, h1]
      rintro ⟨hs, hr⟩
      exact hp (hkey q p f hpath e he ⟨Fin.ext (Nat.succ.inj hs), Fin.ext (Nat.succ.inj hr)⟩ ▸ hq)
    · rw [hpaths, List.getElem?_eq_getElem hq]
      exact Option.some_ne_none _

end paths

/-! ### A save followed by a start -/

theorem Zone.evaluatedInSetup_settings (minute : Nat) (x : Zone) : (x.evaluatedInSetup minute).breakpoints = x.breakpoints ∧
    (x.evaluatedInSetup minute).rampRate = x.rampRate ∧ (x.evaluatedInSetup minute).recoveryMargin = x.recoveryMargin := by
  unfold Zone.evaluatedInSetup
  split
  · exact ⟨rfl, rfl, rfl⟩
  · split
    · exact ⟨rfl, rfl, rfl⟩
    · split
      · split <;> exact ⟨rfl, rfl, rfl⟩
      · exact ⟨rfl, rfl, rfl⟩

/-- The tables of `t` are those that a save of `s` captured, with the starting values of their owners; mode, loader and memory are those of `u`. -/
structure State.Restored (s u t : State) : Prop where
  mode_eq : t.mode = u.mode
  loader_eq : t.loader = u.loader
  settings_eq : t.settings = u.settings
  site_eq : t.site = s.site
  zone_eq : ∀ z, (t.zone z).breakpoints = (s.zone z).breakpoints ∧ (t.zone z).rampRate = (s.zone z).rampRate ∧
    (t.zone z).recoveryMargin = (s.zone z).recoveryMargin
  receptor_eq : ∀ r, t.receptor r = (s.receptor r).map Receptor.reloaded
  slot_eq : ∀ i, t.slot i = if (s.slot i).kind = .fixed then (s.slot i).reloaded else slotDefault
  path_eq : ∀ p : PathPos, t.path p = (s.fixedPaths allPathPos)[p.val]?

/-- The whole load of a memory in which every section reads back as captured. -/
theorem State.load_restored {u : State} (hzones : s.ZonesSound) (hsite : s.site.InRange) (hreceptors : s.ReceptorsSound) (hslots : s.SlotsInRange)
    (hbindings : s.BindingsSound) (hpaths : s.PathsSound) (hreset : u.BlocksAtReset)
    (hread : ∀ sec, readSection u.settings sec = (.loaded, s.sectionContents sec)) : s.Restored u u.load.state := by
  obtain ⟨-, hzone0, hreceptor0, -, hslot0, hpath0, -⟩ := hreset
  unfold State.load
  simp only [allSections, List.foldl_cons, List.foldl_nil]
  rw [loadSection_of_loaded (sec := .site) (hread .site)]
  have h1 := loadSite_siteContents { state := u, clamped := 0, skipped := 0 } hsite
  change (loadContents .site _ (s.sectionContents .site)).state = _ at h1
  generalize loadContents .site { state := u, clamped := 0, skipped := 0 } (s.sectionContents .site) = l1 at h1 ⊢
  rw [loadSection_of_loaded (sec := .zones) (by rw [h1]; exact hread .zones)]
  obtain ⟨zs, h2, hzones2⟩ := loadContents_zones hzones l1
  generalize loadContents .zones l1 (s.sectionContents .zones) = l2 at h2 hzones2 ⊢
  rw [h1] at h2
  rw [loadSection_of_loaded (sec := .receptors) (by rw [h2]; exact hread .receptors)]
  obtain ⟨rs, h3, hreceptors3⟩ := loadContents_receptors (l := l2) hreceptors (fun r x hx => by rw [hzones2]; exact hpaths.2.2.1 r x hx)
    (by rw [h2]; exact hreceptor0)
  generalize loadContents .receptors l2 (s.sectionContents .receptors) = l3 at h3 hreceptors3 ⊢
  rw [h2] at h3
  rw [loadSection_of_loaded (sec := .stages) (by rw [h3]; exact hread .stages)]
  obtain ⟨ss, h4, hslots4⟩ := loadContents_stages (l := l3) hslots hbindings (by rw [h3]; exact hslot0)
  generalize loadContents .stages l3 (s.sectionContents .stages) = l4 at h4 hslots4 ⊢
  rw [h3] at h4
  rw [loadSection_of_loaded (sec := .paths) (by rw [h4]; exact hread .paths)]
  obtain ⟨ps, h5, hpaths5⟩ := loadContents_paths (l := l4) hpaths (fun i hi => by rw [hslots4, if_pos hi]; rfl) (fun r hr => by
    have : l4.state.receptor r = l3.state.receptor r := by rw [h4, h3]; rfl
    rw [this, hreceptors3]
    simpa using hr) (by rw [h4]; exact hpath0)
  generalize loadContents .paths l4 (s.sectionContents .paths) = l5 at h5 hpaths5 ⊢
  rw [h4] at h5
  rw [loadSection_of_loaded (sec := .witness) (by rw [h5]; exact hread .witness)]
  have h6 := loadWitness_witnessContents l5 s.site.enables
  change (loadContents .witness _ (s.sectionContents .witness)).state = _ at h6
  rw [h6]
  refine ⟨by rw [h5], by rw [h5], by rw [h5], by rw [h5], fun z => ?_, fun r => ?_, fun i => ?_, hpaths5⟩
  · have : l5.state.zone z = l2.state.zone z := by rw [h5, h2]; rfl
    show (l5.state.zone z).breakpoints = _ ∧ (l5.state.zone z).rampRate = _ ∧ (l5.state.zone z).recoveryMargin = _
    rw [this, hzones2]
    exact ⟨rfl, rfl, rfl⟩
  · have : l5.state.receptor r = l3.state.receptor r := by rw [h5, h3]; rfl
    exact this.trans (hreceptors3 r)
  · have : l5.state.slot i = l4.state.slot i := by rw [h5, h4]; rfl
    exact this.trans (hslots4 i)

theorem State.completeLoad_eq (u : State) : ∃ n, u.completeLoad = ({ u.load.state with notices := n } : State).endLoad := by
  unfold State.completeLoad
  dsimp only
  generalize u.load.state = v
  split
  · exact ⟨_, congrArg State.endLoad (State.post_eq ..)⟩
  · exact ⟨v.notices, rfl⟩

/-- The end of the load, whatever notices wait, leaves what was restored. -/
theorem State.Restored.endLoad {u v : State} (h : s.Restored u v) (n : NoticeQueue) :
    s.Restored { u with mode := .setup, loader := .ended } ({ v with notices := n } : State).endLoad := by
  obtain ⟨-, -, hsettings, hsite, hzone, hreceptor, hslot, hpath⟩ := h
  have heval := State.EvaluatedInSetup.of_evaluateZones (s := { v with mode := .setup, loader := .ended, notices := n }) rfl
  have hend : ({ v with notices := n } : State).endLoad = ({ v with mode := .setup, loader := .ended, notices := n } : State).evaluateZones := rfl
  rw [← hend] at heval
  generalize ({ v with notices := n } : State).endLoad = t at heval ⊢
  obtain ⟨_, _, _, _, hframe⟩ := heval.framed
  refine ⟨by rw [hframe], by rw [hframe], by rw [hframe]; exact hsettings, by rw [hframe]; exact hsite, fun z => ?_, by rw [hframe]; exact hreceptor,
    by rw [hframe]; exact hslot, by rw [hframe]; exact hpath⟩
  rw [heval.evaluated z (List.mem_finRange z)]
  obtain ⟨hbps, hramp, hmargin⟩ := Zone.evaluatedInSetup_settings v.clock.minute (v.zone z)
  obtain ⟨hbps', hramp', hmargin'⟩ := hzone z
  exact ⟨hbps.trans hbps', hramp.trans hramp', hmargin.trans hmargin'⟩

/-- Settles O16. -/
theorem savedSettingsComeBack : Obligations.SavedSettingsComeBack := by
  refine ⟨fun s m sec hw hzones => State.readSection_of_saved hw hzones sec, ?_⟩
  intro s u m hw hzones hsite hreceptors hslots hbindings hpaths hboot hloader hsettings
  have hreset : u.BlocksAtReset := hboot.2 (hboot.1.2 (by simp [hloader]))
  have hload := State.load_restored hzones hsite hreceptors hslots hbindings hpaths hreset fun sec => by
    rw [hsettings]
    exact State.readSection_of_saved hw hzones sec
  obtain ⟨n, hcomplete⟩ := u.completeLoad_eq
  obtain ⟨hmode, hended, hmemory, hsite', hzone, hreceptor, hslot, hpath⟩ := hcomplete ▸ hload.endLoad n
  refine ⟨u.completeLoad, ?_, hmode, hended, hmemory, hsite', hzone, hreceptor, hslot, hpath⟩
  show Host.Outcome.next (if u.loader = .loading then u.completeLoad else u) = _
  rw [if_pos hloader]

end Sys2Proof.Machine
end

section
/-! SUPPORT. Witness copies that stay in the FIFO, and the publication of a recalculation pass (R116, R117, R119, R121, R122, R172). -/

namespace Sys2Proof.Machine

/-! ### A copy that is not dropped stays in the FIFO (R172) -/

section fifo
variable {s : State} {c : Copy}

theorem State.send_gapPending (h : (s.send c).witness.gapPending = false) : s.witness.gapPending = false := by
  unfold State.send WitnessTx.take at h
  split at h
  · dsimp only at h
    split at h
    · exact h
    · cases h
  · exact h

theorem State.mem_send_of_mem {e : WitnessEntry} (h : e ∈ s.witness.fifo) : e ∈ (s.send c).witness.fifo := by
  unfold State.send WitnessTx.take
  split
  · dsimp only
    split
    · exact List.mem_append_left _ h
    · exact h
  · exact h

theorem State.mem_send (hgap : (s.send c).witness.gapPending = false) (henabled : c.enabled s.site.enables = true) :
    .copy c ∈ (s.send c).witness.fifo := by
  unfold State.send WitnessTx.take at hgap ⊢
  rw [if_pos henabled] at hgap ⊢
  dsimp only at hgap ⊢
  split
  next hroom => exact List.mem_append_right _ (List.mem_singleton_self _)
  next hroom =>
    rw [if_neg hroom] at hgap
    cases hgap

theorem State.sendAll_gapPending {cs : List Copy} (h : (s.sendAll cs).witness.gapPending = false) : s.witness.gapPending = false := by
  induction cs generalizing s with
  | nil => exact h
  | cons c cs ih => exact State.send_gapPending (ih h)

theorem State.mem_sendAll_of_mem {cs : List Copy} {e : WitnessEntry} (h : e ∈ s.witness.fifo) : e ∈ (s.sendAll cs).witness.fifo := by
  induction cs generalizing s with
  | nil => exact h
  | cons c cs ih => exact ih (State.mem_send_of_mem h)

/-- A copy of an enabled category stands in the FIFO after a run of copies of which none was dropped. -/
theorem State.mem_sendAll {cs : List Copy} (hgap : (s.sendAll cs).witness.gapPending = false) (hc : c ∈ cs)
    (henabled : c.enabled s.site.enables = true) : .copy c ∈ (s.sendAll cs).witness.fifo := by
  induction cs generalizing s with
  | nil => cases hc
  | cons d cs ih =>
    rcases List.mem_cons.1 hc with rfl | hc
    · exact State.mem_sendAll_of_mem (s := s.send c) (State.mem_send (State.sendAll_gapPending (cs := cs) hgap) henabled)
    · have hsite : (s.send d).site = s.site := by rw [State.send_eq]
      exact ih hgap hc (by rw [hsite]; exact henabled)

end fifo

/-! ### The publication of one slot -/

section publication
variable (s : State) (c : Capture) (i : SlotId)

/-- The record of a slot after the publication of a pass. -/
def State.publishedSlot : Slot :=
  { s.slot i with
    published := s.newPublished c i
    previous := if s.newPublished c i = (s.slot i).published then (s.slot i).previous else (s.slot i).published
    serial := if s.newPublished c i = (s.slot i).published then (s.slot i).serial else ((s.slot i).serial + 1) % 65536
    prospective := s.newProspective c i }

def State.ceilingSource : LimitSource := if s.publishesComputed c i then c.source c.recalculationSet i else .notCounted

/-- The CEILING notice of a slot whose published ceiling takes a new value (R121). -/
def State.ceilingNotice : Notice :=
  .ceiling i (s.newPublished c i) (s.slot i).published (((s.slot i).serial + 1) % 65536) (s.slot i).state (s.ceilingSource c i)

/-- The CEILING copy of such a slot; the least of a slot that the pass did not count is the one given (R122, log 12). -/
def State.ceilingCopy (free : Int) : Copy :=
  .ceiling i (s.slot i).port (s.slot i).published (s.newPublished c i) (((s.slot i).serial + 1) % 65536) (s.slot i).state (s.ceilingSource c i)
    (if i ∈ c.recalculationSet then c.least c.recalculationSet i else free) s.clock.minute s.clock.second
    (if s.publishesComputed c i then (c.limitTerm c.recalculationSet i).map fun t => (t.receptor, t.budget, t.weight, t.loss) else none)

def State.ceilingPosts : List Notice := if s.newPublished c i = (s.slot i).published then [] else [s.ceilingNotice c i]

variable {s c i}

theorem State.publishesComputed_congr {t : State} (h : t.slot i = s.slot i) : t.publishesComputed c i = s.publishesComputed c i := by
  rw [State.publishesComputed, h, State.publishesComputed]

theorem State.newPublished_congr {t : State} (h : t.slot i = s.slot i) : t.newPublished c i = s.newPublished c i := by
  rw [State.newPublished, State.publishesComputed_congr h, State.newPublished]

theorem State.publishedSlot_congr {t : State} (h : t.slot i = s.slot i) : t.publishedSlot c i = s.publishedSlot c i := by
  rw [State.publishedSlot, State.newProspective, State.newPublished_congr h, h]
  rfl

theorem State.ceilingNotice_congr {t : State} (h : t.slot i = s.slot i) : t.ceilingNotice c i = s.ceilingNotice c i := by
  rw [State.ceilingNotice, State.ceilingSource, State.newPublished_congr h, State.publishesComputed_congr h, h]
  rfl

theorem State.ceilingPosts_congr {t : State} (h : t.slot i = s.slot i) : t.ceilingPosts c i = s.ceilingPosts c i := by
  rw [State.ceilingPosts, State.ceilingNotice_congr h, State.newPublished_congr h, h]
  rfl

theorem State.ceilingCopy_congr {t : State} (h : t.slot i = s.slot i) (hclock : t.clock = s.clock) (free : Int) :
    t.ceilingCopy c i free = s.ceilingCopy c i free := by
  rw [State.ceilingCopy, State.ceilingSource, State.newPublished_congr h, State.publishesComputed_congr h, h, hclock]
  rfl

/-- `t` is `s` after the publication of the slots of a list. -/
structure State.PublishedOver (s t : State) (c : Capture) (l : List SlotId) : Prop where
  frame : t = { s with slots := t.slots, notices := t.notices, witness := t.witness, freeIndex := t.freeIndex }
  slot_eq : ∀ i, t.slot i = if i ∈ l then s.publishedSlot c i else s.slot i
  notices_eq : t.notices = s.notices.postAll (l.flatMap (s.ceilingPosts c))
  sent : ∃ cs, t.witness = (s.sendAll cs).witness ∧
    ∀ i ∈ l, s.newPublished c i ≠ (s.slot i).published → ∃ free, s.ceilingCopy c i free ∈ cs

/-- What a report posts and sends of a slot that has taken its new record. -/
theorem State.reportCeiling_eq {b : State} (hslot : b.slot i = s.publishedSlot c i) (hnew : s.newPublished c i ≠ (s.slot i).published)
    (hclock : b.clock = s.clock) : ∃ free f, b.reportCeiling c i (s.publishesComputed c i) =
      ({ b with freeIndex := f, notices := b.notices.post (s.ceilingNotice c i) } : State).send (s.ceilingCopy c i free) := by
  refine ⟨Config.uncountedLeast b.freeIndex, if c.recalculationSet.contains i then b.freeIndex else b.freeIndex + 1, ?_⟩
  unfold State.reportCeiling
  dsimp only
  rw [hslot]
  simp only [State.publishedSlot, if_neg hnew, List.contains_iff_mem]
  by_cases hmember : i ∈ c.recalculationSet
  · simp only [if_pos hmember, State.ceilingCopy, ← hclock]
    rfl
  · simp only [if_neg hmember, State.ceilingCopy, ← hclock]
    rfl

theorem State.publishSlot_over (s : State) (c : Capture) (i : SlotId) : s.PublishedOver (State.publishSlot c s i) c [i] := by
  unfold State.publishSlot
  dsimp only
  by_cases hsame : s.newPublished c i = (s.slot i).published
  · rw [if_pos hsame]
    refine ⟨rfl, fun j => ?_, ?_, [], rfl, fun j hj hne => ?_⟩
    · by_cases hj : j = i
      · subst hj
        simp [State.publishedSlot, hsame]
      · simp [hj]
    · simp [State.ceilingPosts, hsame, NoticeQueue.postAll]
    · rw [List.mem_singleton.1 hj] at hne
      exact absurd hsame hne
  · rw [if_neg hsame]
    have hslot : ((s.updSlot i fun x => { x with prospective := s.newProspective c i }).updSlot i (·.publish (s.newPublished c i))).slot i =
        s.publishedSlot c i := by
      simp [State.publishedSlot, Slot.publish, hsame]
    have hother (j : SlotId) (hj : j ≠ i) :
        ((s.updSlot i fun x => { x with prospective := s.newProspective c i }).updSlot i (·.publish (s.newPublished c i))).slot j = s.slot j := by simp [hj]
    generalize hb : (s.updSlot i fun x => { x with prospective := s.newProspective c i }).updSlot i (·.publish (s.newPublished c i)) = b at hslot hother ⊢
    have hframe : b = { s with slots := b.slots } := by rw [← hb]; rfl
    obtain ⟨free, f, hreport⟩ := State.reportCeiling_eq hslot hsame (by rw [hframe])
    have hsent : ({ b with freeIndex := f, notices := b.notices.post (s.ceilingNotice c i) } : State).send (s.ceilingCopy c i free) =
        { s with slots := b.slots, notices := s.notices.post (s.ceilingNotice c i), witness := (s.sendAll [s.ceilingCopy c i free]).witness, freeIndex := f } := by
      rw [State.send_eq, hframe]
      congr 1
      simp only [State.send_witness]
      exact (State.send_witness s _).symm
    rw [hreport, hsent]
    refine ⟨rfl, fun j => ?_, ?_, [s.ceilingCopy c i free], rfl, fun j hj _ => ⟨free, ?_⟩⟩
    · show b.slot j = _
      by_cases hj : j = i
      · rw [hj, hslot, if_pos (List.mem_singleton_self i)]
      · rw [hother j hj, if_neg (by simpa using hj)]
    · simp [State.ceilingPosts, hsame, NoticeQueue.postAll]
    · rw [List.mem_singleton.1 hj]
      exact List.mem_singleton_self _

theorem State.PublishedOver.trans {t u : State} {l : List SlotId} (h : s.PublishedOver t c l) (hi : i ∉ l) (k : t.PublishedOver u c [i]) :
    s.PublishedOver u c (l ++ [i]) := by
  have hslot : t.slot i = s.slot i := by rw [h.slot_eq, if_neg hi]
  have hclock : t.clock = s.clock := by rw [h.frame]
  obtain ⟨cs, hwitness, hcopies⟩ := h.sent
  obtain ⟨ds, hwitness', hcopies'⟩ := k.sent
  refine ⟨?_, fun j => ?_, ?_, cs ++ ds, ?_, fun j hj hne => ?_⟩
  · rw [k.frame, h.frame]
  · rw [k.slot_eq]
    by_cases hj : j = i
    · subst hj
      simp [State.publishedSlot_congr hslot]
    · rw [if_neg (by simpa using hj), h.slot_eq]
      simp [hj]
  · rw [k.notices_eq, h.notices_eq, List.flatMap_append, NoticeQueue.postAll_append]
    simp [State.ceilingPosts_congr hslot]
  · rw [hwitness', State.sendAll_append]
    refine State.sendAll_witness_congr hwitness ?_ ?_ ds
    · rw [h.frame, State.sendAll_eq]
    · rw [h.frame, State.sendAll_eq]
  · rcases List.mem_append.1 hj with hj | hj
    · obtain ⟨free, hmem⟩ := hcopies j hj hne
      exact ⟨free, List.mem_append_left _ hmem⟩
    · obtain rfl := List.mem_singleton.1 hj
      obtain ⟨free, hmem⟩ := hcopies' j hj (by rwa [State.newPublished_congr hslot, hslot])
      rw [State.ceilingCopy_congr hslot hclock] at hmem
      exact ⟨free, List.mem_append_right _ hmem⟩

theorem State.publish_over (s : State) (c : Capture) : s.PublishedOver (s.publish c) c allSlots := by
  have hall : ∀ l : List SlotId, l.Nodup → s.PublishedOver (l.foldl (State.publishSlot c) s) c l := by
    intro l
    induction l using List.reverseRecOn with
    | nil => exact fun _ => ⟨rfl, fun i => by simp, rfl, [], rfl, nofun⟩
    | append_singleton l i ih =>
      intro hnodup
      obtain ⟨hl, -, hne⟩ := List.nodup_append.1 hnodup
      rw [List.foldl_concat]
      exact (ih hl).trans (fun hi => hne i hi i (List.mem_singleton_self i) rfl) (State.publishSlot_over _ c i)
  exact hall allSlots (List.nodup_finRange 8)

end publication

end Sys2Proof.Machine
end

section
/-! SUPPORT. The end of a recalculation pass: the publication, the ageings it brings, and the report to the arbiter (R81, R109, R117 to R122). -/

namespace Sys2Proof.Machine

/-! ### Ageings while the engine is busy (R108) -/

section busy
variable {v : State}

theorem State.emptySlot_arbiter_of_busy (hmode : v.mode ≠ .boot) (hbusy : v.engine.activity ≠ .idle) (i : SlotId) :
    (v.emptySlot i).arbiter = v.arbiter ∧ (v.emptySlot i).engine = { v.engine with pending := true } := by
  have htrigger := State.trigger_of_busy (s := (v.updSlot i Slot.emptied).deletePathsOf i) hmode hbusy
  unfold State.emptySlot
  dsimp only
  rw [State.reportClamp_eq, htrigger]
  exact ⟨rfl, rfl⟩

/-- Slots that age out while the engine is busy leave the arbiter, and set the pending flag where one does. -/
theorem State.ageSlots_of_busy (l : List SlotId) (hmode : v.mode ≠ .boot) (hbusy : v.engine.activity ≠ .idle) (hl : l.Nodup) :
    (l.foldl State.ageSlot v).arbiter = v.arbiter ∧
      (l.foldl State.ageSlot v).engine = { v.engine with pending := v.engine.pending || l.any fun i => (v.slot i).agesOut v.site } := by
  induction l generalizing v with
  | nil => simp
  | cons i l ih =>
    obtain ⟨hi, hl⟩ := List.nodup_cons.1 hl
    rw [List.foldl_cons, List.any_cons, ← State.ageDue_eq]
    rcases v.ageSlot_eq i with ⟨hsame, hdue⟩ | ⟨hempty, hdue⟩
    · rw [hsame, hdue, Bool.false_or]
      exact ih hmode hbusy hl
    · obtain ⟨harbiter, hengine⟩ := State.emptySlot_arbiter_of_busy hmode hbusy i
      have hmode' : (v.emptySlot i).mode ≠ .boot := by rw [State.emptySlot_eq]; exact hmode
      rw [hempty, hdue]
      obtain ⟨hrest, hengine'⟩ := ih hmode' (by rw [hengine]; exact hbusy) hl
      exact ⟨hrest.trans harbiter, by rw [hengine', hengine]; simp⟩

end busy

/-! ### The report to the arbiter (R120, R131) -/

/-- The slot keeps its ceilings and its settings. -/
structure Slot.SameCeilings (x y : Slot) : Prop where
  published_eq : y.published = x.published
  previous_eq : y.previous = x.previous
  serial_eq : y.serial = x.serial
  weight_eq : y.weight = x.weight
  stageMax_eq : y.stageMax = x.stageMax

section report
variable {u : State}

/-- What the report of a pass leaves of the notices, the copies and the slots. -/
structure State.Reported (u r : State) : Prop where
  posted : ∃ ns, r.notices = u.notices.postAll ns ∧ ∀ m ∈ ns, ∃ j ∈ u.arbiter.queue, m.isAdmissionOf j = true ∨ m = r.stageStateNotice j
  witness_eq : r.witness = u.witness
  ceilings : ∀ i, (u.slot i).SameCeilings (r.slot i)
  rest : ∀ i, i ∉ u.arbiter.queue → (u.slot i).state ≠ .live → r.slot i = u.slot i

theorem State.Reported.refl (u : State) : u.Reported u := ⟨⟨[], rfl, nofun⟩, rfl, fun _ => ⟨rfl, rfl, rfl, rfl, rfl⟩, fun _ _ _ => rfl⟩

theorem State.Reported.of_grant (hu : u.AdmissionSound) {h : SlotId} {rest : List SlotId} (hqueue : u.arbiter.queue = h :: rest) (m : Manner)
    (hdebts : ∀ i, (u.slot i).debt = false) : u.Reported (u.grant m) := by
  obtain ⟨hboot, -, hq, -⟩ := hu
  have hdid := State.Did.of_grant hqueue hq.1 m (State.mode_ne_boot_of_queue hboot hqueue)
  refine ⟨⟨_, hdid.notices_eq, fun n hn => ?_⟩, ?_, fun i => ?_, fun i hi _ => ?_⟩
  · rw [State.settledPosts_of_no_debt hdebts, List.nil_append] at hn
    rw [hqueue]
    rcases List.mem_append.1 hn with hn | hn
    · rcases List.mem_cons.1 hn with rfl | hn
      · exact ⟨h, List.mem_cons_self, .inl (State.isAdmissionOf_self _ h _)⟩
      · exact ⟨h, List.mem_cons_self, .inr (List.mem_singleton.1 hn)⟩
    · obtain ⟨j, hj, hn⟩ := State.mem_headPosts hn
      refine ⟨j, List.mem_cons_of_mem _ (List.mem_of_head? hj), ?_⟩
      rcases hn with rfl | rfl
      · exact .inr rfl
      · exact .inl (State.isAdmissionOf_self _ j _)
  · rw [hdid.witness_eq, State.settledCopies_of_no_debt hdebts]
    rfl
  · rw [State.grant_slot hqueue]
    dsimp only
    rw [Slot.settled_of_no_debt (hdebts i)]
    constructor <;> split <;> split <;> rfl
  · have hne : i ≠ h := fun he => hi (by rw [hqueue, he]; exact List.mem_cons_self)
    have hnext : rest.head? ≠ some i := fun he => hi (by rw [hqueue]; exact List.mem_cons_of_mem _ (List.mem_of_head? he))
    rw [State.grant_slot_ne hqueue m hne, Slot.settled_of_no_debt (hdebts i), if_neg hnext]

theorem State.Reported.of_takePassReport (hu : u.AdmissionSound) (entering : Option SlotId) (fallen : List SlotId) :
    u.Reported (u.takePassReport entering fallen) := by
  obtain ⟨hnot, hgrant, hdebt⟩ := passReportSetsDebtsOrGrants u entering fallen hu
  by_cases hacts : u.arbiter.queue ≠ [] ∧ u.arbiter.phase = some .counting ∧ entering = u.arbiter.queue.head? ∧ u.arbiter.passSinceHead = true
  · obtain ⟨h, rest, hqueue⟩ := List.exists_cons_of_ne_nil hacts.1
    have hdebts := State.no_debt_of_not_confirming hu.2.2.2 (by rw [hacts.2.1]; decide)
    by_cases hlive : ∃ i ∈ fallen, (u.slot i).state = .live
    · obtain ⟨hframe, hslots, hnotices⟩ := hdebt hacts hlive
      have hslot (i : SlotId) : (u.takePassReport entering fallen).slot i =
          { u.slot i with debt := decide (i ∈ fallen) && (u.slot i).state == .live } := hslots i
      refine ⟨⟨[(u.takePassReport entering fallen).admissionNotice h none], hnotices h (by rw [hqueue]; rfl), fun m hm => ?_⟩, by rw [hframe], fun i => ?_, fun i _ hi => ?_⟩
      · rw [List.mem_singleton.1 hm, hqueue]
        exact ⟨h, List.mem_cons_self, .inl (State.isAdmissionOf_self _ h _)⟩
      · rw [hslot]
        constructor <;> rfl
      · have hrest : (decide (i ∈ fallen) && (u.slot i).state == .live) = (u.slot i).debt := by simp [hdebts i, hi]
        rw [hslot, hrest]
    · rw [(hgrant hacts fun i hi hstate => hlive ⟨i, hi, hstate⟩).1]
      exact .of_grant hu hqueue .atOnce hdebts
  · rw [hnot hacts]
    exact .refl u

end report

/-! ### The slots that the publication ages out (R81) -/

theorem State.ageAll_state_waits {w : State} {i : SlotId} (hmode : w.mode ≠ .boot) (hdue : (w.slot i).agesOut w.site = true)
    (hlost : w.ageAll.notices.lost = false) : w.ageAll.stageStateNotice i ∈ w.ageAll.notices.notices := by
  have hnodup : allSlots.Nodup := List.nodup_finRange 8
  have hi : i ∈ allSlots := List.mem_finRange i
  unfold State.ageAll at hlost ⊢
  generalize allSlots = l at hnodup hi hlost ⊢
  exact State.ageSlots_stageState_waits (fun _ => hmode) hnodup (.inr ⟨hi, hdue⟩) hlost

section passEnd
variable {s : State} {c : Capture}

/-- The slot ages out with the ceiling that the pass publishes. -/
def State.agesAt (s : State) (c : Capture) (i : SlotId) : Bool :=
  (s.slot i).kind == .openKind && (s.slot i).state == .quiet && (s.slot i).port.isSome && s.newPublished c i == 0 &&
    (s.slot i).reportAge.any fun a => decide (1000 * s.site.ageTime ≤ a)

theorem State.publish_slot (s : State) (c : Capture) (i : SlotId) : (s.publish c).slot i = s.publishedSlot c i := by
  rw [(State.publish_over s c).slot_eq, if_pos (List.mem_finRange i)]

theorem State.publish_site (s : State) (c : Capture) : (s.publish c).site = s.site := by rw [(State.publish_over s c).frame]

theorem State.publish_engine (s : State) (c : Capture) : (s.publish c).engine = s.engine := by rw [(State.publish_over s c).frame]

theorem State.agesOut_publish (s : State) (c : Capture) (i : SlotId) : ((s.publish c).slot i).agesOut (s.publish c).site = s.agesAt c i := by
  rw [State.publish_slot, State.publish_site]
  simp only [Slot.agesOut, Slot.settledQuiet, State.publishedSlot, State.agesAt, Bool.and_assoc, Bool.and_comm, Bool.and_left_comm]

/-- The state after the publication and the ageings it brings. -/
def State.agedAfter (s : State) (c : Capture) : State := (s.publish c).ageAll

theorem State.agedAfter_eq (s : State) (c : Capture) : s.agedAfter c = allSlots.foldl State.ageSlot (s.publish c) := rfl

variable (hs : s.AdmissionSound) (hpass : s.engine.activity = .recalculating c)
include hs hpass

theorem State.mode_of_pass : s.mode ≠ .boot := fun hmode => by
  obtain ⟨-, -, -, -, -, -, hengine, -⟩ := hs.1.2 hmode
  rw [hengine] at hpass
  cases hpass

theorem State.publish_mode : (s.publish c).mode ≠ .boot := by
  have hmode := State.mode_of_pass hs hpass
  rw [(State.publish_over s c).frame]
  exact hmode

theorem State.agedAfter_did : (s.publish c).Did (s.agedAfter c)
    (allSlots.flatMap fun i => agedPosts (s.publish c).site i ((s.publish c).slot i))
    (allSlots.flatMap fun i => agedCopies (s.publish c).site (s.publish c).clock i ((s.publish c).slot i))
    (allSlots.map fun i => if ((s.publish c).slot i).agesOut (s.publish c).site then 1 else 0).sum :=
  (State.Did.of_ageSlots (fun _ => State.publish_mode hs hpass) (List.nodup_finRange 8)).1

theorem State.agedAfter_slot (i : SlotId) :
    (s.agedAfter c).slot i = if s.agesAt c i = true then (s.publishedSlot c i).afterEmptying else s.publishedSlot c i := by
  have h := (State.Did.of_ageSlots (v := s.publish c) (l := allSlots) (fun _ => State.publish_mode hs hpass) (List.nodup_finRange 8)).2 i
  rw [State.agesOut_publish, State.publish_slot] at h
  rw [State.agedAfter_eq, h]
  simp

omit hs hpass in
theorem State.agedAfter_path (p : PathPos) :
    (s.agedAfter c).path p = (s.path p).bind fun e => if s.agesAt c e.slot = true then none else some e := by
  have h := State.ageSlots_path (v := s.publish c) (l := allSlots) (List.nodup_finRange 8) p
  have hpath : (s.publish c).path p = s.path p := by rw [(State.publish_over s c).frame]; rfl
  rw [State.agedAfter_eq, h, hpath]
  simp only [State.agesOut_publish, List.mem_finRange, true_and]

theorem State.agedAfter_busy : (s.agedAfter c).arbiter = s.arbiter ∧
    (s.agedAfter c).engine = { s.engine with pending := s.engine.pending || allSlots.any (s.agesAt c) } := by
  have hbusy : (s.publish c).engine.activity ≠ .idle := by
    rw [State.publish_engine, hpass]
    exact nofun
  obtain ⟨harbiter, hengine⟩ := State.ageSlots_of_busy allSlots (State.publish_mode hs hpass) hbusy (List.nodup_finRange 8)
  have harbiter' : (s.publish c).arbiter = s.arbiter := by rw [(State.publish_over s c).frame]
  rw [State.publish_engine] at hengine
  simp only [State.agesOut_publish] at hengine
  exact ⟨harbiter.trans harbiter', hengine⟩

theorem State.agedAfter_frame : s.agedAfter c = { s with
    slots := (s.agedAfter c).slots, paths := (s.agedAfter c).paths, engine := (s.agedAfter c).engine, notices := (s.agedAfter c).notices
    witness := (s.agedAfter c).witness, freeIndex := (s.agedAfter c).freeIndex } := by
  have hframe := (State.agedAfter_did hs hpass).frame_eq
  have harbiter := (State.agedAfter_busy hs hpass).1
  have hpublished := (State.publish_over s c).frame
  generalize s.agedAfter c = u at hframe harbiter ⊢
  rw [hframe, harbiter, hpublished]

theorem State.agedAfter_sound : (s.agedAfter c).AdmissionSound := by
  obtain ⟨-, hbindings, hqueue, hhandover⟩ := id hs
  have harranged := ((State.Aside.of_publish s c).arranged ⟨hbindings, hqueue, hhandover⟩).ageAll
  have hmode := State.mode_of_pass hs hpass
  have hframe := State.agedAfter_frame hs hpass
  rw [← State.agedAfter] at harranged
  generalize s.agedAfter c = u at hframe harranged ⊢
  refine ⟨?_, harranged.bindings, harranged.queue, harranged.handover⟩
  rw [hframe]
  exact ⟨hs.1.1, fun h => absurd h hmode⟩

/-- A slot that ages out is in no queue and LIVE no longer. -/
theorem State.agedAfter_rest {i : SlotId} (hages : s.agesAt c i = true) : i ∉ (s.agedAfter c).arbiter.queue ∧ ((s.agedAfter c).slot i).state ≠ .live := by
  have hslot : ((s.agedAfter c).slot i).state = .empty := by
    rw [State.agedAfter_slot hs hpass, if_pos hages]
    rfl
  refine ⟨fun hi => ?_, by rw [hslot]; decide⟩
  have hqueued := ((State.agedAfter_sound hs hpass).2.2.1.2.1 i).1 hi
  rw [hslot] at hqueued
  cases hqueued

omit hs hpass in
theorem State.sameSubject_ceilingNotice {i : SlotId} {m : Notice} (hm : m ∈ allSlots.flatMap (s.ceilingPosts c))
    (hsame : (s.ceilingNotice c i).sameSubject m = true) : m = s.ceilingNotice c i := by
  obtain ⟨j, -, hj⟩ := List.mem_flatMap.1 hm
  unfold State.ceilingPosts at hj
  split at hj
  · cases hj
  · rw [List.mem_singleton.1 hj] at hsame ⊢
    have hsubject : i.val + 1 = j.val + 1 := beq_iff_eq.1 (Bool.and_eq_true_iff.1 hsame).2
    rw [Fin.ext (Nat.succ.inj hsubject)]

omit hs hpass in
theorem State.ceilingNotice_not_own {t : State} {i : SlotId} {m : Notice} (hm : t.OwnNotice m) : (s.ceilingNotice c i).sameSubject m = false := by
  cases hm with
  | state j => rfl
  | clamp j => rfl
  | admission j h =>
    cases m with
    | admission => rfl
    | _ => cases h

theorem State.agedPosts_own {m : Notice} (hm : m ∈ allSlots.flatMap fun i => agedPosts (s.publish c).site i ((s.publish c).slot i)) :
    (s.agedAfter c).OwnNotice m :=
  State.ownNotice_of_ageSlots (fun _ => State.publish_mode hs hpass) (List.nodup_finRange 8) hm

theorem State.agedAfter_state_waits {i : SlotId} (hages : s.agesAt c i = true) (hlost : (s.agedAfter c).notices.lost = false) :
    (s.agedAfter c).stageStateNotice i ∈ (s.agedAfter c).notices.notices := by
  unfold State.agedAfter at hlost ⊢
  exact State.ageAll_state_waits (State.publish_mode hs hpass) ((State.agesOut_publish s c i).trans hages) hlost

end passEnd

/-! ### The end of the pass -/

section ended
variable {s r : State} {c : Capture} (hs : s.AdmissionSound) (hpass : s.engine.activity = .recalculating c) (hr : (s.agedAfter c).Reported r)
include hs hpass hr

theorem State.Reported.slot_of_aged {i : SlotId} (hages : s.agesAt c i = true) : r.slot i = (s.agedAfter c).slot i := by
  obtain ⟨hqueue, hlive⟩ := State.agedAfter_rest hs hpass hages
  exact hr.rest i hqueue hlive

omit hs hpass in
theorem State.Reported.lost (hlost : r.notices.lost = false) : (s.agedAfter c).notices.lost = false := by
  obtain ⟨ns, hns, -⟩ := hr.posted
  exact NoticeQueue.lost_of_postAll (hns ▸ hlost)

/-- A STAGE_STATE or CLAMP notice of a slot that ages out waits after the report as before. -/
theorem State.Reported.keeps {i : SlotId} (hages : s.agesAt c i = true) {k : Notice} (hk : k ∈ (s.agedAfter c).notices.notices)
    (hstate : ∀ j, j ≠ i → k.sameSubject (r.stageStateNotice j) = false) (hadmission : ∀ m j, Notice.isAdmissionOf j m = true → k.sameSubject m = false) :
    k ∈ r.notices.notices := by
  obtain ⟨ns, hns, hposts⟩ := hr.posted
  rw [hns]
  refine NoticeQueue.mem_postAll_of_mem hk fun m hm hsame => ?_
  obtain ⟨j, hj, hm | rfl⟩ := hposts m hm
  · rw [hadmission m j hm] at hsame
    cases hsame
  · have hne : j ≠ i := fun he => (State.agedAfter_rest hs hpass hages).1 (he ▸ hj)
    rw [hstate j hne] at hsame
    cases hsame

theorem State.Reported.state_waits {i : SlotId} (hages : s.agesAt c i = true) (hlost : r.notices.lost = false) :
    r.stageStateNotice i ∈ r.notices.notices := by
  have hwaits := State.agedAfter_state_waits hs hpass hages (hr.lost hlost)
  rw [State.stageStateNotice_congr (hr.slot_of_aged hs hpass hages)]
  refine hr.keeps hs hpass hages hwaits (fun j hj => ?_) fun m j hm => ?_
  · exact (sameSubject_state_state i j _ _).trans (decide_eq_false (Ne.symm hj))
  · cases m with
    | admission => rfl
    | _ => cases hm

theorem State.Reported.clamp_waits {i : SlotId} (hages : s.agesAt c i = true) (hcauses : (s.slot i).causes ≠ causesNone)
    (hlost : r.notices.lost = false) : r.clampNotice i ∈ r.notices.notices := by
  have hslot : (s.agedAfter c).slot i = (s.publishedSlot c i).emptied := by rw [State.agedAfter_slot hs hpass, if_pos hages, Slot.emptied_eq]
  have hposted : (s.agedAfter c).clampNotice i ∈ allSlots.flatMap fun i => agedPosts (s.publish c).site i ((s.publish c).slot i) := by
    refine List.mem_flatMap.2 ⟨i, List.mem_finRange i, ?_⟩
    have hdue := (State.agesOut_publish s c i).trans hages
    rw [agedPosts, if_pos hdue, State.publish_slot, bindingPosts, clampPosts_of_ne (Ne.symm hcauses), State.clampNotice_eq, hslot]
    exact List.mem_cons_of_mem _ (List.mem_singleton_self _)
  have hwaits := (State.agedAfter_did hs hpass).clamp_waits (fun m hm => State.agedPosts_own hs hpass hm) (hr.lost hlost) hposted
  have hsame : r.clampNotice i = (s.agedAfter c).clampNotice i := by rw [State.clampNotice_eq, hr.slot_of_aged hs hpass hages, State.clampNotice_eq]
  rw [hsame]
  refine hr.keeps hs hpass hages hwaits (fun j hj => rfl) fun m j hm => ?_
  cases m with
  | admission => rfl
  | _ => cases hm

theorem State.Reported.ceiling_waits {i : SlotId} (hnew : s.newPublished c i ≠ (s.slot i).published) (hlost : r.notices.lost = false) :
    s.ceilingNotice c i ∈ r.notices.notices := by
  obtain ⟨ns, hns, hposts⟩ := hr.posted
  have hall : r.notices = s.notices.postAll ((allSlots.flatMap (s.ceilingPosts c) ++
      allSlots.flatMap fun i => agedPosts (s.publish c).site i ((s.publish c).slot i)) ++ ns) := by
    rw [hns, (State.agedAfter_did hs hpass).notices_eq, (State.publish_over s c).notices_eq, NoticeQueue.postAll_append, NoticeQueue.postAll_append]
  have hmem : s.ceilingNotice c i ∈ allSlots.flatMap (s.ceilingPosts c) :=
    List.mem_flatMap.2 ⟨i, List.mem_finRange i, by rw [State.ceilingPosts, if_neg hnew]; exact List.mem_singleton_self _⟩
  rw [hall] at hlost ⊢
  refine NoticeQueue.mem_postAll hlost (List.mem_append_left _ (List.mem_append_left _ hmem)) fun m hm hsame => ?_
  rcases List.mem_append.1 hm with hm | hm
  · rcases List.mem_append.1 hm with hm | hm
    · exact State.sameSubject_ceilingNotice hm hsame
    · rw [State.ceilingNotice_not_own (State.agedPosts_own hs hpass hm)] at hsame
      cases hsame
  · have hown : r.OwnNotice m := by
      obtain ⟨j, -, hm | rfl⟩ := hposts m hm
      · exact .admission j hm
      · exact .state j
    rw [State.ceilingNotice_not_own hown] at hsame
    cases hsame

theorem State.Reported.ceiling_sent {i : SlotId} (hnew : s.newPublished c i ≠ (s.slot i).published) (hgap : r.witness.gapPending = false)
    (henabled : s.site.enables.ceiling = true) : ∃ free, .copy (s.ceilingCopy c i free) ∈ r.witness.fifo := by
  obtain ⟨cs, hsent, hcopies⟩ := (State.publish_over s c).sent
  obtain ⟨free, hfree⟩ := hcopies i (List.mem_finRange i) hnew
  refine ⟨free, ?_⟩
  rw [hr.witness_eq, (State.agedAfter_did hs hpass).witness_eq] at hgap ⊢
  refine State.mem_sendAll_of_mem ?_
  have hgap' := State.sendAll_gapPending hgap
  rw [hsent] at hgap' ⊢
  exact State.mem_sendAll hgap' hfree henabled

end ended

theorem execRecalculationPassEnd_of_pass {s : State} {c : Capture} (h : s.engine.activity = .recalculating c) :
    exec .recalculationPassEnd s = .next ((s.agedAfter c).takePassReport c.entering (s.fallenSet c)).chooseNext := by
  show execRecalculationPassEnd s = _
  unfold execRecalculationPassEnd
  rw [h]
  rfl

theorem execRecalculationPassEnd_of_no_pass {s : State} (h : ∀ c, s.engine.activity ≠ .recalculating c) : exec .recalculationPassEnd s = .next s := by
  show execRecalculationPassEnd s = _
  unfold execRecalculationPassEnd
  split
  next c hpass => exact absurd hpass (h c)
  next => rfl

/-- The choice of the next work leaves the slots, the notices and the copies. -/
theorem State.chooseNext_rest (s : State) : s.chooseNext.slots = s.slots ∧ s.chooseNext.notices = s.notices ∧ s.chooseNext.witness = s.witness := by
  rw [State.chooseNext_eq]
  exact ⟨rfl, rfl, rfl⟩

/-- The record of a slot that ages out with the publication. -/
theorem State.publishedSlot_aged {s : State} {c : Capture} {i : SlotId} (hh : s.HandoverSound) (hages : s.agesAt c i = true) :
    (s.publishedSlot c i).afterEmptying = { slotDefault with
      weight := (s.slot i).weight, stageMax := (s.slot i).stageMax, published := 0, previous := (s.publishedSlot c i).previous
      serial := (s.publishedSlot c i).serial } := by
  simp only [State.agesAt, Bool.and_eq_true, beq_iff_eq] at hages
  obtain ⟨⟨⟨⟨-, hquiet⟩, -⟩, hzero⟩, -⟩ := hages
  have hprospective : (s.publishedSlot c i).prospective = none := by
    have hnone : (s.slot i).prospective = none := Option.not_isSome_iff_eq_none.1 fun h => by
      have := hh.2.2.2.2 i h
      rw [hquiet] at this
      cases this
    show s.newProspective c i = none
    rw [State.newProspective, if_neg fun h => by rw [hquiet] at h; exact nomatch h.2]
    exact hnone
  rw [Slot.afterEmptying_of_not_entering hprospective]
  simp only [State.publishedSlot, hzero]

/-- Settles O27. -/
theorem passEndPublishesEveryCeiling : Obligations.PassEndPublishesEveryCeiling := by
  intro s
  refine ⟨execRecalculationPassEnd_of_no_pass, fun c hs hpass => ?_⟩
  intro counted isComputed v ages serial previous fallen
  have hr := State.Reported.of_takePassReport (State.agedAfter_sound hs hpass) c.entering (s.fallenSet c)
  refine ⟨s.agedAfter c, ((s.agedAfter c).takePassReport c.entering (s.fallenSet c)).chooseNext, execRecalculationPassEnd_of_pass hpass, rfl,
    State.agedAfter_frame hs hpass, (State.agedAfter_busy hs hpass).2, State.agedAfter_path, ?_⟩
  generalize (s.agedAfter c).takePassReport c.entering (s.fallenSet c) = r at hr ⊢
  obtain ⟨hslots, hnotices, hwitness⟩ := r.chooseNext_rest
  have hslot (i : SlotId) : r.chooseNext.slot i = r.slot i := by rw [State.slot, hslots]; rfl
  have hstate (i : SlotId) : r.chooseNext.stageStateNotice i = r.stageStateNotice i := State.stageStateNotice_congr (hslot i)
  have hclamp (i : SlotId) : r.chooseNext.clampNotice i = r.clampNotice i := by rw [State.clampNotice_eq, hslot, State.clampNotice_eq]
  rw [hnotices, hwitness]
  refine ⟨fun i => ?_, fun hlost i hages => ?_, fun i hnew => ?_⟩
  · obtain ⟨hpublished, hprevious, hserial, hweight, hmax⟩ := hr.ceilings i
    have haged := State.agedAfter_slot hs hpass i
    have hages_eq : ages i = s.agesAt c i := rfl
    have hkept : (s.publishedSlot c i).SameCeilings ((s.agedAfter c).slot i) := by
      rw [haged]
      constructor <;> split <;> rfl
    rw [hslot, hpublished, hprevious, hserial, hweight, hmax, hkept.published_eq, hkept.previous_eq, hkept.serial_eq, hkept.weight_eq, hkept.stageMax_eq]
    refine ⟨rfl, rfl, rfl, rfl, rfl, fun hages => ?_, fun hstays => ?_⟩
    · rw [haged, if_pos (hages_eq.symm.trans hages), State.publishedSlot_aged hs.2.2.2 (hages_eq.symm.trans hages)]
      rfl
    · rw [haged, if_neg (by rw [← hages_eq, hstays]; exact Bool.false_ne_true)]
      rfl
  · rw [hstate, hclamp]
    exact ⟨hr.state_waits hs hpass hages hlost, fun hcauses => hr.clamp_waits hs hpass hages hcauses hlost⟩
  · have hnext : serial i = ((s.slot i).serial + 1) % 65536 := if_neg hnew
    rw [hnext]
    exact ⟨fun hlost => hr.ceiling_waits hs hpass hnew hlost, fun hgap henabled => hr.ceiling_sent hs hpass hnew hgap henabled⟩

end Sys2Proof.Machine
end

section
/-! SUPPORT. The completion of a clear of the paths, the exceedances, the zones, the site and the stages (R31, R68, R85, R106, R167). -/

namespace Sys2Proof.Machine

/-! ### The notice of the clear -/

section done
variable {s : State} {result : EngineResult}

theorem State.engineDone_eq (s : State) (result : EngineResult) :
    s.engineDone result = { s with table := .idle, notices := s.notices.post (.engine result) } := rfl

theorem State.engineDone_waits (hlost : (s.engineDone result).notices.lost = false) : .engine result ∈ (s.engineDone result).notices.notices :=
  NoticeQueue.mem_post hlost

theorem State.engineDone_lost (hlost : (s.engineDone result).notices.lost = false) : s.notices.lost = false := NoticeQueue.lost_of_lost_post hlost

/-- A notice of another kind waits on. -/
theorem State.engineDone_keeps {n : Notice} (hn : n ∈ s.notices.notices) (hkind : n.sameSubject (.engine result) = false) :
    n ∈ (s.engineDone result).notices.notices :=
  NoticeQueue.mem_post_of_same hn fun hsame => by
    rw [hkind] at hsame
    cases hsame

end done

theorem execTableClearCompletion_of_clearing {s : State} {k : Table} (h : s.table = .clearing k) :
    exec .tableClearCompletion s = .next ((s.clearTable k).1.engineDone (.cleared k (s.clearTable k).2)) := by
  show execTableClearCompletion s = _
  unfold execTableClearCompletion
  rw [h]

theorem execTableClearCompletion_of_not_clearing {s : State} (h : ∀ k, s.table ≠ .clearing k) : exec .tableClearCompletion s = .next s := by
  show execTableClearCompletion s = _
  unfold execTableClearCompletion
  split
  next k hk => exact absurd hk (h k)
  next => rfl

/-! ### The path table -/

section paths
variable {s : State}

theorem State.clearPaths_frame (s : State) : s.clearPaths = { s with
    paths := s.clearPaths.paths, engine := s.clearPaths.engine, arbiter := { s.arbiter with passSinceHead := s.clearPaths.arbiter.passSinceHead } } := by
  unfold State.clearPaths
  rw [State.triggerIf_eq]

theorem State.clearPaths_path (s : State) (p : PathPos) : s.clearPaths.path p = none := by
  rw [State.clearPaths, State.path, State.triggerIf_paths]
  simp

theorem State.triggerIf_capture (u : State) (b : Bool) : (u.triggerIf b).capture = u.capture := by
  obtain ⟨e, p, hframe⟩ : ∃ e p, u.triggerIf b = { u with engine := e, arbiter := { u.arbiter with passSinceHead := p } } := ⟨_, _, State.triggerIf_eq u b⟩
  rw [hframe]
  exact State.capture_congr rfl rfl rfl rfl fun _ => rfl

/-- The clear raises one trigger on the state as it leaves it, where an entry was held. -/
theorem State.clearPaths_raised (hmode : s.mode ≠ .boot) : s.RaisedOn s.clearPaths (if decide (0 < s.pathCount) then 1 else 0) s.clearPaths.capture := by
  have h := State.RaisedOn.of_triggerIf (s := ({ s with paths := Vector.replicate 64 none } : State)) hmode (decide (0 < s.pathCount))
  rw [← State.triggerIf_capture _ (decide (0 < s.pathCount))] at h
  exact h.transport rfl rfl rfl rfl

end paths

/-! ### The exceedance table -/

section exceedances
variable {s : State}

theorem State.unlinkExceedance_frame (s : State) (r : ReceptorId) : s.unlinkExceedance r = { s with
    receptors := (s.unlinkExceedance r).receptors, engine := (s.unlinkExceedance r).engine
    arbiter := { s.arbiter with passSinceHead := (s.unlinkExceedance r).arbiter.passSinceHead } } := by
  unfold State.unlinkExceedance
  split
  · rw [State.trigger_eq]
    rfl
  · rfl

theorem State.unlinkExceedance_raised (hmode : s.mode ≠ .boot) (r : ReceptorId) :
    s.Raised (s.unlinkExceedance r) ((s.receptor r).bind (·.exceedance) ≠ none) := by
  unfold State.unlinkExceedance
  have hupd : (s.updReceptor r fun x => { x with exceedance := none }).engine = s.engine ∧
      (s.updReceptor r fun x => { x with exceedance := none }).mode = s.mode := ⟨rfl, rfl⟩
  split
  next hsome =>
    refine ((State.Raised.of_engine_eq hupd.1).trans (State.trigger_raised (by rw [hupd.2]; exact hmode))).congr rfl ?_
    simpa [Option.isSome_iff_ne_none] using hsome
  next hnone => exact (State.Raised.of_engine_eq rfl).congr rfl (by simpa using hnone)

/-- The links of the receptors of a list are made absent, each with its trigger. -/
theorem State.unlinkAll (hmode : s.mode ≠ .boot) {l : List ReceptorId} (hl : l.Nodup) :
    (∃ rs e p, l.foldl State.unlinkExceedance s = { s with receptors := rs, engine := e, arbiter := { s.arbiter with passSinceHead := p } }) ∧
      s.Raised (l.foldl State.unlinkExceedance s) (∃ r ∈ l, (s.receptor r).bind (·.exceedance) ≠ none) := by
  induction l generalizing s with
  | nil => exact ⟨⟨s.receptors, s.engine, s.arbiter.passSinceHead, rfl⟩, (State.Raised.of_engine_eq rfl).congr rfl (by simp)⟩
  | cons r l ih =>
    obtain ⟨hr, hl⟩ := List.nodup_cons.1 hl
    have hframe := s.unlinkExceedance_frame r
    have hmode' : (s.unlinkExceedance r).mode ≠ .boot := by rw [hframe]; exact hmode
    obtain ⟨⟨rs, e, p, hrest⟩, hraised⟩ := ih hmode' hl
    rw [List.foldl_cons]
    refine ⟨⟨rs, e, p, ?_⟩, ((State.unlinkExceedance_raised hmode r).trans hraised).congr rfl ?_⟩
    · rw [hrest, hframe]
    · have hkept (q : ReceptorId) (hq : q ∈ l) : (s.unlinkExceedance r).receptor q = s.receptor q := by
        have hne : q ≠ r := fun he => hr (he ▸ hq)
        rw [State.unlinkExceedance_receptor, if_neg hne]
      constructor
      · rintro (h | ⟨q, hq, h⟩)
        · exact ⟨r, List.mem_cons_self, h⟩
        · exact ⟨q, List.mem_cons_of_mem _ hq, by rwa [hkept q hq] at h⟩
      · rintro ⟨q, hq, h⟩
        rcases List.mem_cons.1 hq with rfl | hq
        · exact .inl h
        · exact .inr ⟨q, hq, by rwa [hkept q hq]⟩

theorem State.clearExceedances_did (hmode : s.mode ≠ .boot) :
    (∃ rs e p, s.clearExceedances = { s with exceedances := excTableAtReset, receptors := rs, engine := e, arbiter := { s.arbiter with passSinceHead := p } }) ∧
      s.Raised s.clearExceedances (∃ r, (s.receptor r).bind (·.exceedance) ≠ none) := by
  have hnodup : allReceptors.Nodup := List.nodup_finRange 16
  have hall (r : ReceptorId) : r ∈ allReceptors := List.mem_finRange r
  unfold State.clearExceedances
  generalize allReceptors = l at hnodup hall ⊢
  obtain ⟨⟨rs, e, p, hframe⟩, hraised⟩ := State.unlinkAll (s := ({ s with exceedances := excTableAtReset } : State)) hmode hnodup
  exact ⟨⟨rs, e, p, hframe⟩, hraised.congr rfl ⟨fun ⟨r, _, hr⟩ => ⟨r, hr⟩, fun ⟨r, hr⟩ => ⟨r, hall r, hr⟩⟩⟩

end exceedances

/-! ### The zones -/

section zones

/-- What the engine reads of a zone differs from the unloaded form. -/
def Zone.loaded (x : Zone) : Prop := x.effective ≠ 0 ∨ x.fade ≠ 0 ∨ x.state ≠ .opened ∨ x.recoveryMargin ≠ 30

/-- `t` is `s` with the zones of a list in their unloaded form. -/
structure State.Unloaded (s t : State) (l : List ZoneId) : Prop where
  frame : ∃ zs e p n, t = { s with zones := zs, engine := e, arbiter := { s.arbiter with passSinceHead := p }, notices := n }
  zone_eq : ∀ z, t.zone z = if z ∈ l then zoneDefault else s.zone z
  raised : s.Raised t (∃ z ∈ l, (s.zone z).loaded)
  posted : t.notices.lost = false → ∀ z ∈ l, t.zoneNotice z ∈ t.notices.notices

theorem State.Unloaded.snoc {s t : State} {l : List ZoneId} (h : s.Unloaded t l) (hmode : s.mode ≠ .boot) {z : ZoneId} (hz : z ∉ l) :
    s.Unloaded (t.unloadZone z) (l ++ [z]) := by
  obtain ⟨zs, e, p, n, hframe⟩ := h.frame
  obtain ⟨u, hset, hunload⟩ := t.unloadZone_set z
  obtain ⟨e', p', hwritten⟩ := hset.written
  have hmode' : t.mode ≠ .boot := by rw [hframe]; exact hmode
  have hkept : t.zone z = s.zone z := by rw [h.zone_eq, if_neg hz]
  have hnotices : u.notices = t.notices := by rw [hwritten]; rfl
  have hzone (w : ZoneId) : u.zone w = if w ∈ l ++ [z] then zoneDefault else s.zone w := by
    by_cases hw : w = z
    · rw [hw, hset.zone_same, if_pos (by simp)]
    · rw [hset.zone_ne hw, h.zone_eq]
      simp [hw]
  rw [hunload]
  refine ⟨?_, hzone, ((h.raised.trans (hset.raised hmode')).congr rfl ?_), fun hlost w hw => ?_⟩
  · refine ⟨(t.setZone z zoneDefault).zones, e', p', u.notices.post (u.zoneNotice z), ?_⟩
    rw [State.postZone, State.post_eq, hwritten, hframe]
    rfl
  · rw [hkept]
    constructor
    · rintro (⟨w, hw, hloaded⟩ | hloaded)
      · exact ⟨w, List.mem_append_left _ hw, hloaded⟩
      · exact ⟨z, by simp, hloaded⟩
    · rintro ⟨w, hw, hloaded⟩
      rcases List.mem_append.1 hw with hw | hw
      · exact .inl ⟨w, hw, hloaded⟩
      · exact .inr (List.mem_singleton.1 hw ▸ hloaded)
  · have hsame : (u.postZone z).zoneNotice w = u.zoneNotice w := State.zoneNotice_congr rfl
    rw [hsame]
    by_cases hwz : w = z
    · rw [hwz]
      exact NoticeQueue.mem_post hlost
    · have hold : t.zoneNotice w = u.zoneNotice w := (State.zoneNotice_congr (hset.zone_ne hwz)).symm
      have hmem : w ∈ l := (List.mem_append.1 hw).resolve_right fun he => hwz (List.mem_singleton.1 he)
      refine NoticeQueue.mem_post_of_mem ?_ (State.zoneNotice_sameSubject_of_ne u u hwz)
      rw [hnotices, ← hold]
      exact h.posted (hnotices ▸ NoticeQueue.lost_of_lost_post hlost) w hmem

theorem State.clearZones_unloaded {s : State} (hmode : s.mode ≠ .boot) : s.Unloaded s.clearZones allZones := by
  have hall : ∀ l : List ZoneId, l.Nodup → s.Unloaded (l.foldl State.unloadZone s) l := by
    intro l
    induction l using List.reverseRecOn with
    | nil => exact fun _ => ⟨⟨s.zones, s.engine, s.arbiter.passSinceHead, s.notices, rfl⟩, fun z => by simp,
        (State.Raised.of_engine_eq rfl).congr rfl (by simp), nofun⟩
    | append_singleton l z ih =>
      intro hnodup
      obtain ⟨hl, -, hne⟩ := List.nodup_append.1 hnodup
      rw [List.foldl_concat]
      exact (ih hl).snoc hmode fun hz => hne z hz z (List.mem_singleton_self z) rfl
  exact hall allZones (List.nodup_finRange 4)

end zones

/-! ### The site parameters -/

/-- The notice of the clear after a replacement of the site parameters. -/
theorem State.siteReplaced_engineDone {s t : State} {x : Site} (h : s.SiteReplaced t x) (result : EngineResult) :
    ({ s with table := .idle } : State).SiteReplaced (t.engineDone result) x := by
  have hmarked (i : SlotId) : (if (s.slot i).port.isSome && !(s.slot i).stale && (s.slot i).reportAge.any fun a => decide (1000 * x.staleTime ≤ a) then
      { s.slot i with stale := true, causes := { (s.slot i).causes with hasStale := true } } else s.slot i) = (s.slot i).markedStale x := rfl
  have hslot0 (i : SlotId) : ({ s with table := .idle } : State).slot i = s.slot i := rfl
  unfold State.SiteReplaced at h ⊢
  simp only [hslot0, Slot.agesOut_eq, hmarked] at h ⊢
  obtain ⟨hframe, hslots, hpaths, hraised, hsame, hposts, hcopies⟩ := h
  refine ⟨?_, hslots, hpaths, hraised, hsame, fun hlost => ?_, ?_⟩
  · rw [State.engineDone_eq]
    conv_lhs => rw [hframe]
  · obtain ⟨hsite, hslot⟩ := hposts (State.engineDone_lost hlost)
    refine ⟨State.engineDone_keeps hsite rfl, fun i => ⟨fun hages => ?_, fun hcauses => ?_⟩⟩
    · exact State.engineDone_keeps ((hslot i).1 hages) rfl
    · exact State.engineDone_keeps ((hslot i).2 hcauses) rfl
  · rw [foldl_sends (fun i => ((s.slot i).markedStale x).causes = (s.slot i).causes), ← State.sendAll_map] at hcopies ⊢
    refine hcopies.trans (State.sendAll_witness_congr (State.sendAll_witness_congr ?_ ?_ ?_ _) ?_ ?_ _)
    · rfl
    · rfl
    · rfl
    · rw [State.sendAll_eq, State.sendAll_eq ({ s with table := .idle, site := x } : State)]
    · rw [State.sendAll_eq, State.sendAll_eq ({ s with table := .idle, site := x } : State)]

end Sys2Proof.Machine
end

section
/-! SUPPORT. The completion of a clear of the stages (R77, R85, R96, R167). -/

namespace Sys2Proof.Machine

/-- A notice posted waits at the end, unless one was lost, if no other of its kind and subject was posted after it. -/
theorem NoticeQueue.mem_postAll_of_last {q : NoticeQueue} {n : Notice} {before after : List Notice} (hlost : (q.postAll (before ++ n :: after)).lost = false)
    (hafter : ∀ m ∈ after, n.sameSubject m = true → m = n) : n ∈ (q.postAll (before ++ n :: after)).notices := by
  rw [NoticeQueue.postAll_append, NoticeQueue.postAll_cons] at hlost ⊢
  exact NoticeQueue.mem_postAll_of_mem (NoticeQueue.mem_post (NoticeQueue.lost_of_postAll hlost)) hafter

/-! ### One slot returned -/

/-- The record of a slot returned to its unconfigured form. -/
def Slot.returned (x : Slot) : Slot :=
  { (if x.kind = .fixed then x.afterEmptying else x) with weight := 1, stageMax := 1050 }

def returnedPosts (i : SlotId) (x : Slot) : List Notice :=
  (if x.kind = .fixed then bindingPosts i x x.afterEmptying else []) ++ [x.returned.stateNotice i]

def returnedCopies (c : Clock) (i : SlotId) (x : Slot) : List Copy :=
  if x.kind = .fixed then clampCopies c i x x.afterEmptying .empty none else []

def Slot.returnTriggers (x : Slot) : Nat := if x.kind = .fixed then 2 else 1

section returned
variable {s : State} {i : SlotId}

theorem State.Rewrote.returnStage (hmode : s.mode ≠ .boot) :
    s.Rewrote (s.returnStage i) i (s.slot i).returned (returnedPosts i (s.slot i)) (returnedCopies s.clock i (s.slot i)) (s.slot i).returnTriggers := by
  cases hkind : (s.slot i).kind with
  | openKind =>
    have h := State.Rewrote.returnStage_of_open hmode hkind
    simpa only [returnedPosts, returnedCopies, Slot.returned, Slot.returnTriggers, hkind, reduceCtorEq, if_false, List.nil_append] using h
  | fixed =>
    have h := State.Rewrote.returnStage_of_fixed hmode hkind
    simpa only [returnedPosts, returnedCopies, Slot.returned, Slot.returnTriggers, hkind, if_true] using h

theorem State.returnStage_slot_same (s : State) (i : SlotId) : (s.returnStage i).slot i = (s.slot i).returned := by
  unfold State.returnStage Slot.returned
  dsimp only
  rw [State.postStageState_slot, State.slot_of_trigger, State.slot_updSlot_same]
  cases (s.slot i).kind with
  | openKind => rfl
  | fixed =>
    dsimp only
    rw [State.emptySlot_slot_same, if_pos rfl]

theorem State.returnStage_path (s : State) (i : SlotId) (p : PathPos) :
    (s.returnStage i).path p = (s.path p).bind fun e => if e.slot = i ∧ (s.slot i).kind = .fixed then none else some e := by
  have hpaths (a : State) : (((a.updSlot i fun x => { x with weight := 1, stageMax := 1050 }).trigger).postStageState i).path p = a.path p := by
    have htrigger : ((a.updSlot i fun x => { x with weight := 1, stageMax := 1050 }).trigger).paths = a.paths := by rw [State.trigger_eq]; rfl
    show (Vector.get _ _) = _
    rw [State.postStageState, State.post_eq]
    show Vector.get ((a.updSlot i fun x => { x with weight := 1, stageMax := 1050 }).trigger).paths p = _
    rw [htrigger]
    rfl
  unfold State.returnStage
  dsimp only
  rw [hpaths]
  cases hkind : (s.slot i).kind with
  | openKind => simp
  | fixed => simp [State.emptySlot_path]

theorem Slot.returned_clampNotice (x : Slot) (hkind : x.kind = .fixed) (j : SlotId) : x.returned.clampNotice j = x.afterEmptying.clampNotice j := by
  unfold Slot.returned
  rw [if_pos hkind]
  rfl

/-- What a slot that is returned posts is of that slot. -/
theorem mem_returnedPosts {x : Slot} {n : Notice} (h : n ∈ returnedPosts i x) :
    (∃ y : Slot, n = y.stateNotice i) ∨ n = x.afterEmptying.clampNotice i := by
  unfold returnedPosts at h
  rcases List.mem_append.1 h with h | h
  · split at h
    · rcases List.mem_cons.1 h with rfl | h
      · exact .inl ⟨_, rfl⟩
      · exact .inr (mem_clampPosts h)
    · cases h
  · exact .inl ⟨_, List.mem_singleton.1 h⟩

end returned

/-! ### Several slots returned -/

section several
variable {s : State} {l : List SlotId}

theorem State.returnStages_did (hmode : s.mode ≠ .boot) (hl : l.Nodup) :
    s.Did (l.foldl State.returnStage s) (l.flatMap fun i => returnedPosts i (s.slot i)) (l.flatMap fun i => returnedCopies s.clock i (s.slot i))
        (l.map fun i => (s.slot i).returnTriggers).sum ∧
      ∀ j, (l.foldl State.returnStage s).slot j = if j ∈ l then (s.slot j).returned else s.slot j := by
  refine State.Did.foldl (f := fun _ x => x.returned) (posts := returnedPosts) (copies := fun i x => returnedCopies s.clock i x)
    (triggers := fun _ x => x.returnTriggers) s (fun u i hclock _ humode => ?_) (fun u i j _ => ?_) hl
  · exact hclock ▸ (State.Rewrote.returnStage (humode ▸ hmode)).did
  · by_cases hj : j = i
    · rw [hj, State.returnStage_slot_same, if_pos rfl]
    · rw [State.returnStage_slot_ne u hj, if_neg hj]

theorem State.returnStages_arbiter (hmode : s.mode ≠ .boot) (l : List SlotId) :
    (l.foldl State.returnStage s).arbiter = { s.arbiter with passSinceHead := (l.foldl State.returnStage s).arbiter.passSinceHead } := by
  induction l generalizing s with
  | nil => rfl
  | cons i l ih =>
    have hone := State.Rewrote.returnStage (s := s) (i := i) hmode
    rw [List.foldl_cons, ih (by rw [hone.did.mode_eq]; exact hmode), hone.arbiter_eq]

theorem State.returnStages_path (hl : l.Nodup) (p : PathPos) : (l.foldl State.returnStage s).path p =
    (s.path p).bind fun e => if e.slot ∈ l ∧ (s.slot e.slot).kind = .fixed then none else some e := by
  induction l generalizing s with
  | nil => simp
  | cons i l ih =>
    obtain ⟨hi, hl⟩ := List.nodup_cons.1 hl
    rw [List.foldl_cons, ih hl, State.returnStage_path]
    cases s.path p with
    | none => rfl
    | some e =>
      by_cases hei : e.slot = i
      · by_cases hkind : (s.slot i).kind = .fixed
        · simp [hei, hkind]
        · simp [hei, hkind, hi]
      · simp [hei, State.returnStage_slot_ne s hei]

/-- The STAGE_STATE notice of a slot returned is the last that was posted of it. -/
theorem State.returnStages_state_waits (hmode : s.mode ≠ .boot) (hl : l.Nodup) {i : SlotId} (hi : i ∈ l)
    (hlost : (l.foldl State.returnStage s).notices.lost = false) :
    (l.foldl State.returnStage s).stageStateNotice i ∈ (l.foldl State.returnStage s).notices.notices := by
  obtain ⟨hdid, hslot⟩ := State.returnStages_did hmode hl
  rw [State.stageStateNotice_eq, hslot, if_pos hi]
  rw [hdid.notices_eq] at hlost ⊢
  obtain ⟨l1, l2, rfl⟩ := List.append_of_mem hi
  have hposts : ((l1 ++ i :: l2).flatMap fun j => returnedPosts j (s.slot j)) = ((l1.flatMap fun j => returnedPosts j (s.slot j)) ++
      if (s.slot i).kind = .fixed then bindingPosts i (s.slot i) (s.slot i).afterEmptying else []) ++
      (s.slot i).returned.stateNotice i :: l2.flatMap fun j => returnedPosts j (s.slot j) := by
    simp [returnedPosts]
  rw [hposts] at hlost ⊢
  refine NoticeQueue.mem_postAll_of_last hlost fun m hm hsame => ?_
  obtain ⟨j, hj, hm⟩ := List.mem_flatMap.1 hm
  have hne : i ≠ j := fun he => (List.nodup_cons.1 (List.nodup_append.1 hl).2.1).1 (he ▸ hj)
  rcases mem_returnedPosts hm with ⟨y, rfl⟩ | rfl
  · rw [sameSubject_state_state, decide_eq_false hne] at hsame
    cases hsame
  · cases hsame

theorem State.returnStages_clamp_waits (hmode : s.mode ≠ .boot) (hl : l.Nodup) {i : SlotId} (hi : i ∈ l) (hkind : (s.slot i).kind = .fixed)
    (hcauses : (s.slot i).causes ≠ causesNone) (hlost : (l.foldl State.returnStage s).notices.lost = false) :
    (l.foldl State.returnStage s).clampNotice i ∈ (l.foldl State.returnStage s).notices.notices := by
  obtain ⟨hdid, hslot⟩ := State.returnStages_did hmode hl
  rw [State.clampNotice_eq, hslot, if_pos hi, Slot.returned_clampNotice _ hkind]
  refine hdid.mem_notices hlost (List.mem_flatMap.2 ⟨i, hi, ?_⟩) fun m hm hsame => ?_
  · rw [returnedPosts, if_pos hkind, bindingPosts, clampPosts_of_ne (Ne.symm hcauses)]
    simp
  · obtain ⟨j, -, hm⟩ := List.mem_flatMap.1 hm
    rcases mem_returnedPosts hm with ⟨y, rfl⟩ | rfl
    · cases hsame
    · have hij : i = j := of_decide_eq_true ((sameSubject_clamp_clamp ..).symm.trans hsame)
      rw [hij]

theorem returnedCopies_eq (c : Clock) (i : SlotId) (x : Slot) : returnedCopies c i x =
    if ¬(x.kind = .fixed ∧ x.causes ≠ causesNone) then [] else [.clamp i none x.causes causesNone false .empty none c.minute c.second none] := by
  unfold returnedCopies
  rw [← Slot.emptied_eq, clampCopies_emptied]
  by_cases hkind : x.kind = .fixed <;> by_cases hcauses : x.causes = causesNone <;> simp [hkind, hcauses]

end several

/-! ### The whole table -/

section stages
variable {s : State}

theorem State.mem_unboundSlots {i : SlotId} : i ∈ s.unboundSlots ↔ (s.slot i).port = none := by
  simp [State.unboundSlots]

theorem State.unboundSlots_nodup (s : State) : s.unboundSlots.Nodup := (List.nodup_finRange 8).filter _

/-- The slot is unbound and FIXED and has a clamp cause. -/
def State.freedAt (s : State) (i : SlotId) : Bool := (s.slot i).port.isNone && (s.slot i).kind == .fixed && (s.slot i).causes != causesNone

theorem State.clearStages_copies (s : State) : (s.unboundSlots.flatMap fun i => returnedCopies s.clock i (s.slot i)) =
    (allSlots.filter s.freedAt).map fun i => .clamp i none (s.slot i).causes causesNone false .empty none s.clock.minute s.clock.second none := by
  simp only [returnedCopies_eq]
  rw [flatMap_ite_singleton _ (fun i => (s.slot i).kind == .fixed && (s.slot i).causes != causesNone) _ (fun i => by simp), State.unboundSlots, List.filter_filter]
  refine congrArg (List.map _) (List.filter_congr fun i _ => ?_)
  simp only [State.freedAt, Bool.and_assoc, Bool.and_comm]

/-- An OPEN slot that is unbound is EMPTY, and no path entry names it. -/
theorem State.clearStages_pathsLeft (hbindings : s.BindingsSound) (hpaths : s.PathsSound) :
    s.PathsLeft s.clearStages fun i => (s.slot i).port.isNone := fun p => by
  rw [State.clearStages, State.returnStages_path s.unboundSlots_nodup]
  cases hp : s.path p with
  | none => rfl
  | some e =>
    have hheld : (s.slot e.slot).state ≠ .empty := (hpaths.2.1 p e hp).2.1
    simp only [Option.bind_some, State.mem_unboundSlots, Option.isNone_iff_eq_none]
    refine if_congr ⟨And.left, fun hport => ⟨hport, ?_⟩⟩ rfl rfl
    cases hkind : (s.slot e.slot).kind with
    | fixed => rfl
    | openKind => exact absurd (((hbindings.1 e.slot).1 hkind).2.2 hport) hheld

theorem State.clearStages_triggered (hmode : s.mode ≠ .boot) : (s.unboundSlots.length ≠ 0 → s.AnyTrigger s.clearStages) ∧
    (s.unboundSlots.length = 0 → s.clearStages.engine = s.engine) := by
  have htriggered := (State.returnStages_did hmode s.unboundSlots_nodup).1.triggered
  rw [← State.clearStages] at htriggered
  refine ⟨fun hne => htriggered.anyTrigger ?_, fun hnone => ?_⟩
  · obtain ⟨i, l, hl⟩ : ∃ i l, s.unboundSlots = i :: l := List.exists_cons_of_ne_nil fun h => hne (by rw [h]; rfl)
    have hpos : 0 < (s.slot i).returnTriggers := by unfold Slot.returnTriggers; split <;> decide
    rw [hl, List.map_cons, List.sum_cons]
    omega
  · rw [State.clearStages, List.length_eq_zero_iff.1 hnone]
    rfl

end stages

end Sys2Proof.Machine
end

section
/-! SUPPORT. The completion of a clear of the receptors, and the completion of a clear put together (R40, R53, R67, R167). -/

namespace Sys2Proof.Machine

/-! ### One receptor removed (R53) -/

section removed
variable {s : State} {r : ReceptorId} {x : Receptor}

/-- What the removal of a receptor posts and sends. -/
def State.removalPosts (s : State) (r : ReceptorId) : List Notice :=
  (((s.receptor r).bind fun x => s.closedRecord x s.clock.minute .receptorEdited).map fun e => exceedanceNotice e.1 e.2).toList

def State.removalCopies (s : State) (r : ReceptorId) : List Copy :=
  (((s.receptor r).bind fun x => s.closedRecord x s.clock.minute .receptorEdited).map fun e =>
    Copy.exceedance false s.clock.minute s.clock.second e.1 e.2 none).toList

/-- From `s` to `t` the receptor was removed, with its exceedance closed and its poll abandoned. -/
structure State.Removed (s t : State) (r : ReceptorId) : Prop where
  frame : t = { s with
    receptors := t.receptors, poller := t.poller, exceedances := t.exceedances, notices := s.notices.postAll (s.removalPosts r)
    witness := (s.sendAll (s.removalCopies r)).witness }
  receptor_eq : ∀ q, t.receptor q = if q = r then none else s.receptor q
  excRecord_eq : ∀ p, t.excRecord p = if (s.receptor r).bind (·.exceedance) = some p then
    (s.excRecord p).map fun y => y.closedBy s.clock.minute .receptorEdited else s.excRecord p
  polls : (∀ q ∈ s.poller.poll, s.receptor q.receptor ≠ none) → ∀ q ∈ t.poller.poll, t.receptor q.receptor ≠ none

/-- A poll that the cycle goes on with is of a receptor with a record. -/
theorem State.pollFrom_held {v : State} {low second : Nat} : ∀ q ∈ (v.pollFrom low second).poller.poll, v.receptor q.receptor ≠ none := by
  intro q hq
  unfold State.pollFrom at hq
  cases hnext : v.nextReceptor low with
  | none =>
    rw [hnext] at hq
    cases hq
  | some k =>
    rw [hnext] at hq
    dsimp only at hq
    cases hk : v.receptor k with
    | none =>
      rw [hk] at hq
      cases hq
    | some y =>
      rw [hk] at hq
      cases hq
      rw [hk]
      exact Option.some_ne_none y

theorem State.abandonPoll_held {v : State} (h : ∀ q ∈ v.poller.poll, q.receptor ≠ r → v.receptor q.receptor ≠ none) :
    ∀ q ∈ (v.abandonPoll r).poller.poll, v.receptor q.receptor ≠ none := by
  unfold State.abandonPoll
  cases hpoll : v.poller.poll with
  | none =>
    rw [hpoll]
    exact nofun
  | some p =>
    dsimp only
    split
    · exact State.pollFrom_held
    next hne =>
      intro q hq
      rw [hpoll] at hq
      cases hq
      exact h p hpoll hne

theorem State.removed_removeReceptor (hmode : s.mode ≠ .boot) (hx : s.receptor r = some x) : s.Removed (s.removeReceptor r) r := by
  have h := State.ExcClosed.of_closeExceedance hx s.clock.minute .receptorEdited false
  unfold State.removeReceptor
  generalize s.closeExceedance r s.clock.minute .receptorEdited false = c at h
  have hraised := h.raised hmode
  rw [Bool.false_and, if_neg Bool.false_ne_true] at hraised
  obtain ⟨hengine, harbiter⟩ := hraised.held (.inr rfl)
  have hsameEngine : c.engine = s.engine := by simpa using hengine
  have hreceptor (q : ReceptorId) : (c.setReceptor r none).receptor q = if q = r then none else s.receptor q := by
    by_cases hq : q = r
    · rw [hq, State.receptor_setReceptor_same, if_pos rfl]
    · rw [State.receptor_setReceptor_ne _ _ _ _ hq, h.receptor_ne q hq, if_neg hq]
  have hpolls : (∀ q ∈ s.poller.poll, s.receptor q.receptor ≠ none) →
      ∀ q ∈ ((c.setReceptor r none).abandonPoll r).poller.poll, (c.setReceptor r none).receptor q.receptor ≠ none := fun hheld =>
    State.abandonPoll_held fun q hq hne => by
      have hpoller : c.poller = s.poller := by rw [h.frame]
      rw [hreceptor, if_neg hne]
      exact hheld q (hpoller ▸ hq)
  have htold : c.notices = s.notices.postAll (s.removalPosts r) ∧ c.witness = (s.sendAll (s.removalCopies r)).witness := by
    unfold State.removalPosts State.removalCopies
    rw [hx, Option.bind_some]
    cases hclosed : s.closedRecord x s.clock.minute .receptorEdited with
    | none => exact h.silent hclosed
    | some e => exact h.told e hclosed
  rw [State.abandonPoll_frame] at hpolls ⊢
  generalize ((c.setReceptor r none).abandonPoll r).poller = poller at hpolls ⊢
  refine ⟨?_, hreceptor, fun p => ?_, hpolls⟩
  · have hframe := h.frame
    rw [hsameEngine, harbiter] at hframe
    rw [← htold.1, ← htold.2]
    conv_lhs => rw [hframe]
    rfl
  · rw [hx]
    exact h.excRecord p

end removed

/-! ### Several receptors removed -/

section several
variable {s t u : State} {l : List ReceptorId} {r : ReceptorId}

/-- No two receptors link to the same record. -/
def State.LinksApart (s : State) : Prop :=
  ∀ r q p, (s.receptor r).bind (·.exceedance) = some p → (s.receptor q).bind (·.exceedance) = some p → r = q

/-- From `s` to `t` the receptors of a list were removed. -/
structure State.RemovedOver (s t : State) (l : List ReceptorId) : Prop where
  frame : t = { s with
    receptors := t.receptors, poller := t.poller, exceedances := t.exceedances, notices := s.notices.postAll (l.flatMap s.removalPosts)
    witness := (s.sendAll (l.flatMap s.removalCopies)).witness }
  receptor_eq : ∀ q, t.receptor q = if q ∈ l then none else s.receptor q
  excRecord_eq : ∀ p, t.excRecord p = if ∃ r ∈ l, (s.receptor r).bind (·.exceedance) = some p then
    (s.excRecord p).map fun y => y.closedBy s.clock.minute .receptorEdited else s.excRecord p
  polls : (∀ q ∈ s.poller.poll, s.receptor q.receptor ≠ none) → ∀ q ∈ t.poller.poll, t.receptor q.receptor ≠ none

/-- The record that a receptor not yet removed links to is as it was. -/
theorem State.RemovedOver.closedRecord_eq (h : s.RemovedOver t l) (hapart : s.LinksApart) (hr : r ∉ l) :
    ((t.receptor r).bind fun x => t.closedRecord x t.clock.minute .receptorEdited) =
      (s.receptor r).bind fun x => s.closedRecord x s.clock.minute .receptorEdited := by
  have hclock : t.clock = s.clock := by rw [h.frame]
  rw [h.receptor_eq, if_neg hr, hclock]
  cases hx : s.receptor r with
  | none => rfl
  | some x =>
    simp only [Option.bind_some, State.closedRecord]
    cases hp : x.exceedance with
    | none => rfl
    | some p =>
      have hlink : (s.receptor r).bind (·.exceedance) = some p := by rw [hx]; exact hp
      have hkept : t.excRecord p = s.excRecord p := by
        rw [h.excRecord_eq, if_neg]
        rintro ⟨q, hq, hlink'⟩
        exact hr (hapart q r p hlink' hlink ▸ hq)
      rw [Option.bind_some, Option.bind_some, hkept]

theorem State.RemovedOver.snoc (h : s.RemovedOver t l) (hapart : s.LinksApart) (hr : r ∉ l) (k : t.Removed u r) : s.RemovedOver u (l ++ [r]) := by
  have hclosed := h.closedRecord_eq hapart hr
  have hclock : t.clock = s.clock := by rw [h.frame]
  have hsite : t.site = s.site := by rw [h.frame]
  have hreceptor : t.receptor r = s.receptor r := by rw [h.receptor_eq, if_neg hr]
  have hposts : t.removalPosts r = s.removalPosts r := by rw [State.removalPosts, hclosed, State.removalPosts]
  have hcopies : t.removalCopies r = s.removalCopies r := by rw [State.removalCopies, hclosed, hclock, State.removalCopies]
  have hnotices : t.notices.postAll (t.removalPosts r) = s.notices.postAll ((l ++ [r]).flatMap s.removalPosts) := by
    have : t.notices = s.notices.postAll (l.flatMap s.removalPosts) := by rw [h.frame]
    rw [this, hposts, List.flatMap_append, NoticeQueue.postAll_append, List.flatMap_singleton]
  have hwitness : (t.sendAll (t.removalCopies r)).witness = (s.sendAll ((l ++ [r]).flatMap s.removalCopies)).witness := by
    have : t.witness = (s.sendAll (l.flatMap s.removalCopies)).witness := by rw [h.frame]
    rw [hcopies, List.flatMap_append, State.sendAll_append, List.flatMap_singleton]
    refine State.sendAll_witness_congr this ?_ ?_ _
    · rw [hsite, State.sendAll_eq]
    · rw [hclock, State.sendAll_eq]
  refine ⟨?_, fun q => ?_, fun p => ?_, fun hheld => k.polls (h.polls hheld)⟩
  · have hk := k.frame
    rw [hnotices, hwitness] at hk
    conv_lhs => rw [hk, h.frame]
  · rw [k.receptor_eq, h.receptor_eq]
    by_cases hq : q = r
    · simp [hq]
    · simp [hq]
  · rw [k.excRecord_eq, hreceptor, h.excRecord_eq, hclock]
    by_cases hlink : (s.receptor r).bind (·.exceedance) = some p
    · have hnone : ¬∃ q ∈ l, (s.receptor q).bind (·.exceedance) = some p := fun ⟨q, hq, hlink'⟩ => hr (hapart q r p hlink' hlink ▸ hq)
      rw [if_pos hlink, if_neg hnone, if_pos ⟨r, by simp, hlink⟩]
    · rw [if_neg hlink]
      refine if_congr ⟨fun ⟨q, hq, hlink'⟩ => ⟨q, List.mem_append_left _ hq, hlink'⟩, fun ⟨q, hq, hlink'⟩ => ⟨q, ?_, hlink'⟩⟩ rfl rfl
      exact (List.mem_append.1 hq).resolve_right fun he => hlink (List.mem_singleton.1 he ▸ hlink')

theorem State.mem_receptorsHeld : r ∈ s.receptorsHeld ↔ s.receptor r ≠ none := by
  simp [State.receptorsHeld, Option.isSome_iff_ne_none]

theorem State.clearReceptors_removed (hmode : s.mode ≠ .boot) (hapart : s.LinksApart) : s.RemovedOver s.clearReceptors s.receptorsHeld := by
  have hall : ∀ l : List ReceptorId, l.Nodup → (∀ r ∈ l, s.receptor r ≠ none) → s.RemovedOver (l.foldl State.removeReceptor s) l := by
    intro l
    induction l using List.reverseRecOn with
    | nil => exact fun _ _ => ⟨rfl, fun q => by simp, fun p => by simp, id⟩
    | append_singleton l r ih =>
      intro hnodup hheld
      obtain ⟨hl, -, hne⟩ := List.nodup_append.1 hnodup
      have hr : r ∉ l := fun hr => hne r hr r (List.mem_singleton_self r) rfl
      have hinit := ih hl fun q hq => hheld q (List.mem_append_left _ hq)
      obtain ⟨x, hx⟩ := Option.ne_none_iff_exists'.1 (hheld r (by simp))
      rw [List.foldl_concat]
      generalize l.foldl State.removeReceptor s = t at hinit ⊢
      have hmode' : t.mode ≠ .boot := by rw [hinit.frame]; exact hmode
      exact hinit.snoc hapart hr (State.removed_removeReceptor hmode' (by rw [hinit.receptor_eq, if_neg hr, hx]))
  exact hall _ ((List.nodup_finRange 16).filter _) fun r hr => State.mem_receptorsHeld.1 hr

end several

end Sys2Proof.Machine
end

section
/-! SUPPORT. The completion of a clear, table by table (R167). -/

namespace Sys2Proof.Machine

variable {s : State}

/-! ### The exceedances closed with their receptors, in the words of the statement -/

/-- A record as a removal of its receptor leaves it. -/
def ExcRecord.closedWith (x : ExcRecord) (minute : Nat) : ExcRecord :=
  if x.state = .opened then { x with state := .closed, closedAt := some minute, cause := some .receptorEdited } else x

/-- The record that a receptor links to, closed, with its position. -/
def State.linkedRecord (s : State) (r : ReceptorId) : Option (ExcPos × ExcRecord) :=
  ((s.receptor r).bind (·.exceedance)).bind fun p => (s.excRecord p).map fun x => (p, x.closedWith s.clock.minute)

theorem State.linksApart_of_sound (h : s.ExceedancesSound) : s.LinksApart := fun r q p hr hq => by
  obtain ⟨x, hx, -, rfl⟩ := h.2.2.2 r p hr
  obtain ⟨y, hy, -, rfl⟩ := h.2.2.2 q p hq
  cases Option.mem_unique hx hy
  rfl

theorem State.closedRecord_eq_linkedRecord (h : s.ExceedancesSound) (r : ReceptorId) :
    ((s.receptor r).bind fun x => s.closedRecord x s.clock.minute .receptorEdited) = s.linkedRecord r := by
  unfold State.linkedRecord
  cases hx : s.receptor r with
  | none => rfl
  | some x =>
    simp only [Option.bind_some, State.closedRecord]
    cases hp : x.exceedance with
    | none => rfl
    | some p =>
      obtain ⟨y, hy, hopen, -⟩ := h.2.2.2 r p (by rw [hx]; exact hp)
      rw [Option.bind_some, Option.bind_some, Option.mem_def.1 hy, Option.map_some, Option.map_some, ExcRecord.closedWith, if_pos hopen]
      rfl

theorem State.linkedRecord_receptor (h : s.ExceedancesSound) {r : ReceptorId} {e : ExcPos × ExcRecord} (he : e ∈ s.linkedRecord r) : e.2.receptor = r := by
  obtain ⟨p, hp, hmap⟩ := Option.bind_eq_some_iff.1 he
  obtain ⟨x, hx, rfl⟩ := Option.map_eq_some_iff.1 hmap
  obtain ⟨y, hy, -, hreceptor⟩ := h.2.2.2 r p hp
  cases Option.mem_unique hx hy
  dsimp only
  unfold ExcRecord.closedWith
  split <;> exact hreceptor

theorem State.held_of_exceedance {r : ReceptorId} {p : ExcPos} (h : (s.receptor r).bind (·.exceedance) = some p) : s.receptor r ≠ none := by
  intro hr
  rw [hr] at h
  cases h

theorem State.linkedRecord_held {r : ReceptorId} {e : ExcPos × ExcRecord} (he : e ∈ s.linkedRecord r) : s.receptor r ≠ none := by
  intro hr
  rw [State.linkedRecord, hr] at he
  cases he

/-- A linked record as the removal leaves it is closed. -/
theorem State.exceedanceNotice_linkedRecord (h : s.ExceedancesSound) {r : ReceptorId} {e : ExcPos × ExcRecord} (he : e ∈ s.linkedRecord r) :
    exceedanceNotice e.1 e.2 =
      .exceedance r e.1 .closed e.2.openedAt (some s.clock.minute) e.2.limit e.2.peak e.2.minutesAbove (some .receptorEdited) := by
  rw [exceedanceNotice, State.linkedRecord_receptor h he]
  rw [← State.closedRecord_eq_linkedRecord h] at he
  obtain ⟨x, -, hclosed⟩ := Option.bind_eq_some_iff.1 he
  obtain ⟨p, -, hmap⟩ := Option.bind_eq_some_iff.1 hclosed
  obtain ⟨y, -, rfl⟩ := Option.map_eq_some_iff.1 hmap
  rfl

theorem exceedanceNotice_sameSubject {p q : ExcPos} {x y : ExcRecord} (h : (exceedanceNotice p x).sameSubject (exceedanceNotice q y) = true) :
    x.receptor = y.receptor := by
  simp only [Notice.sameSubject, exceedanceNotice, Notice.subject, Bool.and_eq_true, beq_iff_eq] at h
  exact Fin.ext (by omega)

theorem foldl_elim_sends {α : Type} (g : α → Option (ExcPos × ExcRecord)) (c : ExcPos × ExcRecord → Copy) (l : List α) (s : State) :
    l.foldl (fun (u : State) a => (g a).elim u fun e => u.send (c e)) s = s.sendAll (l.flatMap fun a => ((g a).map c).toList) := by
  induction l generalizing s with
  | nil => rfl
  | cons a l ih =>
    rw [List.foldl_cons, ih, List.flatMap_cons, State.sendAll_append]
    cases g a <;> rfl

/-- A receptor without a record sends nothing. -/
theorem State.flatMap_receptorsHeld {β : Type} (g : ReceptorId → List β) (h : ∀ r, s.receptor r = none → g r = []) :
    s.receptorsHeld.flatMap g = allReceptors.flatMap g := by
  unfold State.receptorsHeld
  induction allReceptors with
  | nil => rfl
  | cons r l ih =>
    rw [List.filter_cons, List.flatMap_cons]
    cases hr : s.receptor r with
    | none => simpa [h r hr] using ih
    | some x => simp [ih]

/-! ### Table by table -/

section tables
variable (hmode : s.mode ≠ .boot)
include hmode

theorem State.clearPaths_completes (n : Nat) (hn : n = s.pathCount) : let t := s.clearPaths.engineDone (.cleared .path n)
    (∀ p, t.path p = none) ∧
      t = { s with paths := t.paths, table := .idle, engine := t.engine, arbiter := { s.arbiter with passSinceHead := t.arbiter.passSinceHead }
                   notices := s.notices.post (.engine (.cleared .path n)) } ∧
      (n ≠ 0 → s.EngineTriggered t) ∧ (n = 0 → t.engine = s.engine) := by
  have hframe := s.clearPaths_frame
  have hpath := s.clearPaths_path
  have hraised := State.clearPaths_raised hmode
  generalize s.clearPaths = u at hframe hpath hraised ⊢
  intro t
  have hcapture : t.capture = u.capture := State.capture_congr rfl rfl rfl rfl fun _ => rfl
  refine ⟨hpath, ?_, fun hne => ?_, fun hzero => ?_⟩
  · show u.engineDone _ = _
    rw [State.engineDone_eq]
    conv_lhs => rw [hframe]
    rfl
  · rw [decide_eq_true (by omega : 0 < s.pathCount), if_pos rfl, ← hcapture] at hraised
    exact hraised.engineTriggered rfl
  · rw [decide_eq_false (by omega : ¬0 < s.pathCount), if_neg Bool.false_ne_true] at hraised
    obtain ⟨hengine, -⟩ := hraised.held (.inr rfl)
    show u.engine = s.engine
    simpa using hengine

theorem State.clearExceedances_completes (n : Nat) : let t := s.clearExceedances.engineDone (.cleared .exceedance n)
    (∀ p, t.excRecord p = none) ∧ t.exceedances.created = [] ∧ (∀ r, t.receptor r = (s.receptor r).map fun x => { x with exceedance := none }) ∧
      t = { s with exceedances := t.exceedances, receptors := t.receptors, table := .idle, engine := t.engine
                   arbiter := { s.arbiter with passSinceHead := t.arbiter.passSinceHead }, notices := s.notices.post (.engine (.cleared .exceedance n)) } ∧
      ((∃ r, (s.receptor r).bind (·.exceedance) ≠ none) → s.AnyTrigger t) ∧
      ((∀ r, (s.receptor r).bind (·.exceedance) = none) → t.engine = s.engine) := by
  obtain ⟨⟨rs, e, p, hframe⟩, hraised⟩ := State.clearExceedances_did hmode
  have hreceptor := s.clearExceedances_receptor
  have hexceedances := s.clearExceedances_exceedances
  generalize s.clearExceedances = u at hframe hraised hreceptor hexceedances ⊢
  intro t
  refine ⟨fun p => excTableAtReset_record (s := t) hexceedances p, (congrArg ExcTable.created hexceedances : _), hreceptor, ?_, hraised.1,
    fun hnone => hraised.2 fun ⟨r, hr⟩ => hr (hnone r)⟩
  show u.engineDone _ = { s with exceedances := u.exceedances, receptors := u.receptors, table := .idle, engine := u.engine
                                 arbiter := { s.arbiter with passSinceHead := u.arbiter.passSinceHead }
                                 notices := s.notices.post (.engine (.cleared .exceedance n)) }
  rw [State.engineDone_eq, hframe]

theorem State.clearZones_completes (n : Nat) : let t := s.clearZones.engineDone (.cleared .zone n)
    (∀ z, t.zone z = zoneDefault) ∧
      t = { s with zones := t.zones, table := .idle, engine := t.engine, arbiter := { s.arbiter with passSinceHead := t.arbiter.passSinceHead }
                   notices := t.notices } ∧
      (t.notices.lost = false → ∀ z, t.zoneNotice z ∈ t.notices.notices) ∧
      ((∃ z, (s.zone z).loaded) → s.AnyTrigger t) ∧ ((∀ z, ¬(s.zone z).loaded) → t.engine = s.engine) := by
  obtain ⟨⟨zs, e, p, m, hframe⟩, hzone, hraised, hposted⟩ := State.clearZones_unloaded hmode
  generalize s.clearZones = u at hframe hzone hraised hposted ⊢
  intro t
  refine ⟨fun z => (hzone z).trans (if_pos (List.mem_finRange z)), ?_, fun hlost z => ?_, fun ⟨z, hz⟩ => hraised.1 ⟨z, List.mem_finRange z, hz⟩,
    fun hnone => hraised.2 fun ⟨z, _, hz⟩ => hnone z hz⟩
  · show u.engineDone _ = { s with notices := (u.engineDone _).notices, zones := u.zones, engine := u.engine, table := .idle
                                   arbiter := { s.arbiter with passSinceHead := u.arbiter.passSinceHead } }
    rw [State.engineDone_eq, hframe]
  · exact State.engineDone_keeps (hposted (State.engineDone_lost hlost) z (List.mem_finRange z)) rfl

theorem State.clearStages_completes (hbindings : s.BindingsSound) (hpaths : s.PathsSound) (n : Nat) (hn : n = s.unboundSlots.length) :
    let t := s.clearStages.engineDone (.cleared .stage n)
    t = { s with slots := t.slots, paths := t.paths, table := .idle, engine := t.engine, arbiter := { s.arbiter with passSinceHead := t.arbiter.passSinceHead }
                 notices := t.notices, witness := t.witness } ∧
      (∀ i, t.slot i = if (s.slot i).port = none then (s.slot i).returned else s.slot i) ∧
      s.PathsLeft t (fun i => (s.slot i).port.isNone) ∧ (n ≠ 0 → s.AnyTrigger t) ∧ (n = 0 → t.engine = s.engine) ∧
      (t.notices.lost = false → ∀ i, ((s.slot i).port = none → t.stageStateNotice i ∈ t.notices.notices) ∧
        (s.freedAt i = true → t.clampNotice i ∈ t.notices.notices)) ∧
      t.witness = ((allSlots.filter s.freedAt).foldl (fun (u : State) i => u.send
        (.clamp i none (s.slot i).causes causesNone false .empty none s.clock.minute s.clock.second none)) s).witness := by
  obtain ⟨hdid, hslot⟩ := State.returnStages_did hmode s.unboundSlots_nodup
  have harbiter := State.returnStages_arbiter hmode s.unboundSlots
  have hleft := State.clearStages_pathsLeft hbindings hpaths
  have htriggered := State.clearStages_triggered hmode
  have hstate (i : SlotId) (hi : i ∈ s.unboundSlots) := State.returnStages_state_waits hmode s.unboundSlots_nodup hi
  have hclamp (i : SlotId) (hi : i ∈ s.unboundSlots) := State.returnStages_clamp_waits hmode s.unboundSlots_nodup hi
  rw [State.clearStages_copies] at hdid
  have hclear : s.unboundSlots.foldl State.returnStage s = s.clearStages := rfl
  rw [hclear] at hdid harbiter
  simp only [hclear] at hslot hstate hclamp
  generalize s.clearStages = u at hdid hslot harbiter hleft htriggered hstate hclamp ⊢
  intro t
  refine ⟨?_, fun i => ?_, hleft, hn ▸ htriggered.1, hn ▸ htriggered.2, fun hlost i => ⟨fun hport => ?_, fun hfreed => ?_⟩, ?_⟩
  · have hframe := hdid.frame_eq
    rw [harbiter] at hframe
    show u.engineDone _ = _
    rw [State.engineDone_eq]
    conv_lhs => rw [hframe]
    rfl
  · refine (hslot i).trans (if_congr State.mem_unboundSlots rfl rfl)
  · exact State.engineDone_keeps (hstate i (State.mem_unboundSlots.2 hport) (State.engineDone_lost hlost)) rfl
  · simp only [State.freedAt, Bool.and_eq_true, beq_iff_eq, bne_iff_ne, Option.isNone_iff_eq_none] at hfreed
    obtain ⟨⟨hport, hkind⟩, hcauses⟩ := hfreed
    exact State.engineDone_keeps (hclamp i (State.mem_unboundSlots.2 hport) hkind hcauses (State.engineDone_lost hlost)) rfl
  · rw [← State.sendAll_map]
    exact hdid.witness_eq

theorem State.clearReceptors_completes (hexc : s.ExceedancesSound) (n : Nat) : let t := s.clearReceptors.engineDone (.cleared .receptor n)
    (∀ r, t.receptor r = none) ∧
      t = { s with receptors := t.receptors, poller := t.poller, exceedances := t.exceedances, table := .idle, notices := t.notices, witness := t.witness } ∧
      (∀ q ∈ s.poller.poll, s.receptor q.receptor ≠ none → t.poller.poll = none) ∧
      (∀ p, t.excRecord p = (s.excRecord p).map fun x => x.closedWith s.clock.minute) ∧
      (t.notices.lost = false → ∀ r, ∀ e ∈ s.linkedRecord r, exceedanceNotice e.1 e.2 ∈ t.notices.notices) ∧
      t.witness = (allReceptors.foldl (fun (u : State) r => (s.linkedRecord r).elim u fun e =>
        u.send (.exceedance false s.clock.minute s.clock.second e.1 e.2 none)) s).witness := by
  obtain ⟨hframe, hreceptor, hrecord, hpolls⟩ := State.clearReceptors_removed hmode (State.linksApart_of_sound hexc)
  generalize s.clearReceptors = u at hframe hreceptor hrecord hpolls ⊢
  intro t
  have hnone (r : ReceptorId) : u.receptor r = none := by
    rw [hreceptor]
    split
    · rfl
    next hr => exact Option.not_isSome_iff_eq_none.1 fun h => hr (State.mem_receptorsHeld.2 (Option.isSome_iff_ne_none.1 h))
  have hposts (r : ReceptorId) : s.removalPosts r = ((s.linkedRecord r).map fun e => exceedanceNotice e.1 e.2).toList := by
    rw [State.removalPosts, State.closedRecord_eq_linkedRecord hexc]
  have hcopies (r : ReceptorId) : s.removalCopies r =
      ((s.linkedRecord r).map fun e => Copy.exceedance false s.clock.minute s.clock.second e.1 e.2 none).toList := by
    rw [State.removalCopies, State.closedRecord_eq_linkedRecord hexc]
  have hnotices : u.notices = s.notices.postAll (s.receptorsHeld.flatMap s.removalPosts) := by rw [hframe]
  have hwitness : u.witness = (s.sendAll (s.receptorsHeld.flatMap s.removalCopies)).witness := by rw [hframe]
  have hclosed (p : ExcPos) : u.excRecord p = (s.excRecord p).map fun x => x.closedWith s.clock.minute := by
    rw [hrecord]
    cases hp : s.excRecord p with
    | none => exact ite_self none
    | some x =>
      have hlinked : (∃ r ∈ s.receptorsHeld, (s.receptor r).bind (·.exceedance) = some p) ↔ x.state = .opened :=
        ⟨fun ⟨r, _, hr⟩ => by
          obtain ⟨y, hy, hopen, -⟩ := hexc.2.2.2 r p hr
          rwa [Option.mem_unique hp hy],
        fun hopen => ⟨x.receptor, State.mem_receptorsHeld.2 (State.held_of_exceedance (hexc.2.2.1 p x hp hopen)),
          hexc.2.2.1 p x hp hopen⟩⟩
      rw [if_congr hlinked rfl rfl, Option.map_some, Option.map_some, ExcRecord.closedWith]
      split <;> rfl
  refine ⟨hnone, ?_, fun q hq hheld => ?_, fun p => ?_, fun hlost r e he => ?_, ?_⟩
  · show u.engineDone _ = { s with
      receptors := u.receptors, poller := u.poller, exceedances := u.exceedances, table := .idle
      notices := u.notices.post (.engine (.cleared .receptor n)), witness := u.witness }
    rw [State.engineDone_eq]
    conv_lhs => rw [hframe]
    rw [hnotices, hwitness]
  · refine Option.eq_none_iff_forall_not_mem.2 fun k hk => hpolls (fun j hj => ?_) k hk (hnone _)
    rw [Option.mem_unique hj hq]
    exact hheld
  · exact hclosed p
  · have hfree := State.engineDone_lost hlost
    refine State.engineDone_keeps ?_ rfl
    rw [hnotices] at hfree ⊢
    refine NoticeQueue.mem_postAll hfree (List.mem_flatMap.2 ⟨r, State.mem_receptorsHeld.2 (State.linkedRecord_held he), ?_⟩) fun m hm hsame => ?_
    · rw [hposts, Option.mem_def.1 he]
      exact List.mem_singleton_self _
    · obtain ⟨q, -, hm⟩ := List.mem_flatMap.1 hm
      rw [hposts, Option.mem_toList, Option.map_eq_some_iff] at hm
      obtain ⟨e', he', rfl⟩ := hm
      obtain rfl : r = q := by
        rw [← State.linkedRecord_receptor hexc he, ← State.linkedRecord_receptor hexc he']
        exact exceedanceNotice_sameSubject hsame
      rw [Option.mem_unique he he']
  · show u.witness = _
    rw [hwitness, foldl_elim_sends, State.flatMap_receptorsHeld _ fun r hr => by rw [State.removalCopies, hr]; rfl]
    rw [show s.removalCopies = _ from funext hcopies]

end tables

end Sys2Proof.Machine
end

section
/-! The completion of a clear (R31, R53, R67, R68, R85, R106, R167, R168). -/

namespace Sys2Proof.Machine

variable {s t : State}

theorem Slot.returned_of_open {x : Slot} (h : x.kind = .openKind) : x.returned = { x with weight := 1, stageMax := 1050 } := by
  rw [Slot.returned, if_neg (by rw [h]; decide)]

theorem Slot.returned_of_fixed {x : Slot} (h : x.kind = .fixed) : x.returned = { x.afterEmptying with weight := 1, stageMax := 1050 } := by
  rw [Slot.returned, if_pos h]

/-- Of the blocks, a completion changes at most these. -/
theorem State.kept_by_clear {site zones receptors poller exceedances slots paths engine arbiter notices witness} (h : t = { s with
    site := site, zones := zones, receptors := receptors, poller := poller, exceedances := exceedances, slots := slots, paths := paths
    engine := engine, arbiter := arbiter, table := .idle, notices := notices, witness := witness }) :
    t.clock = s.clock ∧ t.mode = s.mode ∧ t.latch = s.latch ∧ t.links = s.links ∧ t.settings = s.settings ∧ t.pending = s.pending := by
  subst h
  exact ⟨rfl, rfl, rfl, rfl, rfl, rfl⟩

/-- Settles O32, table by table: each completion lemma gives what its table states, and the notice of the clear is the last one posted. -/
theorem clearCompletionEmptiesItsTable : Obligations.ClearCompletionEmptiesItsTable := by
  intro s
  refine ⟨execTableClearCompletion_of_not_clearing, fun k hk hstages hexc => ?_⟩
  obtain ⟨⟨-, hbindings, -⟩, hpaths, -, hsetup⟩ := hstages
  have hmode : s.mode ≠ .boot := by
    rw [hsetup (by rw [hk]; exact nofun)]
    decide
  have hexec := execTableClearCompletion_of_clearing hk
  have hwaits := State.engineDone_waits (s := (s.clearTable k).1) (result := .cleared k (s.clearTable k).2)
  cases k <;> dsimp only [State.clearTable] at hexec hwaits
  case site =>
    have hreplaced := State.siteReplaced_engineDone (State.siteReplaced_replaceSite (x := siteDefault) hmode) (.cleared .site 1)
    obtain ⟨hclock, hmode', hlatch, hlinks, hsettings, hpending⟩ := State.kept_by_clear (s := s) hreplaced.1
    exact ⟨_, _, hexec, rfl, hwaits, hclock, hmode', hlatch, hlinks, hsettings, hpending, nofun, nofun, nofun, nofun, nofun,
      fun _ => ⟨rfl, hreplaced⟩⟩
  case zone =>
    obtain ⟨hzone, hframe, hnotices, hraised, hidle⟩ := State.clearZones_completes hmode 4
    obtain ⟨hclock, hmode', hlatch, hlinks, hsettings, hpending⟩ := State.kept_by_clear (s := s) hframe
    exact ⟨_, _, hexec, rfl, hwaits, hclock, hmode', hlatch, hlinks, hsettings, hpending, nofun, nofun, nofun,
      fun _ => ⟨rfl, hzone, hframe, hnotices, hraised, hidle⟩, nofun, nofun⟩
  case receptor =>
    obtain ⟨hnone, hframe, hpoll, hrecord, hnotices, hwitness⟩ := State.clearReceptors_completes hmode hexc s.receptorsHeld.length
    obtain ⟨hclock, hmode', hlatch, hlinks, hsettings, hpending⟩ := State.kept_by_clear (s := s) hframe
    refine ⟨_, _, hexec, rfl, hwaits, hclock, hmode', hlatch, hlinks, hsettings, hpending, nofun, nofun,
      fun _ => ⟨rfl, hnone, hframe, hpoll, hrecord, fun hlost r e he => ?_, hwitness⟩, nofun, nofun, nofun⟩
    rw [← State.exceedanceNotice_linkedRecord hexc he]
    exact hnotices hlost r e he
  case stage =>
    obtain ⟨hframe, hslot, hleft, hraised, hidle, hnotices, hwitness⟩ := State.clearStages_completes hmode hbindings hpaths _ rfl
    obtain ⟨hclock, hmode', hlatch, hlinks, hsettings, hpending⟩ := State.kept_by_clear (s := s) hframe
    exact ⟨_, _, hexec, rfl, hwaits, hclock, hmode', hlatch, hlinks, hsettings, hpending, nofun, nofun, nofun, nofun,
      fun _ => ⟨rfl, hframe, fun i hport => (hslot i).trans (if_neg hport),
        fun i hport hopen => ((hslot i).trans (if_pos hport)).trans (Slot.returned_of_open hopen),
        fun i hport hfixed => ((hslot i).trans (if_pos hport)).trans (Slot.returned_of_fixed hfixed), hleft, hraised, hidle, hnotices, hwitness⟩, nofun⟩
  case path =>
    obtain ⟨hpath, hframe, hraised, hidle⟩ := State.clearPaths_completes hmode _ rfl
    obtain ⟨hclock, hmode', hlatch, hlinks, hsettings, hpending⟩ := State.kept_by_clear (s := s) hframe
    exact ⟨_, _, hexec, rfl, hwaits, hclock, hmode', hlatch, hlinks, hsettings, hpending,
      fun _ => ⟨rfl, hpath, hframe, hraised, hidle⟩, nofun, nofun, nofun, nofun, nofun⟩
  case exceedance =>
    obtain ⟨hnone, hcreated, hreceptor, hframe, hraised, hidle⟩ := State.clearExceedances_completes hmode s.excCount
    obtain ⟨hclock, hmode', hlatch, hlinks, hsettings, hpending⟩ := State.kept_by_clear (s := s) hframe
    exact ⟨_, _, hexec, rfl, hwaits, hclock, hmode', hlatch, hlinks, hsettings, hpending, nofun,
      fun _ => ⟨rfl, hnone, hcreated, hreceptor, hframe, hraised, hidle⟩, nofun, nofun, nofun, nofun⟩
  case ring =>
    exact ⟨_, _, hexec, rfl, hwaits, rfl, rfl, rfl, rfl, rfl, rfl, nofun, nofun, nofun, nofun, nofun, nofun⟩

end Sys2Proof.Machine
end

section
/-! SUPPORT. What a zone handed to the arbiter leaves of the waiting notices and of the report ages (R89, R139, R169). -/

namespace Sys2Proof.Machine

/-! ### A notice that waits on -/

/-- From `s` to `t` a notice lost stays so, and the notice `n` waits on where it waited. -/
structure State.Keeps (n : Notice) (s t : State) : Prop where
  lost : t.notices.lost = false → s.notices.lost = false
  kept : n ∈ s.notices.notices → n ∈ t.notices.notices

namespace State.Keeps
variable {n : Notice} {s t u : State}

theorem refl (n : Notice) (s : State) : Keeps n s s := ⟨id, id⟩

theorem trans (h : Keeps n s t) (k : Keeps n t u) : Keeps n s u := ⟨h.lost ∘ k.lost, k.kept ∘ h.kept⟩

theorem of_same (h : t.notices = s.notices) : Keeps n s t := ⟨fun ht => h ▸ ht, fun hs => h ▸ hs⟩

theorem foldl {α : Type} {op : State → α → State} (hop : ∀ (u : State) a, Keeps n u (op u a)) (l : List α) (s : State) : Keeps n s (l.foldl op s) := by
  induction l generalizing s with
  | nil => exact refl n s
  | cons a l ih => exact (hop s a).trans (ih _)

theorem post (s : State) {m : Notice} (h : n.sameSubject m = false) : Keeps n s (s.post m) :=
  ⟨NoticeQueue.lost_of_lost_post, fun hn => NoticeQueue.mem_post_of_mem hn h⟩

theorem trigger (s : State) : Keeps n s s.trigger := of_same (by rw [State.trigger_eq])

theorem send (s : State) (c : Copy) : Keeps n s (s.send c) := of_same (by rw [State.send_eq])

end State.Keeps

/-- A ZONE notice shares its kind with no notice of another kind. -/
theorem Notice.sameSubject_of_zone {n m : Notice} (hn : n.kindIndex = 6) (k : Fin 10) (hm : m.kindIndex = k) (hk : 6 ≠ k) : n.sameSubject m = false := by
  rw [Notice.sameSubject, hn, hm, beq_eq_false_iff_ne.2 hk, Bool.false_and]

section keeps
variable {n : Notice} (hn : n.kindIndex = 6)
include hn

theorem State.Keeps.postStageState (s : State) (i : SlotId) : State.Keeps n s (s.postStageState i) :=
  .post s (Notice.sameSubject_of_zone hn 0 rfl (by decide))

theorem State.Keeps.postAdmission (s : State) (i : SlotId) (m : Option Manner) : State.Keeps n s (s.postAdmission i m) :=
  .post s (Notice.sameSubject_of_zone hn 3 rfl (by decide))

theorem State.Keeps.reportClamp (s : State) (i : SlotId) (before : Slot) (event : ClampEvent) (report : Option (Level × Nat × Level)) :
    State.Keeps n s (s.reportClamp i before event report) := by
  unfold State.reportClamp
  dsimp only
  split
  · exact .refl n s
  · exact (State.Keeps.post s (Notice.sameSubject_of_zone hn 2 rfl (by decide))).trans (.send _ _)

theorem State.Keeps.emptySlot (s : State) (i : SlotId) : State.Keeps n s (s.emptySlot i) := by
  have hemptied : State.Keeps n s ((s.updSlot i Slot.emptied).deletePathsOf i) := .of_same rfl
  exact ((hemptied.trans (.trigger _)).trans (.postStageState hn _ i)).trans (.reportClamp hn ..)

theorem State.Keeps.ageSlot (s : State) (i : SlotId) : State.Keeps n s (s.ageSlot i) := by
  rcases s.ageSlot_eq i with ⟨h, -⟩ | ⟨h, -⟩
  · rw [h]
    exact .refl n s
  · rw [h]
    exact .emptySlot hn s i

theorem State.Keeps.promote (s : State) : State.Keeps n s s.promote := by
  unfold State.promote
  split
  · exact .of_same rfl
  next i _ _ =>
    have hmarked : State.Keeps n s { (s.updSlot i fun x => { x with state := .entering }) with
      arbiter := { (s.updSlot i fun x => { x with state := .entering }).arbiter with phase := some .counting, passSinceHead := false } } := .of_same rfl
    exact ((hmarked.trans (.trigger _)).trans (.postStageState hn _ i)).trans (.postAdmission hn _ i none)

theorem State.Keeps.refuseCurfew (s : State) (i : SlotId) : State.Keeps n s (s.refuseCurfew i) := by
  have hrefused : State.Keeps n s (s.updSlot i Slot.refusedCurfew) := .of_same rfl
  exact (hrefused.trans (.postStageState hn _ i)).trans (.postAdmission hn _ i none)

theorem State.Keeps.curfewZone (s : State) (z : ZoneId) : State.Keeps n s (s.curfewZone z) := by
  rw [State.curfewZone, State.curfewRemoval_eq, State.removeAtCurfew_eq_unqueued]
  generalize hremoved : (fun i => s.audibleInZone i z) = removed
  have hunqueued : State.Keeps n s (s.unqueued removed) := .of_same (State.Did.of_unqueued (s := s)).notices_eq
  have hrefused := hunqueued.trans (.foldl (State.Keeps.refuseCurfew hn) (s.goneAt removed) _)
  refine State.Keeps.trans ?_ (.foldl (State.Keeps.ageSlot hn) _ _)
  split
  · exact (hrefused.trans (.trigger _)).trans (.promote hn _)
  · exact hrefused

end keeps

/-! ### The evaluation of a zone -/

theorem State.ZoneSet.notices_eq {s t : State} {z : ZoneId} {x : Zone} {p : Prop} (h : s.ZoneSet t z x p) : t.notices = s.notices := by
  obtain ⟨_, _, rfl⟩ := h.written
  rfl

/-- The notice of another zone waits on. -/
theorem State.Keeps.evaluateZone {n : Notice} {z : ZoneId} (hn : n.kindIndex = 6) (hz : n.subject ≠ z.val + 1) (s : State) :
    State.Keeps n s (s.evaluateZone z) := by
  obtain ⟨u, ⟨b, hb, hu⟩, heq⟩ := s.evaluateZone_eq z
  have hset : State.Keeps n s b := .of_same hb.notices_eq
  have hhanded : State.Keeps n s u := by
    rw [hu]
    split
    · exact hset.trans (.curfewZone hn b z)
    · exact hset
  rw [heq, State.postZoneIfChanged]
  split
  · refine hhanded.trans (.post u ?_)
    rw [Notice.sameSubject, beq_eq_false_iff_ne.2 (show n.subject ≠ (u.zoneNotice z).subject from hz), Bool.and_false]
  · exact hhanded

/-! ### The report ages -/

/-- From `s` to `t` no slot joined the queue, a slot outside it kept its state, and each report age stands unless its slot was emptied and is outside. -/
structure State.KeepsAges (s t : State) : Prop where
  queue : ∀ i ∈ t.arbiter.queue, i ∈ s.arbiter.queue
  outside : ∀ i, i ∉ s.arbiter.queue → (t.slot i).state = (s.slot i).state ∧ (t.slot i).reportAge = (s.slot i).reportAge
  age : ∀ i, (t.slot i).reportAge = (s.slot i).reportAge ∨ ((t.slot i).state = .empty ∧ i ∉ t.arbiter.queue)

namespace State.KeepsAges
variable {s t u : State}

theorem of_same (hslots : t.slots = s.slots) (hqueue : t.arbiter.queue = s.arbiter.queue) : s.KeepsAges t := by
  have hslot (i : SlotId) : t.slot i = s.slot i := by rw [State.slot, hslots]; rfl
  exact ⟨fun i hi => hqueue ▸ hi, fun i _ => by rw [hslot]; exact ⟨rfl, rfl⟩, fun i => .inl (by rw [hslot])⟩

theorem trans (h : s.KeepsAges t) (k : t.KeepsAges u) : s.KeepsAges u := by
  refine ⟨fun i hi => h.queue i (k.queue i hi), fun i hi => ?_, fun i => ?_⟩
  · obtain ⟨hstate, hage⟩ := h.outside i hi
    obtain ⟨kstate, kage⟩ := k.outside i fun hit => hi (h.queue i hit)
    exact ⟨kstate.trans hstate, kage.trans hage⟩
  · rcases h.age i with hage | ⟨hempty, hout⟩
    · exact (k.age i).imp_left fun kage => kage.trans hage
    · exact .inr ⟨(k.outside i hout).1.trans hempty, fun hi => hout (k.queue i hi)⟩

theorem of_removeAtCurfew (s : State) (removed : SlotId → Bool) (j : SlotId) : ((s.removeAtCurfew removed).slot j).reportAge = (s.slot j).reportAge ∧
    (j ∉ s.arbiter.queue → ((s.removeAtCurfew removed).slot j).state = (s.slot j).state) := by
  have hunqueued : ((s.unqueued removed).slot j).reportAge = (s.slot j).reportAge ∧ ((s.unqueued removed).slot j).state = (s.slot j).state := by
    unfold State.unqueued
    split
    · simp only [State.slot_clearDebts, State.stopTimer_slot, State.setQueue_slot, and_self]
    · exact ⟨rfl, rfl⟩
  have hrefused : ∀ (l : List SlotId) (u : State), ((l.foldl State.refuseCurfew u).slot j).reportAge = (u.slot j).reportAge ∧
      (j ∉ l → ((l.foldl State.refuseCurfew u).slot j).state = (u.slot j).state) := fun l => by
    induction l with
    | nil => exact fun u => ⟨rfl, fun _ => rfl⟩
    | cons i l ih =>
      intro u
      obtain ⟨hage, hstate⟩ := ih (u.refuseCurfew i)
      rw [State.refuseCurfew_slot] at hage hstate
      by_cases hj : j = i
      · subst hj
        exact ⟨hage.trans (by rw [if_pos rfl]; rfl), fun hout => absurd List.mem_cons_self hout⟩
      · rw [if_neg hj] at hage hstate
        exact ⟨hage, fun hout => hstate fun hmem => hout (List.mem_cons_of_mem _ hmem)⟩
  obtain ⟨hage, hstate⟩ := hrefused (s.goneAt removed) (s.unqueued removed)
  have hboth : (((s.goneAt removed).foldl State.refuseCurfew (s.unqueued removed)).slot j).reportAge = (s.slot j).reportAge ∧
      (j ∉ s.arbiter.queue → (((s.goneAt removed).foldl State.refuseCurfew (s.unqueued removed)).slot j).state = (s.slot j).state) :=
    ⟨hage.trans hunqueued.1, fun hout => (hstate fun hgone => hout (State.mem_goneAt.1 hgone).1).trans hunqueued.2⟩
  rw [State.removeAtCurfew_eq_unqueued]
  split
  · rw [State.promote_slot, State.trigger_queue, State.refuseAll_arbiter, State.unqueued_queue, State.slot_of_trigger]
    split
    next hhead => exact ⟨hboth.1, fun hout => absurd (State.mem_leftAt.1 (List.mem_of_mem_head? hhead)).1 hout⟩
    next => exact hboth
  · exact hboth

theorem ageSlots (l : List SlotId) (s : State) (j : SlotId) :
    (l.foldl State.ageSlot s).slot j = s.slot j ∨ (j ∈ l ∧ ((l.foldl State.ageSlot s).slot j).state = .empty) := by
  induction l generalizing s with
  | nil => exact .inl rfl
  | cons i l ih =>
    have hone : (s.ageSlot i).slot j = s.slot j ∨ (j = i ∧ ((s.ageSlot i).slot j).state = .empty) := by
      rcases s.ageSlot_eq i with ⟨h, -⟩ | ⟨h, -⟩
      · exact .inl (by rw [h])
      · rw [h, State.emptySlot_slot]
        by_cases hj : j = i
        · exact .inr ⟨hj, by rw [if_pos hj]; rfl⟩
        · exact .inl (if_neg hj)
    rcases ih (s.ageSlot i) with hrest | ⟨hmem, hempty⟩
    · rw [List.foldl_cons, hrest]
      exact hone.imp_right fun ⟨hj, hempty⟩ => ⟨hj ▸ List.mem_cons_self, hempty⟩
    · exact .inr ⟨List.mem_cons_of_mem _ hmem, hempty⟩

theorem of_curfewZone (s : State) (z : ZoneId) : s.KeepsAges (s.curfewZone z) := by
  rw [State.curfewZone, State.curfewRemoval_eq]
  generalize (fun i => s.audibleInZone i z) = removed
  have hqueue : ((s.goneAt removed).foldl State.ageSlot (s.removeAtCurfew removed)).arbiter.queue = s.leftAt removed := State.curfewRemoval_queue
  have hages := ageSlots (s.goneAt removed) (s.removeAtCurfew removed)
  refine ⟨fun i hi => ?_, fun i hi => ?_, fun i => ?_⟩
  · rw [hqueue] at hi
    exact (State.mem_leftAt.1 hi).1
  · obtain ⟨hage, hstate⟩ := of_removeAtCurfew s removed i
    rw [(hages i).resolve_right fun ⟨hgone, _⟩ => hi (State.mem_goneAt.1 hgone).1]
    exact ⟨hstate hi, hage⟩
  · rcases hages i with hsame | ⟨hgone, hempty⟩
    · exact .inl (by rw [hsame]; exact (of_removeAtCurfew s removed i).1)
    · exact .inr ⟨hempty, hqueue ▸ State.not_left_of_gone hgone⟩

theorem of_evaluateZone (s : State) (z : ZoneId) : s.KeepsAges (s.evaluateZone z) := by
  have halike := s.evaluateZone_alike z
  split at halike
  · exact (of_curfewZone s z).trans (of_same halike.slots_eq halike.queue_eq)
  · exact of_same halike.slots_eq halike.queue_eq

end State.KeepsAges

end Sys2Proof.Machine
end

section
/-! SUPPORT. The minute-boundary work of the zones: evaluation, grace count, second-boundary move, and what is handed to the compliance unit (R27). -/

namespace Sys2Proof.Machine

/-! ### The record of one zone -/

/-- A zone a minute later in its grace (R27). -/
def Zone.graced (x : Zone) : Zone := { x with grace := x.grace - 1 }

/-- The record of a zone after its minute-boundary work (R27). -/
def Zone.afterMinute (mode : Mode) (minute : Nat) (x : Zone) : Zone := (x.evaluated mode minute).graced.afterSecond

/-- Something that the engine reads of the zone changes in its evaluation or in its second-boundary move (R29). -/
def Zone.triggersAtMinute (mode : Mode) (minute : Nat) (x : Zone) : Prop :=
  (x.evaluated mode minute).TriggersFrom x ∨ x.afterMinute mode minute ≠ (x.evaluated mode minute).graced

/-- The evaluation makes the zone FADING, and so hands it to the arbiter (R29). -/
def Zone.fadesAtMinute (mode : Mode) (minute : Nat) (x : Zone) : Prop := x.state ≠ .fading ∧ (x.evaluated mode minute).state = .fading

/-- The ZONE notice of a record. -/
def Zone.notice (z : ZoneId) (x : Zone) : Notice := .zone z x.state x.licence x.effective x.fade x.grace x.inForce

theorem State.zoneNotice_eq (s : State) (z : ZoneId) : s.zoneNotice z = (s.zone z).notice z := rfl

/-- The record `n` of which the minute-boundary work of a zone leaves a notice waiting, if any: the record after an end of a ramp or a fade, or else the one
that a changed evaluation leaves (R29). -/
def Zone.tellsAtMinute (mode : Mode) (minute : Nat) (x n : Zone) : Prop :=
  ((x.evaluated mode minute).graced.endsAtSecond ∧ n = x.afterMinute mode minute) ∨
    (¬(x.evaluated mode minute).graced.endsAtSecond ∧ (x.evaluated mode minute).ReportedFrom x ∧ n = x.evaluated mode minute)

theorem Zone.evaluated_fading {mode : Mode} {minute : Nat} {x : Zone} (h : (x.evaluated mode minute).state = .fading) : x.state ≠ .silenced := by
  intro hsilenced
  unfold Zone.evaluated at h
  split at h
  · cases h
  · split at h
    · rw [hsilenced] at h
      cases h
    · split at h
      · have hsame : x.state = .fading := by
          split at h <;> exact h
        rw [hsilenced] at hsame
        cases hsame
      · simp only [Zone.entered, curfewState, hsilenced] at h
        split at h
        · cases h
        · simp at h

/-- A zone handed to the arbiter is neither OPEN at the end of the minute's work nor in the state that it had before. -/
theorem Zone.afterMinute_of_fades {mode : Mode} {minute : Nat} {x : Zone} (h : x.fadesAtMinute mode minute) :
    (x.afterMinute mode minute).state ≠ x.state ∧ (x.afterMinute mode minute).state ≠ .opened := by
  obtain ⟨hnot, hfading⟩ := h
  have hopened : x.state = .opened := by
    cases hstate : x.state with
    | opened => rfl
    | fading => exact absurd hstate hnot
    | silenced => exact absurd hstate (Zone.evaluated_fading hfading)
  have hafter : (x.afterMinute mode minute).state ≠ .opened := by
    unfold Zone.afterMinute Zone.afterSecond
    dsimp only
    split
    · decide
    · show (x.evaluated mode minute).state ≠ .opened
      rw [hfading]
      decide
  exact ⟨hopened ▸ hafter, hafter⟩

/-! ### The work of one zone -/

/-- What the minute-boundary work of a zone makes of the state. -/
structure State.ZoneClosed (s t : State) (z : ZoneId) : Prop where
  frame : ZoneFrame s t
  zone_same : t.zone z = (s.zone z).afterMinute s.mode s.clock.minute
  zone_ne : ∀ w, w ≠ z → t.zone w = s.zone w
  raised : s.Raised t ((s.zone z).triggersAtMinute s.mode s.clock.minute)
  told : t.notices.lost = false → ∀ n, Zone.tellsAtMinute s.mode s.clock.minute (s.zone z) n → n.notice z ∈ t.notices.notices
  keeps : ∀ n : Notice, n.kindIndex = 6 → n.subject ≠ z.val + 1 → State.Keeps n s t
  ages : s.KeepsAges t
  quiet : ¬(s.zone z).fadesAtMinute s.mode s.clock.minute →
    t.slots = s.slots ∧ t.paths = s.paths ∧ t.arbiter = { s.arbiter with passSinceHead := t.arbiter.passSinceHead }

section one
variable {s : State}

theorem State.postZoneIfChanged_arbiter (s : State) (z : ZoneId) (before : Zone) : (s.postZoneIfChanged z before).arbiter = s.arbiter := by
  rw [State.postZoneIfChanged_eq]

theorem State.evaluateZone_arbiter_of_not_fading {z : ZoneId} (h : ¬((s.zone z).state ≠ .fading ∧ ((s.evaluateZone z).zone z).state = .fading)) :
    (s.evaluateZone z).arbiter = { s.arbiter with passSinceHead := (s.evaluateZone z).arbiter.passSinceHead } := by
  rw [State.evaluateZone_zone_same] at h
  obtain ⟨u, ⟨b, hb, hu⟩, heq⟩ := s.evaluateZone_eq z
  rw [if_neg h] at hu
  rw [heq, State.postZoneIfChanged_arbiter, hu]
  obtain ⟨_, _, rfl⟩ := hb.written
  rfl

theorem State.ZoneClosed.of_zoneMinute (hmode : s.mode ≠ .boot) (hs : List (Level × Nat)) (z : ZoneId) : s.ZoneClosed (State.zoneMinute (s, hs) z).1 z := by
  have hvframe := ZoneFrame.of_evaluateZone s z
  have hvsame := s.evaluateZone_zone_same z
  obtain ⟨hvtriggers, hvsilent⟩ := s.evaluateZone_raised z
  have hvtold := State.evaluateZone_notice (s := s) (z := z)
  have hvages := State.KeepsAges.of_evaluateZone s z
  have hvquiet := s.evaluateZone_alike z
  have hvarbiter := State.evaluateZone_arbiter_of_not_fading (s := s) (z := z)
  have hvne (w : ZoneId) (hw : w ≠ z) := s.evaluateZone_zone_ne hw
  have hvkeeps (n : Notice) (hn : n.kindIndex = 6) (hz : n.subject ≠ z.val + 1) := State.Keeps.evaluateZone hn hz s
  unfold State.zoneMinute
  dsimp only
  generalize s.evaluateZone z = v at *
  have hb : (v.updZone z fun x => { x with grace := x.grace - 1 }).zone z = ((s.zone z).evaluated s.mode s.clock.minute).graced := by
    rw [← hvsame]
    exact State.zone_updZone_same ..
  have hbmode : (v.updZone z fun x => { x with grace := x.grace - 1 }).mode ≠ .boot := by
    show v.mode ≠ .boot
    rw [hvframe.mode_eq]
    exact hmode
  obtain ⟨a, ha, heq⟩ := State.zoneSecond_eq hbmode z
  rw [hb] at ha heq
  generalize hx : (s.zone z).evaluated s.mode s.clock.minute = x at *
  have htell : ((v.updZone z fun x => { x with grace := x.grace - 1 }).zoneSecond z) = { a with notices := (if x.graced.endsAtSecond then a.postZone z else a).notices } := by
    rw [heq]
    split <;> rfl
  have hposted (hends : x.graced.endsAtSecond) :
      ((v.updZone z fun x => { x with grace := x.grace - 1 }).zoneSecond z).notices = a.notices.post (x.graced.afterSecond.notice z) := by
    rw [heq, if_pos hends, State.postZone, State.zoneNotice_eq, ha.zone_same]
    rfl
  have hsilent (hends : ¬x.graced.endsAtSecond) : ((v.updZone z fun x => { x with grace := x.grace - 1 }).zoneSecond z).notices = a.notices := by
    rw [heq, if_neg hends]
  have hframe := (hvframe.trans (ZoneFrame.of_updZone v z fun x => { x with grace := x.grace - 1 })).trans (ZoneFrame.of_zoneSecond _ z)
  have hafter : (s.zone z).afterMinute s.mode s.clock.minute = x.graced.afterSecond := by rw [Zone.afterMinute, hx]
  have hanotices : a.notices = v.notices := ha.notices_eq
  have hazone (w : ZoneId) (hw : w ≠ z) : a.zone w = s.zone w := (ha.zone_ne hw).trans ((State.zone_updZone_ne v z w _ hw).trans (hvne w hw))
  obtain ⟨e, p, hwritten⟩ := ha.written
  have hraised : s.Raised a ((s.zone z).triggersAtMinute s.mode s.clock.minute) := by
    rw [Zone.triggersAtMinute, hafter, hx, ← hvsame]
    exact State.Raised.trans ⟨fun h => hvtriggers h hmode, hvsilent⟩ (ha.raised.congr rfl (by rw [hvsame]))
  generalize (v.updZone z fun x => { x with grace := x.grace - 1 }).zoneSecond z = t at *
  refine ⟨hframe, ?_, fun w hw => ?_, ?_, fun hlost n hn => ?_, fun n hn hz => ?_, ?_, fun hnot => ?_⟩
  · rw [hafter, htell]
    exact ha.zone_same
  · rw [htell]
    exact hazone w hw
  · exact hraised.congr (by rw [htell]) Iff.rfl
  · rw [Zone.tellsAtMinute, hafter, hx] at hn
    rcases hn with ⟨hends, rfl⟩ | ⟨hends, hreported, rfl⟩
    · rw [hposted hends] at hlost ⊢
      exact NoticeQueue.mem_post hlost
    · rw [hsilent hends, hanotices] at hlost ⊢
      rw [← hvsame] at hreported ⊢
      exact hvtold hreported hlost
  · refine (hvkeeps n hn hz).trans ?_
    by_cases hends : x.graced.endsAtSecond
    · refine ⟨fun hlost => ?_, fun hmem => ?_⟩
      · rw [hposted hends, hanotices] at hlost
        exact NoticeQueue.lost_of_lost_post hlost
      · rw [hposted hends, hanotices]
        refine NoticeQueue.mem_post_of_mem hmem ?_
        rw [Notice.sameSubject, beq_eq_false_iff_ne.2 (show n.subject ≠ (x.graced.afterSecond.notice z).subject from hz), Bool.and_false]
    · exact .of_same ((hsilent hends).trans hanotices)
  · refine hvages.trans (.of_same ?_ ?_)
    · rw [htell, hwritten]
      rfl
    · rw [htell, hwritten]
      rfl
  · rw [Zone.fadesAtMinute, hx, ← hvsame] at hnot
    rw [if_neg hnot] at hvquiet
    rw [htell, hwritten]
    refine ⟨hvquiet.slots_eq, hvquiet.paths_eq, ?_⟩
    show { v.arbiter with passSinceHead := p } = _
    rw [hvarbiter hnot]

end one

end Sys2Proof.Machine
end

section
/-! SUPPORT. The minute-boundary work of every zone, in ascending zone number (R27). -/

namespace Sys2Proof.Machine

/-- What a zone hands to the compliance unit at a minute boundary: the licence limit and the grace count as evaluated (R27). -/
def Zone.handedAtMinute (mode : Mode) (minute : Nat) (x : Zone) : Level × Nat := ((x.evaluated mode minute).licence, (x.evaluated mode minute).grace)

/-- What the minute-boundary work of the zones of a list makes of the state, with the list that the zones hand on. -/
structure State.ZonesClosed (s t : State) (handed : List (Level × Nat)) (zones : List ZoneId) : Prop where
  frame : ZoneFrame s t
  moved : ∀ z ∈ zones, t.zone z = (s.zone z).afterMinute s.mode s.clock.minute
  untouched : ∀ z, z ∉ zones → t.zone z = s.zone z
  handed_eq : handed = zones.map fun z => (s.zone z).handedAtMinute s.mode s.clock.minute
  raised : s.Raised t (∃ z ∈ zones, (s.zone z).triggersAtMinute s.mode s.clock.minute)
  told : t.notices.lost = false → ∀ z ∈ zones, ∀ n, Zone.tellsAtMinute s.mode s.clock.minute (s.zone z) n → n.notice z ∈ t.notices.notices
  ages : s.KeepsAges t
  quiet : (∀ z ∈ zones, ¬(s.zone z).fadesAtMinute s.mode s.clock.minute) →
    t.slots = s.slots ∧ t.paths = s.paths ∧ t.arbiter = { s.arbiter with passSinceHead := t.arbiter.passSinceHead }

namespace State.ZonesClosed
variable {s t : State} {handed : List (Level × Nat)} {zones : List ZoneId}

theorem refl (s : State) : s.ZonesClosed s [] [] :=
  ⟨.refl s, nofun, fun _ _ => rfl, rfl, (Raised.of_engine_eq rfl).congr rfl (by simp), fun _ => nofun, .of_same rfl rfl, fun _ => ⟨rfl, rfl, rfl⟩⟩

/-- A zone not yet closed is closed after the others, from the record it had at first. -/
theorem snoc (h : s.ZonesClosed t handed zones) (hmode : s.mode ≠ .boot) {z : ZoneId} (hz : z ∉ zones) :
    s.ZonesClosed (State.zoneMinute (t, handed) z).1 (State.zoneMinute (t, handed) z).2 (zones ++ [z]) := by
  have hone := State.ZoneClosed.of_zoneMinute (s := t) (h.frame.mode_eq ▸ hmode) handed z
  have hhanded : (State.zoneMinute (t, handed) z).2 = handed ++ [(t.zone z).handedAtMinute t.mode t.clock.minute] := by
    rw [Zone.handedAtMinute, ← State.evaluateZone_zone_same]
    rfl
  generalize State.zoneMinute (t, handed) z = u at hone hhanded ⊢
  obtain ⟨hframe, hsame, hne, hraised, htold, hkeeps, hages, hquiet⟩ := hone
  rw [h.untouched z hz, h.frame.mode_eq, h.frame.clock_eq] at hsame hraised htold hquiet hhanded
  have hother {w : ZoneId} (hw : w ∈ zones) : w ≠ z := fun he => hz (he ▸ hw)
  refine ⟨h.frame.trans hframe, fun w hw => ?_, fun w hw => ?_, ?_, ?_, fun hlost w hw n hn => ?_, h.ages.trans hages, fun hnone => ?_⟩
  · rcases List.mem_append.1 hw with hw | hw
    · rw [hne w (hother hw), h.moved w hw]
    · rw [List.mem_singleton.1 hw, hsame]
  · rw [List.mem_append, not_or, List.mem_singleton] at hw
    rw [hne w hw.2, h.untouched w hw.1]
  · rw [hhanded, h.handed_eq, List.map_append, List.map_singleton]
  · refine (h.raised.trans hraised).congr rfl ?_
    simp only [List.mem_append, List.mem_singleton, or_and_right, exists_or, exists_eq_left]
  · rcases List.mem_append.1 hw with hw | hw
    · have hwaits := hkeeps (n.notice w) rfl fun he => hother hw (Fin.ext (Nat.succ_injective he))
      exact hwaits.kept (h.told (hwaits.lost hlost) w hw n hn)
    · obtain rfl := List.mem_singleton.1 hw
      exact htold hlost n hn
  · obtain ⟨hslots, hpaths, harbiter⟩ := h.quiet fun w hw => hnone w (List.mem_append_left _ hw)
    obtain ⟨hslots', hpaths', harbiter'⟩ := hquiet (hnone z (List.mem_append_right _ (List.mem_singleton_self z)))
    refine ⟨hslots'.trans hslots, hpaths'.trans hpaths, ?_⟩
    rw [harbiter', harbiter]

theorem of_foldl (hmode : s.mode ≠ .boot) (hnodup : zones.Nodup) :
    s.ZonesClosed (zones.foldl State.zoneMinute (s, [])).1 (zones.foldl State.zoneMinute (s, [])).2 zones := by
  induction zones using List.reverseRecOn with
  | nil => exact refl s
  | append_singleton zones z ih =>
    obtain ⟨hinit, -, hne⟩ := List.nodup_append.1 hnodup
    rw [List.foldl_concat]
    exact (ih hinit).snoc hmode fun hz => hne z hz z (List.mem_singleton_self z) rfl

theorem of_zonesAtMinute (hmode : s.mode ≠ .boot) : s.ZonesClosed s.zonesAtMinute.1 s.zonesAtMinute.2 allZones := of_foldl hmode (List.nodup_finRange 4)

/-- Each zone finds what it handed on at its own place. -/
theorem handed_getD (h : s.ZonesClosed t handed allZones) (z : ZoneId) :
    handed.getD z.val (0, 0) = (s.zone z).handedAtMinute s.mode s.clock.minute := by
  rw [h.handed_eq, List.getD_eq_getElem?_getD, List.getElem?_map]
  simp [allZones]

end State.ZonesClosed

end Sys2Proof.Machine
end

section
/-! SUPPORT. The close of one receptor's minute (R45 to R47, R57, R58, R63 to R66). -/

namespace Sys2Proof.Machine

/-! ### Copies that stand -/

/-- From `s` to `t` copies were sent, and those that stood in the FIFO still stand unless one was dropped. -/
def State.Sends (s t : State) : Prop :=
  t.witness.gapPending = false → s.witness.gapPending = false ∧ ∀ e ∈ s.witness.fifo, e ∈ t.witness.fifo

namespace State.Sends
variable {s t u : State}

theorem of_same (h : t.witness = s.witness) : s.Sends t := fun hgap => by
  rw [h] at hgap ⊢
  exact ⟨hgap, fun _ => id⟩

theorem trans (h : s.Sends t) (k : t.Sends u) : s.Sends u := fun hgap => by
  obtain ⟨ht, hkept⟩ := k hgap
  obtain ⟨hs, hkept'⟩ := h ht
  exact ⟨hs, fun e he => hkept e (hkept' e he)⟩

theorem of_send {c : Copy} (h : t.witness = (s.send c).witness) : s.Sends t := fun hgap => by
  rw [h] at hgap ⊢
  exact ⟨State.send_gapPending hgap, fun _ he => State.mem_send_of_mem he⟩

end State.Sends

/-! ### One step of a close -/

/-- A record with its link written. -/
def Receptor.linkedTo (x : Receptor) (e : Option ExcPos) : Receptor := { x with exceedance := e }

/-- From `s` to `t` the record of the receptor became `y`, with a trigger where `changed` holds; no other receptor and no other block but the exceedances
changed, ZONE notices and copies wait on. -/
structure State.CloseStep (s t : State) (r : ReceptorId) (y : Receptor) (changed : Prop) : Prop where
  frame : CloseFrame s t
  arbiter_eq : t.arbiter = { s.arbiter with passSinceHead := t.arbiter.passSinceHead }
  receptor_same : t.receptor r = some y
  receptor_ne : ∀ q, q ≠ r → t.receptor q = s.receptor q
  raised : s.Raised t changed
  keeps : ∀ n : Notice, n.kindIndex = 6 → State.Keeps n s t
  sends : s.Sends t

theorem State.RaisedOn.raised {s t : State} {n : Nat} {c : Capture} (h : s.RaisedOn t n c) : s.Raised t (0 < n) := by
  refine ⟨fun hn => ?_, fun hn => ?_⟩
  · unfold State.AnyTrigger
    split
    next hidle => rw [(h.begun hidle hn).1]; rfl
    next hbusy => rw [(h.held (.inl hbusy)).1, decide_eq_true hn, Bool.or_true]
  · rw [(h.held (.inr (by omega))).1, decide_eq_false hn, Bool.or_false]

namespace State.CloseStep
variable {s t u : State} {r : ReceptorId} {x y z : Receptor} {p q : Prop}

theorem congr (h : s.CloseStep t r y p) (hpq : p ↔ q) : s.CloseStep t r y q := by rwa [← propext hpq]

theorem trans (h : s.CloseStep t r y p) (k : t.CloseStep u r z q) : s.CloseStep u r z (p ∨ q) where
  frame := h.frame.trans k.frame
  arbiter_eq := by rw [k.arbiter_eq, h.arbiter_eq]
  receptor_same := k.receptor_same
  receptor_ne w hw := (k.receptor_ne w hw).trans (h.receptor_ne w hw)
  raised := h.raised.trans k.raised
  keeps n hn := (h.keeps n hn).trans (k.keeps n hn)
  sends := h.sends.trans k.sends

theorem refl (hx : s.receptor r = some x) : s.CloseStep s r x False :=
  ⟨.refl s, rfl, hx, fun _ _ => rfl, .of_engine_eq rfl, fun n _ => .refl n s, .of_same rfl⟩

theorem of_setReceptor (s : State) (r : ReceptorId) (y : Receptor) : s.CloseStep (s.setReceptor r (some y)) r y False :=
  ⟨.of_setReceptor .., rfl, State.receptor_setReceptor_same .., fun _ hq => State.receptor_setReceptor_ne _ _ _ _ hq, .of_engine_eq rfl,
    fun _ _ => .of_same rfl, .of_same rfl⟩

theorem of_updExcRecord (hx : s.receptor r = some x) (p : ExcPos) (f : ExcRecord → ExcRecord) : s.CloseStep (s.updExcRecord p f) r x False :=
  ⟨.of_updExcRecord .., rfl, hx, fun _ _ => rfl, .of_engine_eq rfl, fun _ _ => .of_same rfl, .of_same rfl⟩

theorem of_send (hx : s.receptor r = some x) (c : Copy) : s.CloseStep (s.send c) r x False := by
  have hreceptors : (s.send c).receptors = s.receptors := by rw [State.send_eq]
  have hreceptor (q : ReceptorId) : (s.send c).receptor q = s.receptor q := by rw [State.receptor, hreceptors]; rfl
  exact ⟨.of_send .., by rw [State.send_arbiter], (hreceptor r).trans hx, fun q _ => hreceptor q, .of_engine_eq (by rw [State.send_eq]),
    fun _ _ => .send s c, .of_send rfl⟩

theorem of_triggerIf (hmode : s.mode ≠ .boot) (hx : s.receptor r = some x) (b : Bool) : s.CloseStep (s.triggerIf b) r x (b = true) := by
  have hraised := State.RaisedOn.of_triggerIf hmode b
  refine ⟨.of_triggerIf .., hraised.arbiter_frame, (State.triggerIf_receptor ..).trans hx, fun q _ => State.triggerIf_receptor .., ?_, fun n _ => ?_, ?_⟩
  · exact hraised.raised.congr rfl (by cases b <;> simp)
  · exact .of_same (by rw [State.triggerIf_eq])
  · exact .of_same (by rw [State.triggerIf_eq])

/-- An EXCEEDANCE notice leaves the ZONE notices. -/
theorem keeps_of_exceedance {e : ExcPos × ExcRecord} (h : t.notices = s.notices.post (exceedanceNotice e.1 e.2)) (n : Notice) (hn : n.kindIndex = 6) :
    State.Keeps n s t :=
  (State.Keeps.post s (Notice.sameSubject_of_zone hn 5 rfl (by decide))).trans (.of_same h)

theorem of_opened (hmode : s.mode ≠ .boot) {p : ExcPos} {opening : ExcRecord} (h : s.ExcOpened t r x p opening) :
    s.CloseStep t r { x with exceedance := some p } True := by
  have hraised := h.raised hmode
  refine ⟨?_, hraised.arbiter_frame, h.receptor_same, h.receptor_ne, hraised.raised.congr rfl (by simp), keeps_of_exceedance (e := (p, opening)) h.notices_eq,
    .of_send h.witness_eq⟩
  rw [h.frame]
  constructor <;> rfl

theorem of_closed (hmode : s.mode ≠ .boot) {minute : Nat} {cause : ClosingCause} (hx : x.exceedance ≠ none) (h : s.ExcClosed t r x minute cause true) :
    s.CloseStep t r { x with exceedance := none } True := by
  have hraised := h.raised hmode
  rw [Bool.true_and, if_pos (Option.isSome_iff_ne_none.2 hx)] at hraised
  have htold : (∀ n : Notice, n.kindIndex = 6 → State.Keeps n s t) ∧ s.Sends t := by
    cases hrecord : s.closedRecord x minute cause with
    | none =>
      obtain ⟨hnotices, hwitness⟩ := h.silent hrecord
      exact ⟨fun _ _ => .of_same hnotices, .of_same hwitness⟩
    | some e =>
      obtain ⟨hnotices, hwitness⟩ := h.told e hrecord
      exact ⟨keeps_of_exceedance hnotices, .of_send hwitness⟩
  refine ⟨?_, hraised.arbiter_frame, h.receptor_same, h.receptor_ne, hraised.raised.congr rfl (by simp), htold.1, htold.2⟩
  rw [h.frame]
  constructor <;> rfl

/-! ### The judgement, whatever the exceedance table holds -/

theorem of_judge (hmode : s.mode ≠ .boot) (hx : s.receptor r = some x) (limit grace minute : Nat) :
    ∃ e, s.CloseStep (s.judge r limit grace minute) r (x.linkedTo e) (e ≠ x.exceedance) := by
  have hsame : s.CloseStep s r (x.linkedTo x.exceedance) (x.exceedance ≠ x.exceedance) := (refl hx).congr (by simp)
  cases hexc : x.exceedance with
  | none =>
    rw [State.judge_of_none hx hexc]
    rw [hexc] at hsame
    cases x.level15 with
    | none => exact ⟨none, hsame⟩
    | some level =>
      dsimp only [Option.elim_some]
      split
      · cases hposition : s.openingPosition with
        | none =>
          rw [State.openExceedance, hposition]
          exact ⟨none, hsame⟩
        | some p => exact ⟨some p, (of_opened hmode (State.ExcOpened.of_openExceedance hx hposition)).congr (q := some p ≠ none) (by simp)⟩
      · exact ⟨none, hsame⟩
  | some p =>
    have hmerged : s.CloseStep (s.updExcRecord p (s.overMerged r)) r (x.linkedTo (some p)) (some p ≠ some p) := by
      rw [← hexc]
      exact (of_updExcRecord hx p _).congr (by simp)
    rw [State.judge_of_some hx hexc]
    split
    · exact ⟨some p, hmerged⟩
    cases x.level15 with
    | none => exact ⟨some p, hmerged⟩
    | some level =>
      dsimp only [Option.elim_some]
      split
      · exact ⟨some p, (hmerged.trans (of_updExcRecord hmerged.receptor_same p _)).congr (q := some p ≠ some p) (by simp)⟩
      · have hclosed := of_closed (s := s.updExcRecord p (s.overMerged r)) hmode (by rw [hexc]; exact Option.some_ne_none p)
          (State.ExcClosed.of_closeExceedance (s := s.updExcRecord p (s.overMerged r)) hx minute .returned true)
        exact ⟨none, (hmerged.trans hclosed).congr (q := none ≠ some p) (by simp)⟩

/-! ### The correction, and the close put together -/

theorem of_correct (hmode : s.mode ≠ .boot) (hx : s.receptor r = some x) :
    s.CloseStep (s.correct r) r { x with correction := x.corrected s.site.correctionRise s.site.correctionFall, residual := { sum := 0, count := 0 } }
      (x.corrected s.site.correctionRise s.site.correctionFall ≠ x.correction) ∧ (s.correct r).exceedances = s.exceedances := by
  have heq : s.correct r = ((s.updReceptor r fun y => { y with correction := x.corrected s.site.correctionRise s.site.correctionFall }).triggerIf
      (x.corrected s.site.correctionRise s.site.correctionFall != x.correction)).updReceptor r fun y => { y with residual := { sum := 0, count := 0 } } := by
    simp only [State.correct, hx]
  rw [heq, State.updReceptor_of_some hx]
  generalize x.corrected s.site.correctionRise s.site.correctionFall = v
  have hwritten := of_setReceptor s r { x with correction := v }
  have htriggered := hwritten.trans (of_triggerIf (s := s.setReceptor r (some { x with correction := v })) hmode hwritten.receptor_same (v != x.correction))
  rw [State.updReceptor_of_some htriggered.receptor_same]
  refine ⟨(htriggered.trans (of_setReceptor _ r _)).congr (by simp), ?_⟩
  rw [State.setReceptor_exceedances, State.triggerIf_eq]
  rfl

end State.CloseStep

/-- The record of a receptor after the close of a minute, its link apart (R45 to R47, R57, R58). -/
def Receptor.atClose (site : Site) (minute : Nat) (x : Receptor) : Receptor :=
  { x.closed minute with
    correction := (x.closed minute).corrected site.correctionRise site.correctionFall
    residual := { sum := 0, count := 0 } }

/-- The MINUTE copy of a close (R49). -/
def Receptor.minuteCopy (r : ReceptorId) (minute : Nat) (x : Receptor) : Copy :=
  .minute r x.zone (x.minuteRecord minute) (x.closed minute).level15 (presentLevels (x.closed minute).ring).length

section closing
variable {s : State} {r : ReceptorId} {x : Receptor}

/-- The close of a receptor up to its judgement: the record and the MINUTE copy, with a trigger for a new correction. -/
theorem State.closeReceptor_eq (hmode : s.mode ≠ .boot) (hx : s.receptor r = some x) (handed : List (Level × Nat)) (minute : Nat) :
    ∃ c, s.CloseStep c r (x.atClose s.site minute) ((x.atClose s.site minute).correction ≠ x.correction) ∧ c.exceedances = s.exceedances ∧
      (c.witness.gapPending = false → s.site.enables.minute = true → .copy (x.minuteCopy r minute) ∈ c.witness.fifo) ∧
      s.closeReceptor handed minute r = c.judge r (handed.getD x.zone.val (0, 0)).1 (handed.getD x.zone.val (0, 0)).2 minute := by
  have hclosed := State.CloseStep.of_setReceptor s r (x.closed minute)
  have hsent := hclosed.trans (.of_send hclosed.receptor_same (x.minuteCopy r minute))
  have hsite := hsent.frame.site_eq
  obtain ⟨hcorrected, hexceedances⟩ := State.CloseStep.of_correct (s := (s.setReceptor r (some (x.closed minute))).send (x.minuteCopy r minute))
    (hsent.frame.mode_eq ▸ hmode) hsent.receptor_same
  rw [hsite] at hcorrected
  refine ⟨_, (hsent.trans hcorrected).congr (by rw [or_self, false_or]; rfl), ?_, fun hgap henabled => ?_, ?_⟩
  · rw [hexceedances, State.send_eq]
    rfl
  · obtain ⟨hgap', hkept⟩ := hcorrected.sends hgap
    exact hkept _ (State.mem_send hgap' henabled)
  · simp only [State.closeReceptor, hx]
    rfl

end closing

end Sys2Proof.Machine
end

section
/-! SUPPORT. The close of every receptor's minute, in ascending receptor number (R45, R58, R64, R65). -/

namespace Sys2Proof.Machine

/-- What of a receptor's record raises a trigger where it changes: the correction and the open exceedance (R58, R64, R65). -/
def Receptor.watched (x : Receptor) : Nat × Option ExcPos := (x.correction, x.exceedance)

theorem Receptor.watched_ne_iff {x y : Receptor} : y.correction ≠ x.correction ∨ y.exceedance ≠ x.exceedance ↔ y.watched ≠ x.watched := by
  rw [Receptor.watched, Receptor.watched, ne_eq, ne_eq, ne_eq, Prod.mk.injEq, not_and_or]

/-- What the closes of the receptors of a list make of the state. -/
structure State.ReceptorsClosed (s t : State) (minute : Nat) (l : List ReceptorId) : Prop where
  frame : CloseFrame s t
  arbiter_eq : t.arbiter = { s.arbiter with passSinceHead := t.arbiter.passSinceHead }
  closed : ∀ r ∈ l, ∀ x, s.receptor r = some x → ∃ e, t.receptor r = some ((x.atClose s.site minute).linkedTo e)
  absent : ∀ r, s.receptor r = none → t.receptor r = none
  untouched : ∀ r, r ∉ l → t.receptor r = s.receptor r
  raised : s.Raised t (∃ r, (t.receptor r).map Receptor.watched ≠ (s.receptor r).map Receptor.watched)
  copies : t.witness.gapPending = false → s.site.enables.minute = true →
    ∀ r ∈ l, ∀ x, s.receptor r = some x → .copy (x.minuteCopy r minute) ∈ t.witness.fifo
  keeps : ∀ n : Notice, n.kindIndex = 6 → State.Keeps n s t

section one
variable {s t : State} {r : ReceptorId} {x : Receptor} {handed : List (Level × Nat)} {minute : Nat}

/-- The close of one receptor: its record, with a trigger where what is watched of it changed, and its MINUTE copy. -/
theorem State.CloseStep.of_closeReceptor (hmode : s.mode ≠ .boot) (hx : s.receptor r = some x) :
    ∃ e, s.CloseStep (s.closeReceptor handed minute r) r ((x.atClose s.site minute).linkedTo e)
        (((x.atClose s.site minute).linkedTo e).watched ≠ x.watched) ∧
      ((s.closeReceptor handed minute r).witness.gapPending = false → s.site.enables.minute = true →
        .copy (x.minuteCopy r minute) ∈ (s.closeReceptor handed minute r).witness.fifo) := by
  obtain ⟨c, hstep, -, hcopy, heq⟩ := State.closeReceptor_eq hmode hx handed minute
  obtain ⟨e, hjudged⟩ := State.CloseStep.of_judge (hstep.frame.mode_eq ▸ hmode) hstep.receptor_same (handed.getD x.zone.val (0, 0)).1
    (handed.getD x.zone.val (0, 0)).2 minute
  rw [← heq] at hjudged
  refine ⟨e, (hstep.trans hjudged).congr ?_, fun hgap henabled => ?_⟩
  · rw [← Receptor.watched_ne_iff]
    rfl
  · obtain ⟨hgap', hkept⟩ := hjudged.sends hgap
    exact hkept _ (hcopy hgap' henabled)

theorem State.closeReceptor_of_none (h : s.receptor r = none) : s.closeReceptor handed minute r = s := by simp [State.closeReceptor, h]

end one

namespace State.ReceptorsClosed
variable {s t : State} {handed : List (Level × Nat)} {minute : Nat} {l : List ReceptorId} {r : ReceptorId}

theorem refl (s : State) (minute : Nat) : s.ReceptorsClosed s minute [] :=
  ⟨.refl s, rfl, nofun, fun _ => id, fun _ _ => rfl, (Raised.of_engine_eq rfl).congr rfl (by simp), fun _ _ => nofun, fun n _ => .refl n s⟩

theorem snoc (h : s.ReceptorsClosed t minute l) (hmode : s.mode ≠ .boot) (hr : r ∉ l) :
    s.ReceptorsClosed (t.closeReceptor handed minute r) minute (l ++ [r]) := by
  have hreceptor : t.receptor r = s.receptor r := h.untouched r hr
  cases hx : s.receptor r with
  | none =>
    rw [State.closeReceptor_of_none (hreceptor.trans hx)]
    refine ⟨h.frame, h.arbiter_eq, fun q hq y hy => ?_, h.absent, fun q hq => h.untouched q fun hmem => hq (List.mem_append_left _ hmem), h.raised,
      fun hgap henabled q hq y hy => ?_, h.keeps⟩
    · rcases List.mem_append.1 hq with hq | hq
      · exact h.closed q hq y hy
      · rw [List.mem_singleton.1 hq, hx] at hy
        cases hy
    · rcases List.mem_append.1 hq with hq | hq
      · exact h.copies hgap henabled q hq y hy
      · rw [List.mem_singleton.1 hq, hx] at hy
        cases hy
  | some x =>
    obtain ⟨e, hstep, hcopy⟩ := State.CloseStep.of_closeReceptor (handed := handed) (minute := minute) (h.frame.mode_eq ▸ hmode) (hreceptor.trans hx)
    rw [h.frame.site_eq] at hstep hcopy
    generalize t.closeReceptor handed minute r = u at hstep hcopy ⊢
    have hne {q : ReceptorId} (hq : q ∈ l) : q ≠ r := fun he => hr (he ▸ hq)
    refine ⟨h.frame.trans hstep.frame, by rw [hstep.arbiter_eq, h.arbiter_eq], fun q hq y hy => ?_, fun q hq => ?_, fun q hq => ?_, ?_,
      fun hgap henabled q hq y hy => ?_, fun n hn => (h.keeps n hn).trans (hstep.keeps n hn)⟩
    · rcases List.mem_append.1 hq with hq | hq
      · rw [hstep.receptor_ne q (hne hq)]
        exact h.closed q hq y hy
      · rw [List.mem_singleton.1 hq, hx] at hy
        cases hy
        exact ⟨e, List.mem_singleton.1 hq ▸ hstep.receptor_same⟩
    · have hqr : q ≠ r := by
        rintro rfl
        rw [hx] at hq
        cases hq
      rw [hstep.receptor_ne q hqr, h.absent q hq]
    · rw [List.mem_append, not_or, List.mem_singleton] at hq
      rw [hstep.receptor_ne q hq.2, h.untouched q hq.1]
    · refine (h.raised.trans hstep.raised).congr rfl ⟨?_, ?_⟩
      · rintro (⟨q, hq⟩ | hchanged)
        · have hqr : q ≠ r := by
            rintro rfl
            exact hq (by rw [hreceptor])
          exact ⟨q, by rwa [hstep.receptor_ne q hqr]⟩
        · refine ⟨r, ?_⟩
          rw [hstep.receptor_same, hx, Option.map_some, Option.map_some, ne_eq, Option.some_inj]
          exact hchanged
      · rintro ⟨q, hq⟩
        by_cases hqr : q = r
        · right
          rw [hqr, hstep.receptor_same, hx, Option.map_some, Option.map_some, ne_eq, Option.some_inj] at hq
          exact hq
        · exact .inl ⟨q, by rwa [hstep.receptor_ne q hqr] at hq⟩
    · rcases List.mem_append.1 hq with hq | hq
      · obtain ⟨hgap', hkept⟩ := hstep.sends hgap
        exact hkept _ (h.copies hgap' henabled q hq y hy)
      · rw [List.mem_singleton.1 hq, hx] at hy
        cases hy
        exact List.mem_singleton.1 hq ▸ hcopy hgap henabled

theorem of_foldl (handed : List (Level × Nat)) (hmode : s.mode ≠ .boot) (hl : l.Nodup) :
    s.ReceptorsClosed (l.foldl (State.closeReceptor handed minute) s) minute l := by
  induction l using List.reverseRecOn with
  | nil => exact refl s minute
  | append_singleton l r ih =>
    obtain ⟨hinit, -, hne⟩ := List.nodup_append.1 hl
    rw [List.foldl_concat]
    exact (ih hinit).snoc hmode fun hr => hne r hr r (List.mem_singleton_self r) rfl

end State.ReceptorsClosed

end Sys2Proof.Machine
end

section
/-! SUPPORT. The exceedance records through the closes of a minute (R62 to R66). -/

namespace Sys2Proof.Machine

section one
variable {s c : State} {r : ReceptorId} {x y : Receptor} {handed : List (Level × Nat)} {minute : Nat} {p : ExcPos}

theorem State.link?_of (h : s.receptor r = some x) : s.link? r = x.exceedance := by rw [State.link?, h, Option.bind_some]

theorem State.CloseStep.exceedancesSound {changed : Prop} (h : s.CloseStep c r y changed) (hs : s.ExceedancesSound) (hx : s.receptor r = some x)
    (hlink : y.exceedance = x.exceedance) (hexceedances : c.exceedances = s.exceedances) : c.ExceedancesSound :=
  exceedancesSound_congr hs (by rw [hexceedances]) (State.excRecord_congr hexceedances) fun q => by
    by_cases hq : q = r
    · rw [hq, State.link?_of h.receptor_same, State.link?_of hx, hlink]
    · rw [State.link?, h.receptor_ne q hq]
      rfl

/-- A judgement writes no record but the one that its receptor was linked to, or is linked to after it. -/
theorem State.judge_excRecord (hs : s.ExceedancesSound) (hx : s.receptor r = some x) (limit grace minute : Nat) (p : ExcPos) :
    (s.judge r limit grace minute).excRecord p = s.excRecord p ∨ s.link? r = some p ∨ (s.judge r limit grace minute).link? r = some p := by
  obtain ⟨-, hnone, hsome⟩ := judgementFollowsTable43 s r x limit grace minute hx hs
  generalize s.judge r limit grace minute = t at hnone hsome ⊢
  cases hexc : x.exceedance with
  | none =>
    obtain ⟨hheld, hopened⟩ := hnone hexc
    by_cases hcond : 0 < grace ∨ x.level15 = none ∨ ∃ level, x.level15 = some level ∧ level ≤ limit
    · exact .inl (by rw [hheld hcond])
    · rw [not_or, not_or, not_lt, Nat.le_zero] at hcond
      obtain ⟨hgrace, hpresent, hover⟩ := hcond
      obtain ⟨level, hlevel⟩ := Option.ne_none_iff_exists'.1 hpresent
      obtain ⟨q, hreceptor, -, hother, -⟩ := hopened hgrace level hlevel (not_le.1 fun hle => hover ⟨level, hlevel, hle⟩)
      by_cases hq : p = q
      · exact .inr (.inr (by rw [State.link?_of hreceptor, hq]))
      · exact .inl (hother p hq)
  | some q =>
    obtain ⟨y, hy, -⟩ := hs.2.2.2 r q (by rw [hx, Option.bind_some, hexc])
    obtain ⟨hother, -⟩ := hsome q y hexc hy
    by_cases hq : p = q
    · exact .inr (.inl (by rw [State.link?_of hx, hexc, hq]))
    · exact .inl (hother p hq)

theorem State.closeReceptor_excRecord (hmode : s.mode ≠ .boot) (hs : s.ExceedancesSound) (handed : List (Level × Nat)) (minute : Nat) (r : ReceptorId)
    (p : ExcPos) :
    (s.closeReceptor handed minute r).excRecord p = s.excRecord p ∨ s.link? r = some p ∨ (s.closeReceptor handed minute r).link? r = some p := by
  cases hx : s.receptor r with
  | none => exact .inl (by rw [State.closeReceptor_of_none hx])
  | some x =>
    obtain ⟨c, hstep, hexceedances, -, heq⟩ := State.closeReceptor_eq hmode hx handed minute
    have hjudged := State.judge_excRecord (hstep.exceedancesSound hs hx rfl hexceedances) hstep.receptor_same (handed.getD x.zone.val (0, 0)).1
      (handed.getD x.zone.val (0, 0)).2 minute p
    rwa [← heq, State.excRecord_congr hexceedances, State.link?_of hstep.receptor_same, ← (show x.exceedance = (x.atClose s.site minute).exceedance from rfl),
      ← State.link?_of hx] at hjudged

theorem State.closeReceptor_receptor_ne (hmode : s.mode ≠ .boot) {q : ReceptorId} (hq : q ≠ r) :
    (s.closeReceptor handed minute r).receptor q = s.receptor q := by
  cases hx : s.receptor r with
  | none => rw [State.closeReceptor_of_none hx]
  | some x =>
    obtain ⟨e, hstep, -⟩ := State.CloseStep.of_closeReceptor (handed := handed) (minute := minute) hmode hx
    exact hstep.receptor_ne q hq

end one

/-! ### The closes of a list -/

section several
variable {s t : State} {handed : List (Level × Nat)} {minute : Nat} {l : List ReceptorId} {r : ReceptorId} {p : ExcPos}

theorem State.closes_exceedancesSound (handed : List (Level × Nat)) (minute : Nat) (l : List ReceptorId) (hs : s.ExceedancesSound) :
    (l.foldl (State.closeReceptor handed minute) s).ExceedancesSound := by
  induction l generalizing s with
  | nil => exact hs
  | cons r l ih => exact ih ((State.Measures.of_closeReceptor handed s r).exceedances hs)

/-- The closes write no record but those that their receptors were linked to, or are linked to after them. -/
theorem State.closes_excRecord (hmode : s.mode ≠ .boot) (hs : s.ExceedancesSound) (hl : l.Nodup) (p : ExcPos) :
    (l.foldl (State.closeReceptor handed minute) s).excRecord p = s.excRecord p ∨ (∃ q ∈ l, s.link? q = some p) ∨
      ∃ q ∈ l, (l.foldl (State.closeReceptor handed minute) s).link? q = some p := by
  induction l using List.reverseRecOn with
  | nil => exact .inl rfl
  | append_singleton l r ih =>
    obtain ⟨hinit, -, hne⟩ := List.nodup_append.1 hl
    have hr : r ∉ l := fun hr => hne r hr r (List.mem_singleton_self r) rfl
    have hclosed := State.ReceptorsClosed.of_foldl (minute := minute) handed hmode hinit
    have hsound := State.closes_exceedancesSound handed minute l hs
    have hbefore := ih hinit
    rw [List.foldl_concat]
    generalize l.foldl (State.closeReceptor handed minute) s = u at hclosed hsound hbefore ⊢
    have hstep := State.closeReceptor_excRecord (hclosed.frame.mode_eq ▸ hmode) hsound handed minute r p
    have hother (q : ReceptorId) (hq : q ∈ l) : (u.closeReceptor handed minute r).link? q = u.link? q := by
      rw [State.link?, State.closeReceptor_receptor_ne (hclosed.frame.mode_eq ▸ hmode) (ne_of_mem_of_not_mem hq hr)]
      rfl
    have hsame : u.link? r = s.link? r := by rw [State.link?, hclosed.untouched r hr]; rfl
    rcases hstep with hkept | hlink | hlink
    · rw [hkept]
      refine hbefore.imp_right (Or.imp (fun ⟨q, hq, h⟩ => ⟨q, List.mem_append_left _ hq, h⟩) fun ⟨q, hq, h⟩ => ⟨q, List.mem_append_left _ hq, ?_⟩)
      rwa [hother q hq]
    · exact .inr (.inl ⟨r, by simp, hsame ▸ hlink⟩)
    · exact .inr (.inr ⟨r, by simp, hlink⟩)

/-- The record of a receptor outside the list stands, before the closes and after them. -/
theorem State.closes_excRecord_of_linked (hmode : s.mode ≠ .boot) (hs : s.ExceedancesSound) (hl : l.Nodup) (hr : r ∉ l) (hlink : s.link? r = some p) :
    (l.foldl (State.closeReceptor handed minute) s).excRecord p = s.excRecord p := by
  have hlinked : (l.foldl (State.closeReceptor handed minute) s).link? r = some p := by
    rw [State.link?, (State.ReceptorsClosed.of_foldl (minute := minute) handed hmode hl).untouched r hr]
    exact hlink
  rcases State.closes_excRecord (handed := handed) (minute := minute) hmode hs hl p with hkept | ⟨q, hq, h⟩ | ⟨q, hq, h⟩
  · exact hkept
  · exact absurd (State.linksApart_of_sound hs q r p h hlink ▸ hq) hr
  · exact absurd (State.linksApart_of_sound (State.closes_exceedancesSound handed minute l hs) q r p h hlinked ▸ hq) hr

/-- A CLOSED record stands, or a receptor of the list has taken its position. -/
theorem State.closes_excRecord_of_closed (hmode : s.mode ≠ .boot) (hs : s.ExceedancesSound) (hl : l.Nodup) {y : ExcRecord} (hy : s.excRecord p = some y)
    (hclosed : y.state = .closed) : (l.foldl (State.closeReceptor handed minute) s).excRecord p = some y ∨
      ∃ q ∈ l, (l.foldl (State.closeReceptor handed minute) s).link? q = some p := by
  rcases State.closes_excRecord (handed := handed) (minute := minute) hmode hs hl p with hkept | ⟨q, -, h⟩ | htaken
  · exact .inl (hkept.trans hy)
  · obtain ⟨y', hy', hopen, -⟩ := hs.2.2.2 q p h
    rw [Option.mem_unique hy' hy, hclosed] at hopen
    cases hopen
  · exact .inr htaken

end several

/-! ### The judgement of one receptor among all -/

/-- The slots with an OVER cause that are audible at a receptor (R62, R66). -/
def State.overAt (s : State) (r : ReceptorId) : List SlotId := allSlots.filter fun i => (s.slot i).causes.hasOver && s.audible i r

/-- The LIVE slots that are audible at a receptor (R62). -/
def State.playingAt (s : State) (r : ReceptorId) : List SlotId := allSlots.filter fun i => (s.slot i).state == .live && s.audible i r

/-- The stages-over set of a record brought up to date (R66). -/
def ExcRecord.mergedWith (y : ExcRecord) (now : List SlotId) : ExcRecord :=
  { y with stagesOver := allSlots.filter fun i => y.stagesOver.contains i || now.contains i }

/-- What Table 4-3 makes of the exceedance of a receptor, `x` its record before the close, `level` and `link` its 15-minute level and link
after it; `taken` are the positions that another receptor has taken since. -/
structure State.JudgedInClose (s t : State) (r : ReceptorId) (x : Receptor) (level : Option Level) (link : Option ExcPos) (limit grace minute : Nat)
    (taken : ExcPos → Prop) : Prop where
  none_held : x.exceedance = none → 0 < grace ∨ level = none ∨ (∃ v, level = some v ∧ v ≤ limit) → link = none
  none_opened : x.exceedance = none → ∀ v, grace = 0 → level = some v → limit < v → ∃ p, link = some p ∧ t.excRecord p = some
    { state := .opened, receptor := r, zone := x.zone, openedAt := minute, closedAt := none, cause := none, limit := limit, peak := v, minutesAbove := 1
      liveAtOpening := t.playingAt r, stagesOver := t.overAt r }
  some_held : ∀ p old, x.exceedance = some p → s.excRecord p = some old → 0 < grace ∨ level = none →
    link = some p ∧ t.excRecord p = some (old.mergedWith (t.overAt r))
  some_continued : ∀ p old, x.exceedance = some p → s.excRecord p = some old → ∀ v, grace = 0 → level = some v → limit < v →
    link = some p ∧ t.excRecord p = some ((old.mergedWith (t.overAt r)).continued v)
  some_closed : ∀ p old, x.exceedance = some p → s.excRecord p = some old → ∀ v, grace = 0 → level = some v → v ≤ limit →
    link = none ∧ (t.excRecord p = some ((old.mergedWith (t.overAt r)).closedBy minute .returned) ∨ taken p)

section all
variable {s t : State} {handed : List (Level × Nat)} {minute : Nat} {r : ReceptorId} {x : Receptor}

theorem State.overAt_congr (hslots : t.slots = s.slots) (hpaths : t.paths = s.paths) (r : ReceptorId) : t.overAt r = s.overAt r := by
  simp only [State.overAt, State.slot, State.audible, State.pathLoss, State.path, hslots, hpaths]

theorem State.playingAt_congr (hslots : t.slots = s.slots) (hpaths : t.paths = s.paths) (r : ReceptorId) : t.playingAt r = s.playingAt r := by
  simp only [State.playingAt, State.slot, State.audible, State.pathLoss, State.path, hslots, hpaths]

/-- A judgement follows Table 4-3 in one step. -/
theorem State.judge_judgedInClose (hs : s.ExceedancesSound) (hx : s.receptor r = some x) (limit grace minute : Nat) :
    ∃ link, (s.judge r limit grace minute).receptor r = some (x.linkedTo link) ∧
      s.JudgedInClose (s.judge r limit grace minute) r x x.level15 link limit grace minute fun _ => False := by
  obtain ⟨-, hnone, hsome⟩ := judgementFollowsTable43 s r x limit grace minute hx hs
  have hframe := CloseFrame.of_judge s r limit grace minute
  have hover := State.overAt_congr hframe.slots_eq hframe.paths_eq r
  have hplaying := State.playingAt_congr hframe.slots_eq hframe.paths_eq r
  generalize s.judge r limit grace minute = t at *
  cases hexc : x.exceedance with
  | none =>
    obtain ⟨hheld, hopened⟩ := hnone hexc
    by_cases hcond : 0 < grace ∨ x.level15 = none ∨ ∃ level, x.level15 = some level ∧ level ≤ limit
    · refine ⟨none, ?_, fun _ _ => rfl, fun _ v hgrace hv hlt => ?_, fun p old h => ?_, fun p old h => ?_, fun p old h => ?_⟩
      · rw [hheld hcond, hx, ← hexc]
        rfl
      · rcases hcond with hpos | hnolevel | ⟨w, hw, hle⟩
        · omega
        · rw [hv] at hnolevel
          cases hnolevel
        · rw [hv, Option.some_inj] at hw
          exact absurd (hw ▸ hle) (not_le.2 hlt)
      all_goals
        rw [hexc] at h
        cases h
    · have hgrace : grace = 0 := by omega
      obtain ⟨v, hv⟩ := Option.ne_none_iff_exists'.1 fun h => hcond (.inr (.inl h))
      have hlt : limit < v := not_le.1 fun hle => hcond (.inr (.inr ⟨v, hv, hle⟩))
      obtain ⟨p, hreceptor, -, -, -, -, hrecord, -⟩ := hopened hgrace v hv hlt
      refine ⟨some p, hreceptor, fun _ h => absurd h hcond, fun _ w _ hw _ => ⟨p, rfl, ?_⟩, fun p old h => ?_, fun p old h => ?_, fun p old h => ?_⟩
      · rw [hv, Option.some_inj] at hw
        rw [hover, hplaying, ← hw]
        exact hrecord
      all_goals
        rw [hexc] at h
        cases h
  | some p =>
    obtain ⟨y, hy, -⟩ := hs.2.2.2 r p (by rw [hx, Option.bind_some, hexc])
    obtain ⟨-, -, hheld, hcontinued, hclosed⟩ := hsome p y hexc hy
    have hnot {P : Prop} (h : x.exceedance = none) : P := by
      rw [hexc] at h
      cases h
    have hthis {q : ExcPos} {old : ExcRecord} (hq : x.exceedance = some q) (hold : s.excRecord q = some old) : q = p ∧ old = y := by
      rw [hexc, Option.some_inj] at hq
      rw [← hq, hy, Option.some_inj] at hold
      exact ⟨hq.symm, hold.symm⟩
    by_cases hcond : 0 < grace ∨ x.level15 = none
    · obtain ⟨hreceptor, hrecord, -⟩ := hheld hcond
      refine ⟨some p, ?_, fun h => hnot h, fun h => hnot h, fun q old hq hold _ => ?_, fun q old _ _ v hgrace hv => ?_, fun q old _ _ v hgrace hv => ?_⟩
      · rw [hreceptor, ← hexc]
        rfl
      · obtain ⟨rfl, rfl⟩ := hthis hq hold
        exact ⟨rfl, by rw [hover]; exact hrecord⟩
      all_goals exact absurd hcond (by rw [hgrace, hv]; simp)
    obtain ⟨hgrace, hpresent⟩ := not_or.1 hcond
    obtain ⟨v, hv⟩ := Option.ne_none_iff_exists'.1 hpresent
    have hzero : grace = 0 := by omega
    have hlevel {w : Level} (hw : x.level15 = some w) : w = v := by
      rw [hv, Option.some_inj] at hw
      exact hw.symm
    by_cases hlt : limit < v
    · obtain ⟨hreceptor, -, -, -, hrecord⟩ := hcontinued hzero v hv hlt
      refine ⟨some p, ?_, fun h => hnot h, fun h => hnot h, fun _ _ _ _ h => absurd h hcond, fun q old hq hold w _ hw _ => ?_,
        fun q old _ _ w _ hw hle => absurd (hlevel hw ▸ hle) (not_le.2 hlt)⟩
      · rw [hreceptor, ← hexc]
        rfl
      · obtain ⟨rfl, rfl⟩ := hthis hq hold
        rw [hover, hlevel hw]
        exact ⟨rfl, hrecord⟩
    · obtain ⟨hreceptor, hrecord, -⟩ := hclosed hzero v hv (not_lt.1 hlt)
      refine ⟨none, hreceptor, fun h => hnot h, fun h => hnot h, fun _ _ _ _ h => absurd h hcond, fun q old _ _ w _ hw hlt' => absurd (hlevel hw ▸ hlt') hlt,
        fun q old hq hold w _ hw _ => ?_⟩
      obtain ⟨rfl, rfl⟩ := hthis hq hold
      rw [hover]
      exact ⟨rfl, .inl hrecord⟩

/-- The judgement of one receptor stands between states before and after that leave its record, and what it wrote of one still OPEN. -/
theorem State.JudgedInClose.transport {c v t : State} {y : Receptor} {level : Option Level} {link : Option ExcPos} {limit grace : Nat} {taken taken' : ExcPos → Prop}
    (h : c.JudgedInClose v r y level link limit grace minute taken) (hexc : y.exceedance = x.exceedance) (hzone : y.zone = x.zone)
    (hbefore : ∀ p, x.exceedance = some p → c.excRecord p = s.excRecord p) (hover : t.overAt r = v.overAt r) (hplaying : t.playingAt r = v.playingAt r)
    (hlinked : ∀ p, link = some p → t.excRecord p = v.excRecord p)
    (hclosed : ∀ p y, v.excRecord p = some y → y.state = .closed → t.excRecord p = some y ∨ taken' p) (htaken : ∀ p, taken p → taken' p) :
    s.JudgedInClose t r x level link limit grace minute taken' := by
  obtain ⟨hnone, hopened, hheld, hcontinued, hended⟩ := h
  simp only [hexc, hzone] at hnone hopened hheld hcontinued hended
  have hkept {p : ExcPos} {y : ExcRecord} (hp : link = some p ∧ v.excRecord p = some y) : link = some p ∧ t.excRecord p = some y :=
    ⟨hp.1, (hlinked p hp.1).trans hp.2⟩
  rw [← hover] at hopened hheld hcontinued hended
  rw [← hplaying] at hopened
  refine ⟨hnone, fun h w hgrace hw hlt => ?_, fun p old h hold hcond => hkept (hheld p old h ((hbefore p h).trans hold) hcond),
    fun p old h hold w hgrace hw hlt => hkept (hcontinued p old h ((hbefore p h).trans hold) w hgrace hw hlt), fun p old h hold w hgrace hw hle => ?_⟩
  · obtain ⟨p, hp⟩ := hopened h w hgrace hw hlt
    exact ⟨p, hkept hp⟩
  · obtain ⟨hlink, hrecord⟩ := hended p old h ((hbefore p h).trans hold) w hgrace hw hle
    exact ⟨hlink, hrecord.elim (fun hended => hclosed p _ hended rfl) fun h => .inr (htaken p h)⟩

theorem State.judged_in_closes (hmode : s.mode ≠ .boot) (hs : s.ExceedancesSound) (hx : s.receptor r = some x) (handed : List (Level × Nat)) (minute : Nat) :
    ∃ link, (allReceptors.foldl (State.closeReceptor handed minute) s).receptor r = some ((x.atClose s.site minute).linkedTo link) ∧
      s.JudgedInClose (allReceptors.foldl (State.closeReceptor handed minute) s) r x (x.closed minute).level15 link
        (handed.getD x.zone.val (0, 0)).1 (handed.getD x.zone.val (0, 0)).2 minute
        fun p => ∃ q, r < q ∧ (allReceptors.foldl (State.closeReceptor handed minute) s).link? q = some p := by
  obtain ⟨before, after, hsplit⟩ := List.append_of_mem (List.mem_finRange r)
  have hsorted := hsplit ▸ List.pairwise_lt_finRange 16
  obtain ⟨-, hafterSorted, hcross⟩ := List.pairwise_append.1 hsorted
  obtain ⟨hlater, hafterPairs⟩ := List.pairwise_cons.1 hafterSorted
  have hout : r ∉ before := fun hr => lt_irrefl r (hcross r hr r List.mem_cons_self)
  have hout' : r ∉ after := fun hr => lt_irrefl r (hlater r hr)
  have hbeforeNodup : before.Nodup := (List.pairwise_append.1 hsorted).1.imp ne_of_lt
  have hafterNodup : after.Nodup := hafterPairs.imp ne_of_lt
  rw [show allReceptors = before ++ r :: after from hsplit, List.foldl_append, List.foldl_cons]
  have hu := State.ReceptorsClosed.of_foldl (minute := minute) handed hmode hbeforeNodup
  have husound := State.closes_exceedancesSound handed minute before hs
  have hurecord {p : ExcPos} (hp : s.link? r = some p) := State.closes_excRecord_of_linked (handed := handed) (minute := minute) hmode hs hbeforeNodup hout hp
  generalize before.foldl (State.closeReceptor handed minute) s = u at hu husound hurecord ⊢
  have humode : u.mode ≠ .boot := hu.frame.mode_eq ▸ hmode
  have hux : u.receptor r = some x := (hu.untouched r hout).trans hx
  obtain ⟨c, hstep, hexceedances, -, heq⟩ := State.closeReceptor_eq humode hux handed minute
  rw [hu.frame.site_eq] at hstep
  obtain ⟨link, hreceptor, hjudged⟩ := State.judge_judgedInClose (hstep.exceedancesSound husound hux rfl hexceedances) hstep.receptor_same
    (handed.getD x.zone.val (0, 0)).1 (handed.getD x.zone.val (0, 0)).2 minute
  have hvsound : (u.closeReceptor handed minute r).ExceedancesSound := State.closes_exceedancesSound handed minute [r] husound
  have hvmode : (u.closeReceptor handed minute r).mode ≠ .boot := by
    rw [(CloseFrame.of_closeReceptor handed minute u r).mode_eq]
    exact humode
  rw [← heq] at hreceptor hjudged
  generalize u.closeReceptor handed minute r = v at hreceptor hjudged hvsound hvmode ⊢
  have ht := State.ReceptorsClosed.of_foldl (minute := minute) handed hvmode hafterNodup
  refine ⟨link, (ht.untouched r hout').trans hreceptor, hjudged.transport rfl rfl (fun p hp => ?_)
    (State.overAt_congr ht.frame.slots_eq ht.frame.paths_eq r) (State.playingAt_congr ht.frame.slots_eq ht.frame.paths_eq r) (fun p hp => ?_)
    (fun p y hy hclosed => ?_) fun _ => False.elim⟩
  · rw [State.excRecord_congr hexceedances]
    exact hurecord ((State.link?_of hx).trans hp)
  · exact State.closes_excRecord_of_linked hvmode hvsound hafterNodup hout' ((State.link?_of hreceptor).trans hp)
  · exact (State.closes_excRecord_of_closed hvmode hvsound hafterNodup hy hclosed).imp_right fun ⟨q, hq, h⟩ => ⟨q, hlater q hq, h⟩

end all

end Sys2Proof.Machine
end

section
/-! SUPPORT. The stages of a minute boundary, and what each leaves (R14, R27, R45). -/

namespace Sys2Proof.Machine

/-- The state at the next minute boundary before the zones: the time of day, and every timer of R15 (R14). -/
def State.atMinute (s : State) : State := { s.elapse (60000 - (1000 * s.clock.second + s.clock.ms)) with clock := s.clock.nextMinute }

theorem exec_minuteBoundary_of_held {s : State} (h : s.loader = .held) : exec .minuteBoundary s = .next s := congrArg Host.Outcome.next (if_pos h)

theorem exec_minuteBoundary_of_running {s : State} (h : s.loader ≠ .held) : exec .minuteBoundary s = .next (s.atMinute.minuteWork s.clock.minute) :=
  congrArg Host.Outcome.next (if_neg h)

/-- At second 59 the second boundary is the minute boundary (R14). -/
theorem exec_secondBoundary_at_59 {s : State} (h : s.clock.second = 59) : exec .secondBoundary s = exec .minuteBoundary s := by
  have htime : 60000 - (1000 * s.clock.second + s.clock.ms) = 1000 - s.clock.ms := by omega
  have hclock : s.clock.nextSecond = s.clock.nextMinute := if_neg (by omega)
  show Host.Outcome.next s.secondBoundary = .next s.minuteBoundary
  unfold State.secondBoundary State.minuteBoundary
  rw [htime, hclock, if_neg (by omega : ¬s.clock.second < 59)]

/-- What no stage of a minute boundary touches. -/
theorem State.eq_of_minute_frame {s t : State} (hmode : t.mode = s.mode) (hstart : t.startKind = s.startKind) (hloader : t.loader = s.loader)
    (hsite : t.site = s.site) (hlinks : t.links = s.links) (htable : t.table = s.table) (hsettings : t.settings = s.settings)
    (hfree : t.freeIndex = s.freeIndex) (hpending : t.pending = s.pending) :
    t = { s with
      clock := t.clock, zones := t.zones, receptors := t.receptors, poller := t.poller, exceedances := t.exceedances, slots := t.slots, paths := t.paths
      engine := t.engine, arbiter := t.arbiter, latch := t.latch, notices := t.notices, witness := t.witness } := by
  rw [← hmode, ← hstart, ← hloader, ← hsite, ← hlinks, ← htable, ← hsettings, ← hfree, ← hpending]

/-- From `s`, the zones' work led to `u`, the closes to `w`, and the poll cycle to `t`. -/
structure State.MinuteStages (s u w t : State) (handed : List (Level × Nat)) : Prop where
  zones : s.atMinute.ZonesClosed u handed allZones
  closes : u.ReceptorsClosed w s.clock.minute allReceptors
  closes_eq : w = allReceptors.foldl (State.closeReceptor handed s.clock.minute) u
  cycle : t = w.startCycle

theorem State.MinuteStages.of_minuteWork {s : State} (hmode : s.mode ≠ .boot) :
    ∃ u w handed, s.MinuteStages u w (s.atMinute.minuteWork s.clock.minute) handed := by
  have hzones := State.ZonesClosed.of_zonesAtMinute (s := s.atMinute) hmode
  have hwork : s.atMinute.minuteWork s.clock.minute =
      (allReceptors.foldl (State.closeReceptor s.atMinute.zonesAtMinute.2 s.clock.minute) s.atMinute.zonesAtMinute.1).pollAtSecond := if_neg hmode
  rw [hwork]
  generalize s.atMinute.zonesAtMinute = st at hzones ⊢
  obtain ⟨u, handed⟩ := st
  dsimp only at hzones ⊢
  have hcloses := State.ReceptorsClosed.of_foldl (s := u) (minute := s.clock.minute) handed (hzones.frame.mode_eq ▸ hmode) (List.nodup_finRange 16)
  generalize hw : allReceptors.foldl (State.closeReceptor handed s.clock.minute) u = w at hcloses ⊢
  have hsecond : w.clock.second % 2 = 0 := by
    rw [hcloses.frame.clock_eq, hzones.frame.clock_eq]
    rfl
  exact ⟨u, w, handed, hzones, hcloses, hw.symm, if_pos hsecond⟩

end Sys2Proof.Machine
end

section
/-! SUPPORT. What a minute boundary leaves, block by block (R14, R27, R29, R45, R58, R64, R65). -/

namespace Sys2Proof.Machine

theorem State.atMinute_slot (s : State) (i : SlotId) : s.atMinute.slot i = (s.slot i).grow (60000 - (1000 * s.clock.second + s.clock.ms)) :=
  State.slot_updSlots s (Slot.grow _) i

section stages
variable {s u w t : State} {handed : List (Level × Nat)} (h : s.MinuteStages u w t handed)
include h

theorem State.MinuteStages.cycle_eq : t = { w with poller := t.poller } := by
  rw [h.cycle, State.startCycle]
  exact State.pollFrom_eq ..

theorem State.MinuteStages.zone_eq (z : ZoneId) : t.zone z = (s.zone z).afterMinute s.mode ((s.clock.minute + 1) % 1440) := by
  have hclosed : t.zones = u.zones := by
    rw [h.cycle_eq]
    exact h.closes.frame.zones_eq
  rw [State.zone, hclosed]
  exact h.zones.moved z (List.mem_finRange z)

theorem State.MinuteStages.slots_eq : t.slots = u.slots := by
  rw [h.cycle_eq]
  exact h.closes.frame.slots_eq

theorem State.MinuteStages.paths_eq : t.paths = u.paths := by
  rw [h.cycle_eq]
  exact h.closes.frame.paths_eq

theorem State.MinuteStages.receptor_eq (r : ReceptorId) : t.receptor r = w.receptor r := by
  rw [h.cycle_eq]
  rfl

/-- No receptor has changed before the closes. -/
theorem State.MinuteStages.receptor_before (r : ReceptorId) : u.receptor r = s.receptor r := by
  rw [State.receptor, h.zones.frame.receptors_eq]
  rfl

theorem State.MinuteStages.site_before : u.site = s.site := h.zones.frame.site_eq

theorem State.MinuteStages.mode_before : u.mode = s.mode := h.zones.frame.mode_eq

theorem State.MinuteStages.clock_eq : t.clock = { s.clock with ms := 0, second := 0, minute := (s.clock.minute + 1) % 1440 } := by
  rw [h.cycle_eq]
  show w.clock = _
  rw [h.closes.frame.clock_eq, h.zones.frame.clock_eq]
  rfl

theorem State.MinuteStages.latch_eq : t.latch = s.latch.elapse (60000 - (1000 * s.clock.second + s.clock.ms)) := by
  rw [h.cycle_eq]
  show w.latch = _
  rw [h.closes.frame.latch_eq, h.zones.frame.latch_eq]
  rfl

theorem State.MinuteStages.frame : t = { s with
    clock := t.clock, zones := t.zones, receptors := t.receptors, poller := t.poller, exceedances := t.exceedances, slots := t.slots, paths := t.paths
    engine := t.engine, arbiter := t.arbiter, latch := t.latch, notices := t.notices, witness := t.witness } := by
  have hclose := h.closes.frame
  have hzone := h.zones.frame
  rw [h.cycle_eq]
  exact State.eq_of_minute_frame (hclose.mode_eq.trans hzone.mode_eq) (hclose.startKind_eq.trans hzone.startKind_eq)
    (hclose.loader_eq.trans hzone.loader_eq) (hclose.site_eq.trans hzone.site_eq) (hclose.links_eq.trans hzone.links_eq)
    (hclose.table_eq.trans hzone.table_eq) (hclose.settings_eq.trans hzone.settings_eq) (hclose.freeIndex_eq.trans hzone.freeIndex_eq)
    (hclose.pending_eq.trans hzone.pending_eq)

/-- The report age of a slot that was in no queue, or is not empty, has grown by the time that passed (R89). -/
theorem State.MinuteStages.reportAge_eq (i : SlotId) (hi : i ∉ s.arbiter.queue ∨ (t.slot i).state ≠ .empty) :
    (t.slot i).reportAge = (s.slot i).reportAge.map fun a => min 600000 (a + (60000 - (1000 * s.clock.second + s.clock.ms))) := by
  have hslot : t.slot i = u.slot i := by
    rw [State.slot, h.slots_eq]
    rfl
  have hgrown : (s.atMinute.slot i).reportAge = (s.slot i).reportAge.map fun a => min 600000 (a + (60000 - (1000 * s.clock.second + s.clock.ms))) :=
    congrArg Slot.reportAge (s.atMinute_slot i)
  rw [hslot] at hi ⊢
  rw [← hgrown]
  rcases hi with hout | hempty
  · exact (h.zones.ages.outside i hout).2
  · exact (h.zones.ages.age i).resolve_right fun hemptied => hempty hemptied.1

/-- Without a zone handed to the arbiter, the slots, the paths and the queue are as they were. -/
theorem State.MinuteStages.quiet (hquiet : ∀ z, (t.zone z).state ≠ (s.zone z).state → (t.zone z).state = .opened) :
    t.paths = s.paths ∧ (∀ i, t.slot i = { s.slot i with reportAge := (t.slot i).reportAge }) ∧
      t.arbiter = { s.arbiter with timer := t.arbiter.timer, passSinceHead := t.arbiter.passSinceHead } := by
  obtain ⟨hslots, hpaths, harbiter⟩ := h.zones.quiet fun z _ hfades => by
    obtain ⟨hne, hopened⟩ := Zone.afterMinute_of_fades hfades
    have hz := hquiet z
    rw [h.zone_eq] at hz
    exact hopened (hz hne)
  refine ⟨h.paths_eq.trans hpaths, fun i => ?_, ?_⟩
  · have hslot : t.slot i = s.atMinute.slot i := by
      rw [State.slot, h.slots_eq, hslots]
      rfl
    rw [hslot, State.atMinute_slot]
    rfl
  · have hclosed : t.arbiter = { s.atMinute.arbiter with passSinceHead := t.arbiter.passSinceHead } := by
      have hcycle : t.arbiter = w.arbiter := by rw [h.cycle_eq]
      rw [hcycle, h.closes.arbiter_eq, harbiter]
    rw [hclosed]
    rfl

/-- A change that the engine reads raises a trigger; without one the engine is as it was. -/
theorem State.MinuteStages.raised : s.Raised t ((∃ z, (s.zone z).triggersAtMinute s.mode ((s.clock.minute + 1) % 1440)) ∨
    ∃ r, (t.receptor r).map Receptor.watched ≠ (s.receptor r).map Receptor.watched) := by
  have hboth := h.zones.raised.trans h.closes.raised
  simp only [h.receptor_before] at hboth
  have hengine : t.engine = w.engine := by rw [h.cycle_eq]
  simp only [h.receptor_eq]
  refine State.Raised.congr (s := s) (t := w) (p := _) hboth hengine ?_
  refine or_congr_left ⟨fun ⟨z, _, hz⟩ => ⟨z, hz⟩, fun ⟨z, hz⟩ => ⟨z, List.mem_finRange z, hz⟩⟩

/-- The notice of a zone waits on through the closes (R29). -/
theorem State.MinuteStages.told (hlost : t.notices.lost = false) {z : ZoneId} {n : Zone}
    (hn : Zone.tellsAtMinute s.mode ((s.clock.minute + 1) % 1440) (s.zone z) n) : n.notice z ∈ t.notices.notices := by
  have hkeeps := h.closes.keeps (n.notice z) rfl
  have hcycle : t.notices = w.notices := by rw [h.cycle_eq]
  rw [hcycle] at hlost ⊢
  exact hkeeps.kept (h.zones.told (hkeeps.lost hlost) z (List.mem_finRange z) n hn)

/-- The poll cycle of second 0 begins with the first receptor that has a record (R37). -/
theorem State.MinuteStages.polled : t.poller.receiver = .hunting ∧ ((∀ r, s.receptor r = none) → t.poller.poll = none) ∧
    ∀ r x, s.receptor r = some x → (∀ q, q < r → s.receptor q = none) →
      t.poller.poll = some { receptor := r, address := x.address, second := 0, wait := none } := by
  have hsecond : w.clock.second = 0 := by
    rw [h.closes.frame.clock_eq, h.zones.frame.clock_eq]
    rfl
  rw [h.cycle, State.startCycle, hsecond]
  have habsent (r : ReceptorId) (hr : s.receptor r = none) : w.receptor r = none := h.closes.absent r ((h.receptor_before r).trans hr)
  refine ⟨State.pollFrom_receiver .., fun hnone => State.pollFrom_of_none (fun r _ => habsent r (hnone r)) _, fun r x hx hfirst => ?_⟩
  obtain ⟨e, hy⟩ := h.closes.closed r (List.mem_finRange r) x ((h.receptor_before r).trans hx)
  exact State.pollFrom_of_first (Nat.zero_le _) hy (fun k _ hk => habsent k (hfirst k hk)) _

end stages

end Sys2Proof.Machine
end

section
/-! MINUTE_BOUNDARY, and SECOND_BOUNDARY at second 59 (R14, R27, R29, R45, R58, R64, R65). -/

namespace Sys2Proof.Machine

/-! ### The records in the words of the statement -/

theorem Receptor.minuteRecord_eq (x : Receptor) (minute : Nat) : x.minuteRecord minute =
    { minute := minute
      level := if 20 ≤ (x.accumulator.map (·.count)).getD 0 then x.accumulator.map fun a => a.level - shareOffset a.count else none
      count := (x.accumulator.map (·.count)).getD 0 } := by
  unfold Receptor.minuteRecord
  cases x.accumulator <;> rfl

theorem Zone.triggersAtMinute_iff (mode : Mode) (minute : Nat) (x : Zone) : x.triggersAtMinute mode minute ↔
    ((x.evaluated mode minute).effective, (x.evaluated mode minute).fade, (x.evaluated mode minute).state) ≠ (x.effective, x.fade, x.state) ∨
      ((x.afterMinute mode minute).effective, (x.afterMinute mode minute).fade, (x.afterMinute mode minute).state) ≠
        ((x.evaluated mode minute).effective, (x.evaluated mode minute).fade, (x.evaluated mode minute).state) := by
  unfold Zone.triggersAtMinute
  refine or_congr ?_ ?_
  · simp only [Zone.TriggersFrom, ne_eq, Prod.mk.injEq, not_and_or]
  · refine (Zone.afterSecond_ne_self_iff _).trans ?_
    simp only [ne_eq, Prod.mk.injEq, not_and_or]
    show ¬(x.evaluated mode minute).effective = (x.afterMinute mode minute).effective ∨ ¬(x.evaluated mode minute).state = (x.afterMinute mode minute).state ∨
      ¬(x.evaluated mode minute).fade = (x.afterMinute mode minute).fade ↔ _
    rw [eq_comm, @eq_comm _ (x.evaluated mode minute).state, @eq_comm _ (x.evaluated mode minute).fade]
    tauto

/-- The work of a zone whose fade offset goes with its state (R27, R28). -/
theorem Zone.afterMinute_of_sound {mode : Mode} {minute : Nat} {x : Zone} (h : x.Sound) : x.afterMinute mode minute =
    { x.evaluated mode minute with
      grace := (x.evaluated mode minute).grace - 1
      effective := if (x.evaluated mode minute).licence < (x.evaluated mode minute).effective then
        max (x.evaluated mode minute).licence ((x.evaluated mode minute).effective - (x.evaluated mode minute).rampRate) else (x.evaluated mode minute).effective
      fade := if (x.evaluated mode minute).state = .fading then min 600 ((x.evaluated mode minute).fade + (x.evaluated mode minute).rampRate)
        else (x.evaluated mode minute).fade
      state := if (x.evaluated mode minute).state = .fading ∧ 600 ≤ (x.evaluated mode minute).fade + (x.evaluated mode minute).rampRate then .silenced
        else (x.evaluated mode minute).state } :=
  Zone.afterSecond_of_fadeSound (x := (x.evaluated mode minute).graced) (h.evaluated mode minute).1

theorem Zone.endsAtMinute_of_sound {mode : Mode} {minute : Nat} {x : Zone} (h : x.Sound) : (x.evaluated mode minute).graced.endsAtSecond ↔
    ((x.evaluated mode minute).licence < (x.evaluated mode minute).effective ∧
        (x.evaluated mode minute).effective - (x.evaluated mode minute).rampRate ≤ (x.evaluated mode minute).licence) ∨
      ((x.evaluated mode minute).state = .fading ∧ 600 ≤ (x.evaluated mode minute).fade + (x.evaluated mode minute).rampRate) := by
  have hends := Zone.endsAtSecond_of_fadeSound (x := (x.evaluated mode minute).graced) (h.evaluated mode minute).1
  rwa [← Bool.decide_or, decide_eq_decide] at hends

section stages
variable {s u w t : State} {handed : List (Level × Nat)} {r : ReceptorId} {x : Receptor} (h : s.MinuteStages u w t handed)
include h

theorem State.MinuteStages.receptor_closed (hx : s.receptor r = some x) :
    ∃ link, t.receptor r = some ((x.atClose s.site s.clock.minute).linkedTo link) := by
  rw [h.receptor_eq, ← h.site_before]
  exact h.closes.closed r (List.mem_finRange r) x ((h.receptor_before r).trans hx)

theorem State.MinuteStages.copied (hx : s.receptor r = some x) (hgap : t.witness.gapPending = false) (henabled : s.site.enables.minute = true) :
    .copy (x.minuteCopy r s.clock.minute) ∈ t.witness.fifo := by
  have hcycle : t.witness = w.witness := by rw [h.cycle_eq]
  rw [hcycle] at hgap ⊢
  exact h.closes.copies hgap (h.site_before ▸ henabled) r (List.mem_finRange r) x ((h.receptor_before r).trans hx)

/-- The judgement of a receptor against what its zone handed over (R27, R63 to R66). -/
theorem State.MinuteStages.judged (hboot : s.mode ≠ .boot) (hs : s.ExceedancesSound) (hx : s.receptor r = some x) {link : Option ExcPos}
    (hlink : t.receptor r = some ((x.atClose s.site s.clock.minute).linkedTo link)) :
    s.JudgedInClose t r x (x.closed s.clock.minute).level15 link ((s.zone x.zone).evaluated s.mode ((s.clock.minute + 1) % 1440)).licence
      ((s.zone x.zone).evaluated s.mode ((s.clock.minute + 1) % 1440)).grace s.clock.minute
      fun p => ∃ q, r < q ∧ (t.receptor q).bind (·.exceedance) = some p := by
  have hexceedances : u.exceedances = s.exceedances := h.zones.frame.exceedances_eq
  have husound : u.ExceedancesSound := exceedancesSound_congr hs (by rw [hexceedances]) (State.excRecord_congr hexceedances) fun q => by
    rw [State.link?, h.receptor_before]
    rfl
  obtain ⟨link', hreceptor, hjudged⟩ := State.judged_in_closes (h.mode_before ▸ hboot) husound ((h.receptor_before r).trans hx) handed s.clock.minute
  rw [← h.closes_eq] at hreceptor hjudged
  rw [h.site_before] at hreceptor
  obtain rfl : link = link' := by
    rw [h.receptor_eq, hreceptor, Option.some_inj] at hlink
    exact (congrArg Receptor.exceedance hlink).symm
  have hhanded := h.zones.handed_getD x.zone
  rw [hhanded] at hjudged
  have hexc (p : ExcPos) : t.excRecord p = w.excRecord p := by
    rw [h.cycle_eq]
    rfl
  refine hjudged.transport rfl rfl (fun p _ => State.excRecord_congr hexceedances p) ?_ ?_ (fun p _ => hexc p) (fun p y hy _ => .inl ((hexc p).trans hy))
    fun p ⟨q, hq, htaken⟩ => ⟨q, hq, ?_⟩
  · exact State.overAt_congr (h.slots_eq.trans h.closes.frame.slots_eq.symm) (h.paths_eq.trans h.closes.frame.paths_eq.symm) r
  · exact State.playingAt_congr (h.slots_eq.trans h.closes.frame.slots_eq.symm) (h.paths_eq.trans h.closes.frame.paths_eq.symm) r
  · rw [h.receptor_eq]
    exact htaken

end stages

/-- Settles O20: the zones' work, the closes and the poll cycle, each from what the one before it leaves. -/
theorem minuteBoundaryClosesTheMinute : Obligations.MinuteBoundaryClosesTheMinute := by
  intro s
  refine ⟨exec_minuteBoundary_of_held, exec_secondBoundary_at_59, fun hheld => ⟨_, exec_minuteBoundary_of_running hheld, ?_⟩⟩
  by_cases hboot : s.mode = .boot
  · have hwork : s.atMinute.minuteWork s.clock.minute = s.atMinute := if_pos hboot
    rw [hwork]
    exact ⟨rfl, rfl, fun i _ => congrArg Slot.reportAge (s.atMinute_slot i), fun _ => ⟨rfl, rfl, rfl, rfl, rfl⟩, fun h => absurd hboot h⟩
  obtain ⟨u, w, handed, h⟩ := State.MinuteStages.of_minuteWork hboot
  generalize s.atMinute.minuteWork s.clock.minute = t at h ⊢
  have hclock := h.clock_eq
  have hframe := h.frame
  rw [h.latch_eq] at hframe
  refine ⟨hclock, hframe, h.reportAge_eq, fun hm => absurd hm hboot, fun _ hsound => ?_⟩
  have heval (z : ZoneId) : (({ s with clock := t.clock } : State).evaluateZone z).zone z = (s.zone z).evaluated s.mode ((s.clock.minute + 1) % 1440) := by
    rw [State.evaluateZone_zone_same, hclock]
    rfl
  simp only [heval]
  refine ⟨fun z => ⟨?_, fun hlost hends => ?_, fun hlost hends hchanged => ?_⟩, h.quiet, ?_, fun r hr => ?_, fun r x hx => ?_, h.polled⟩
  · exact (h.zone_eq z).trans (Zone.afterMinute_of_sound (hsound z))
  · rw [State.zoneNotice_eq, h.zone_eq]
    exact h.told hlost (.inl ⟨(Zone.endsAtMinute_of_sound (hsound z)).2 hends, rfl⟩)
  · exact h.told hlost (.inr ⟨fun he => hends ((Zone.endsAtMinute_of_sound (hsound z)).1 he), hchanged.symm, rfl⟩)
  · have hraised := h.raised
    simp only [Zone.triggersAtMinute_iff, ← h.zone_eq] at hraised
    exact hraised
  · rw [h.receptor_eq]
    exact h.closes.absent r ((h.receptor_before r).trans hr)
  · obtain ⟨link, hlink⟩ := h.receptor_closed hx
    simp only [← x.minuteRecord_eq s.clock.minute]
    refine ⟨_, hlink, rfl, h.copied hx, fun hexc => ?_⟩
    obtain ⟨hnone, hopened, hheld, hcontinued, hended⟩ := h.judged hboot hexc hx hlink
    exact ⟨fun hx => ⟨hnone hx, hopened hx⟩, fun p old hp hold => ⟨hheld p old hp hold, hcontinued p old hp hold, hended p old hp hold⟩⟩

end Sys2Proof.Machine
end
